-- ==== Sys2Proof/Word.lean ====
section
/-! DEFINITION. The word types of the device and their plainest arithmetic: 8-bit bytes, 32-bit registers (R511),
bit ranges (R8), sparse tables, and the shape of one row of the register description. -/

namespace Sys2Proof

/-- A byte of memory or of a frame. -/
abbrev Byte := BitVec 8

/-- The contents of one register: registers are 32 bits wide (R511). -/
abbrev Word := BitVec 32

/-- A sparse table: pairs of a key and a value, keys strictly rising. -/
abbrev SMap (α : Type) := List (Nat × α)

end Sys2Proof

namespace Sys2Proof.Machine

/-- A field of a register: bits [hi:lo] of the register at `addr`. When `hi` is 32 or more the field lies across the pair
of registers at `addr` and `addr + 4` (R8, R512). -/
structure Fld where
  addr : Nat
  hi   : Nat
  lo   : Nat
deriving DecidableEq, Repr

/-- The access codes of R8. -/
inductive Acc where
  | rw | ro | w1c | w1s | wo | rc
deriving DecidableEq, Repr

/-- The survival classes of R9. -/
inductive Cls where
  | n | p | w | b | s
deriving DecidableEq, Repr

/-- One field of a register's table: its bits, access code, reset value and survival class. -/
structure FieldRow where
  hi  : Nat
  lo  : Nat
  acc : Acc
  rst : Nat
  cls : Cls
deriving DecidableEq, Repr

/-- One register of a block's table: offset of its first instance in BAR0, `(count, stride)` of each index from the widest
stride to the narrowest, its fields, and whether it is half of a pair (R512). -/
structure RegRow where
  base   : Nat
  dims   : List (Nat × Nat)
  fields : List FieldRow
  pair   : Bool
deriving DecidableEq, Repr

end Sys2Proof.Machine
end

