-- ==== Sys2Proof/Syntax.lean ====
section
/-! DEFINITION. The commands the device takes: one constructor per row of the opcode table, named after it, with the operands
the row's rule gives it. An operand that the outside world decides (what a peer sent, what a host answered) is an operand of
the command. -/

namespace Sys2Proof

/-- The work item a command executes: the key of its ring, the index of its head entry, its tag and its CPL_REQ bit (R117). -/
structure Ref where
  ring   : Nat
  index  : Nat
  tag    : Nat
  cplReq : Bool
deriving DecidableEq, Repr

/-- The header fields fit their widths (R116–R118). -/
def Ref.wf (r : Ref) : Bool := decide (r.ring < 2 ^ 40 + 64) && decide (r.index < 2 ^ 32) && decide (r.tag < 2 ^ 32)

/-- What a read of host memory brought for one buffer: its status (0, or one of R68) and the bytes. -/
structure HostIn where
  st   : Nat
  data : List Byte
deriving DecidableEq, Repr

/-- A buffer that a virtqueue's driver made available (R93): its identifier, its writable segments, and what the read of its
readable part brought. -/
structure VBuf where
  id   : Nat
  segs : List (Nat × Nat)
  data : HostIn
deriving DecidableEq, Repr

/-- What a configuration request does to a function, of what the device's behaviour rests on (R60–R62, R69–R74). -/
inductive CfgOp where
  | read
  | memorySpace (on : Bool)
  | ats (on : Bool)
  | pme (on : Bool)
  | ltr (on : Bool)
  | fatalReport (on : Bool)
  | d0
  | other
deriving DecidableEq, Repr

/-- A decision of jig firmware (R440): its KIND, TARGET, the value it last read, the value it writes, and the input that prompted it. -/
structure JigDecision where
  kind   : Nat
  target : Nat
  old    : Nat
  new    : Nat
  cause  : Nat
deriving DecidableEq, Repr


/-- The commands of the device, one constructor per row of the opcode table. -/
inductive Instr where
  /-- R20. -/
  | nocTargetAccess (target : Nat) (master : Nat) (addr : Nat) (len : Nat) (perm : Nat) (fault : Nat) (arg : Nat)
  /-- R493. -/
  | nocLateReply (block : Nat)
  /-- R17. -/
  | nocFlush (target : Nat) (master : Nat)
  /-- R23. -/
  | clampRequest (d : Nat)
  /-- R417. -/
  | domainTransitionDone (d : Nat)
  /-- R36. -/
  | roleApply (n : Nat) (w : Nat)
  /-- R36. -/
  | roleApplyDone (n : Nat)
  /-- R42. -/
  | portAdminUp (p : Nat) (w : Nat)
  /-- R42. -/
  | autonegDone (p : Nat)
  /-- R42. -/
  | linkTrainingDone (p : Nat)
  /-- R42. -/
  | fecLock (p : Nat)
  /-- R42. -/
  | bringupStepTimeout (p : Nat)
  /-- R43. -/
  | linkAlignmentLoss (p : Nat) (remote : Bool)
  /-- R44. -/
  | signalDetectChange (n : Nat) (k : Nat) (up : Bool)
  /-- R40. -/
  | netFrameRx (p : Nat) (frame : List Byte) (bad : Bool)
  /-- R41. -/
  | fecWindowEnd (link : Nat) (symbols : Nat) (corr : Nat) (unc : Nat)
  /-- R46. -/
  | spareSteerGo (n : Nat) (w : Nat)
  /-- R46. -/
  | spareAdaptConverged (n : Nat)
  /-- R46. -/
  | spareChangeover (n : Nat) (unc : Nat)
  /-- R46. -/
  | spareVerifyEnd (n : Nat) (good : Bool) (symbols : Nat)
  /-- R48. -/
  | spareRevert (n : Nat)
  /-- R51. -/
  | todStepGo (w : Nat)
  /-- R51. -/
  | todRateWrite (w : Nat)
  /-- R550. -/
  | hostTrainingStart (q : Nat)
  /-- R550. -/
  | hostLinkL0 (q : Nat) (speed : Nat) (width : Nat) (flit : Bool)
  /-- R550. -/
  | hostRateChangeEnd (q : Nat) (speed : Nat) (width : Nat) (flit : Bool)
  /-- R56. -/
  | hostLinkSettledLow (q : Nat) (speed : Nat)
  /-- R551. -/
  | hostRetrain (q : Nat)
  /-- R551. -/
  | hostRetrainDone (q : Nat) (speed : Nat) (width : Nat) (flit : Bool) (replayed : Nat)
  /-- R56. -/
  | hostEnableSet (q : Nat)
  /-- R551. -/
  | hostEnableClear (q : Nat)
  /-- R58. -/
  | totalVfsWrite (q : Nat) (f : Nat) (w : Nat)
  /-- R67. -/
  | orderModeWrite (q : Nat) (mode : Nat)
  /-- R65. -/
  | mgrPortWrite (v : Nat)
  /-- R65. -/
  | mgrPortPlace
  /-- R82. -/
  | vfEnableSet (q : Nat) (f : Nat) (n : Nat)
  /-- R105. -/
  | vfEnableClear (q : Nat) (f : Nat)
  /-- R82. -/
  | hostTotalVfsWrite (q : Nat) (f : Nat) (n : Nat)
  /-- R74. -/
  | configRequest (q : Nat) (fn : Nat) (op : CfgOp)
  /-- R63. -/
  | barMemoryRead (q : Nat) (fn : Nat) (bar : Nat) (off : Nat) (len : Nat) (requester : Nat)
  /-- R63. -/
  | barMemoryWrite (q : Nat) (fn : Nat) (bar : Nat) (off : Nat) (data : List Byte) (requester : Nat)
  /-- R68. -/
  | hostDmaCompletion (q : Nat) (tag : Nat) (good : Bool) (data : List Byte)
  /-- R68. -/
  | hostDmaTimeout (q : Nat) (tag : Nat)
  /-- R69. -/
  | atsTranslationReply (q : Nat) (fn : Nat) (page : Nat) (xlat : Nat) (perm : Nat)
  /-- R69. -/
  | atsInvalidationRequest (q : Nat) (tag : Nat) (fn : Nat) (page : Nat) (pages : Nat)
  /-- R69. -/
  | atsInvalidationComplete (q : Nat) (tag : Nat)
  /-- R70. -/
  | ltrChange (q : Nat)
  /-- R71. -/
  | d3hotEntry (q : Nat) (fn : Nat)
  /-- R72. -/
  | pmeTurnOff (q : Nat)
  /-- R72. -/
  | l2EntryDone (q : Nat)
  /-- R73. -/
  | wakeConditionL2 (q : Nat) (fn : Nat) (cond : Nat)
  /-- R75. -/
  | perstAssert (q : Nat)
  /-- R74. -/
  | perstRelease (q : Nat)
  /-- R75. -/
  | hotResetRx (q : Nat)
  /-- R75. -/
  | linkDisableRx (q : Nat)
  /-- R75. -/
  | surpriseLoss (q : Nat)
  /-- R75. -/
  | vfFlr (q : Nat) (f : Nat) (v : Nat)
  /-- R75. -/
  | pfFlr (q : Nat) (f : Nat)
  /-- R76. -/
  | portRetire (q : Nat)
  /-- R76. -/
  | retireAck (q : Nat)
  /-- R76. -/
  | retireTimeout (q : Nat)
  /-- R86. -/
  | drawerCreate (r : Ref) (e : List Byte) (conts : List (List Byte))
  /-- R88. -/
  | drawerBind (r : Ref) (e : List Byte)
  /-- R83. -/
  | drawerUnbind (r : Ref) (e : List Byte)
  /-- R104. -/
  | drawerQuiesce (r : Ref) (e : List Byte)
  /-- R105. -/
  | drawerReset (r : Ref) (e : List Byte)
  /-- R105. -/
  | drawerResume (r : Ref) (e : List Byte)
  /-- R86. -/
  | drawerResize (r : Ref) (e : List Byte) (conts : List (List Byte))
  /-- R89. -/
  | drawerDestroy (r : Ref) (e : List Byte)
  /-- R97. -/
  | fenceSet (r : Ref) (e : List Byte)
  /-- R97. -/
  | fenceClear (r : Ref) (e : List Byte)
  /-- R104. -/
  | quiesceFetchIdle (d : Nat)
  /-- R104. -/
  | quiesceDrainDone (d : Nat)
  /-- R104. -/
  | quiesceDrainTimeout (d : Nat)
  /-- R104. -/
  | quiesceAbortDone (d : Nat)
  /-- R104. -/
  | generationPurgeDone (d : Nat)
  /-- R104. -/
  | quiesceFlushReadDone (d : Nat)
  /-- R104. -/
  | resetStepDone (d : Nat)
  /-- R91. -/
  | nvmeCcEnClear (d : Nat)
  /-- R91. -/
  | nvmeShutdown (d : Nat) (mode : Nat)
  /-- R146. -/
  | nvmeDoorbell (d : Nat) (y : Nat) (cq : Bool) (v : Nat) (bad : List Nat)
  /-- R92. -/
  | nvmeDeleteIoSq (d : Nat) (cid : Nat) (qid : Nat)
  /-- R92. -/
  | nvmeDeleteIoCq (d : Nat) (cid : Nat) (qid : Nat)
  /-- R92. -/
  | nvmeCreateIoSq (d : Nat) (cid : Nat) (base : Nat) (qid : Nat) (size : Nat) (pc : Bool) (cqid : Nat)
  /-- R92. -/
  | nvmeCreateIoCq (d : Nat) (cid : Nat) (base : Nat) (qid : Nat) (size : Nat) (pc : Bool) (ien : Bool) (iv : Nat)
  /-- R92. -/
  | nvmeGetLogPage (d : Nat) (cid : Nat) (lid : Nat) (len : Nat) (segs : List (Nat × Nat))
  /-- R92. -/
  | nvmeIdentify (d : Nat) (cid : Nat) (nsid : Nat) (cns : Nat) (segs : List (Nat × Nat))
  /-- R92. -/
  | nvmeAbort (d : Nat) (cid : Nat) (sqid : Nat) (acid : Nat)
  /-- R92. -/
  | nvmeSetFeatures (d : Nat) (cid : Nat) (fid : Nat) (v : Nat)
  /-- R92. -/
  | nvmeGetFeatures (d : Nat) (cid : Nat) (fid : Nat)
  /-- R92. -/
  | nvmeAsyncEventRequest (d : Nat) (cid : Nat)
  /-- R358. -/
  | nvmeFlush (d : Nat) (y : Nat) (cid : Nat) (nsid : Nat)
  /-- R357. -/
  | nvmeWrite (d : Nat) (y : Nat) (cid : Nat) (nsid : Nat) (slba : Nat) (nlb : Nat) (host : HostIn) (io : List (List Byte)) (refuse : List Nat)
  /-- R357. -/
  | nvmeRead (d : Nat) (y : Nat) (cid : Nat) (nsid : Nat) (slba : Nat) (nlb : Nat) (hit : Bool) (poison : Bool) (io : List (List Byte)) (segs : List (Nat × Nat))
  /-- R357. -/
  | nvmeWriteZeroes (d : Nat) (y : Nat) (cid : Nat) (nsid : Nat) (slba : Nat) (nlb : Nat) (io : List (List Byte)) (refuse : List Nat)
  /-- R357. -/
  | nvmeDatasetManagement (d : Nat) (y : Nat) (cid : Nat) (nsid : Nat)
  /-- R93. -/
  | virtioDeviceStatusReset (d : Nat)
  /-- R146. -/
  | virtioNotify (d : Nat) (vq : Nat) (cnt : Nat) (usec : Nat) (bufs : List VBuf)
  /-- R93. -/
  | virtioNetCtrlMqVqPairsSet (d : Nat) (id : Nat) (pairs : Nat) (addr : Nat)
  /-- R93. -/
  | virtioCtrlOther (d : Nat) (id : Nat) (addr : Nat)
  /-- R121. -/
  | doorbell (who : Nat) (w : Nat)
  /-- R123. -/
  | slip (who : Nat) (off : Nat) (whole : Bool) (data : List Byte)
  /-- R124. -/
  | attachSlip (d : Nat) (page : Nat) (whole : Bool) (data : List Byte)
  /-- R125. -/
  | nop (r : Ref) (e : List Byte)
  /-- R125. -/
  | ringCreate (r : Ref) (e : List Byte)
  /-- R125. -/
  | cplCreate (r : Ref) (e : List Byte)
  /-- R126. -/
  | ringDisable (r : Ref) (e : List Byte)
  /-- R125. -/
  | ringDestroy (r : Ref) (e : List Byte)
  /-- R125. -/
  | cplModerate (r : Ref) (e : List Byte)
  /-- R126. -/
  | ringStopped (k : Nat)
  /-- R132. -/
  | ringFetch (k : Nat) (stat : Nat) (entries : List (List Byte))
  /-- R133. -/
  | ownerStaleRetry (k : Nat) (tries : Nat)
  /-- R127. -/
  | headMirrorTimer (k : Nat)
  /-- R136. -/
  | cqStarveTimer (k : Nat)
  /-- R137. -/
  | msixModTimer (k : Nat)
  /-- R130. -/
  | frameSend (r : Ref) (e : List Byte) (conts : List (List Byte))
  /-- R131. -/
  | frameRecv (r : Ref) (e : List Byte) (conts : List (List Byte))
  /-- R149. -/
  | controlDoorbellReg (v : Nat)
  /-- R149. -/
  | controlSlotEnable (c : Nat) (v : Nat)
  /-- R126. -/
  | controlSlotDisable (c : Nat) (v : Nat)
  /-- R150. -/
  | pipelineFrame (p : Nat)
  /-- R155. -/
  | bankSwitch
  /-- R155. -/
  | bankValidateDone
  /-- R155. -/
  | bankSwitchDone
  /-- R155. -/
  | forceIsolate
  /-- R155. -/
  | forceIsolateDone
  /-- R155. -/
  | prsBankWrite (addr : Nat) (v : Nat)
  /-- R165. -/
  | prsActCommitGo (index : Nat)
  /-- R166. -/
  | prsEditCommitGo (index : Nat)
  /-- R168. -/
  | prsParityScan (bad : List (Nat × Nat × Nat))
  /-- R184. -/
  | emInsert (r : Ref) (table : Nat) (words : Nat) (flags : Nat) (action : List Byte) (key : List Nat)
  /-- R184. -/
  | emUpdate (r : Ref) (table : Nat) (words : Nat) (action : List Byte) (key : List Nat)
  /-- R184. -/
  | emDelete (r : Ref) (table : Nat) (words : Nat) (key : List Nat)
  /-- R184. -/
  | emQuery (r : Ref) (table : Nat) (words : Nat) (key : List Nat)
  /-- R181. -/
  | lpmInsert (r : Ref) (table : Nat) (words : Nat) (flags : Nat) (plen : Nat) (action : List Byte) (key : List Nat)
  /-- R184. -/
  | lpmDelete (r : Ref) (table : Nat) (words : Nat) (plen : Nat) (key : List Nat)
  /-- R194. -/
  | tableFlush (r : Ref) (table : Nat) (flags : Nat)
  /-- R191. -/
  | learnCommit (shard : Nat)
  /-- R193. -/
  | scannerVisit (tier : Nat) (index : Nat) (err : Bool) (race : Bool)
  /-- R194. -/
  | sweepEnd (table : Nat)
  /-- R182. -/
  | lpmRebalanceGo (gap : Nat)
  /-- R182. -/
  | lpmRebalanceEnd
  /-- R195. -/
  | tcamScrub (bad : List Nat)
  /-- R196. -/
  | tableParityInvalidate (tier : Nat) (index : Nat) (lpm : Bool)
  /-- R197. -/
  | fwTableLookup (thread : Nat) (replyEp : Nat) (shard : Nat) (table : Nat) (words : Nat) (key : List Nat)
  /-- R174. -/
  | tblSplitWrite (area : Nat) (v : Nat)
  /-- R176. -/
  | tblSeedWrite (shard : Nat) (hbm : Bool) (v : Nat)
  /-- R201. -/
  | tblHbmEnWrite (v : Nat)
  /-- R201. -/
  | tblHbmClearDone
  /-- R201. -/
  | tblTableCfgWrite (table : Nat) (v : Nat)
  /-- R220. -/
  | cellAlloc (t : Nat) (rep : Nat) (tier : Nat) (len : Nat)
  /-- R210. -/
  | cellHold (t : Nat) (rep : Nat) (p : Nat)
  /-- R211. -/
  | cellRelease (t : Nat) (rep : Nat) (p : Nat)
  /-- R212. -/
  | cellRead (t : Nat) (rep : Nat) (p : Nat) (off : Nat) (len : Nat)
  /-- R212. -/
  | cellWrite (t : Nat) (rep : Nat) (p : Nat) (off : Nat) (len : Nat) (data : List Nat)
  /-- R220. -/
  | cellStat (t : Nat) (rep : Nat) (p : Nat)
  /-- R218. -/
  | spillCopyWritten (p : Nat)
  /-- R224. -/
  | cellInspect (v : Nat)
  /-- R224. -/
  | cellHeadroomWrite (v : Nat)
  /-- R234. -/
  | portDequeue (p : Nat)
  /-- R242. -/
  | tmCommitQueue (index : Nat) (flush : Bool)
  /-- R242. -/
  | tmCommitSubscriber (index : Nat)
  /-- R239. -/
  | tmCommitGroup (index : Nat)
  /-- R237. -/
  | tmCommitShaper (index : Nat)
  /-- R231. -/
  | tmCommitPolicer (index : Nat)
  /-- R232. -/
  | tmCommitReplList (index : Nat)
  /-- R246. -/
  | tmCommitRead (kind : Nat) (index : Nat) (clear : Bool)
  /-- R239. -/
  | tmPortModeWrite (p : Nat) (v : Nat)
  /-- R238. -/
  | calendarSlotReached (kind : Nat) (index : Nat)
  /-- R243. -/
  | queueSample (q : Nat)
  /-- R326. -/
  | coreDelivery (n : Nat)
  /-- R258. -/
  | send (r : Ref) (e : List Byte) (conts : List (List Byte))
  /-- R260. -/
  | write (r : Ref) (e : List Byte) (conts : List (List Byte))
  /-- R260. -/
  | read (r : Ref) (e : List Byte) (conts : List (List Byte))
  /-- R261. -/
  | fetchAdd (r : Ref) (e : List Byte)
  /-- R261. -/
  | compSwap (r : Ref) (e : List Byte)
  /-- R252. -/
  | connConnect (r : Ref) (e : List Byte)
  /-- R248. -/
  | connClose (r : Ref) (e : List Byte)
  /-- R248. -/
  | connReset (r : Ref) (e : List Byte)
  /-- R253. -/
  | connQuery (r : Ref) (e : List Byte)
  /-- R256. -/
  | recv (r : Ref) (e : List Byte) (conts : List (List Byte))
  /-- R262. -/
  | keyRegister (r : Ref) (e : List Byte)
  /-- R264. -/
  | keyRevoke (r : Ref) (e : List Byte)
  /-- R264. -/
  | keyRevokeDone (key : Nat)
  /-- R264. -/
  | revokeSlowTimer (key : Nat)
  /-- R248. -/
  | connDrainEnd (c : Nat)
  /-- R248. -/
  | closeMsExpire (c : Nat)
  /-- R257. -/
  | xptOpStart (c : Nat)
  /-- R250. -/
  | contextFetchDone (c : Nat) (bad : Bool)
  /-- R289. -/
  | packetSend (c : Nat) (data : List Byte) (stat : Nat)
  /-- R284. -/
  | sendData (p : Nat) (auth : Bool)
  /-- R263. -/
  | writeData (p : Nat) (auth : Bool)
  /-- R263. -/
  | readReq (p : Nat) (auth : Bool)
  /-- R284. -/
  | readResp (p : Nat) (auth : Bool)
  /-- R261. -/
  | fetchAddReq (p : Nat) (auth : Bool)
  /-- R261. -/
  | compSwapReq (p : Nat) (auth : Bool)
  /-- R284. -/
  | atomicResp (p : Nat) (auth : Bool)
  /-- R283. -/
  | abandon (p : Nat) (auth : Bool)
  /-- R283. -/
  | fill (p : Nat) (auth : Bool)
  /-- R286. -/
  | ack (p : Nat) (auth : Bool)
  /-- R287. -/
  | nak (p : Nat) (auth : Bool)
  /-- R269. -/
  | resetNotice (p : Nat)
  /-- R285. -/
  | ackDelayExpire (c : Nat)
  /-- R292. -/
  | rtoExpire (c : Nat)
  /-- R293. -/
  | rnrWaitExpire (c : Nat) (seq : Nat)
  /-- R281. -/
  | pathHoldExpire (c : Nat)
  /-- R298. -/
  | rocePacket (p : Nat) (crc : Bool)
  /-- R298. -/
  | cnp (p : Nat) (crc : Bool)
  /-- R274. -/
  | xptConnSnapshot (v : Nat)
  /-- R274. -/
  | xptKeySnapshot (v : Nat)
  /-- R307. -/
  | baseInstruction (t : Nat)
  /-- R321. -/
  | chput (t : Nat) (rd : Nat) (rs1 : Nat) (rs2 : Nat)
  /-- R322. -/
  | chputl (t : Nat) (rd : Nat) (rs1 : Nat) (rs2 : Nat)
  /-- R322. -/
  | chputln (t : Nat) (rd : Nat) (rs1 : Nat) (rs2 : Nat)
  /-- R323. -/
  | chrecv (t : Nat) (rd : Nat) (rs1 : Nat) (rs2 : Nat)
  /-- R323. -/
  | chrecvn (t : Nat) (rd : Nat) (rs1 : Nat)
  /-- R323. -/
  | chhdr (t : Nat) (rd : Nat) (rs1 : Nat) (rs2 : Nat)
  /-- R323. -/
  | chhdrn (t : Nat) (rd : Nat) (rs1 : Nat)
  /-- R323. -/
  | chskip (t : Nat) (rd : Nat) (rs1 : Nat)
  /-- R327. -/
  | pwait (t : Nat) (rd : Nat) (rs1 : Nat) (rs2 : Nat)
  /-- R327. -/
  | pwaitn (t : Nat) (rd : Nat) (rs1 : Nat)
  /-- R327. -/
  | pset (t : Nat) (rd : Nat) (rs1 : Nat) (rs2 : Nat)
  /-- R317. -/
  | tstart (t : Nat) (rd : Nat) (rs1 : Nat) (rs2 : Nat)
  /-- R318. -/
  | trelease (t : Nat) (rd : Nat) (rs1 : Nat)
  /-- R318. -/
  | texit (t : Nat) (rd : Nat)
  /-- R316. -/
  | tgroup (t : Nat) (rd : Nat)
  /-- R313. -/
  | tinfo (t : Nat) (rd : Nat)
  /-- R324. -/
  | chMessageArrival (src : Nat) (dest : Nat)
  /-- R322. -/
  | chCommitDelivered (t : Nat)
  /-- R323. -/
  | threadWaitTimeout (t : Nat)
  /-- R329. -/
  | waitAllDetect (t : Nat)
  /-- R319. -/
  | threadStartReg (t : Nat) (v : Nat)
  /-- R319. -/
  | threadReset (t : Nat) (v : Nat)
  /-- R331. -/
  | stageDiscard (v : Nat)
  /-- R336. -/
  | epCfgWrite (n : Nat) (c : Nat) (e : Nat) (v : Nat)
  /-- R305. -/
  | threadShareWrite (t : Nat) (v : Nat)
  /-- R354. -/
  | sealBind (r : Ref) (e : List Byte)
  /-- R354. -/
  | sealUnbind (r : Ref) (e : List Byte)
  /-- R341. -/
  | cipher (r : Ref) (e : List Byte) (host : List HostIn)
  /-- R341. -/
  | digest (r : Ref) (e : List Byte) (host : List HostIn)
  /-- R341. -/
  | compress (r : Ref) (e : List Byte) (host : List HostIn)
  /-- R341. -/
  | decompress (r : Ref) (e : List Byte) (host : List HostIn)
  /-- R342. -/
  | ecEncode (r : Ref) (e : List Byte) (conts : List (List Byte)) (host : List HostIn)
  /-- R342. -/
  | ecDecode (r : Ref) (e : List Byte) (conts : List (List Byte)) (host : List HostIn)
  /-- R345. -/
  | keyLoad (r : Ref) (e : List Byte) (conts : List (List Byte))
  /-- R345. -/
  | keyGen (r : Ref) (e : List Byte)
  /-- R345. -/
  | keyClear (r : Ref) (e : List Byte)
  /-- R346. -/
  | sign (r : Ref) (e : List Byte) (host : List HostIn)
  /-- R346. -/
  | verify (r : Ref) (e : List Byte) (host : List HostIn)
  /-- R346. -/
  | kemEncapsulate (r : Ref) (e : List Byte) (host : List HostIn)
  /-- R346. -/
  | kemDecapsulate (r : Ref) (e : List Byte) (host : List HostIn)
  /-- R348. -/
  | sealOpen (r : Ref) (e : List Byte)
  /-- R349. -/
  | sealAppend (r : Ref) (e : List Byte) (host : List HostIn)
  /-- R353. -/
  | sealCheckpoint (r : Ref) (e : List Byte)
  /-- R353. -/
  | sealIntervalBoundary (g : Nat)
  /-- R338. -/
  | jobSlotFreed
  /-- R363. -/
  | slotStarveTimer (ring : Nat)
  /-- R355. -/
  | volCreate (r : Ref) (e : List Byte)
  /-- R355. -/
  | volTarget (r : Ref) (e : List Byte) (conts : List (List Byte))
  /-- R355. -/
  | volDestroy (r : Ref) (e : List Byte)
  /-- R358. -/
  | commitAnswer (d : Nat) (nsid : Nat) (t : Nat) (seq : Nat) (status : Nat)
  /-- R358. -/
  | flushMsExpire (d : Nat) (nsid : Nat) (t : Nat) (seq : Nat)
  /-- R359. -/
  | rebuildStripe (d : Nat) (nsid : Nat) (t : Nat) (chunks : List (List Byte))
  /-- R361. -/
  | accEndpointJob (t : Nat) (rep : Nat) (words : List Nat)
  /-- R364. -/
  | accEnable (v : Nat)
  /-- R364. -/
  | ktClearDone
  /-- R380. -/
  | hbmScrub (a : Nat) (bad : List Nat)
  /-- R380. -/
  | sramScrub (bank : Nat) (off : Nat) (bad : List Nat) (leaf : Nat)
  /-- R383. -/
  | wearWindowEnd
  /-- R375. -/
  | memRegionCfgWrite (v : Nat)
  /-- R378. -/
  | hbmCalibrated (stack : Nat)
  /-- R378. -/
  | hbmTrained (stack : Nat) (ok : Bool) (pc : Nat) (spares : Nat)
  /-- R378. -/
  | hbmCleared (stack : Nat)
  /-- R378. -/
  | hbmRetrain (v : Nat)
  /-- R384. -/
  | rowRepairGo (v : Nat)
  /-- R385. -/
  | pcSpareStateWrite (stack : Nat) (k : Nat) (v : Nat)
  /-- R386. -/
  | errorInjectArm (v : Nat)
  /-- R391. -/
  | casTrainingDone (l : Nat)
  /-- R391. -/
  | casPcsLock (l : Nat)
  /-- R391. -/
  | flitAligned (l : Nat)
  /-- R391. -/
  | helloDone (l : Nat)
  /-- R391. -/
  | casStepTimeout (l : Nat)
  /-- R392. -/
  | idleFlit (l : Nat) (flit : List Byte)
  /-- R396. -/
  | dataFlit (l : Nat) (flit : List Byte)
  /-- R394. -/
  | heartbeatFlit (l : Nat) (flit : List Byte)
  /-- R394. -/
  | heartbeatSend (l : Nat)
  /-- R394. -/
  | heartbeatLoss (l : Nat)
  /-- R394. -/
  | casLockLoss (l : Nat)
  /-- R395. -/
  | spareReq (l : Nat) (flit : List Byte)
  /-- R395. -/
  | spareAck (l : Nat) (flit : List Byte)
  /-- R395. -/
  | spareNak (l : Nat) (flit : List Byte)
  /-- R395. -/
  | spareGo (l : Nat) (flit : List Byte)
  /-- R403. -/
  | altHoldExpire (x : Nat)
  /-- R406. -/
  | remoteAccessReadGo (w : Nat)
  /-- R406. -/
  | remoteAccessWriteGo (w : Nat)
  /-- R407. -/
  | remoteReadRequest (l : Nat) (flit : List Byte)
  /-- R407. -/
  | remoteWriteRequest (l : Nat) (flit : List Byte)
  /-- R407. -/
  | remoteResponse (l : Nat) (flit : List Byte)
  /-- R406. -/
  | remoteAccessTimeout
  /-- R410. -/
  | casDevIdWrite (v : Nat)
  /-- R415. -/
  | pwrReqRun
  /-- R415. -/
  | pwrReqIdle
  /-- R416. -/
  | pwrReqSleep
  /-- R420. -/
  | pwrReqDeep
  /-- R422. -/
  | pwrReqOff
  /-- R415. -/
  | domainStateGo (d : Nat) (w : Nat)
  /-- R418. -/
  | idleTransitionDone
  /-- R418. -/
  | sleepEntryDone
  /-- R418. -/
  | sleepExitDone
  /-- R420. -/
  | deepAdmissionClosed
  /-- R420. -/
  | deepDrainDone
  /-- R420. -/
  | deepDrainTimeout
  /-- R420. -/
  | deepParked
  /-- R420. -/
  | deepSaveDone (mib : Nat)
  /-- R420. -/
  | deepSelfRefreshDone
  /-- R420. -/
  | deepRailsOff
  /-- R421. -/
  | deepExitRailsGood (pg : Nat)
  /-- R421. -/
  | deepExitPllLock
  /-- R421. -/
  | deepExitHbmReady (badP : Bool) (badW : Bool)
  /-- R421. -/
  | deepExitRestoreDone (bad : Bool)
  /-- R422. -/
  | offEntryDone
  /-- R423. -/
  | wakeInFall
  /-- R424. -/
  | wakeFrame (mgmt : Bool) (frame : List Byte)
  /-- R423. -/
  | alarmReached
  /-- R423. -/
  | mgmtSignalDetect
  /-- R427. -/
  | standbyGood
  /-- R426. -/
  | standbyRailLoss
  /-- R427. -/
  | suppliesGood (pg : Nat)
  /-- R428. -/
  | supplyTimeout
  /-- R428. -/
  | supplyRetryRelease
  /-- R428. -/
  | pgInFall (r : Nat)
  /-- R428. -/
  | railPgTimeout (i : Nat)
  /-- R427. -/
  | sysRefclkStable
  /-- R427. -/
  | fuseSenseDone (fuses : List (Nat × Nat))
  /-- R427. -/
  | porNAssert
  /-- R427. -/
  | porNRelease
  /-- R544. -/
  | sysRefclkLoss
  /-- R544. -/
  | netRefclkLoss (m : Nat)
  /-- R544. -/
  | pcieRefclkLoss (n : Nat)
  /-- R437. -/
  | jigTick (health : List (Nat × Nat)) (ds : List JigDecision)
  /-- R443. -/
  | jigLogConsWrite (v : Nat)
  /-- R443. -/
  | jigLogSignalTimer
  /-- R447. -/
  | thermalThrottle (i : Nat) (temp : Nat)
  /-- R447. -/
  | throttleRelease (i : Nat) (temp : Nat)
  /-- R447. -/
  | thermtrip (i : Nat) (temp : Nat)
  /-- R451. -/
  | coreSpareIdle (n : Nat)
  /-- R451. -/
  | coreSpareSelftestDone (n : Nat) (ok : Bool)
  /-- R453. -/
  | remapCursorSave
  /-- R453. -/
  | remapCopyDone
  /-- R453. -/
  | remapVerifyDone (ok : Bool)
  /-- R449. -/
  | fuseBurnDone (ok : Bool)
  /-- R469. -/
  | loaderDirectoryRead (d0 : HostIn) (d1 : HostIn)
  /-- R469. -/
  | loaderFrontChecked (front : HostIn)
  /-- R469. -/
  | loaderSectionsCopied (stage1 : HostIn) (plan : HostIn) (jig : HostIn)
  /-- R469. -/
  | loaderReadbackChecked
  /-- R471. -/
  | stage1Start
  /-- R479. -/
  | confirm
  /-- R478. -/
  | proofAbandon
  /-- R481. -/
  | recover
  /-- R475. -/
  | handoff
  /-- R476. -/
  | stage (k : Nat)
  /-- R476. -/
  | stageCheckDone (front : HostIn) (secs : List HostIn)
  /-- R478. -/
  | proofWatchdogExpire
  /-- R460. -/
  | directoryUpdateDone
  /-- R468. -/
  | loaderFuseBurnDone
  /-- R486. -/
  | flashRead
  /-- R477. -/
  | flashProgram
  /-- R477. -/
  | flashErase
  /-- R474. -/
  | flashCopy
  /-- R486. -/
  | flashOpDone (data : HostIn)
  /-- R486. -/
  | bootDigestGo
  /-- R486. -/
  | bootDigestDone
  /-- R482. -/
  | recoveryIdent (path : Nat) (frame : List Byte)
  /-- R482. -/
  | recoveryErase (path : Nat) (frame : List Byte) (ok : Bool)
  /-- R482. -/
  | recoveryWrite (path : Nat) (frame : List Byte) (ok : Bool)
  /-- R482. -/
  | recoveryRead (path : Nat) (frame : List Byte) (data : HostIn)
  /-- R482. -/
  | recoveryStage (path : Nat) (frame : List Byte) (front : HostIn) (secs : List HostIn)
  /-- R482. -/
  | recoveryReset (path : Nat) (frame : List Byte)
  /-- R489. -/
  | readyBoundCheck (b : Nat)
  /-- R490. -/
  | warmRstNAssert
  /-- R490. -/
  | warmRstNRelease
  /-- R490. -/
  | errWarmResetWrite (w : Nat)
  /-- R490. -/
  | warmResetCleared (pg : Nat)
  /-- R496. -/
  | managerHalt (w : Nat)
  /-- R498. -/
  | colophonComplete (failed : Nat)
  /-- R495. -/
  | wdtKick (v : Nat)
  /-- R495. -/
  | wdtHalf
  /-- R495. -/
  | wdtExpire
  /-- R492. -/
  | blockReset (w : Nat)
  /-- R492. -/
  | blockResetDone
  /-- R502. -/
  | lamiskRegisterRead (tr : Nat) (req : List Byte)
  /-- R502. -/
  | lamiskRegisterWrite (tr : Nat) (req : List Byte)
  /-- R502. -/
  | lamiskMemoryRead (tr : Nat) (req : List Byte)
  /-- R502. -/
  | lamiskMemoryWrite (tr : Nat) (req : List Byte)
  /-- R503. -/
  | debugTokenSubmit (lam : Bool)
  /-- R503. -/
  | debugLock (lam : Bool)
  /-- R503. -/
  | debugUnlockExpire
  /-- R504. -/
  | debugHaltDevice (lam : Bool)
  /-- R504. -/
  | dbgThreadHalt (lam : Bool)
  /-- R504. -/
  | dbgThreadResume (lam : Bool)
  /-- R504. -/
  | dbgThreadStep (lam : Bool)
  /-- R513. -/
  | registerWrite (m : Nat) (a : Nat) (data : List Byte)
  /-- R512. -/
  | pairLowRead (m : Nat) (a : Nat)
  /-- R515. -/
  | glbSyncRead (m : Nat)
  /-- R526. -/
  | uartTxWrite (v : Nat)
  /-- R526. -/
  | uartRxRead (m : Nat)
  /-- R526. -/
  | uartRxByte (v : Nat)
  /-- R526. -/
  | ppsInEdge
  /-- R546. -/
  | ppsOutSecond
  /-- R527. -/
  | i3cPointerWrite (p : Nat)
  /-- R527. -/
  | i3cRegisterWrite (p : Nat) (v : Nat)
  /-- R527. -/
  | i3cRead (n : Nat)
  /-- R527. -/
  | i3cAddressAssign (a : Nat)
  /-- R528. -/
  | mgmtLinkUp
  /-- R529. -/
  | mgmtRegisterRead (frame : List Byte)
  /-- R529. -/
  | mgmtRegisterWrite (frame : List Byte)
  /-- R529. -/
  | mgmtMemoryRead (frame : List Byte)
  /-- R529. -/
  | mgmtMemoryWrite (frame : List Byte)
  /-- R531. -/
  | pf0EvtConsWrite (q : Nat) (v : Nat)
  /-- R544. -/
  | netRefclkReturn (m : Nat)
  /-- R544. -/
  | pcieRefclkReturn (n : Nat)
  /-- R68. -/
  | hostLinkRecovery (q : Nat)
  /-- R74. -/
  | cfgReady (q : Nat)
  /-- R487. -/
  | instanceReady (b : Nat)
  /-- R497. -/
  | colophonTruncated
  /-- R542. -/
  | pmbusPoll (p : List (Option Nat))
deriving DecidableEq, Repr

end Sys2Proof
end

