-- ==== Sys2Proof/Config.lean ====
section
/-! DEFINITION. What the spec leaves open. Each constant below has no body that a proof can see: a statement about the model
holds whatever they are. -/

namespace Sys2Proof.Config

/-- A fresh free value: `freeValue k` is the value of the `k`-th free choice a run takes (State.freeCtr counts them). -/
opaque freeValue : Nat → Nat

/-- A fresh free byte string of the asked length. -/
opaque freeBytes : Nat → Nat → List Byte

/-- The pseudo-channel that holds a word of the colophon: R376 places only addresses below it. -/
opaque colophonPc : Nat → Nat

/-- A word of a scratchpad conflict counter (R373): offset of the word, device time. The cycles it counts are not modelled. -/
opaque spmConflict : Nat → Nat → Nat

/-- Levels on the GPIO pins that the device does not drive, by device time (R526). -/
opaque gpioIn : Nat → BitVec 32

/-- mvendorid, marchid and mimpid, for which the spec states no value (R307). -/
opaque coreId : Nat → Nat

/-- Public encoding of a key: its type (R344) and secret. -/
opaque pubKey : Nat → List Byte → List Byte

/-- A signature: type of the key, secret, message and the number of the random draw (R346). -/
opaque signature : Nat → List Byte → List Byte → Nat → List Byte

/-- Whether a signature verifies: type, public encoding, message, signature. -/
opaque verifies : Nat → List Byte → List Byte → List Byte → Bool

/-- Ciphertext and tag of AEAD encryption: algorithm (0 AES-GCM, 1 ChaCha20-Poly1305), key, IV, additional data, text (R341). -/
opaque aeadSeal : Nat → List Byte → List Byte → List Byte → List Byte → List Byte

/-- Text of AEAD decryption, or none when the tag does not verify. -/
opaque aeadOpen : Nat → List Byte → List Byte → List Byte → List Byte → Option (List Byte)

/-- Compressed stream: algorithm, level, data (R341). -/
opaque compress : Nat → Nat → List Byte → List Byte

/-- Decompressed data, or none for an invalid stream or too large a window. -/
opaque decompress : Nat → List Byte → Option (List Byte)

/-- ML-KEM-768 encapsulation to a public key with the number of the random draw: ciphertext and shared secret (R346). -/
opaque kemSeal : List Byte → Nat → List Byte

/-- ML-KEM-768 decapsulation: secret and ciphertext. -/
opaque kemOpen : List Byte → List Byte → List Byte

end Sys2Proof.Config
end

