-- ==== Sys2Proof/Machine/Codes.lean ====
section
/-! DEFINITION. Status codes (R145 and the chapters it names) and event codes (R139: block number in bits [15:8], row of the
block's event table in bits [7:0]). `ST_` before a status, `EV_` before an event. -/

namespace Sys2Proof.Machine

def ST_OK : Nat := 0x00
def ST_BAD_OPCODE : Nat := 0x01
def ST_BAD_LENGTH : Nat := 0x02
def ST_BAD_FLAGS : Nat := 0x03
def ST_BAD_POINTER : Nat := 0x04
def ST_BAD_CHAIN : Nat := 0x05
def ST_BAD_RING_REF : Nat := 0x06
def ST_RX_TRUNCATED : Nat := 0x07
def ST_TABLE_FULL : Nat := 0x10
def ST_TABLE_PARITY : Nat := 0x11
def ST_ENTRY_ABSENT : Nat := 0x12
def ST_ENTRY_EXISTS : Nat := 0x13
def ST_NO_TABLE : Nat := 0x14
def ST_KEY_MISMATCH : Nat := 0x15
def ST_SHARE_EXCEEDED : Nat := 0x16
def ST_TABLE_DENIED : Nat := 0x17
def ST_FENCE_DENIED : Nat := 0x20
def ST_KEY_INVALID : Nat := 0x21
def ST_KEY_REVOKED : Nat := 0x22
def ST_REMOTE_ACCESS : Nat := 0x23
def ST_HOST_ABORT : Nat := 0x24
def ST_HOST_TIMEOUT : Nat := 0x25
def ST_HOST_NO_TRANSLATION : Nat := 0x26
def ST_POOL_EXHAUSTED : Nat := 0x27
def ST_DRAWER_STATE : Nat := 0x28
def ST_DRAWER_BUSY : Nat := 0x29
def ST_FENCE_OVERLAP : Nat := 0x2A
def ST_BIND_CONFLICT : Nat := 0x2B
def ST_FENCE_LOCKED : Nat := 0x2C
def ST_KEY_STATE : Nat := 0x2D
def ST_CASC_UNREACHABLE : Nat := 0x2E
def ST_SHARE_IN_USE : Nat := 0x2F
def ST_RETRY_EXHAUSTED : Nat := 0x30
def ST_RNR_EXHAUSTED : Nat := 0x31
def ST_CONN_STATE : Nat := 0x32
def ST_RECV_TOO_SHORT : Nat := 0x33
def ST_CONN_DENIED : Nat := 0x34
def ST_CONN_BROKEN : Nat := 0x35
def ST_ABORTED_RESET : Nat := 0x40
def ST_TARGET_RESET : Nat := 0x41
def ST_FLUSHED : Nat := 0x42
def ST_ACC_DATA_ERROR : Nat := 0x50
def ST_AUTH_FAIL : Nat := 0x51
def ST_OUTPUT_SHORT : Nat := 0x52
def ST_KEY_ABSENT : Nat := 0x53
def ST_KEY_IN_USE : Nat := 0x54
def ST_SEAL_STATE : Nat := 0x55
def ST_EC_UNRECOVERABLE : Nat := 0x56
def ST_VOL_STATE : Nat := 0x57
def ST_MEM_UNCORRECTABLE : Nat := 0x60
def ST_NO_LEAF : Nat := 0x61
def ST_QUIRE_SHARED : Nat := 0x62
def ST_REFCNT_FULL : Nat := 0x63
def ST_QUIRE_OWNER : Nat := 0x64
def ST_HBM_NOT_READY : Nat := 0x65

def EV_lane_role_applied : Nat := 0x0101
def EV_lane_role_refused : Nat := 0x0102
def EV_lane_link_up : Nat := 0x0103
def EV_lane_link_down : Nat := 0x0104
def EV_lane_train_fail : Nat := 0x0105
def EV_lane_fec_degrade : Nat := 0x0106
def EV_lane_spare_steered : Nat := 0x0107
def EV_lane_spare_failed : Nat := 0x0108
def EV_lane_spare_exhausted : Nat := 0x0109
def EV_host_link_up : Nat := 0x0201
def EV_host_link_down : Nat := 0x0202
def EV_host_surprise_down : Nat := 0x0203
def EV_host_speed_floor : Nat := 0x0204
def EV_host_flr : Nat := 0x0205
def EV_host_cpl_timeout : Nat := 0x0206
def EV_host_ats_fault : Nat := 0x0207
def EV_host_order_refused : Nat := 0x0208
def EV_host_pf_refused : Nat := 0x0209
def EV_host_retired : Nat := 0x020A
def EV_host_mgr_port_invalid : Nat := 0x020B
def EV_host_wake : Nat := 0x020C
def EV_drw_quiesced : Nat := 0x0301
def EV_drw_reset_done : Nat := 0x0302
def EV_drw_reset_unquiesced : Nat := 0x0303
def EV_drw_quiesce_timeout : Nat := 0x0304
def EV_drw_fence_denied : Nat := 0x0305
def EV_drw_fence_overlap : Nat := 0x0306
def EV_drw_debug_unlock : Nat := 0x0307
def EV_ring_cq_starved : Nat := 0x0401
def EV_ring_owner_stale : Nat := 0x0402
def EV_ring_doorbell_overrun : Nat := 0x0403
def EV_ring_attach_refused : Nat := 0x0404
def EV_ring_event_overflow : Nat := 0x0405
def EV_ring_control_stopped : Nat := 0x0406
def EV_prs_bank_switched : Nat := 0x0501
def EV_prs_bank_refused : Nat := 0x0502
def EV_prs_malformed : Nat := 0x0503
def EV_prs_unmatched : Nat := 0x0504
def EV_prs_parity : Nat := 0x0505
def EV_prs_isolate : Nat := 0x0506
def EV_table_learn_conflict : Nat := 0x0601
def EV_table_parity : Nat := 0x0602
def EV_table_learn_full : Nat := 0x0603
def EV_table_sweep_done : Nat := 0x0604
def EV_table_lpm_rebalanced : Nat := 0x0605
def EV_cell_bad_pointer : Nat := 0x0701
def EV_cell_low_free : Nat := 0x0702
def EV_cell_hbm_exhausted : Nat := 0x0703
def EV_cell_refcnt_saturated : Nat := 0x0704
def EV_cell_deep_discard : Nat := 0x0705
def EV_tm_queue_delay : Nat := 0x0801
def EV_tm_iq_drop : Nat := 0x0802
def EV_tm_access_drop : Nat := 0x0803
def EV_tm_sched_unserved : Nat := 0x0804
def EV_xpt_conn_error : Nat := 0x0901
def EV_xpt_egress_down : Nat := 0x0902
def EV_xpt_egress_up : Nat := 0x0903
def EV_xpt_key_refused : Nat := 0x0904
def EV_xpt_revoke_slow : Nat := 0x0905
def EV_xpt_tracker_low : Nat := 0x0906
def EV_xpt_context_poison : Nat := 0x0907
def EV_xpt_path_down : Nat := 0x0908
def EV_xpt_path_up : Nat := 0x0909
def EV_xpt_auth_fail : Nat := 0x090A
def EV_core_wait_all : Nat := 0x0A01
def EV_core_ch_refused : Nat := 0x0A02
def EV_core_thread_fault : Nat := 0x0A03
def EV_core_deliver_drop : Nat := 0x0A04
def EV_core_stage_discard : Nat := 0x0A05
def EV_acc_seal_overdue : Nat := 0x0B01
def EV_acc_target_failed : Nat := 0x0B02
def EV_acc_rebuild_done : Nat := 0x0B03
def EV_acc_slot_starved : Nat := 0x0B04
def EV_mem_corrected : Nat := 0x0C01
def EV_mem_uncorrectable : Nat := 0x0C02
def EV_mem_row_wear : Nat := 0x0C03
def EV_mem_pc_wear : Nat := 0x0C04
def EV_mem_train_fail : Nat := 0x0C05
def EV_mem_row_repaired : Nat := 0x0C06
def EV_mem_hbm_ready : Nat := 0x0C07
def EV_cas_link_up : Nat := 0x0D01
def EV_cas_link_lost : Nat := 0x0D02
def EV_cas_id_conflict : Nat := 0x0D03
def EV_cas_route_miss : Nat := 0x0D04
def EV_cas_head_change : Nat := 0x0D05
def EV_cas_stack_full : Nat := 0x0D06
def EV_cas_time_locked : Nat := 0x0D07
def EV_cas_time_holdover : Nat := 0x0D08
def EV_pwr_state : Nat := 0x0E01
def EV_pwr_deep_exit : Nat := 0x0E02
def EV_pwr_refused : Nat := 0x0E03
def EV_pwr_wake_refused : Nat := 0x0E04
def EV_pwr_supply_fault : Nat := 0x0E05
def EV_jig_log_full : Nat := 0x0F01
def EV_jig_core_pending : Nat := 0x0F02
def EV_jig_spare_exhausted : Nat := 0x0F03
def EV_jig_fuse_fail : Nat := 0x0F04
def EV_jig_fuse_full : Nat := 0x0F05
def EV_jig_throttle : Nat := 0x0F06
def EV_boot_image_rejected : Nat := 0x1001
def EV_boot_proof_started : Nat := 0x1002
def EV_boot_confirmed : Nat := 0x1003
def EV_boot_proof_failed : Nat := 0x1004
def EV_boot_fuse_burned : Nat := 0x1005
def EV_boot_recovery : Nat := 0x1006
def EV_err_colophon : Nat := 0x1101
def EV_err_ready_late : Nat := 0x1102
def EV_err_block_reset_done : Nat := 0x1103
def EV_err_wdt_warning : Nat := 0x1104
def EV_dbg_session : Nat := 0x1201
def EV_dbg_unlock_refused : Nat := 0x1202
def EV_dbg_thread_halt : Nat := 0x1203

end Sys2Proof.Machine
end

