-- ==== Sys2Proof/Machine/RegTable.lean ====
section
/-! DEFINITION. The register description table: for every register of BAR0 its offset, instances, fields, access codes (R8),
reset values and survival classes (R9), from the field table of each block's chapter. A counter is two RO words.
A "From fuses" value stands as 0 here and is loaded at fuse sensing (R514, R427); DEDUCED, log entry 3. -/

namespace Sys2Proof.Machine

def rows0_0 : List RegRow := [
  ⟨0, [], [⟨31, 16, .ro, 1298, .n⟩, ⟨15, 12, .ro, 1, .n⟩, ⟨11, 8, .ro, 0, .n⟩], false⟩,
  ⟨4, [], [⟨15, 0, .ro, 0, .n⟩], false⟩,
  ⟨8, [], [⟨31, 0, .ro, 0, .n⟩], true⟩,
  ⟨0x0000000C, [], [⟨31, 0, .ro, 0, .n⟩], true⟩,
  ⟨0x00000010, [], [⟨31, 0, .ro, 0, .s⟩], false⟩,
  ⟨0x00000018, [], [⟨31, 0, .ro, 0, .p⟩], true⟩,
  ⟨0x0000001C, [], [⟨31, 0, .ro, 0, .p⟩], true⟩,
  ⟨0x00000020, [(8, 4)], [⟨31, 0, .ro, 0, .s⟩], false⟩,
  ⟨0x00000040, [], [⟨31, 31, .ro, 0, .w⟩, ⟨3, 0, .ro, 0, .p⟩], false⟩,
  ⟨0x00000048, [], [⟨31, 0, .ro, 0, .p⟩], true⟩,
  ⟨0x0000004C, [], [⟨31, 0, .ro, 0, .p⟩], true⟩,
  ⟨0x00000050, [(4, 4)], [⟨31, 0, .ro, 0, .p⟩], false⟩,
  ⟨0x00000080, [(8, 4)], [⟨31, 0, .rw, 0, .w⟩], false⟩,
  ⟨0x000000A0, [(8, 4)], [⟨31, 0, .rw, 0, .p⟩], false⟩,
  ⟨0x00000100, [], [⟨31, 31, .rw, 1, .p⟩, ⟨30, 30, .rw, 0, .p⟩, ⟨0, 0, .rw, 0, .p⟩], false⟩,
  ⟨0x00000108, [], [⟨31, 0, .rw, 0, .p⟩], true⟩,
  ⟨0x0000010C, [], [⟨15, 0, .rw, 0, .p⟩], true⟩,
  ⟨0x00000110, [], [⟨31, 31, .rw, 0, .p⟩, ⟨6, 0, .rw, 92, .p⟩], false⟩,
  ⟨0x00000118, [], [⟨31, 0, .ro, 0, .n⟩], true⟩,
  ⟨0x0000011C, [], [⟨15, 0, .ro, 0, .n⟩], true⟩,
  ⟨0x00000200, [], [⟨31, 0, .ro, 0, .w⟩], true⟩,
  ⟨0x00000204, [], [⟨31, 0, .ro, 0, .w⟩], true⟩,
  ⟨0x00000208, [], [⟨31, 0, .ro, 0, .w⟩], true⟩,
  ⟨0x0000020C, [], [⟨31, 0, .ro, 0, .w⟩], true⟩]

def rows0_1 : List RegRow := [
  ⟨0x00000210, [], [⟨31, 0, .ro, 0, .w⟩], true⟩,
  ⟨0x00000214, [], [⟨31, 0, .ro, 0, .w⟩], true⟩,
  ⟨0x00000218, [], [⟨31, 0, .ro, 0, .w⟩], true⟩,
  ⟨0x0000021C, [], [⟨31, 0, .ro, 0, .w⟩], true⟩,
  ⟨0x00000220, [], [⟨31, 0, .ro, 0, .w⟩], true⟩,
  ⟨0x00000224, [], [⟨31, 0, .ro, 0, .w⟩], true⟩,
  ⟨0x00000300, [], [⟨31, 0, .rw, 0, .w⟩], false⟩,
  ⟨0x00000304, [], [⟨31, 0, .rw, 0, .w⟩], false⟩,
  ⟨0x00000308, [], [⟨31, 0, .ro, 0, .s⟩], false⟩,
  ⟨0x00000310, [], [⟨31, 31, .rw, 1, .w⟩, ⟨30, 30, .rw, 0, .w⟩, ⟨0, 0, .w1c, 0, .s⟩], false⟩,
  ⟨0x00000318, [], [⟨31, 0, .ro, 0, .s⟩], true⟩,
  ⟨0x0000031C, [], [⟨31, 0, .ro, 0, .s⟩], true⟩,
  ⟨0x00000320, [], [⟨7, 0, .wo, 0, .w⟩], false⟩,
  ⟨0x00000324, [], [⟨8, 8, .ro, 0, .s⟩, ⟨7, 0, .rc, 0, .s⟩], false⟩,
  ⟨0x00000328, [], [⟨16, 16, .w1c, 0, .s⟩, ⟨15, 8, .ro, 64, .s⟩, ⟨7, 0, .ro, 0, .s⟩], false⟩]

/-- The registers of block 0, GLB. -/
def rows0 : List RegRow := rows0_0 ++ rows0_1

def rows1_0 : List RegRow := [
  ⟨0x00100000, [(64, 0x00001000)], [⟨31, 31, .wo, 0, .w⟩, ⟨8, 8, .rw, 0, .w⟩, ⟨5, 4, .rw, 0, .w⟩, ⟨2, 2, .rw, 0, .w⟩, ⟨1, 0, .rw, 0, .w⟩], false⟩,
  ⟨0x00100004, [(64, 0x00001000)], [⟨31, 23, .ro, 0, .s⟩, ⟨16, 16, .ro, 0, .s⟩, ⟨15, 8, .ro, 0, .s⟩, ⟨3, 3, .w1c, 0, .b⟩, ⟨2, 2, .ro, 0, .s⟩, ⟨1, 0, .ro, 0, .w⟩], false⟩,
  ⟨0x00100008, [(64, 0x00001000)], [⟨16, 16, .rw, 1, .p⟩, ⟨9, 9, .w1s, 0, .p⟩, ⟨8, 8, .w1s, 0, .p⟩, ⟨4, 4, .rw, 0, .p⟩, ⟨2, 0, .rw, 0, .p⟩], false⟩,
  ⟨0x0010000C, [(64, 0x00001000)], [⟨15, 8, .ro, 0, .n⟩, ⟨6, 6, .w1c, 0, .b⟩, ⟨5, 4, .ro, 0, .s⟩, ⟨3, 3, .ro, 0, .p⟩, ⟨2, 0, .ro, 0, .p⟩], false⟩,
  ⟨0x00100010, [(64, 0x00001000)], [⟨24, 16, .rw, 0, .w⟩, ⟨8, 0, .rw, 0, .w⟩], false⟩,
  ⟨0x00140000, [(512, 0x00000100)], [⟨29, 16, .rw, 9216, .b⟩, ⟨4, 3, .rw, 0, .b⟩, ⟨2, 2, .rw, 0, .b⟩, ⟨1, 1, .rw, 1, .b⟩, ⟨0, 0, .rw, 1, .b⟩], false⟩,
  ⟨0x00140004, [(512, 0x00000100)], [⟨27, 24, .ro, 0, .b⟩, ⟨15, 8, .ro, 0, .s⟩, ⟨4, 4, .ro, 0, .s⟩, ⟨3, 3, .ro, 0, .s⟩, ⟨2, 2, .ro, 0, .s⟩, ⟨1, 1, .ro, 0, .s⟩, ⟨0, 0, .ro, 0, .s⟩], false⟩,
  ⟨0x00140008, [(512, 0x00000100)], [⟨31, 16, .rw, 0, .b⟩, ⟨2, 2, .rw, 0, .b⟩, ⟨1, 1, .rw, 0, .b⟩, ⟨0, 0, .rw, 0, .b⟩], false⟩,
  ⟨0x00140040, [(512, 0x00000100)], [⟨31, 0, .ro, 0, .b⟩], true⟩,
  ⟨0x00140044, [(512, 0x00000100)], [⟨31, 0, .ro, 0, .b⟩], true⟩,
  ⟨0x00140048, [(512, 0x00000100)], [⟨31, 0, .ro, 0, .b⟩], true⟩,
  ⟨0x0014004C, [(512, 0x00000100)], [⟨31, 0, .ro, 0, .b⟩], true⟩,
  ⟨0x00140050, [(512, 0x00000100)], [⟨31, 0, .ro, 0, .b⟩], true⟩,
  ⟨0x00140054, [(512, 0x00000100)], [⟨31, 0, .ro, 0, .b⟩], true⟩,
  ⟨0x00140058, [(512, 0x00000100)], [⟨31, 0, .ro, 0, .b⟩], true⟩,
  ⟨0x0014005C, [(512, 0x00000100)], [⟨31, 0, .ro, 0, .b⟩], true⟩,
  ⟨0x00140060, [(512, 0x00000100)], [⟨31, 0, .ro, 0, .b⟩], true⟩,
  ⟨0x00140064, [(512, 0x00000100)], [⟨31, 0, .ro, 0, .b⟩], true⟩,
  ⟨0x00140068, [(512, 0x00000100)], [⟨31, 0, .ro, 0, .b⟩], true⟩,
  ⟨0x0014006C, [(512, 0x00000100)], [⟨31, 0, .ro, 0, .b⟩], true⟩,
  ⟨0x00140070, [(512, 0x00000100)], [⟨31, 0, .ro, 0, .b⟩], true⟩,
  ⟨0x00140074, [(512, 0x00000100)], [⟨31, 0, .ro, 0, .b⟩], true⟩,
  ⟨0x00140078, [(512, 0x00000100)], [⟨31, 0, .ro, 0, .b⟩], true⟩,
  ⟨0x0014007C, [(512, 0x00000100)], [⟨31, 0, .ro, 0, .b⟩], true⟩]

def rows1_1 : List RegRow := [
  ⟨0x00140080, [(512, 0x00000100)], [⟨31, 0, .ro, 0, .b⟩], true⟩,
  ⟨0x00140084, [(512, 0x00000100)], [⟨31, 0, .ro, 0, .b⟩], true⟩,
  ⟨0x00140088, [(512, 0x00000100)], [⟨31, 0, .ro, 0, .b⟩], true⟩,
  ⟨0x0014008C, [(512, 0x00000100)], [⟨31, 0, .ro, 0, .b⟩], true⟩,
  ⟨0x00140090, [(512, 0x00000100)], [⟨31, 0, .ro, 0, .b⟩], true⟩,
  ⟨0x00140094, [(512, 0x00000100)], [⟨31, 0, .ro, 0, .b⟩], true⟩,
  ⟨0x00140098, [(512, 0x00000100)], [⟨31, 0, .ro, 0, .b⟩], true⟩,
  ⟨0x0014009C, [(512, 0x00000100)], [⟨31, 0, .ro, 0, .b⟩], true⟩,
  ⟨0x001400A0, [(512, 0x00000100)], [⟨31, 0, .ro, 0, .b⟩], true⟩,
  ⟨0x001400A4, [(512, 0x00000100)], [⟨31, 0, .ro, 0, .b⟩], true⟩,
  ⟨0x001400A8, [(512, 0x00000100)], [⟨31, 0, .ro, 0, .b⟩], true⟩,
  ⟨0x001400AC, [(512, 0x00000100)], [⟨31, 0, .ro, 0, .b⟩], true⟩,
  ⟨0x001400B0, [(512, 0x00000100)], [⟨31, 0, .ro, 0, .b⟩], true⟩,
  ⟨0x001400B4, [(512, 0x00000100)], [⟨31, 0, .ro, 0, .b⟩], true⟩,
  ⟨0x001C0000, [], [⟨1, 1, .w1s, 0, .w⟩, ⟨0, 0, .rw, 0, .w⟩], false⟩,
  ⟨0x001C0008, [], [⟨31, 0, .rw, 0, .w⟩], true⟩,
  ⟨0x001C000C, [], [⟨31, 0, .rw, 0, .w⟩], true⟩,
  ⟨0x001C0010, [], [⟨31, 0, .rw, 0, .w⟩], false⟩,
  ⟨0x001C0020, [], [⟨31, 0, .rw, 0, .w⟩], true⟩,
  ⟨0x001C0024, [], [⟨31, 0, .rw, 0, .w⟩], true⟩,
  ⟨0x001C0030, [], [⟨31, 24, .rw, 3, .w⟩, ⟨23, 0, .rw, 1000, .w⟩], false⟩,
  ⟨0x001C0040, [], [⟨31, 0, .ro, 0, .b⟩], true⟩,
  ⟨0x001C0044, [], [⟨31, 0, .ro, 0, .b⟩], true⟩]

/-- The registers of block 1, LANE. -/
def rows1 : List RegRow := rows1_0 ++ rows1_1

def rows2_0 : List RegRow := [
  ⟨0x00200000, [(64, 0x00001000)], [⟨27, 16, .rw, 1000, .w⟩, ⟨12, 12, .rw, 1, .w⟩, ⟨10, 10, .rw, 0, .w⟩, ⟨8, 8, .rw, 0, .w⟩, ⟨6, 6, .rw, 1, .w⟩, ⟨5, 4, .rw, 2, .w⟩, ⟨0, 0, .rw, 0, .w⟩], false⟩,
  ⟨0x00200004, [(64, 0x00001000)], [⟨31, 28, .ro, 0, .p⟩, ⟨23, 23, .ro, 0, .w⟩, ⟨22, 22, .w1c, 0, .b⟩, ⟨21, 21, .w1c, 0, .b⟩, ⟨20, 20, .ro, 0, .s⟩, ⟨19, 19, .ro, 0, .s⟩, ⟨18, 18, .ro, 0, .s⟩, ⟨16, 16, .ro, 0, .s⟩, ⟨11, 8, .ro, 0, .s⟩, ⟨6, 4, .ro, 0, .s⟩, ⟨2, 2, .ro, 0, .s⟩, ⟨0, 0, .ro, 0, .s⟩], false⟩,
  ⟨0x00200008, [(64, 0x00001000)], [⟨8, 8, .w1s, 0, .w⟩, ⟨0, 0, .w1s, 0, .b⟩], false⟩,
  ⟨0x00200010, [(64, 0x00001000)], [⟨24, 24, .rw, 1, .w⟩, ⟨8, 0, .rw, 0, .w⟩], false⟩,
  ⟨0x00200014, [(64, 0x00001000), (2, 4)], [⟨24, 24, .rw, 0, .w⟩, ⟨8, 0, .rw, 0, .w⟩], false⟩,
  ⟨0x00200020, [(64, 0x00001000)], [⟨28, 26, .rw, 2, .w⟩, ⟨25, 16, .rw, 10, .w⟩, ⟨12, 10, .rw, 2, .w⟩, ⟨9, 0, .rw, 10, .w⟩], false⟩,
  ⟨0x00200100, [(64, 0x00001000)], [⟨31, 0, .ro, 0, .w⟩], true⟩,
  ⟨0x00200104, [(64, 0x00001000)], [⟨31, 0, .ro, 0, .w⟩], true⟩,
  ⟨0x00200108, [(64, 0x00001000)], [⟨31, 0, .ro, 0, .w⟩], true⟩,
  ⟨0x0020010C, [(64, 0x00001000)], [⟨31, 0, .ro, 0, .w⟩], true⟩,
  ⟨0x00200110, [(64, 0x00001000)], [⟨31, 0, .ro, 0, .w⟩], true⟩,
  ⟨0x00200114, [(64, 0x00001000)], [⟨31, 0, .ro, 0, .w⟩], true⟩,
  ⟨0x00200118, [(64, 0x00001000)], [⟨31, 0, .ro, 0, .w⟩], true⟩,
  ⟨0x0020011C, [(64, 0x00001000)], [⟨31, 0, .ro, 0, .w⟩], true⟩,
  ⟨0x00200120, [(64, 0x00001000)], [⟨31, 0, .ro, 0, .w⟩], true⟩,
  ⟨0x00200124, [(64, 0x00001000)], [⟨31, 0, .ro, 0, .w⟩], true⟩,
  ⟨0x00200128, [(64, 0x00001000)], [⟨31, 0, .ro, 0, .w⟩], true⟩,
  ⟨0x0020012C, [(64, 0x00001000)], [⟨31, 0, .ro, 0, .w⟩], true⟩,
  ⟨0x00200130, [(64, 0x00001000)], [⟨31, 0, .ro, 0, .w⟩], true⟩,
  ⟨0x00200134, [(64, 0x00001000)], [⟨31, 0, .ro, 0, .w⟩], true⟩,
  ⟨0x00200138, [(64, 0x00001000)], [⟨31, 0, .ro, 0, .w⟩], true⟩,
  ⟨0x0020013C, [(64, 0x00001000)], [⟨31, 0, .ro, 0, .w⟩], true⟩,
  ⟨0x00200140, [(64, 0x00001000)], [⟨31, 0, .ro, 0, .w⟩], true⟩,
  ⟨0x00200144, [(64, 0x00001000)], [⟨31, 0, .ro, 0, .w⟩], true⟩]

def rows2_1 : List RegRow := [
  ⟨0x00200148, [(64, 0x00001000)], [⟨31, 0, .ro, 0, .w⟩], true⟩,
  ⟨0x0020014C, [(64, 0x00001000)], [⟨31, 0, .ro, 0, .w⟩], true⟩,
  ⟨0x00200150, [(64, 0x00001000)], [⟨31, 0, .ro, 0, .w⟩], true⟩,
  ⟨0x00200154, [(64, 0x00001000)], [⟨31, 0, .ro, 0, .w⟩], true⟩,
  ⟨0x00200158, [(64, 0x00001000)], [⟨31, 0, .ro, 0, .w⟩], true⟩,
  ⟨0x0020015C, [(64, 0x00001000)], [⟨31, 0, .ro, 0, .w⟩], true⟩,
  ⟨0x00200160, [(64, 0x00001000)], [⟨31, 0, .ro, 0, .w⟩], true⟩,
  ⟨0x00200164, [(64, 0x00001000)], [⟨31, 0, .ro, 0, .w⟩], true⟩,
  ⟨0x00200168, [(64, 0x00001000)], [⟨31, 0, .ro, 0, .w⟩], true⟩,
  ⟨0x0020016C, [(64, 0x00001000)], [⟨31, 0, .ro, 0, .w⟩], true⟩,
  ⟨0x00200170, [(64, 0x00001000)], [⟨31, 0, .ro, 0, .w⟩], true⟩,
  ⟨0x00200174, [(64, 0x00001000)], [⟨31, 0, .ro, 0, .w⟩], true⟩,
  ⟨0x00200178, [(64, 0x00001000)], [⟨31, 0, .ro, 0, .w⟩], true⟩,
  ⟨0x0020017C, [(64, 0x00001000)], [⟨31, 0, .ro, 0, .w⟩], true⟩,
  ⟨0x00200180, [(64, 0x00001000)], [⟨31, 0, .ro, 0, .w⟩], true⟩,
  ⟨0x00200184, [(64, 0x00001000)], [⟨31, 0, .ro, 0, .w⟩], true⟩,
  ⟨0x00280000, [], [⟨23, 23, .ro, 0, .p⟩, ⟨22, 16, .ro, 127, .p⟩, ⟨6, 0, .rw, 127, .p⟩], false⟩]

/-- The registers of block 2, HOST. -/
def rows2 : List RegRow := rows2_0 ++ rows2_1

def rows3_0 : List RegRow := [
  ⟨0x00300000, [], [⟨31, 16, .rw, 10, .w⟩, ⟨1, 1, .rw, 0, .w⟩], false⟩,
  ⟨0x00300004, [], [⟨28, 16, .ro, 0, .w⟩, ⟨1, 1, .ro, 0, .s⟩, ⟨0, 0, .ro, 1, .w⟩], false⟩,
  ⟨0x00300110, [], [⟨31, 0, .ro, 2048, .w⟩], false⟩,
  ⟨0x00300120, [], [⟨31, 0, .ro, 0, .w⟩], false⟩,
  ⟨0x00300130, [], [⟨31, 0, .ro, 512, .w⟩], false⟩,
  ⟨0x00300140, [], [⟨31, 0, .ro, 1024, .w⟩], false⟩,
  ⟨0x00300150, [], [⟨31, 0, .ro, 256, .w⟩], false⟩,
  ⟨0x00300160, [], [⟨31, 0, .ro, 131072, .w⟩], false⟩,
  ⟨0x00300170, [], [⟨31, 0, .ro, 32768, .w⟩], false⟩,
  ⟨0x00300180, [], [⟨31, 0, .ro, 65536, .w⟩], false⟩,
  ⟨0x00300190, [], [⟨31, 0, .ro, 16384, .w⟩], false⟩,
  ⟨0x003001A0, [], [⟨31, 0, .ro, 16384, .w⟩], false⟩,
  ⟨0x003001B0, [], [⟨31, 0, .ro, 65536, .w⟩], false⟩,
  ⟨0x003001C0, [], [⟨31, 0, .ro, 65536, .w⟩], false⟩,
  ⟨0x003001D0, [], [⟨31, 0, .ro, 512, .w⟩], false⟩,
  ⟨0x003001E0, [], [⟨31, 0, .ro, 384, .w⟩], false⟩,
  ⟨0x003001F0, [], [⟨31, 0, .ro, 256, .w⟩], false⟩,
  ⟨0x00300200, [], [⟨31, 0, .ro, 0, .w⟩], false⟩,
  ⟨0x00300114, [(16, 0x00000010)], [⟨31, 0, .ro, 0, .w⟩], false⟩,
  ⟨0x00300118, [(16, 0x00000010)], [⟨31, 0, .ro, 0, .w⟩], false⟩,
  ⟨0x00301000, [], [⟨31, 16, .rw, 0, .w⟩, ⟨15, 0, .rw, 0, .w⟩], false⟩,
  ⟨0x00301010, [(6, 4)], [⟨31, 0, .ro, 0, .w⟩], false⟩,
  ⟨0x00302000, [], [⟨31, 0, .ro, 0, .w⟩], true⟩,
  ⟨0x00302004, [], [⟨31, 0, .ro, 0, .w⟩], true⟩]

def rows3_1 : List RegRow := [
  ⟨0x00302008, [], [⟨31, 0, .ro, 0, .w⟩], true⟩,
  ⟨0x0030200C, [], [⟨31, 0, .ro, 0, .w⟩], true⟩,
  ⟨0x00302010, [], [⟨31, 0, .ro, 0, .w⟩], true⟩,
  ⟨0x00302014, [], [⟨31, 0, .ro, 0, .w⟩], true⟩,
  ⟨0x00302018, [], [⟨31, 0, .ro, 0, .w⟩], true⟩,
  ⟨0x0030201C, [], [⟨31, 0, .ro, 0, .w⟩], true⟩,
  ⟨0x00302020, [], [⟨31, 0, .ro, 0, .w⟩], true⟩,
  ⟨0x00302024, [], [⟨31, 0, .ro, 0, .w⟩], true⟩,
  ⟨0x00310000, [(4096, 0x00000020)], [⟨31, 16, .ro, 0, .w⟩, ⟨12, 12, .ro, 0, .s⟩, ⟨9, 8, .ro, 0, .w⟩, ⟨4, 4, .ro, 0, .w⟩, ⟨2, 0, .ro, 0, .w⟩], false⟩,
  ⟨0x00310004, [(4096, 0x00000020)], [⟨31, 31, .ro, 0, .w⟩, ⟨23, 16, .ro, 0, .w⟩, ⟨13, 12, .ro, 0, .w⟩, ⟨5, 0, .ro, 0, .w⟩], false⟩,
  ⟨0x00310008, [(4096, 0x00000020)], [⟨31, 0, .ro, 0, .w⟩], true⟩,
  ⟨0x0031000C, [(4096, 0x00000020)], [⟨31, 0, .ro, 0, .w⟩], true⟩,
  ⟨0x00310010, [(4096, 0x00000020)], [⟨31, 0, .ro, 0, .w⟩], true⟩,
  ⟨0x00310014, [(4096, 0x00000020)], [⟨31, 0, .ro, 0, .w⟩], true⟩,
  ⟨0x00310018, [(4096, 0x00000020)], [⟨31, 0, .ro, 0, .w⟩], true⟩,
  ⟨0x0031001C, [(4096, 0x00000020)], [⟨31, 0, .ro, 0, .w⟩], true⟩]

/-- The registers of block 3, DRW. -/
def rows3 : List RegRow := rows3_0 ++ rows3_1

def rows4_0 : List RegRow := [
  ⟨0x00400000, [], [⟨31, 16, .rw, 1000, .w⟩, ⟨5, 4, .rw, 2, .w⟩], false⟩,
  ⟨0x00400010, [], [⟨31, 0, .wo, 0, .w⟩], true⟩,
  ⟨0x00400014, [], [⟨31, 0, .wo, 0, .w⟩], true⟩,
  ⟨0x00400020, [], [⟨23, 0, .rw, 0, .w⟩], false⟩,
  ⟨0x00400024, [], [⟨11, 0, .rw, 0, .w⟩], false⟩,
  ⟨0x00400040, [(8, 4)], [⟨31, 0, .ro, 0, .w⟩], false⟩,
  ⟨0x00400100, [], [⟨31, 0, .ro, 0, .w⟩], true⟩,
  ⟨0x00400104, [], [⟨31, 0, .ro, 0, .w⟩], true⟩,
  ⟨0x00400108, [], [⟨31, 0, .ro, 0, .w⟩], true⟩,
  ⟨0x0040010C, [], [⟨31, 0, .ro, 0, .w⟩], true⟩,
  ⟨0x00401000, [(64, 0x00000040)], [⟨31, 31, .rw, 0, .b⟩, ⟨29, 28, .rw, 0, .w⟩, ⟨27, 27, .rw, 0, .w⟩, ⟨24, 24, .rw, 0, .w⟩, ⟨20, 16, .rw, 6, .w⟩, ⟨13, 8, .rw, 6, .w⟩, ⟨7, 0, .rw, 0, .w⟩], false⟩,
  ⟨0x00401004, [(64, 0x00000040)], [⟨31, 30, .ro, 0, .b⟩, ⟨23, 16, .ro, 0, .w⟩, ⟨8, 8, .ro, 1, .w⟩, ⟨0, 0, .ro, 0, .s⟩], false⟩,
  ⟨0x00401008, [(64, 0x00000040)], [⟨31, 0, .rw, 0, .w⟩], true⟩,
  ⟨0x0040100C, [(64, 0x00000040)], [⟨31, 0, .rw, 0, .w⟩], true⟩,
  ⟨0x00401010, [(64, 0x00000040)], [⟨31, 0, .ro, 0, .w⟩], false⟩,
  ⟨0x00401014, [(64, 0x00000040)], [⟨31, 16, .rw, 0, .w⟩, ⟨15, 0, .rw, 1, .w⟩], false⟩,
  ⟨0x00410000, [(4096, 0x00000040)], [⟨31, 0, .ro, 0, .w⟩], true⟩,
  ⟨0x00410004, [(4096, 0x00000040)], [⟨31, 0, .ro, 0, .w⟩], true⟩,
  ⟨0x00410008, [(4096, 0x00000040)], [⟨31, 0, .ro, 0, .w⟩], true⟩,
  ⟨0x0041000C, [(4096, 0x00000040)], [⟨31, 0, .ro, 0, .w⟩], true⟩,
  ⟨0x00410010, [(4096, 0x00000040)], [⟨31, 0, .ro, 0, .w⟩], true⟩,
  ⟨0x00410014, [(4096, 0x00000040)], [⟨31, 0, .ro, 0, .w⟩], true⟩,
  ⟨0x00410018, [(4096, 0x00000040)], [⟨31, 0, .ro, 0, .w⟩], true⟩,
  ⟨0x0041001C, [(4096, 0x00000040)], [⟨31, 0, .ro, 0, .w⟩], true⟩]

def rows4_1 : List RegRow := [
  ⟨0x00410020, [(4096, 0x00000040)], [⟨31, 0, .ro, 0, .w⟩], true⟩,
  ⟨0x00410024, [(4096, 0x00000040)], [⟨31, 0, .ro, 0, .w⟩], true⟩,
  ⟨0x00410028, [(4096, 0x00000040)], [⟨31, 0, .ro, 0, .w⟩], true⟩,
  ⟨0x0041002C, [(4096, 0x00000040)], [⟨31, 0, .ro, 0, .w⟩], true⟩,
  ⟨0x00410030, [(4096, 0x00000040)], [⟨31, 0, .ro, 0, .w⟩], true⟩,
  ⟨0x00410034, [(4096, 0x00000040)], [⟨31, 0, .ro, 0, .w⟩], true⟩,
  ⟨0x00410038, [(4096, 0x00000040)], [⟨31, 0, .ro, 0, .w⟩], true⟩,
  ⟨0x0041003C, [(4096, 0x00000040)], [⟨31, 0, .ro, 0, .w⟩], true⟩]

/-- The registers of block 4, RING. -/
def rows4 : List RegRow := rows4_0 ++ rows4_1

def rows5_0 : List RegRow := [
  ⟨0x00500000, [], [⟨27, 16, .rw, 0, .w⟩, ⟨0, 0, .w1s, 0, .w⟩], false⟩,
  ⟨0x00500004, [], [⟨31, 28, .ro, 0, .w⟩, ⟨25, 24, .ro, 0, .w⟩, ⟨17, 8, .ro, 0, .w⟩, ⟨7, 4, .ro, 0, .w⟩, ⟨2, 2, .ro, 0, .s⟩, ⟨1, 1, .ro, 0, .w⟩, ⟨0, 0, .ro, 0, .w⟩], false⟩,
  ⟨0x00500008, [], [⟨31, 31, .w1s, 0, .w⟩], false⟩,
  ⟨0x00500010, [], [⟨31, 31, .rw, 0, .w⟩, ⟨19, 0, .rw, 0, .w⟩], false⟩,
  ⟨0x00500040, [(4, 4)], [⟨31, 0, .rw, 0, .w⟩], false⟩,
  ⟨0x00500050, [], [⟨31, 31, .w1s, 0, .w⟩, ⟨30, 30, .w1c, 0, .w⟩, ⟨11, 0, .rw, 0, .w⟩], false⟩,
  ⟨0x00500100, [(32, 4)], [⟨31, 0, .rw, 0, .w⟩], false⟩,
  ⟨0x00500180, [], [⟨31, 31, .w1s, 0, .w⟩, ⟨30, 30, .w1c, 0, .w⟩, ⟨7, 0, .rw, 0, .w⟩], false⟩,
  ⟨0x00500200, [], [⟨31, 0, .ro, 0, .w⟩], true⟩,
  ⟨0x00500204, [], [⟨31, 0, .ro, 0, .w⟩], true⟩,
  ⟨0x00501000, [(72, 4)], [⟨31, 0, .rw, 0, .w⟩], false⟩,
  ⟨0x00520000, [(2, 0x00020000), (256, 0x00000100)], [⟨31, 0, .rw, 0, .w⟩], false⟩,
  ⟨0x00520004, [(2, 0x00020000), (256, 0x00000100)], [⟨31, 0, .rw, 0, .w⟩], false⟩,
  ⟨0x00520008, [(2, 0x00020000), (256, 0x00000100)], [⟨31, 0, .rw, 0, .w⟩], false⟩,
  ⟨0x00520010, [(2, 0x00020000), (256, 0x00000100), (3, 4)], [⟨31, 0, .rw, 0, .w⟩], false⟩,
  ⟨0x00520080, [(2, 0x00020000), (256, 0x00000100), (32, 4)], [⟨31, 0, .rw, 0, .w⟩], false⟩,
  ⟨0x00530000, [(2, 0x00020000), (1024, 0x00000040)], [⟨31, 0, .rw, 0, .w⟩], false⟩,
  ⟨0x00530004, [(2, 0x00020000), (1024, 0x00000040), (8, 4)], [⟨31, 0, .rw, 0, .w⟩], false⟩,
  ⟨0x00530024, [(2, 0x00020000), (1024, 0x00000040)], [⟨31, 0, .rw, 8191, .w⟩], false⟩,
  ⟨0x00560000, [(4096, 0x00000010), (4, 4)], [⟨31, 0, .ro, 0, .w⟩], false⟩,
  ⟨0x00570000, [(256, 0x00000080), (32, 4)], [⟨31, 0, .ro, 0, .w⟩], false⟩,
  ⟨0x00580000, [(256, 0x00000020)], [⟨31, 0, .ro, 0, .w⟩], true⟩,
  ⟨0x00580004, [(256, 0x00000020)], [⟨31, 0, .ro, 0, .w⟩], true⟩,
  ⟨0x00580008, [(256, 0x00000020)], [⟨31, 0, .ro, 0, .w⟩], true⟩]

def rows5_1 : List RegRow := [
  ⟨0x0058000C, [(256, 0x00000020)], [⟨31, 0, .ro, 0, .w⟩], true⟩,
  ⟨0x00580010, [(256, 0x00000020)], [⟨31, 0, .ro, 0, .w⟩], true⟩,
  ⟨0x00580014, [(256, 0x00000020)], [⟨31, 0, .ro, 0, .w⟩], true⟩,
  ⟨0x00590000, [(16, 0x00000100)], [⟨31, 0, .ro, 0, .w⟩], true⟩,
  ⟨0x00590004, [(16, 0x00000100)], [⟨31, 0, .ro, 0, .w⟩], true⟩,
  ⟨0x00590008, [(16, 0x00000100)], [⟨31, 0, .ro, 0, .w⟩], true⟩,
  ⟨0x0059000C, [(16, 0x00000100)], [⟨31, 0, .ro, 0, .w⟩], true⟩,
  ⟨0x00590010, [(16, 0x00000100)], [⟨31, 0, .ro, 0, .w⟩], true⟩,
  ⟨0x00590014, [(16, 0x00000100)], [⟨31, 0, .ro, 0, .w⟩], true⟩,
  ⟨0x00590018, [(16, 0x00000100)], [⟨31, 0, .ro, 0, .w⟩], true⟩,
  ⟨0x0059001C, [(16, 0x00000100)], [⟨31, 0, .ro, 0, .w⟩], true⟩,
  ⟨0x00590020, [(16, 0x00000100)], [⟨31, 0, .ro, 0, .w⟩], true⟩,
  ⟨0x00590024, [(16, 0x00000100)], [⟨31, 0, .ro, 0, .w⟩], true⟩,
  ⟨0x00590028, [(16, 0x00000100)], [⟨31, 0, .ro, 0, .w⟩], true⟩,
  ⟨0x0059002C, [(16, 0x00000100)], [⟨31, 0, .ro, 0, .w⟩], true⟩,
  ⟨0x00590030, [(16, 0x00000100)], [⟨31, 0, .ro, 0, .w⟩], true⟩,
  ⟨0x00590034, [(16, 0x00000100)], [⟨31, 0, .ro, 0, .w⟩], true⟩,
  ⟨0x00590038, [(16, 0x00000100)], [⟨31, 0, .ro, 0, .w⟩], true⟩,
  ⟨0x0059003C, [(16, 0x00000100)], [⟨31, 0, .ro, 0, .w⟩], true⟩,
  ⟨0x00590040, [(16, 0x00000100)], [⟨31, 0, .ro, 0, .w⟩], true⟩,
  ⟨0x00590044, [(16, 0x00000100)], [⟨31, 0, .ro, 0, .w⟩], true⟩,
  ⟨0x00590048, [(16, 0x00000100)], [⟨31, 0, .ro, 0, .w⟩], true⟩,
  ⟨0x0059004C, [(16, 0x00000100)], [⟨31, 0, .ro, 0, .w⟩], true⟩,
  ⟨0x00590050, [(16, 0x00000100)], [⟨31, 0, .ro, 0, .w⟩], true⟩]

def rows5_2 : List RegRow := [
  ⟨0x00590054, [(16, 0x00000100)], [⟨31, 0, .ro, 0, .w⟩], true⟩,
  ⟨0x00590058, [(16, 0x00000100)], [⟨31, 0, .ro, 0, .w⟩], true⟩,
  ⟨0x0059005C, [(16, 0x00000100)], [⟨31, 0, .ro, 0, .w⟩], true⟩,
  ⟨0x00590060, [(16, 0x00000100)], [⟨31, 0, .ro, 0, .w⟩], true⟩,
  ⟨0x00590064, [(16, 0x00000100)], [⟨31, 0, .ro, 0, .w⟩], true⟩,
  ⟨0x00590068, [(16, 0x00000100)], [⟨31, 0, .ro, 0, .w⟩], true⟩,
  ⟨0x0059006C, [(16, 0x00000100)], [⟨31, 0, .ro, 0, .w⟩], true⟩,
  ⟨0x00590070, [(16, 0x00000100)], [⟨31, 0, .ro, 0, .w⟩], true⟩,
  ⟨0x00590074, [(16, 0x00000100)], [⟨31, 0, .ro, 0, .w⟩], true⟩]

/-- The registers of block 5, PRS. -/
def rows5 : List RegRow := rows5_0 ++ rows5_1 ++ rows5_2

def rows6_0 : List RegRow := [
  ⟨0x00600000, [], [⟨8, 8, .rw, 1, .w⟩, ⟨0, 0, .rw, 0, .w⟩], false⟩,
  ⟨0x00600004, [], [⟨0, 0, .ro, 0, .w⟩], false⟩,
  ⟨0x00600008, [], [⟨10, 0, .rw, 1024, .w⟩], false⟩,
  ⟨0x00600100, [(4, 0x00000040)], [⟨31, 16, .rw, 1000, .w⟩, ⟨15, 0, .rw, 1000, .w⟩], false⟩,
  ⟨0x00600104, [(4, 0x00000040)], [⟨1, 0, .rw, 1, .w⟩], false⟩,
  ⟨0x00600108, [(4, 0x00000040)], [⟨31, 0, .rw, 4294967295, .w⟩], false⟩,
  ⟨0x0060010C, [(4, 0x00000040)], [⟨31, 0, .rw, 4294967295, .w⟩], false⟩,
  ⟨0x00600110, [(4, 0x00000040)], [⟨7, 0, .rw, 128, .w⟩], false⟩,
  ⟨0x00600114, [(4, 0x00000040)], [⟨9, 9, .w1c, 0, .b⟩, ⟨8, 8, .w1c, 0, .b⟩, ⟨1, 1, .ro, 0, .s⟩, ⟨0, 0, .ro, 0, .s⟩], false⟩,
  ⟨0x00600118, [(4, 0x00000040)], [⟨19, 0, .ro, 0, .w⟩], false⟩,
  ⟨0x0060011C, [(4, 0x00000040)], [⟨26, 0, .ro, 0, .w⟩], false⟩,
  ⟨0x00600120, [(4, 0x00000040)], [⟨31, 19, .ro, 0, .w⟩, ⟨16, 0, .ro, 0, .w⟩], false⟩,
  ⟨0x00601000, [], [⟨31, 31, .w1s, 0, .w⟩, ⟨0, 0, .rw, 0, .w⟩], false⟩,
  ⟨0x00601004, [], [⟨31, 31, .ro, 0, .s⟩, ⟨18, 0, .ro, 0, .w⟩], false⟩,
  ⟨0x00601010, [], [⟨31, 0, .ro, 0, .w⟩], true⟩,
  ⟨0x00601014, [], [⟨31, 0, .ro, 0, .w⟩], true⟩,
  ⟨0x00601018, [], [⟨31, 0, .ro, 0, .w⟩], true⟩,
  ⟨0x0060101C, [], [⟨31, 0, .ro, 0, .w⟩], true⟩,
  ⟨0x00602000, [(256, 0x00000010)], [⟨31, 31, .rw, 0, .w⟩, ⟨29, 28, .rw, 0, .w⟩, ⟨25, 24, .rw, 0, .w⟩, ⟨20, 16, .rw, 0, .w⟩, ⟨15, 15, .rw, 0, .w⟩, ⟨11, 0, .rw, 0, .w⟩], false⟩,
  ⟨0x00602004, [(256, 0x00000010)], [⟨31, 31, .rw, 0, .w⟩, ⟨30, 30, .rw, 0, .w⟩, ⟨29, 28, .rw, 0, .w⟩, ⟨27, 20, .rw, 3, .w⟩, ⟨18, 18, .rw, 0, .w⟩, ⟨11, 0, .rw, 0, .w⟩], false⟩,
  ⟨0x00602008, [(256, 0x00000010)], [⟨31, 31, .w1c, 0, .w⟩, ⟨30, 29, .ro, 0, .s⟩], false⟩,
  ⟨0x0060200C, [(256, 0x00000010)], [⟨26, 0, .ro, 0, .w⟩], false⟩,
  ⟨0x00604000, [(576, 8)], [⟨31, 0, .rw, 0, .w⟩], false⟩,
  ⟨0x00604004, [(576, 8)], [⟨0, 0, .rw, 0, .w⟩], false⟩]

def rows6_1 : List RegRow := [
  ⟨0x00610000, [(4, 0x00000100)], [⟨31, 0, .ro, 0, .w⟩], true⟩,
  ⟨0x00610004, [(4, 0x00000100)], [⟨31, 0, .ro, 0, .w⟩], true⟩,
  ⟨0x00610008, [(4, 0x00000100)], [⟨31, 0, .ro, 0, .w⟩], true⟩,
  ⟨0x0061000C, [(4, 0x00000100)], [⟨31, 0, .ro, 0, .w⟩], true⟩,
  ⟨0x00610010, [(4, 0x00000100)], [⟨31, 0, .ro, 0, .w⟩], true⟩,
  ⟨0x00610014, [(4, 0x00000100)], [⟨31, 0, .ro, 0, .w⟩], true⟩,
  ⟨0x00610018, [(4, 0x00000100)], [⟨31, 0, .ro, 0, .w⟩], true⟩,
  ⟨0x0061001C, [(4, 0x00000100)], [⟨31, 0, .ro, 0, .w⟩], true⟩,
  ⟨0x00610020, [(4, 0x00000100)], [⟨31, 0, .ro, 0, .w⟩], true⟩,
  ⟨0x00610024, [(4, 0x00000100)], [⟨31, 0, .ro, 0, .w⟩], true⟩,
  ⟨0x00610028, [(4, 0x00000100)], [⟨31, 0, .ro, 0, .w⟩], true⟩,
  ⟨0x0061002C, [(4, 0x00000100)], [⟨31, 0, .ro, 0, .w⟩], true⟩,
  ⟨0x00610030, [(4, 0x00000100)], [⟨31, 0, .ro, 0, .w⟩], true⟩,
  ⟨0x00610034, [(4, 0x00000100)], [⟨31, 0, .ro, 0, .w⟩], true⟩,
  ⟨0x00610038, [(4, 0x00000100)], [⟨31, 0, .ro, 0, .w⟩], true⟩,
  ⟨0x0061003C, [(4, 0x00000100)], [⟨31, 0, .ro, 0, .w⟩], true⟩,
  ⟨0x00610040, [(4, 0x00000100)], [⟨31, 0, .ro, 0, .w⟩], true⟩,
  ⟨0x00610044, [(4, 0x00000100)], [⟨31, 0, .ro, 0, .w⟩], true⟩,
  ⟨0x00610048, [(4, 0x00000100)], [⟨31, 0, .ro, 0, .w⟩], true⟩,
  ⟨0x0061004C, [(4, 0x00000100)], [⟨31, 0, .ro, 0, .w⟩], true⟩,
  ⟨0x00610050, [(4, 0x00000100)], [⟨31, 0, .ro, 0, .w⟩], true⟩,
  ⟨0x00610054, [(4, 0x00000100)], [⟨31, 0, .ro, 0, .w⟩], true⟩,
  ⟨0x00610058, [(4, 0x00000100)], [⟨31, 0, .ro, 0, .w⟩], true⟩,
  ⟨0x0061005C, [(4, 0x00000100)], [⟨31, 0, .ro, 0, .w⟩], true⟩]

def rows6_2 : List RegRow := [
  ⟨0x00610060, [(4, 0x00000100)], [⟨31, 0, .ro, 0, .w⟩], true⟩,
  ⟨0x00610064, [(4, 0x00000100)], [⟨31, 0, .ro, 0, .w⟩], true⟩,
  ⟨0x00610068, [(4, 0x00000100)], [⟨31, 0, .ro, 0, .w⟩], true⟩,
  ⟨0x0061006C, [(4, 0x00000100)], [⟨31, 0, .ro, 0, .w⟩], true⟩,
  ⟨0x00610070, [(4, 0x00000100)], [⟨31, 0, .ro, 0, .w⟩], true⟩,
  ⟨0x00610074, [(4, 0x00000100)], [⟨31, 0, .ro, 0, .w⟩], true⟩,
  ⟨0x00610078, [(4, 0x00000100)], [⟨31, 0, .ro, 0, .w⟩], true⟩,
  ⟨0x0061007C, [(4, 0x00000100)], [⟨31, 0, .ro, 0, .w⟩], true⟩,
  ⟨0x00610080, [(4, 0x00000100)], [⟨31, 0, .ro, 0, .w⟩], true⟩,
  ⟨0x00610084, [(4, 0x00000100)], [⟨31, 0, .ro, 0, .w⟩], true⟩,
  ⟨0x00610088, [(4, 0x00000100)], [⟨31, 0, .ro, 0, .w⟩], true⟩,
  ⟨0x0061008C, [(4, 0x00000100)], [⟨31, 0, .ro, 0, .w⟩], true⟩,
  ⟨0x00610090, [(4, 0x00000100)], [⟨31, 0, .ro, 0, .w⟩], true⟩,
  ⟨0x00610094, [(4, 0x00000100)], [⟨31, 0, .ro, 0, .w⟩], true⟩]

/-- The registers of block 6, TBL. -/
def rows6 : List RegRow := rows6_0 ++ rows6_1 ++ rows6_2

def rows7_0 : List RegRow := [
  ⟨0x00700000, [], [⟨21, 0, .rw, 65536, .w⟩], false⟩,
  ⟨0x00700004, [], [⟨21, 0, .rw, 131072, .w⟩], false⟩,
  ⟨0x00700008, [], [⟨31, 31, .ro, 0, .s⟩, ⟨30, 30, .ro, 0, .s⟩, ⟨29, 29, .w1c, 0, .w⟩], false⟩,
  ⟨0x0070000C, [], [⟨21, 0, .ro, 2097152, .s⟩], false⟩,
  ⟨0x00700010, [], [⟨21, 0, .ro, 65536, .s⟩], false⟩,
  ⟨0x00700014, [], [⟨21, 0, .ro, 0, .w⟩], false⟩,
  ⟨0x00700018, [], [⟨21, 0, .ro, 0, .s⟩], false⟩,
  ⟨0x00700020, [], [⟨31, 0, .rw, 0, .w⟩], false⟩,
  ⟨0x00700040, [(16, 4)], [⟨31, 0, .ro, 0, .s⟩], false⟩,
  ⟨0x00700100, [], [⟨31, 0, .ro, 0, .w⟩], true⟩,
  ⟨0x00700104, [], [⟨31, 0, .ro, 0, .w⟩], true⟩,
  ⟨0x00700108, [], [⟨31, 0, .ro, 0, .w⟩], true⟩,
  ⟨0x0070010C, [], [⟨31, 0, .ro, 0, .w⟩], true⟩,
  ⟨0x00700110, [], [⟨31, 0, .ro, 0, .w⟩], true⟩,
  ⟨0x00700114, [], [⟨31, 0, .ro, 0, .w⟩], true⟩,
  ⟨0x00700118, [], [⟨31, 0, .ro, 0, .w⟩], true⟩,
  ⟨0x0070011C, [], [⟨31, 0, .ro, 0, .w⟩], true⟩,
  ⟨0x00700120, [], [⟨31, 0, .ro, 0, .w⟩], true⟩,
  ⟨0x00700124, [], [⟨31, 0, .ro, 0, .w⟩], true⟩,
  ⟨0x00700128, [], [⟨31, 0, .ro, 0, .w⟩], true⟩,
  ⟨0x0070012C, [], [⟨31, 0, .ro, 0, .w⟩], true⟩,
  ⟨0x00700130, [], [⟨31, 0, .ro, 0, .w⟩], true⟩,
  ⟨0x00700134, [], [⟨31, 0, .ro, 0, .w⟩], true⟩,
  ⟨0x00700138, [], [⟨31, 0, .ro, 0, .w⟩], true⟩]

def rows7_1 : List RegRow := [
  ⟨0x0070013C, [], [⟨31, 0, .ro, 0, .w⟩], true⟩,
  ⟨0x00700140, [], [⟨31, 0, .ro, 0, .w⟩], true⟩,
  ⟨0x00700144, [], [⟨31, 0, .ro, 0, .w⟩], true⟩,
  ⟨0x00700148, [], [⟨31, 0, .ro, 0, .w⟩], true⟩,
  ⟨0x0070014C, [], [⟨31, 0, .ro, 0, .w⟩], true⟩,
  ⟨0x00700150, [], [⟨31, 0, .ro, 0, .w⟩], true⟩,
  ⟨0x00700154, [], [⟨31, 0, .ro, 0, .w⟩], true⟩,
  ⟨0x00700158, [], [⟨31, 0, .ro, 0, .w⟩], true⟩,
  ⟨0x0070015C, [], [⟨31, 0, .ro, 0, .w⟩], true⟩,
  ⟨0x00700160, [], [⟨31, 0, .ro, 0, .w⟩], true⟩,
  ⟨0x00700164, [], [⟨31, 0, .ro, 0, .w⟩], true⟩,
  ⟨0x00701000, [(64, 8)], [⟨31, 31, .rw, 1, .w⟩, ⟨30, 30, .rw, 0, .w⟩, ⟨21, 0, .rw, 2097152, .w⟩], false⟩,
  ⟨0x00701004, [(64, 8)], [⟨21, 0, .ro, 0, .s⟩], false⟩,
  ⟨0x00710000, [(4096, 0x00000010)], [⟨21, 0, .ro, 0, .s⟩], false⟩,
  ⟨0x00710004, [(4096, 0x00000010)], [⟨21, 0, .ro, 0, .s⟩], false⟩,
  ⟨0x00710008, [(4096, 0x00000010)], [⟨31, 0, .ro, 0, .w⟩], true⟩,
  ⟨0x0071000C, [(4096, 0x00000010)], [⟨31, 0, .ro, 0, .w⟩], true⟩]

/-- The registers of block 7, CELL. -/
def rows7 : List RegRow := rows7_0 ++ rows7_1

def rows8_0 : List RegRow := [
  ⟨0x00800000, [], [⟨31, 16, .rw, 8192, .w⟩, ⟨15, 0, .rw, 4096, .w⟩], false⟩,
  ⟨0x00800010, [], [⟨31, 31, .w1s, 0, .w⟩, ⟨30, 30, .w1c, 0, .w⟩, ⟨29, 27, .ro, 0, .w⟩, ⟨26, 26, .rw, 0, .w⟩, ⟨25, 25, .rw, 0, .w⟩, ⟨24, 24, .rw, 0, .w⟩, ⟨22, 20, .rw, 0, .w⟩, ⟨19, 0, .rw, 0, .w⟩], false⟩,
  ⟨0x00800040, [(24, 4)], [⟨31, 0, .rw, 0, .w⟩], false⟩,
  ⟨0x00800100, [], [⟨31, 0, .ro, 0, .w⟩], true⟩,
  ⟨0x00800104, [], [⟨31, 0, .ro, 0, .w⟩], true⟩,
  ⟨0x00800108, [], [⟨31, 0, .ro, 0, .w⟩], true⟩,
  ⟨0x0080010C, [], [⟨31, 0, .ro, 0, .w⟩], true⟩,
  ⟨0x00800110, [], [⟨31, 0, .ro, 0, .w⟩], true⟩,
  ⟨0x00800114, [], [⟨31, 0, .ro, 0, .w⟩], true⟩,
  ⟨0x00800118, [], [⟨31, 0, .ro, 0, .w⟩], true⟩,
  ⟨0x0080011C, [], [⟨31, 0, .ro, 0, .w⟩], true⟩,
  ⟨0x00800120, [], [⟨31, 0, .ro, 0, .w⟩], true⟩,
  ⟨0x00800124, [], [⟨31, 0, .ro, 0, .w⟩], true⟩,
  ⟨0x00800128, [], [⟨31, 0, .ro, 0, .w⟩], true⟩,
  ⟨0x0080012C, [], [⟨31, 0, .ro, 0, .w⟩], true⟩,
  ⟨0x00800130, [], [⟨31, 0, .ro, 0, .w⟩], true⟩,
  ⟨0x00800134, [], [⟨31, 0, .ro, 0, .w⟩], true⟩,
  ⟨0x00800138, [], [⟨31, 0, .ro, 0, .w⟩], true⟩,
  ⟨0x0080013C, [], [⟨31, 0, .ro, 0, .w⟩], true⟩,
  ⟨0x00800140, [], [⟨31, 0, .ro, 0, .w⟩], true⟩,
  ⟨0x00800144, [], [⟨31, 0, .ro, 0, .w⟩], true⟩,
  ⟨0x00800148, [], [⟨31, 0, .ro, 0, .w⟩], true⟩,
  ⟨0x0080014C, [], [⟨31, 0, .ro, 0, .w⟩], true⟩,
  ⟨0x00800150, [], [⟨31, 0, .ro, 0, .w⟩], true⟩]

def rows8_1 : List RegRow := [
  ⟨0x00800154, [], [⟨31, 0, .ro, 0, .w⟩], true⟩,
  ⟨0x00800158, [], [⟨31, 0, .ro, 0, .w⟩], true⟩,
  ⟨0x0080015C, [], [⟨31, 0, .ro, 0, .w⟩], true⟩,
  ⟨0x00800160, [], [⟨31, 0, .ro, 0, .w⟩], true⟩,
  ⟨0x00800164, [], [⟨31, 0, .ro, 0, .w⟩], true⟩,
  ⟨0x00800168, [], [⟨31, 0, .ro, 0, .w⟩], true⟩,
  ⟨0x0080016C, [], [⟨31, 0, .ro, 0, .w⟩], true⟩,
  ⟨0x00801000, [(512, 8)], [⟨31, 12, .ro, 100000, .w⟩, ⟨9, 9, .rw, 1, .w⟩, ⟨8, 8, .rw, 0, .w⟩, ⟨7, 0, .rw, 24, .w⟩], false⟩,
  ⟨0x00802000, [(64, 8)], [⟨31, 12, .rw, 458000, .w⟩, ⟨9, 9, .rw, 1, .w⟩, ⟨8, 8, .rw, 0, .w⟩, ⟨7, 0, .rw, 24, .w⟩], false⟩,
  ⟨0x00801004, [(576, 8)], [⟨31, 24, .ro, 0, .w⟩, ⟨23, 23, .w1c, 0, .w⟩, ⟨22, 21, .ro, 0, .w⟩, ⟨19, 0, .ro, 0, .w⟩], false⟩,
  ⟨0x00804000, [(576, 0x00000010)], [⟨31, 0, .ro, 0, .w⟩], true⟩,
  ⟨0x00804004, [(576, 0x00000010)], [⟨31, 0, .ro, 0, .w⟩], true⟩,
  ⟨0x00804008, [(576, 0x00000010)], [⟨31, 0, .ro, 0, .w⟩], true⟩,
  ⟨0x0080400C, [(576, 0x00000010)], [⟨31, 0, .ro, 0, .w⟩], true⟩,
  ⟨0x00808000, [(64, 8)], [⟨31, 0, .ro, 0, .w⟩], true⟩,
  ⟨0x00808004, [(64, 8)], [⟨31, 0, .ro, 0, .w⟩], true⟩]

/-- The registers of block 8, TM. -/
def rows8 : List RegRow := rows8_0 ++ rows8_1

def rows9_0 : List RegRow := [
  ⟨0x00900000, [], [⟨31, 20, .rw, 100, .w⟩, ⟨17, 17, .rw, 0, .w⟩, ⟨16, 16, .rw, 0, .w⟩, ⟨15, 0, .rw, 47360, .w⟩], false⟩,
  ⟨0x00900004, [], [⟨31, 31, .w1c, 0, .w⟩, ⟨20, 0, .ro, 0, .w⟩], false⟩,
  ⟨0x00900008, [], [⟨31, 16, .ro, 0, .w⟩, ⟨15, 0, .ro, 32768, .s⟩], false⟩,
  ⟨0x00900010, [], [⟨31, 16, .rw, 1000, .w⟩, ⟨15, 0, .rw, 50, .w⟩], false⟩,
  ⟨0x00900014, [], [⟨31, 20, .rw, 100, .w⟩, ⟨19, 0, .rw, 100000, .w⟩], false⟩,
  ⟨0x00900018, [], [⟨31, 31, .rw, 1, .w⟩, ⟨30, 30, .rw, 1, .w⟩, ⟨27, 24, .rw, 15, .w⟩, ⟨23, 16, .rw, 16, .w⟩, ⟨15, 0, .rw, 256, .w⟩], false⟩,
  ⟨0x0090001C, [], [⟨15, 0, .rw, 1024, .w⟩], false⟩,
  ⟨0x00900020, [], [⟨31, 24, .rw, 8, .w⟩, ⟨15, 0, .rw, 1000, .w⟩], false⟩,
  ⟨0x00900024, [], [⟨31, 24, .rw, 2, .w⟩, ⟨23, 16, .rw, 3, .w⟩, ⟨15, 0, .rw, 10, .w⟩], false⟩,
  ⟨0x00900028, [], [⟨16, 16, .rw, 1, .w⟩, ⟨15, 8, .rw, 50, .w⟩, ⟨4, 0, .rw, 14, .w⟩], false⟩,
  ⟨0x00900100, [(64, 0x00000020), (4, 4)], [⟨31, 0, .rw, 0, .w⟩], false⟩,
  ⟨0x00900110, [(64, 0x00000020)], [⟨31, 31, .rw, 0, .w⟩, ⟨30, 30, .rw, 0, .w⟩, ⟨29, 29, .w1c, 0, .w⟩, ⟨11, 0, .rw, 0, .w⟩], false⟩,
  ⟨0x00901000, [], [⟨31, 31, .w1s, 0, .w⟩, ⟨19, 0, .rw, 0, .w⟩], false⟩,
  ⟨0x00901100, [(64, 4)], [⟨31, 0, .ro, 0, .s⟩], false⟩,
  ⟨0x00901200, [], [⟨31, 31, .w1s, 0, .w⟩, ⟨21, 0, .rw, 0, .w⟩], false⟩,
  ⟨0x00901240, [(16, 4)], [⟨31, 0, .ro, 0, .s⟩], false⟩,
  ⟨0x00902000, [], [⟨31, 0, .ro, 0, .w⟩], true⟩,
  ⟨0x00902004, [], [⟨31, 0, .ro, 0, .w⟩], true⟩,
  ⟨0x00902008, [], [⟨31, 0, .ro, 0, .w⟩], true⟩,
  ⟨0x0090200C, [], [⟨31, 0, .ro, 0, .w⟩], true⟩,
  ⟨0x00902010, [], [⟨31, 0, .ro, 0, .w⟩], true⟩,
  ⟨0x00902014, [], [⟨31, 0, .ro, 0, .w⟩], true⟩,
  ⟨0x00902018, [], [⟨31, 0, .ro, 0, .w⟩], true⟩,
  ⟨0x0090201C, [], [⟨31, 0, .ro, 0, .w⟩], true⟩]

def rows9_1 : List RegRow := [
  ⟨0x00902020, [], [⟨31, 0, .ro, 0, .w⟩], true⟩,
  ⟨0x00902024, [], [⟨31, 0, .ro, 0, .w⟩], true⟩,
  ⟨0x00902028, [], [⟨31, 0, .ro, 0, .w⟩], true⟩,
  ⟨0x0090202C, [], [⟨31, 0, .ro, 0, .w⟩], true⟩,
  ⟨0x00902030, [], [⟨31, 0, .ro, 0, .w⟩], true⟩,
  ⟨0x00902034, [], [⟨31, 0, .ro, 0, .w⟩], true⟩,
  ⟨0x00902038, [], [⟨31, 0, .ro, 0, .w⟩], true⟩,
  ⟨0x0090203C, [], [⟨31, 0, .ro, 0, .w⟩], true⟩,
  ⟨0x00902040, [], [⟨31, 0, .ro, 0, .w⟩], true⟩,
  ⟨0x00902044, [], [⟨31, 0, .ro, 0, .w⟩], true⟩,
  ⟨0x00902048, [], [⟨31, 0, .ro, 0, .w⟩], true⟩,
  ⟨0x0090204C, [], [⟨31, 0, .ro, 0, .w⟩], true⟩,
  ⟨0x00902100, [], [⟨31, 0, .ro, 0, .w⟩], true⟩,
  ⟨0x00902104, [], [⟨31, 0, .ro, 0, .w⟩], true⟩,
  ⟨0x00902108, [], [⟨31, 0, .ro, 0, .w⟩], true⟩,
  ⟨0x0090210C, [], [⟨31, 0, .ro, 0, .w⟩], true⟩,
  ⟨0x00902110, [], [⟨31, 0, .ro, 0, .w⟩], true⟩,
  ⟨0x00902114, [], [⟨31, 0, .ro, 0, .w⟩], true⟩,
  ⟨0x00902118, [], [⟨31, 0, .ro, 0, .w⟩], true⟩,
  ⟨0x0090211C, [], [⟨31, 0, .ro, 0, .w⟩], true⟩,
  ⟨0x00902120, [], [⟨31, 0, .ro, 0, .w⟩], true⟩,
  ⟨0x00902124, [], [⟨31, 0, .ro, 0, .w⟩], true⟩,
  ⟨0x00902128, [], [⟨31, 0, .ro, 0, .w⟩], true⟩,
  ⟨0x0090212C, [], [⟨31, 0, .ro, 0, .w⟩], true⟩]

def rows9_2 : List RegRow := [
  ⟨0x00902130, [], [⟨31, 0, .ro, 0, .w⟩], true⟩,
  ⟨0x00902134, [], [⟨31, 0, .ro, 0, .w⟩], true⟩,
  ⟨0x00902138, [], [⟨31, 0, .ro, 0, .w⟩], true⟩,
  ⟨0x0090213C, [], [⟨31, 0, .ro, 0, .w⟩], true⟩,
  ⟨0x00902140, [], [⟨31, 0, .ro, 0, .w⟩], true⟩,
  ⟨0x00902144, [], [⟨31, 0, .ro, 0, .w⟩], true⟩,
  ⟨0x00902148, [], [⟨31, 0, .ro, 0, .w⟩], true⟩,
  ⟨0x0090214C, [], [⟨31, 0, .ro, 0, .w⟩], true⟩,
  ⟨0x00902150, [], [⟨31, 0, .ro, 0, .w⟩], true⟩,
  ⟨0x00902154, [], [⟨31, 0, .ro, 0, .w⟩], true⟩,
  ⟨0x00902158, [], [⟨31, 0, .ro, 0, .w⟩], true⟩,
  ⟨0x0090215C, [], [⟨31, 0, .ro, 0, .w⟩], true⟩,
  ⟨0x00902160, [], [⟨31, 0, .ro, 0, .w⟩], true⟩,
  ⟨0x00902164, [], [⟨31, 0, .ro, 0, .w⟩], true⟩,
  ⟨0x00902168, [], [⟨31, 0, .ro, 0, .w⟩], true⟩,
  ⟨0x0090216C, [], [⟨31, 0, .ro, 0, .w⟩], true⟩,
  ⟨0x00902170, [], [⟨31, 0, .ro, 0, .w⟩], true⟩,
  ⟨0x00902174, [], [⟨31, 0, .ro, 0, .w⟩], true⟩,
  ⟨0x00902178, [], [⟨31, 0, .ro, 0, .w⟩], true⟩,
  ⟨0x0090217C, [], [⟨31, 0, .ro, 0, .w⟩], true⟩,
  ⟨0x00902180, [], [⟨31, 0, .ro, 0, .w⟩], true⟩,
  ⟨0x00902184, [], [⟨31, 0, .ro, 0, .w⟩], true⟩,
  ⟨0x00902188, [], [⟨31, 0, .ro, 0, .w⟩], true⟩,
  ⟨0x0090218C, [], [⟨31, 0, .ro, 0, .w⟩], true⟩]

def rows9_3 : List RegRow := [
  ⟨0x00902190, [], [⟨31, 0, .ro, 0, .w⟩], true⟩,
  ⟨0x00902194, [], [⟨31, 0, .ro, 0, .w⟩], true⟩,
  ⟨0x00902198, [], [⟨31, 0, .ro, 0, .w⟩], true⟩,
  ⟨0x0090219C, [], [⟨31, 0, .ro, 0, .w⟩], true⟩,
  ⟨0x00910000, [(4096, 0x00000010)], [⟨31, 0, .ro, 0, .w⟩], true⟩,
  ⟨0x00910004, [(4096, 0x00000010)], [⟨31, 0, .ro, 0, .w⟩], true⟩,
  ⟨0x00910008, [(4096, 0x00000010)], [⟨31, 0, .ro, 0, .w⟩], true⟩,
  ⟨0x0091000C, [(4096, 0x00000010)], [⟨31, 0, .ro, 0, .w⟩], true⟩]

/-- The registers of block 9, XPT. -/
def rows9 : List RegRow := rows9_0 ++ rows9_1 ++ rows9_2 ++ rows9_3

def rows10_0 : List RegRow := [
  ⟨0x00A00000, [(24, 0x00000040)], [⟨31, 31, .rw, 1, .w⟩, ⟨23, 0, .rw, 1, .w⟩], false⟩,
  ⟨0x00A00004, [(24, 0x00000040)], [⟨31, 20, .ro, 2400, .s⟩, ⟨15, 0, .ro, 0, .w⟩], false⟩,
  ⟨0x00A00008, [(24, 0x00000040)], [⟨31, 0, .ro, 0, .s⟩], true⟩,
  ⟨0x00A0000C, [(24, 0x00000040)], [⟨31, 0, .ro, 0, .s⟩], true⟩,
  ⟨0x00A01000, [(256, 4)], [⟨31, 31, .rw, 0, .w⟩, ⟨28, 24, .rw, 0, .w⟩, ⟨21, 16, .rw, 0, .w⟩, ⟨4, 0, .rw, 0, .w⟩], false⟩,
  ⟨0x00A02000, [], [⟨10, 0, .rw, 0, .w⟩], false⟩,
  ⟨0x00A02004, [], [⟨31, 31, .w1s, 0, .w⟩, ⟨30, 30, .w1c, 0, .w⟩, ⟨5, 0, .ro, 0, .s⟩], false⟩,
  ⟨0x00A02008, [], [⟨31, 16, .ro, 0, .s⟩, ⟨15, 0, .ro, 0, .s⟩], false⟩,
  ⟨0x00A02040, [(32, 4)], [⟨31, 0, .ro, 0, .s⟩], false⟩,
  ⟨0x00A10000, [(1536, 0x00000020)], [⟨31, 31, .w1s, 0, .b⟩, ⟨30, 30, .w1s, 0, .b⟩, ⟨29, 29, .w1c, 0, .b⟩, ⟨1, 0, .rw, 3, .b⟩], false⟩,
  ⟨0x00A10004, [(1536, 0x00000020)], [⟨31, 29, .ro, 0, .s⟩, ⟨28, 27, .ro, 0, .s⟩, ⟨25, 20, .ro, 0, .s⟩, ⟨13, 8, .ro, 0, .s⟩, ⟨3, 0, .ro, 0, .s⟩], false⟩,
  ⟨0x00A10008, [(1536, 0x00000020)], [⟨31, 0, .rw, 0, .w⟩], true⟩,
  ⟨0x00A1000C, [(1536, 0x00000020)], [⟨31, 0, .rw, 0, .w⟩], true⟩,
  ⟨0x00A10010, [(1536, 0x00000020)], [⟨31, 0, .rw, 0, .w⟩], false⟩,
  ⟨0x00A10014, [(1536, 0x00000020)], [⟨31, 31, .w1c, 0, .b⟩, ⟨6, 0, .rw, 0, .b⟩], false⟩,
  ⟨0x00A20000, [(24, 0x00001000), (8, 0x00000200), (64, 8)], [⟨31, 31, .rw, 0, .b⟩, ⟨27, 24, .rw, 0, .b⟩, ⟨2, 0, .rw, 0, .b⟩], false⟩,
  ⟨0x00A20004, [(24, 0x00001000), (8, 0x00000200), (64, 8)], [⟨22, 16, .ro, 0, .s⟩, ⟨12, 8, .ro, 0, .s⟩, ⟨6, 0, .ro, 0, .s⟩], false⟩,
  ⟨0x00A40000, [(24, 0x00000200), (64, 8)], [⟨31, 31, .rw, 0, .b⟩, ⟨5, 0, .rw, 0, .b⟩], false⟩,
  ⟨0x00A40004, [(24, 0x00000200), (64, 8)], [⟨31, 0, .ro, 0, .s⟩], false⟩,
  ⟨0x00A50000, [(24, 0x00000100)], [⟨31, 0, .ro, 0, .w⟩], true⟩,
  ⟨0x00A50004, [(24, 0x00000100)], [⟨31, 0, .ro, 0, .w⟩], true⟩,
  ⟨0x00A50008, [(24, 0x00000100)], [⟨31, 0, .ro, 0, .w⟩], true⟩,
  ⟨0x00A5000C, [(24, 0x00000100)], [⟨31, 0, .ro, 0, .w⟩], true⟩,
  ⟨0x00A50010, [(24, 0x00000100)], [⟨31, 0, .ro, 0, .w⟩], true⟩]

def rows10_1 : List RegRow := [
  ⟨0x00A50014, [(24, 0x00000100)], [⟨31, 0, .ro, 0, .w⟩], true⟩,
  ⟨0x00A50018, [(24, 0x00000100)], [⟨31, 0, .ro, 0, .w⟩], true⟩,
  ⟨0x00A5001C, [(24, 0x00000100)], [⟨31, 0, .ro, 0, .w⟩], true⟩,
  ⟨0x00A50020, [(24, 0x00000100)], [⟨31, 0, .ro, 0, .w⟩], true⟩,
  ⟨0x00A50024, [(24, 0x00000100)], [⟨31, 0, .ro, 0, .w⟩], true⟩,
  ⟨0x00A50028, [(24, 0x00000100)], [⟨31, 0, .ro, 0, .w⟩], true⟩,
  ⟨0x00A5002C, [(24, 0x00000100)], [⟨31, 0, .ro, 0, .w⟩], true⟩,
  ⟨0x00A50030, [(24, 0x00000100)], [⟨31, 0, .ro, 0, .w⟩], true⟩,
  ⟨0x00A50034, [(24, 0x00000100)], [⟨31, 0, .ro, 0, .w⟩], true⟩,
  ⟨0x00A50038, [(24, 0x00000100)], [⟨31, 0, .ro, 0, .w⟩], true⟩,
  ⟨0x00A5003C, [(24, 0x00000100)], [⟨31, 0, .ro, 0, .w⟩], true⟩,
  ⟨0x00A50040, [(24, 0x00000100)], [⟨31, 0, .ro, 0, .w⟩], true⟩,
  ⟨0x00A50044, [(24, 0x00000100)], [⟨31, 0, .ro, 0, .w⟩], true⟩,
  ⟨0x00A50048, [(24, 0x00000100)], [⟨31, 0, .ro, 0, .w⟩], true⟩,
  ⟨0x00A5004C, [(24, 0x00000100)], [⟨31, 0, .ro, 0, .w⟩], true⟩]

/-- The registers of block 10, CORE. -/
def rows10 : List RegRow := rows10_0 ++ rows10_1

def rows11_0 : List RegRow := [
  ⟨0x00B00000, [], [⟨31, 31, .rw, 0, .w⟩, ⟨10, 0, .rw, 0, .w⟩], false⟩,
  ⟨0x00B00004, [], [⟨31, 31, .ro, 0, .w⟩, ⟨30, 30, .w1c, 0, .w⟩, ⟨12, 0, .ro, 4096, .s⟩], false⟩,
  ⟨0x00B00008, [], [⟨31, 0, .rw, 0, .w⟩], true⟩,
  ⟨0x00B0000C, [], [⟨31, 0, .rw, 0, .w⟩], true⟩,
  ⟨0x00B00010, [], [⟨31, 20, .rw, 100, .w⟩, ⟨15, 0, .rw, 100, .w⟩], false⟩,
  ⟨0x00B00018, [], [⟨19, 0, .rw, 0, .w⟩], false⟩,
  ⟨0x00B0001C, [], [⟨20, 0, .rw, 0, .w⟩], false⟩,
  ⟨0x00B00100, [], [⟨31, 0, .ro, 0, .w⟩], true⟩,
  ⟨0x00B00104, [], [⟨31, 0, .ro, 0, .w⟩], true⟩,
  ⟨0x00B00108, [], [⟨31, 0, .ro, 0, .w⟩], true⟩,
  ⟨0x00B0010C, [], [⟨31, 0, .ro, 0, .w⟩], true⟩,
  ⟨0x00B00110, [], [⟨31, 0, .ro, 0, .w⟩], true⟩,
  ⟨0x00B00114, [], [⟨31, 0, .ro, 0, .w⟩], true⟩,
  ⟨0x00B00118, [], [⟨31, 0, .ro, 0, .w⟩], true⟩,
  ⟨0x00B0011C, [], [⟨31, 0, .ro, 0, .w⟩], true⟩,
  ⟨0x00B00120, [], [⟨31, 0, .ro, 0, .w⟩], true⟩,
  ⟨0x00B00124, [], [⟨31, 0, .ro, 0, .w⟩], true⟩,
  ⟨0x00B00128, [], [⟨31, 0, .ro, 0, .w⟩], true⟩,
  ⟨0x00B0012C, [], [⟨31, 0, .ro, 0, .w⟩], true⟩,
  ⟨0x00B00130, [], [⟨31, 0, .ro, 0, .w⟩], true⟩,
  ⟨0x00B00134, [], [⟨31, 0, .ro, 0, .w⟩], true⟩,
  ⟨0x00B00138, [], [⟨31, 0, .ro, 0, .w⟩], true⟩,
  ⟨0x00B0013C, [], [⟨31, 0, .ro, 0, .w⟩], true⟩,
  ⟨0x00B00140, [], [⟨31, 0, .ro, 0, .w⟩], true⟩]

def rows11_1 : List RegRow := [
  ⟨0x00B00144, [], [⟨31, 0, .ro, 0, .w⟩], true⟩,
  ⟨0x00B00148, [], [⟨31, 0, .ro, 0, .w⟩], true⟩,
  ⟨0x00B0014C, [], [⟨31, 0, .ro, 0, .w⟩], true⟩,
  ⟨0x00B00150, [], [⟨31, 0, .ro, 0, .w⟩], true⟩,
  ⟨0x00B00154, [], [⟨31, 0, .ro, 0, .w⟩], true⟩,
  ⟨0x00B10000, [(4096, 8)], [⟨19, 0, .rw, 0, .w⟩], false⟩,
  ⟨0x00B10004, [(4096, 8)], [⟨20, 0, .rw, 0, .w⟩], false⟩]

/-- The registers of block 11, ACC. -/
def rows11 : List RegRow := rows11_0 ++ rows11_1

def rows12_0 : List RegRow := [
  ⟨0x00C00000, [], [⟨20, 16, .rw, 0, .w⟩, ⟨13, 8, .rw, 0, .w⟩], false⟩,
  ⟨0x00C00004, [], [⟨31, 31, .ro, 0, .s⟩, ⟨16, 16, .w1c, 0, .w⟩, ⟨15, 12, .ro, 0, .w⟩, ⟨11, 8, .ro, 0, .s⟩, ⟨4, 4, .ro, 0, .s⟩], false⟩,
  ⟨0x00C00008, [], [⟨0, 0, .w1s, 0, .w⟩], false⟩,
  ⟨0x00C00010, [], [⟨31, 31, .rw, 1, .w⟩, ⟨29, 16, .rw, 1000, .w⟩, ⟨7, 0, .rw, 24, .w⟩], false⟩,
  ⟨0x00C00014, [], [⟨31, 24, .rw, 24, .w⟩, ⟨23, 16, .rw, 16, .w⟩, ⟨15, 0, .rw, 4096, .w⟩], false⟩,
  ⟨0x00C00018, [], [⟨31, 0, .rw, 0, .s⟩], false⟩,
  ⟨0x00C0001C, [], [⟨31, 31, .w1s, 0, .s⟩, ⟨30, 30, .w1c, 0, .s⟩, ⟨29, 29, .rw, 0, .s⟩, ⟨25, 24, .rw, 1, .s⟩, ⟨15, 0, .rw, 0, .s⟩], false⟩,
  ⟨0x00C00100, [], [⟨31, 0, .ro, 0, .w⟩], true⟩,
  ⟨0x00C00104, [], [⟨31, 0, .ro, 0, .w⟩], true⟩,
  ⟨0x00C00108, [], [⟨31, 0, .ro, 0, .w⟩], true⟩,
  ⟨0x00C0010C, [], [⟨31, 0, .ro, 1, .w⟩], true⟩,
  ⟨0x00C00110, [], [⟨31, 0, .ro, 268435456, .w⟩], true⟩,
  ⟨0x00C00114, [], [⟨31, 0, .ro, 1, .w⟩], true⟩,
  ⟨0x00C00118, [], [⟨31, 0, .ro, 536870912, .w⟩], true⟩,
  ⟨0x00C0011C, [], [⟨31, 0, .ro, 1, .w⟩], true⟩,
  ⟨0x00C00120, [], [⟨31, 0, .ro, 536870912, .w⟩], true⟩,
  ⟨0x00C00124, [], [⟨31, 0, .ro, 1, .w⟩], true⟩,
  ⟨0x00C00128, [], [⟨31, 0, .ro, 536870912, .w⟩], true⟩,
  ⟨0x00C0012C, [], [⟨31, 0, .ro, 1, .w⟩], true⟩,
  ⟨0x00C00130, [], [⟨31, 0, .ro, 4026531840, .w⟩], true⟩,
  ⟨0x00C00134, [], [⟨31, 0, .ro, 23, .w⟩], true⟩,
  ⟨0x00C00200, [(4, 0x00000010), (2, 4)], [⟨31, 31, .ro, 0, .n⟩, ⟨30, 30, .ro, 0, .p⟩, ⟨29, 28, .rw, 0, .p⟩, ⟨27, 27, .w1c, 0, .p⟩, ⟨4, 0, .rw, 0, .p⟩], false⟩,
  ⟨0x00C00300, [], [⟨31, 31, .w1s, 0, .w⟩, ⟨24, 16, .rw, 0, .w⟩, ⟨15, 0, .rw, 0, .w⟩], false⟩,
  ⟨0x00C00304, [], [⟨31, 31, .w1c, 0, .w⟩], false⟩]

def rows12_1 : List RegRow := [
  ⟨0x00C00400, [], [⟨15, 0, .rw, 0, .w⟩], false⟩,
  ⟨0x00C00404, [], [⟨31, 30, .ro, 0, .n⟩, ⟨27, 24, .ro, 0, .n⟩, ⟨19, 16, .ro, 0, .p⟩, ⟨15, 0, .ro, 0, .w⟩], false⟩,
  ⟨0x00C00500, [], [⟨31, 16, .ro, 0, .w⟩, ⟨5, 0, .rw, 0, .w⟩], false⟩,
  ⟨0x00C00510, [(8, 4)], [⟨31, 0, .ro, 0, .w⟩], false⟩,
  ⟨0x00C00600, [], [⟨31, 0, .ro, 0, .w⟩], true⟩,
  ⟨0x00C00604, [], [⟨31, 0, .ro, 0, .w⟩], true⟩,
  ⟨0x00C01000, [(4, 0x00000040)], [⟨31, 0, .ro, 0, .w⟩], true⟩,
  ⟨0x00C01004, [(4, 0x00000040)], [⟨31, 0, .ro, 0, .w⟩], true⟩,
  ⟨0x00C01008, [(4, 0x00000040)], [⟨31, 0, .ro, 0, .w⟩], true⟩,
  ⟨0x00C0100C, [(4, 0x00000040)], [⟨31, 0, .ro, 0, .w⟩], true⟩,
  ⟨0x00C01010, [(4, 0x00000040)], [⟨31, 0, .ro, 0, .w⟩], true⟩,
  ⟨0x00C01014, [(4, 0x00000040)], [⟨31, 0, .ro, 0, .w⟩], true⟩,
  ⟨0x00C01018, [(4, 0x00000040)], [⟨31, 0, .ro, 0, .w⟩], true⟩,
  ⟨0x00C0101C, [(4, 0x00000040)], [⟨31, 0, .ro, 0, .w⟩], true⟩,
  ⟨0x00C02010, [(7, 0x00000010)], [⟨31, 0, .ro, 0, .w⟩], true⟩,
  ⟨0x00C02014, [(7, 0x00000010)], [⟨31, 0, .ro, 0, .w⟩], true⟩,
  ⟨0x00C02018, [(7, 0x00000010)], [⟨31, 0, .ro, 0, .w⟩], true⟩,
  ⟨0x00C0201C, [(7, 0x00000010)], [⟨31, 0, .ro, 0, .w⟩], true⟩,
  ⟨0x00C03000, [(4, 0x00000100), (34, 4)], [⟨31, 0, .ro, 0, .w⟩], false⟩,
  ⟨0x00C10000, [(24, 0x00000400), (65, 8)], [⟨31, 0, .ro, 0, .w⟩], true⟩,
  ⟨0x00C10004, [(24, 0x00000400), (65, 8)], [⟨31, 0, .ro, 0, .w⟩], true⟩]

/-- The registers of block 12, MEM. -/
def rows12 : List RegRow := rows12_0 ++ rows12_1

def rows13_0 : List RegRow := [
  ⟨0x00D00000, [], [⟨31, 31, .rw, 0, .w⟩, ⟨23, 16, .rw, 64, .w⟩, ⟨15, 12, .rw, 4, .w⟩, ⟨9, 0, .rw, 100, .w⟩], false⟩,
  ⟨0x00D00004, [], [⟨31, 31, .rw, 0, .w⟩, ⟨30, 30, .w1c, 0, .w⟩, ⟨15, 0, .rw, 0, .w⟩], false⟩,
  ⟨0x00D00008, [], [⟨7, 0, .ro, 0, .s⟩], false⟩,
  ⟨0x00D00010, [], [⟨31, 31, .rw, 0, .w⟩, ⟨30, 30, .rw, 0, .w⟩, ⟨23, 16, .rw, 128, .w⟩, ⟨15, 0, .rw, 0, .w⟩], false⟩,
  ⟨0x00D00014, [], [⟨31, 30, .ro, 0, .s⟩, ⟨26, 24, .ro, 0, .s⟩, ⟨19, 16, .ro, 0, .s⟩, ⟨15, 0, .ro, 0, .s⟩], false⟩,
  ⟨0x00D00020, [(8, 4)], [⟨31, 31, .ro, 0, .s⟩, ⟨26, 24, .ro, 0, .s⟩, ⟨15, 0, .ro, 0, .s⟩], false⟩,
  ⟨0x00D00040, [], [⟨31, 31, .rw, 1, .w⟩, ⟨30, 30, .rw, 0, .w⟩, ⟨26, 24, .rw, 0, .w⟩, ⟨18, 16, .rw, 0, .w⟩, ⟨15, 0, .rw, 20, .w⟩], false⟩,
  ⟨0x00D00044, [], [⟨31, 31, .ro, 0, .s⟩, ⟨30, 30, .ro, 0, .s⟩, ⟨29, 29, .ro, 0, .s⟩, ⟨23, 16, .ro, 0, .s⟩, ⟨15, 0, .ro, 0, .s⟩], false⟩,
  ⟨0x00D00080, [], [⟨31, 31, .w1s, 0, .w⟩, ⟨30, 30, .rw, 0, .w⟩, ⟨29, 29, .rw, 0, .w⟩, ⟨28, 28, .rw, 0, .w⟩, ⟨23, 16, .ro, 0, .w⟩, ⟨15, 0, .rw, 0, .w⟩], false⟩,
  ⟨0x00D00088, [], [⟨31, 0, .rw, 0, .w⟩], true⟩,
  ⟨0x00D0008C, [], [⟨7, 0, .rw, 0, .w⟩], true⟩,
  ⟨0x00D00090, [], [⟨31, 0, .rw, 0, .w⟩], true⟩,
  ⟨0x00D00094, [], [⟨31, 0, .rw, 0, .w⟩], true⟩,
  ⟨0x00D00100, [(8, 0x00000020)], [⟨31, 31, .rw, 0, .b⟩, ⟨30, 30, .rw, 1, .b⟩], false⟩,
  ⟨0x00D00104, [(8, 0x00000020)], [⟨31, 29, .ro, 0, .s⟩, ⟨27, 24, .ro, 0, .w⟩, ⟨18, 16, .ro, 0, .s⟩, ⟨15, 0, .ro, 0, .s⟩], false⟩,
  ⟨0x00D00108, [(8, 0x00000020)], [⟨19, 0, .rw, 0, .w⟩], false⟩,
  ⟨0x00D0010C, [(8, 0x00000020)], [⟨19, 0, .rw, 0, .w⟩], false⟩,
  ⟨0x00D00110, [(8, 0x00000020)], [⟨8, 8, .rw, 0, .w⟩, ⟨7, 0, .rw, 0, .w⟩], false⟩,
  ⟨0x00D00114, [(8, 0x00000020)], [⟨15, 0, .rw, 0, .w⟩], false⟩,
  ⟨0x00D00300, [], [⟨7, 0, .rw, 0, .w⟩], false⟩,
  ⟨0x00D01000, [], [⟨31, 0, .ro, 0, .w⟩], true⟩,
  ⟨0x00D01004, [], [⟨31, 0, .ro, 0, .w⟩], true⟩,
  ⟨0x00D01008, [], [⟨31, 0, .ro, 0, .w⟩], true⟩,
  ⟨0x00D0100C, [], [⟨31, 0, .ro, 0, .w⟩], true⟩]

def rows13_1 : List RegRow := [
  ⟨0x00D01010, [], [⟨31, 0, .ro, 0, .w⟩], true⟩,
  ⟨0x00D01014, [], [⟨31, 0, .ro, 0, .w⟩], true⟩,
  ⟨0x00D01018, [], [⟨31, 0, .ro, 0, .w⟩], true⟩,
  ⟨0x00D0101C, [], [⟨31, 0, .ro, 0, .w⟩], true⟩,
  ⟨0x00D01020, [], [⟨31, 0, .ro, 0, .w⟩], true⟩,
  ⟨0x00D01024, [], [⟨31, 0, .ro, 0, .w⟩], true⟩,
  ⟨0x00D01028, [], [⟨31, 0, .ro, 0, .w⟩], true⟩,
  ⟨0x00D0102C, [], [⟨31, 0, .ro, 0, .w⟩], true⟩,
  ⟨0x00D02000, [(8, 0x00000100)], [⟨31, 0, .ro, 0, .w⟩], true⟩,
  ⟨0x00D02004, [(8, 0x00000100)], [⟨31, 0, .ro, 0, .w⟩], true⟩,
  ⟨0x00D02008, [(8, 0x00000100)], [⟨31, 0, .ro, 0, .w⟩], true⟩,
  ⟨0x00D0200C, [(8, 0x00000100)], [⟨31, 0, .ro, 0, .w⟩], true⟩,
  ⟨0x00D02010, [(8, 0x00000100)], [⟨31, 0, .ro, 0, .w⟩], true⟩,
  ⟨0x00D02014, [(8, 0x00000100)], [⟨31, 0, .ro, 0, .w⟩], true⟩,
  ⟨0x00D02018, [(8, 0x00000100)], [⟨31, 0, .ro, 0, .w⟩], true⟩,
  ⟨0x00D0201C, [(8, 0x00000100)], [⟨31, 0, .ro, 0, .w⟩], true⟩,
  ⟨0x00D02020, [(8, 0x00000100)], [⟨31, 0, .ro, 0, .w⟩], true⟩,
  ⟨0x00D02024, [(8, 0x00000100)], [⟨31, 0, .ro, 0, .w⟩], true⟩,
  ⟨0x00D02028, [(8, 0x00000100)], [⟨31, 0, .ro, 0, .w⟩], true⟩,
  ⟨0x00D0202C, [(8, 0x00000100)], [⟨31, 0, .ro, 0, .w⟩], true⟩,
  ⟨0x00D02030, [(8, 0x00000100)], [⟨31, 0, .ro, 0, .w⟩], true⟩,
  ⟨0x00D02034, [(8, 0x00000100)], [⟨31, 0, .ro, 0, .w⟩], true⟩,
  ⟨0x00D02038, [(8, 0x00000100)], [⟨31, 0, .ro, 0, .w⟩], true⟩,
  ⟨0x00D0203C, [(8, 0x00000100)], [⟨31, 0, .ro, 0, .w⟩], true⟩]

def rows13_2 : List RegRow := [
  ⟨0x00D02040, [(8, 0x00000100)], [⟨31, 0, .ro, 0, .w⟩], true⟩,
  ⟨0x00D02044, [(8, 0x00000100)], [⟨31, 0, .ro, 0, .w⟩], true⟩,
  ⟨0x00D02048, [(8, 0x00000100)], [⟨31, 0, .ro, 0, .w⟩], true⟩,
  ⟨0x00D0204C, [(8, 0x00000100)], [⟨31, 0, .ro, 0, .w⟩], true⟩,
  ⟨0x00D40000, [(65536, 4)], [⟨31, 31, .rw, 0, .w⟩, ⟨30, 30, .rw, 0, .w⟩, ⟨29, 29, .ro, 0, .s⟩, ⟨23, 23, .rw, 0, .w⟩, ⟨18, 16, .rw, 0, .w⟩, ⟨2, 0, .rw, 0, .w⟩], false⟩]

/-- The registers of block 13, CAS. -/
def rows13 : List RegRow := rows13_0 ++ rows13_1 ++ rows13_2

def rows14_0 : List RegRow := [
  ⟨0x00E00000, [], [⟨31, 31, .rw, 1, .w⟩, ⟨10, 0, .rw, 1000, .w⟩], false⟩,
  ⟨0x00E00004, [], [⟨31, 31, .w1s, 0, .w⟩, ⟨30, 30, .w1c, 0, .w⟩, ⟨29, 27, .ro, 0, .w⟩, ⟨2, 0, .rw, 0, .w⟩], false⟩,
  ⟨0x00E00008, [], [⟨31, 29, .ro, 0, .s⟩, ⟨28, 28, .ro, 0, .s⟩, ⟨27, 24, .ro, 0, .s⟩, ⟨23, 23, .ro, 0, .s⟩, ⟨22, 22, .ro, 0, .w⟩, ⟨19, 16, .ro, 0, .w⟩, ⟨15, 15, .w1c, 0, .p⟩, ⟨14, 8, .ro, 0, .p⟩], false⟩,
  ⟨0x00E0000C, [], [⟨6, 0, .rw, 63, .w⟩], false⟩,
  ⟨0x00E00010, [], [⟨7, 0, .w1c, 0, .w⟩], false⟩,
  ⟨0x00E00014, [], [⟨31, 31, .rw, 1, .w⟩, ⟨30, 30, .rw, 1, .w⟩], false⟩,
  ⟨0x00E00018, [], [⟨31, 0, .rw, 0, .w⟩], true⟩,
  ⟨0x00E0001C, [], [⟨31, 0, .rw, 0, .w⟩], true⟩,
  ⟨0x00E00020, [(8, 4)], [⟨31, 0, .wo, 0, .w⟩], false⟩,
  ⟨0x00E00040, [], [⟨31, 0, .ro, 0, .w⟩], true⟩,
  ⟨0x00E00044, [], [⟨31, 0, .ro, 0, .w⟩], true⟩,
  ⟨0x00E00050, [], [⟨31, 31, .ro, 1, .w⟩, ⟨30, 30, .ro, 1, .w⟩, ⟨9, 0, .ro, 0, .w⟩], false⟩,
  ⟨0x00E00100, [(12, 4)], [⟨31, 31, .rw, 1, .p⟩, ⟨30, 30, .rw, 0, .p⟩, ⟨29, 29, .rw, 1, .p⟩, ⟨25, 24, .rw, 0, .p⟩, ⟨15, 0, .rw, 1000, .p⟩], false⟩,
  ⟨0x00E00140, [], [⟨27, 16, .ro, 0, .s⟩, ⟨11, 0, .ro, 4095, .s⟩], false⟩,
  ⟨0x00E01000, [(128, 4)], [⟨31, 30, .ro, 0, .s⟩, ⟨29, 29, .rw, 1, .w⟩, ⟨28, 28, .w1s, 0, .w⟩, ⟨27, 27, .w1c, 0, .w⟩, ⟨25, 24, .rw, 0, .w⟩], false⟩,
  ⟨0x00E02000, [], [⟨31, 0, .ro, 0, .p⟩], true⟩,
  ⟨0x00E02004, [], [⟨31, 0, .ro, 0, .p⟩], true⟩,
  ⟨0x00E02008, [], [⟨31, 0, .ro, 0, .p⟩], true⟩,
  ⟨0x00E0200C, [], [⟨31, 0, .ro, 0, .p⟩], true⟩,
  ⟨0x00E02010, [], [⟨31, 0, .ro, 0, .p⟩], true⟩,
  ⟨0x00E02014, [], [⟨31, 0, .ro, 0, .p⟩], true⟩,
  ⟨0x00E02018, [], [⟨31, 0, .ro, 0, .p⟩], true⟩,
  ⟨0x00E0201C, [], [⟨31, 0, .ro, 0, .p⟩], true⟩,
  ⟨0x00E02020, [], [⟨31, 0, .ro, 0, .p⟩], true⟩]

def rows14_1 : List RegRow := [
  ⟨0x00E02024, [], [⟨31, 0, .ro, 0, .p⟩], true⟩,
  ⟨0x00E02028, [], [⟨31, 0, .ro, 0, .p⟩], true⟩,
  ⟨0x00E0202C, [], [⟨31, 0, .ro, 0, .p⟩], true⟩,
  ⟨0x00E02030, [], [⟨31, 0, .ro, 0, .p⟩], true⟩,
  ⟨0x00E02034, [], [⟨31, 0, .ro, 0, .p⟩], true⟩,
  ⟨0x00E02038, [], [⟨31, 0, .ro, 0, .p⟩], true⟩,
  ⟨0x00E0203C, [], [⟨31, 0, .ro, 0, .p⟩], true⟩,
  ⟨0x00E02040, [], [⟨31, 0, .ro, 0, .p⟩], true⟩,
  ⟨0x00E02044, [], [⟨31, 0, .ro, 0, .p⟩], true⟩]

/-- The registers of block 14, PWR. -/
def rows14 : List RegRow := rows14_0 ++ rows14_1

def rows15_0 : List RegRow := [
  ⟨0x00F00000, [], [⟨31, 31, .rw, 1, .w⟩, ⟨24, 24, .rw, 0, .w⟩, ⟨23, 16, .rw, 16, .w⟩, ⟨7, 0, .rw, 0, .w⟩], false⟩,
  ⟨0x00F00004, [], [⟨31, 31, .ro, 0, .s⟩, ⟨30, 30, .ro, 0, .s⟩, ⟨29, 29, .ro, 0, .s⟩], false⟩,
  ⟨0x00F00008, [], [⟨31, 0, .rw, 0, .w⟩], true⟩,
  ⟨0x00F0000C, [], [⟨31, 0, .rw, 0, .w⟩], true⟩,
  ⟨0x00F00010, [], [⟨31, 31, .rw, 0, .w⟩, ⟨4, 0, .rw, 10, .w⟩], false⟩,
  ⟨0x00F00014, [], [⟨31, 0, .ro, 0, .w⟩], false⟩,
  ⟨0x00F00018, [], [⟨31, 0, .rw, 0, .w⟩], false⟩,
  ⟨0x00F00040, [], [⟨31, 30, .rw, 2, .w⟩, ⟨15, 0, .rw, 1000, .w⟩], false⟩,
  ⟨0x00F00044, [], [⟨27, 16, .rw, 2400, .w⟩, ⟨11, 0, .rw, 1200, .w⟩], false⟩,
  ⟨0x00F00048, [], [⟨9, 0, .rw, 680, .w⟩], false⟩,
  ⟨0x00F0004C, [], [⟨31, 16, .rw, 2048, .w⟩, ⟨15, 0, .rw, 0, .w⟩], false⟩,
  ⟨0x00F00050, [], [⟨31, 24, .rw, 1, .w⟩, ⟨23, 8, .rw, 250, .w⟩, ⟨7, 0, .rw, 1, .w⟩], false⟩,
  ⟨0x00F00054, [], [⟨31, 28, .rw, 15, .w⟩, ⟨27, 24, .rw, 4, .w⟩, ⟨21, 11, .rw, 1024, .w⟩, ⟨10, 0, .rw, 16, .w⟩], false⟩,
  ⟨0x00F00058, [], [⟨31, 31, .rw, 1, .w⟩, ⟨30, 30, .rw, 1, .w⟩, ⟨29, 29, .rw, 1, .w⟩, ⟨28, 28, .rw, 1, .w⟩, ⟨27, 27, .rw, 0, .w⟩, ⟨23, 8, .rw, 24, .w⟩, ⟨7, 0, .rw, 4, .w⟩], false⟩,
  ⟨0x00F00080, [], [⟨31, 16, .rw, 64, .w⟩, ⟨15, 0, .rw, 30000, .w⟩], false⟩,
  ⟨0x00F000A0, [], [⟨31, 30, .ro, 0, .p⟩, ⟨25, 24, .ro, 0, .p⟩, ⟨20, 20, .ro, 0, .p⟩, ⟨12, 8, .ro, 0, .p⟩, ⟨7, 0, .ro, 0, .p⟩], false⟩,
  ⟨0x00F000A4, [], [⟨23, 0, .ro, 0, .p⟩], false⟩,
  ⟨0x00F000C0, [], [⟨25, 16, .ro, 0, .n⟩, ⟨9, 0, .ro, 0, .n⟩], false⟩,
  ⟨0x00F00100, [(24, 4)], [⟨31, 31, .ro, 0, .n⟩, ⟨30, 30, .ro, 0, .p⟩, ⟨29, 29, .ro, 0, .p⟩, ⟨28, 28, .ro, 0, .p⟩, ⟨2, 0, .ro, 0, .p⟩], false⟩,
  ⟨0x00F01000, [(128, 4)], [⟨31, 16, .ro, 0, .s⟩, ⟨7, 0, .ro, 0, .s⟩], false⟩,
  ⟨0x00F01400, [(24, 0x00000020), (8, 4)], [⟨31, 16, .ro, 0, .s⟩, ⟨15, 0, .ro, 0, .s⟩], false⟩,
  ⟨0x00F02000, [], [⟨31, 0, .ro, 0, .p⟩], true⟩,
  ⟨0x00F02004, [], [⟨31, 0, .ro, 0, .p⟩], true⟩,
  ⟨0x00F02008, [], [⟨31, 0, .ro, 0, .p⟩], true⟩]

def rows15_1 : List RegRow := [
  ⟨0x00F0200C, [], [⟨31, 0, .ro, 0, .p⟩], true⟩,
  ⟨0x00F02010, [], [⟨31, 0, .ro, 0, .p⟩], true⟩,
  ⟨0x00F02014, [], [⟨31, 0, .ro, 0, .p⟩], true⟩,
  ⟨0x00F02018, [], [⟨31, 0, .ro, 0, .p⟩], true⟩,
  ⟨0x00F0201C, [], [⟨31, 0, .ro, 0, .p⟩], true⟩,
  ⟨0x00F02020, [], [⟨31, 0, .ro, 0, .p⟩], true⟩,
  ⟨0x00F02024, [], [⟨31, 0, .ro, 0, .p⟩], true⟩,
  ⟨0x00F02028, [], [⟨31, 0, .ro, 0, .p⟩], true⟩,
  ⟨0x00F0202C, [], [⟨31, 0, .ro, 0, .p⟩], true⟩,
  ⟨0x00F02030, [], [⟨31, 0, .ro, 0, .p⟩], true⟩,
  ⟨0x00F02034, [], [⟨31, 0, .ro, 0, .p⟩], true⟩]

/-- The registers of block 15, JIG. -/
def rows15 : List RegRow := rows15_0 ++ rows15_1

def rows16_0 : List RegRow := [
  ⟨0x01000000, [], [⟨31, 30, .ro, 0, .w⟩, ⟨29, 29, .ro, 0, .w⟩, ⟨28, 28, .ro, 0, .w⟩, ⟨27, 24, .ro, 0, .w⟩, ⟨23, 20, .ro, 0, .w⟩, ⟨19, 16, .ro, 0, .w⟩, ⟨15, 15, .ro, 0, .p⟩, ⟨14, 14, .ro, 0, .p⟩, ⟨13, 13, .ro, 0, .w⟩, ⟨6, 0, .ro, 0, .w⟩], false⟩,
  ⟨0x01000004, [], [⟨31, 31, .w1s, 0, .w⟩, ⟨30, 30, .w1s, 0, .w⟩, ⟨29, 29, .w1s, 0, .p⟩, ⟨28, 28, .w1s, 0, .w⟩, ⟨27, 27, .w1s, 0, .w⟩, ⟨24, 24, .rw, 0, .w⟩, ⟨23, 23, .w1c, 0, .w⟩, ⟨19, 16, .ro, 0, .w⟩], false⟩,
  ⟨0x01000008, [], [⟨31, 31, .ro, 0, .s⟩, ⟨30, 30, .w1c, 0, .w⟩, ⟨3, 0, .ro, 0, .w⟩], false⟩,
  ⟨0x0100000C, [], [⟨31, 31, .ro, 0, .w⟩, ⟨11, 0, .ro, 0, .w⟩], false⟩,
  ⟨0x01000010, [(2, 4)], [⟨31, 30, .ro, 0, .w⟩, ⟨23, 0, .ro, 0, .w⟩], false⟩,
  ⟨0x01000040, [], [⟨31, 31, .w1s, 0, .w⟩, ⟨30, 30, .ro, 0, .s⟩, ⟨29, 29, .w1c, 0, .w⟩, ⟨27, 24, .ro, 0, .w⟩, ⟨2, 0, .rw, 0, .w⟩], false⟩,
  ⟨0x01000044, [], [⟨31, 0, .rw, 0, .w⟩], false⟩,
  ⟨0x01000048, [], [⟨28, 0, .rw, 0, .w⟩], false⟩,
  ⟨0x01000050, [], [⟨31, 0, .rw, 0, .w⟩], true⟩,
  ⟨0x01000054, [], [⟨7, 0, .rw, 0, .w⟩], true⟩,
  ⟨0x01000060, [], [⟨31, 31, .w1s, 0, .w⟩, ⟨29, 29, .w1c, 0, .w⟩], false⟩,
  ⟨0x01000068, [], [⟨31, 0, .rw, 0, .w⟩], true⟩,
  ⟨0x0100006C, [], [⟨7, 0, .rw, 0, .w⟩], true⟩,
  ⟨0x01000070, [], [⟨28, 0, .rw, 0, .w⟩], false⟩,
  ⟨0x01000080, [(12, 4)], [⟨31, 0, .ro, 0, .s⟩], false⟩,
  ⟨0x01000100, [], [⟨22, 16, .ro, 0, .n⟩, ⟨3, 0, .ro, 0, .n⟩], false⟩,
  ⟨0x01000108, [], [⟨31, 0, .ro, 0, .n⟩], true⟩,
  ⟨0x0100010C, [], [⟨31, 0, .ro, 0, .n⟩], true⟩,
  ⟨0x01000110, [], [⟨31, 31, .ro, 0, .n⟩, ⟨8, 8, .ro, 0, .n⟩, ⟨6, 0, .ro, 0, .n⟩], false⟩,
  ⟨0x01000200, [(4, 0x00000040), (12, 4)], [⟨31, 0, .ro, 0, .n⟩], false⟩,
  ⟨0x01001000, [(1024, 4)], [⟨31, 0, .rw, 0, .s⟩], false⟩]

/-- The registers of block 16, BOOT. -/
def rows16 : List RegRow := rows16_0

def rows17_0 : List RegRow := [
  ⟨0x01100000, [], [⟨3, 0, .ro, 0, .p⟩], false⟩,
  ⟨0x01100004, [], [⟨31, 24, .wo, 0, .w⟩, ⟨0, 0, .wo, 0, .w⟩], false⟩,
  ⟨0x01100008, [], [⟨31, 24, .wo, 0, .w⟩, ⟨0, 0, .wo, 0, .w⟩], false⟩,
  ⟨0x0110000C, [], [⟨31, 31, .w1s, 0, .w⟩, ⟨30, 30, .w1c, 0, .w⟩, ⟨29, 29, .ro, 0, .s⟩, ⟨20, 16, .rw, 0, .w⟩, ⟨11, 0, .rw, 0, .w⟩], false⟩,
  ⟨0x01100010, [], [⟨31, 31, .rw, 0, .w⟩, ⟨15, 0, .rw, 1000, .w⟩], false⟩,
  ⟨0x01100014, [], [⟨31, 0, .wo, 0, .w⟩], false⟩,
  ⟨0x01100020, [], [⟨31, 31, .rw, 0, .w⟩, ⟨14, 0, .rw, 0, .w⟩], false⟩,
  ⟨0x01100024, [], [⟨31, 31, .ro, 0, .s⟩, ⟨30, 30, .ro, 0, .p⟩, ⟨16, 16, .ro, 0, .p⟩, ⟨15, 0, .ro, 0, .p⟩], false⟩,
  ⟨0x01100200, [], [⟨31, 0, .ro, 0, .w⟩], true⟩,
  ⟨0x01100204, [], [⟨31, 0, .ro, 0, .w⟩], true⟩,
  ⟨0x01100208, [], [⟨31, 0, .ro, 0, .w⟩], true⟩,
  ⟨0x0110020C, [], [⟨31, 0, .ro, 0, .w⟩], true⟩,
  ⟨0x01100210, [], [⟨31, 0, .ro, 0, .p⟩], true⟩,
  ⟨0x01100214, [], [⟨31, 0, .ro, 0, .p⟩], true⟩,
  ⟨0x01101000, [(1024, 4)], [⟨31, 0, .ro, 0, .s⟩], false⟩,
  ⟨0x01110000, [(19, 0x00000010)], [⟨31, 0, .ro, 0, .w⟩], true⟩,
  ⟨0x01110004, [(19, 0x00000010)], [⟨31, 0, .ro, 0, .w⟩], true⟩,
  ⟨0x01110008, [(19, 0x00000010)], [⟨31, 0, .ro, 0, .w⟩], true⟩,
  ⟨0x0111000C, [(19, 0x00000010)], [⟨31, 0, .ro, 0, .w⟩], true⟩]

/-- The registers of block 17, ERR. -/
def rows17 : List RegRow := rows17_0

def rows18_0 : List RegRow := [
  ⟨0x01200000, [], [⟨31, 31, .ro, 0, .s⟩, ⟨30, 30, .ro, 0, .s⟩, ⟨29, 29, .ro, 0, .s⟩, ⟨27, 24, .ro, 0, .s⟩, ⟨16, 0, .ro, 0, .s⟩], false⟩,
  ⟨0x01200004, [], [⟨31, 31, .w1s, 0, .s⟩, ⟨30, 30, .w1s, 0, .s⟩], false⟩,
  ⟨0x01200010, [(8, 4)], [⟨31, 0, .ro, 0, .s⟩], false⟩,
  ⟨0x01200040, [], [⟨31, 31, .w1s, 0, .s⟩], false⟩,
  ⟨0x01200080, [], [⟨10, 0, .rw, 0, .s⟩], false⟩,
  ⟨0x01200084, [], [⟨31, 31, .w1s, 0, .s⟩, ⟨30, 30, .w1s, 0, .s⟩, ⟨29, 29, .w1s, 0, .s⟩, ⟨28, 28, .w1c, 0, .s⟩], false⟩,
  ⟨0x01200088, [], [⟨0, 0, .ro, 0, .s⟩], false⟩,
  ⟨0x01204000, [(4096, 4)], [⟨31, 0, .wo, 0, .s⟩], false⟩]

/-- The registers of block 18, DBG. -/
def rows18 : List RegRow := rows18_0

/-- The registers of one block (R508); no register lies above block 18. -/
def rowsOf : Nat → List RegRow
  | 0 => rows0
  | 1 => rows1
  | 2 => rows2
  | 3 => rows3
  | 4 => rows4
  | 5 => rows5
  | 6 => rows6
  | 7 => rows7
  | 8 => rows8
  | 9 => rows9
  | 10 => rows10
  | 11 => rows11
  | 12 => rows12
  | 13 => rows13
  | 14 => rows14
  | 15 => rows15
  | 16 => rows16
  | 17 => rows17
  | 18 => rows18
  | _ => []

end Sys2Proof.Machine
end

