-- ==== Sys2Proof/Machine/Regs.lean ====
section
/-! DEFINITION. The addresses of every register and counter of BAR0 (R508, R520 and the register table of each block's
chapter: R54, R80, R108, R148, R171, R201, R224, R246, R274, R302, R336, R364, R389, R413, R436, R457, R486, R507, R521),
and the fields inside them. A name is the spec's own; a counter carries the prefix `n_`. -/

namespace Sys2Proof.Machine.Reg

/-! Block 0, GLB (base 0x00000000). -/

def GLB_IDENTITY : Nat := 0
def GLB_IDENTITY_PART : Fld := ⟨GLB_IDENTITY, 31, 16⟩
def GLB_IDENTITY_STEP_MAJOR : Fld := ⟨GLB_IDENTITY, 15, 12⟩
def GLB_IDENTITY_STEP_MINOR : Fld := ⟨GLB_IDENTITY, 11, 8⟩
def GLB_VENDOR : Nat := 4
def GLB_VENDOR_VENDOR_ID : Fld := ⟨GLB_VENDOR, 15, 0⟩
def GLB_SERIAL : Nat := 8
def GLB_SERIAL_SERIAL : Fld := ⟨GLB_SERIAL, 63, 0⟩
def GLB_SYNC : Nat := 0x00000010
def GLB_SYNC_SYNC : Fld := ⟨GLB_SYNC, 31, 0⟩
def GLB_TIME : Nat := 0x00000018
def GLB_TIME_TIME : Fld := ⟨GLB_TIME, 63, 0⟩
def GLB_READY (a : Nat) : Nat := 0x00000020 + 4 * a
def GLB_READY_READY (a : Nat) : Fld := ⟨GLB_READY a, 31, 0⟩
def GLB_HALT_STATUS : Nat := 0x00000040
def GLB_HALT_STATUS_HALTED : Fld := ⟨GLB_HALT_STATUS, 31, 31⟩
def GLB_HALT_STATUS_CAUSE : Fld := ⟨GLB_HALT_STATUS, 3, 0⟩
def GLB_HALT_TIME : Nat := 0x00000048
def GLB_HALT_TIME_TIME : Fld := ⟨GLB_HALT_TIME, 63, 0⟩
def GLB_HALT_DETAIL (a : Nat) : Nat := 0x00000050 + 4 * a
def GLB_HALT_DETAIL_DETAIL (a : Nat) : Fld := ⟨GLB_HALT_DETAIL a, 31, 0⟩
def GLB_SCRATCH (a : Nat) : Nat := 0x00000080 + 4 * a
def GLB_SCRATCH_SCRATCH (a : Nat) : Fld := ⟨GLB_SCRATCH a, 31, 0⟩
def GLB_SCRATCH_P (a : Nat) : Nat := 0x000000A0 + 4 * a
def GLB_SCRATCH_P_SCRATCH (a : Nat) : Fld := ⟨GLB_SCRATCH_P a, 31, 0⟩
def GLB_MGMT_CFG : Nat := 0x00000100
def GLB_MGMT_CFG_MGR_EN : Fld := ⟨GLB_MGMT_CFG, 31, 31⟩
def GLB_MGMT_CFG_PEER_EN : Fld := ⟨GLB_MGMT_CFG, 30, 30⟩
def GLB_MGMT_CFG_MODE : Fld := ⟨GLB_MGMT_CFG, 0, 0⟩
def GLB_MGMT_PEER : Nat := 0x00000108
def GLB_MGMT_PEER_PEER : Fld := ⟨GLB_MGMT_PEER, 47, 0⟩
def GLB_I3C_CFG : Nat := 0x00000110
def GLB_I3C_CFG_WR_EN : Fld := ⟨GLB_I3C_CFG, 31, 31⟩
def GLB_I3C_CFG_STATIC_ADDR : Fld := ⟨GLB_I3C_CFG, 6, 0⟩
def GLB_MGMT_MAC : Nat := 0x00000118
def GLB_MGMT_MAC_MAC : Fld := ⟨GLB_MGMT_MAC, 47, 0⟩
def n_reg_reserved_access : Nat := 0x00000200
def n_reg_partial_write : Nat := 0x00000208
def n_halt_write_drop : Nat := 0x00000210
def n_reg_cond_drop : Nat := 0x00000218
def n_mgmt_frame_refused : Nat := 0x00000220
def GLB_GPIO_OUT : Nat := 0x00000300
def GLB_GPIO_OUT_OUT : Fld := ⟨GLB_GPIO_OUT, 31, 0⟩
def GLB_GPIO_OE : Nat := 0x00000304
def GLB_GPIO_OE_OE : Fld := ⟨GLB_GPIO_OE, 31, 0⟩
def GLB_GPIO_IN : Nat := 0x00000308
def GLB_GPIO_IN_IN : Fld := ⟨GLB_GPIO_IN, 31, 0⟩
def GLB_PPS_CFG : Nat := 0x00000310
def GLB_PPS_CFG_OUT_EN : Fld := ⟨GLB_PPS_CFG, 31, 31⟩
def GLB_PPS_CFG_IN_EN : Fld := ⟨GLB_PPS_CFG, 30, 30⟩
def GLB_PPS_CFG_IN_NEW : Fld := ⟨GLB_PPS_CFG, 0, 0⟩
def GLB_PPS_IN_TIME : Nat := 0x00000318
def GLB_PPS_IN_TIME_TIME : Fld := ⟨GLB_PPS_IN_TIME, 63, 0⟩
def GLB_UART_TX : Nat := 0x00000320
def GLB_UART_TX_BYTE : Fld := ⟨GLB_UART_TX, 7, 0⟩
def GLB_UART_RX : Nat := 0x00000324
def GLB_UART_RX_VALID : Fld := ⟨GLB_UART_RX, 8, 8⟩
def GLB_UART_RX_BYTE : Fld := ⟨GLB_UART_RX, 7, 0⟩
def GLB_UART_STATUS : Nat := 0x00000328
def GLB_UART_STATUS_RX_OVERRUN : Fld := ⟨GLB_UART_STATUS, 16, 16⟩
def GLB_UART_STATUS_TX_FREE : Fld := ⟨GLB_UART_STATUS, 15, 8⟩
def GLB_UART_STATUS_RX_COUNT : Fld := ⟨GLB_UART_STATUS, 7, 0⟩

/-! Block 1, LANE (base 0x00100000). -/

def LANE_OCT_CFG (a : Nat) : Nat := 0x00100000 + 0x00001000 * a
def LANE_OCT_CFG_APPLY (a : Nat) : Fld := ⟨LANE_OCT_CFG a, 31, 31⟩
def LANE_OCT_CFG_REFCLK_SEL (a : Nat) : Fld := ⟨LANE_OCT_CFG a, 8, 8⟩
def LANE_OCT_CFG_ETH_MODE (a : Nat) : Fld := ⟨LANE_OCT_CFG a, 5, 4⟩
def LANE_OCT_CFG_HOST_SPLIT (a : Nat) : Fld := ⟨LANE_OCT_CFG a, 2, 2⟩
def LANE_OCT_CFG_ROLE (a : Nat) : Fld := ⟨LANE_OCT_CFG a, 1, 0⟩
def LANE_OCT_STATUS (a : Nat) : Nat := 0x00100004 + 0x00001000 * a
def LANE_OCT_STATUS_SIGNAL_DETECT (a : Nat) : Fld := ⟨LANE_OCT_STATUS a, 31, 23⟩
def LANE_OCT_STATUS_PLL_LOCK (a : Nat) : Fld := ⟨LANE_OCT_STATUS a, 16, 16⟩
def LANE_OCT_STATUS_LINK_UP (a : Nat) : Fld := ⟨LANE_OCT_STATUS a, 15, 8⟩
def LANE_OCT_STATUS_ROLE_REFUSED (a : Nat) : Fld := ⟨LANE_OCT_STATUS a, 3, 3⟩
def LANE_OCT_STATUS_APPLY_BUSY (a : Nat) : Fld := ⟨LANE_OCT_STATUS a, 2, 2⟩
def LANE_OCT_STATUS_ROLE_ACTIVE (a : Nat) : Fld := ⟨LANE_OCT_STATUS a, 1, 0⟩
def LANE_SPARE_CTRL (a : Nat) : Nat := 0x00100008 + 0x00001000 * a
def LANE_SPARE_CTRL_JIG_ALLOW (a : Nat) : Fld := ⟨LANE_SPARE_CTRL a, 16, 16⟩
def LANE_SPARE_CTRL_REVERT (a : Nat) : Fld := ⟨LANE_SPARE_CTRL a, 9, 9⟩
def LANE_SPARE_CTRL_GO (a : Nat) : Fld := ⟨LANE_SPARE_CTRL a, 8, 8⟩
def LANE_SPARE_CTRL_PAIR_MODE (a : Nat) : Fld := ⟨LANE_SPARE_CTRL a, 4, 4⟩
def LANE_SPARE_CTRL_TARGET (a : Nat) : Fld := ⟨LANE_SPARE_CTRL a, 2, 0⟩
def LANE_SPARE_STATUS (a : Nat) : Nat := 0x0010000C + 0x00001000 * a
def LANE_SPARE_STATUS_RETIRED (a : Nat) : Fld := ⟨LANE_SPARE_STATUS a, 15, 8⟩
def LANE_SPARE_STATUS_REFUSED (a : Nat) : Fld := ⟨LANE_SPARE_STATUS a, 6, 6⟩
def LANE_SPARE_STATUS_STATE (a : Nat) : Fld := ⟨LANE_SPARE_STATUS a, 5, 4⟩
def LANE_SPARE_STATUS_IN_USE (a : Nat) : Fld := ⟨LANE_SPARE_STATUS a, 3, 3⟩
def LANE_SPARE_STATUS_IN_USE_FOR (a : Nat) : Fld := ⟨LANE_SPARE_STATUS a, 2, 0⟩
def LANE_POLARITY (a : Nat) : Nat := 0x00100010 + 0x00001000 * a
def LANE_POLARITY_RX_INV (a : Nat) : Fld := ⟨LANE_POLARITY a, 24, 16⟩
def LANE_POLARITY_TX_INV (a : Nat) : Fld := ⟨LANE_POLARITY a, 8, 0⟩
def LANE_PORT_CTRL (a : Nat) : Nat := 0x00140000 + 0x00000100 * a
def LANE_PORT_CTRL_MAX_FRAME (a : Nat) : Fld := ⟨LANE_PORT_CTRL a, 29, 16⟩
def LANE_PORT_CTRL_LOOPBACK (a : Nat) : Fld := ⟨LANE_PORT_CTRL a, 4, 3⟩
def LANE_PORT_CTRL_ADMIN_UP (a : Nat) : Fld := ⟨LANE_PORT_CTRL a, 2, 2⟩
def LANE_PORT_CTRL_TRAIN_EN (a : Nat) : Fld := ⟨LANE_PORT_CTRL a, 1, 1⟩
def LANE_PORT_CTRL_AN_EN (a : Nat) : Fld := ⟨LANE_PORT_CTRL a, 0, 0⟩
def LANE_PORT_STATUS (a : Nat) : Nat := 0x00140004 + 0x00000100 * a
def LANE_PORT_STATUS_LAST_FAIL (a : Nat) : Fld := ⟨LANE_PORT_STATUS a, 27, 24⟩
def LANE_PORT_STATUS_DEGRADED_LANES (a : Nat) : Fld := ⟨LANE_PORT_STATUS a, 15, 8⟩
def LANE_PORT_STATUS_FEC_DEGRADED (a : Nat) : Fld := ⟨LANE_PORT_STATUS a, 4, 4⟩
def LANE_PORT_STATUS_FEC_LOCK (a : Nat) : Fld := ⟨LANE_PORT_STATUS a, 3, 3⟩
def LANE_PORT_STATUS_TRAINED (a : Nat) : Fld := ⟨LANE_PORT_STATUS a, 2, 2⟩
def LANE_PORT_STATUS_AN_DONE (a : Nat) : Fld := ⟨LANE_PORT_STATUS a, 1, 1⟩
def LANE_PORT_STATUS_LINK_UP (a : Nat) : Fld := ⟨LANE_PORT_STATUS a, 0, 0⟩
def LANE_PTP_CTRL (a : Nat) : Nat := 0x00140008 + 0x00000100 * a
def LANE_PTP_CTRL_ASYM (a : Nat) : Fld := ⟨LANE_PTP_CTRL a, 31, 16⟩
def LANE_PTP_CTRL_ONE_STEP (a : Nat) : Fld := ⟨LANE_PTP_CTRL a, 2, 2⟩
def LANE_PTP_CTRL_TX_TS_EN (a : Nat) : Fld := ⟨LANE_PTP_CTRL a, 1, 1⟩
def LANE_PTP_CTRL_RX_TS_EN (a : Nat) : Fld := ⟨LANE_PTP_CTRL a, 0, 0⟩
def n_rx_frames (a : Nat) : Nat := 0x00140040 + 0x00000100 * a
def n_rx_bytes (a : Nat) : Nat := 0x00140048 + 0x00000100 * a
def n_tx_frames (a : Nat) : Nat := 0x00140050 + 0x00000100 * a
def n_tx_bytes (a : Nat) : Nat := 0x00140058 + 0x00000100 * a
def n_rx_fcs_error (a : Nat) : Nat := 0x00140060 + 0x00000100 * a
def n_rx_runt (a : Nat) : Nat := 0x00140068 + 0x00000100 * a
def n_rx_oversize (a : Nat) : Nat := 0x00140070 + 0x00000100 * a
def n_rx_mac_control (a : Nat) : Nat := 0x00140078 + 0x00000100 * a
def n_fec_corrected_cw (a : Nat) : Nat := 0x00140080 + 0x00000100 * a
def n_fec_uncorrected_cw (a : Nat) : Nat := 0x00140088 + 0x00000100 * a
def n_fec_corrected_symbols (a : Nat) : Nat := 0x00140090 + 0x00000100 * a
def n_lane_link_down_count (a : Nat) : Nat := 0x00140098 + 0x00000100 * a
def n_spare_switch_loss (a : Nat) : Nat := 0x001400A0 + 0x00000100 * a
def n_ptp_rx_ts (a : Nat) : Nat := 0x001400A8 + 0x00000100 * a
def n_ptp_tx_ts (a : Nat) : Nat := 0x001400B0 + 0x00000100 * a
def LANE_TOD_CTRL : Nat := 0x001C0000
def LANE_TOD_CTRL_STEP_GO : Fld := ⟨LANE_TOD_CTRL, 1, 1⟩
def LANE_TOD_CTRL_SRC : Fld := ⟨LANE_TOD_CTRL, 0, 0⟩
def LANE_TOD_STEP : Nat := 0x001C0008
def LANE_TOD_STEP_STEP : Fld := ⟨LANE_TOD_STEP, 63, 0⟩
def LANE_TOD_RATE : Nat := 0x001C0010
def LANE_TOD_RATE_RATE : Fld := ⟨LANE_TOD_RATE, 31, 0⟩
def LANE_WAKE_MASK : Nat := 0x001C0020
def LANE_WAKE_MASK_OCT_WAKE : Fld := ⟨LANE_WAKE_MASK, 63, 0⟩
def LANE_FEC_DEGRADE_THR : Nat := 0x001C0030
def LANE_FEC_DEGRADE_THR_WINDOWS : Fld := ⟨LANE_FEC_DEGRADE_THR, 31, 24⟩
def LANE_FEC_DEGRADE_THR_SYMBOLS : Fld := ⟨LANE_FEC_DEGRADE_THR, 23, 0⟩
def n_tod_write_ignored : Nat := 0x001C0040

/-! Block 2, HOST (base 0x00200000). -/

def HOST_PORT_CFG (a : Nat) : Nat := 0x00200000 + 0x00001000 * a
def HOST_PORT_CFG_RETIRE_TIMEOUT (a : Nat) : Fld := ⟨HOST_PORT_CFG a, 27, 16⟩
def HOST_PORT_CFG_WAKE_EN (a : Nat) : Fld := ⟨HOST_PORT_CFG a, 12, 12⟩
def HOST_PORT_CFG_LTR_OVR (a : Nat) : Fld := ⟨HOST_PORT_CFG a, 10, 10⟩
def HOST_PORT_CFG_ORDER_MODE (a : Nat) : Fld := ⟨HOST_PORT_CFG a, 8, 8⟩
def HOST_PORT_CFG_FLIT_EN (a : Nat) : Fld := ⟨HOST_PORT_CFG a, 6, 6⟩
def HOST_PORT_CFG_MAX_SPEED (a : Nat) : Fld := ⟨HOST_PORT_CFG a, 5, 4⟩
def HOST_PORT_CFG_ENABLE (a : Nat) : Fld := ⟨HOST_PORT_CFG a, 0, 0⟩
def HOST_PORT_STATUS (a : Nat) : Nat := 0x00200004 + 0x00001000 * a
def HOST_PORT_STATUS_LAST_DOWN (a : Nat) : Fld := ⟨HOST_PORT_STATUS a, 31, 28⟩
def HOST_PORT_STATUS_RETIRED (a : Nat) : Fld := ⟨HOST_PORT_STATUS a, 23, 23⟩
def HOST_PORT_STATUS_PF_REFUSED (a : Nat) : Fld := ⟨HOST_PORT_STATUS a, 22, 22⟩
def HOST_PORT_STATUS_ORDER_REFUSED (a : Nat) : Fld := ⟨HOST_PORT_STATUS a, 21, 21⟩
def HOST_PORT_STATUS_WAKE_ASSERTED (a : Nat) : Fld := ⟨HOST_PORT_STATUS a, 20, 20⟩
def HOST_PORT_STATUS_L2 (a : Nat) : Fld := ⟨HOST_PORT_STATUS a, 19, 19⟩
def HOST_PORT_STATUS_CFG_READY (a : Nat) : Fld := ⟨HOST_PORT_STATUS a, 18, 18⟩
def HOST_PORT_STATUS_FLIT (a : Nat) : Fld := ⟨HOST_PORT_STATUS a, 16, 16⟩
def HOST_PORT_STATUS_WIDTH (a : Nat) : Fld := ⟨HOST_PORT_STATUS a, 11, 8⟩
def HOST_PORT_STATUS_SPEED (a : Nat) : Fld := ⟨HOST_PORT_STATUS a, 6, 4⟩
def HOST_PORT_STATUS_PERST_ASSERTED (a : Nat) : Fld := ⟨HOST_PORT_STATUS a, 2, 2⟩
def HOST_PORT_STATUS_LINK_UP (a : Nat) : Fld := ⟨HOST_PORT_STATUS a, 0, 0⟩
def HOST_PORT_CTRL (a : Nat) : Nat := 0x00200008 + 0x00001000 * a
def HOST_PORT_CTRL_RETIRE (a : Nat) : Fld := ⟨HOST_PORT_CTRL a, 8, 8⟩
def HOST_PORT_CTRL_RETRAIN (a : Nat) : Fld := ⟨HOST_PORT_CTRL a, 0, 0⟩
def HOST_PF_CFG (a b : Nat) : Nat := 0x00200010 + 0x00001000 * a + 4 * b
def HOST_PF_CFG_PF_EN (a b : Nat) : Fld := ⟨HOST_PF_CFG a b, 24, 24⟩
def HOST_PF_CFG_TOTAL_VFS (a b : Nat) : Fld := ⟨HOST_PF_CFG a b, 8, 0⟩
def HOST_LTR (a : Nat) : Nat := 0x00200020 + 0x00001000 * a
def HOST_LTR_NS_SCALE (a : Nat) : Fld := ⟨HOST_LTR a, 28, 26⟩
def HOST_LTR_NS_VALUE (a : Nat) : Fld := ⟨HOST_LTR a, 25, 16⟩
def HOST_LTR_SNOOP_SCALE (a : Nat) : Fld := ⟨HOST_LTR a, 12, 10⟩
def HOST_LTR_SNOOP_VALUE (a : Nat) : Fld := ⟨HOST_LTR a, 9, 0⟩
def n_dma_read_bytes (a : Nat) : Nat := 0x00200100 + 0x00001000 * a
def n_dma_write_bytes (a : Nat) : Nat := 0x00200108 + 0x00001000 * a
def n_doorbells_rx (a : Nat) : Nat := 0x00200110 + 0x00001000 * a
def n_slips_rx (a : Nat) : Nat := 0x00200118 + 0x00001000 * a
def n_slip_split (a : Nat) : Nat := 0x00200120 + 0x00001000 * a
def n_bar_reserved_access (a : Nat) : Nat := 0x00200128 + 0x00001000 * a
def n_cpl_timeout (a : Nat) : Nat := 0x00200130 + 0x00001000 * a
def n_host_abort (a : Nat) : Nat := 0x00200138 + 0x00001000 * a
def n_late_cpl_discard (a : Nat) : Nat := 0x00200140 + 0x00001000 * a
def n_ats_translations (a : Nat) : Nat := 0x00200148 + 0x00001000 * a
def n_ats_invalidations (a : Nat) : Nat := 0x00200150 + 0x00001000 * a
def n_ats_no_translation (a : Nat) : Nat := 0x00200158 + 0x00001000 * a
def n_flit_replay (a : Nat) : Nat := 0x00200160 + 0x00001000 * a
def n_surprise_down_count (a : Nat) : Nat := 0x00200168 + 0x00001000 * a
def n_rx_flushed (a : Nat) : Nat := 0x00200170 + 0x00001000 * a
def n_host_link_down_count (a : Nat) : Nat := 0x00200178 + 0x00001000 * a
def n_pme_sent (a : Nat) : Nat := 0x00200180 + 0x00001000 * a
def HOST_MGR_CFG : Nat := 0x00280000
def HOST_MGR_CFG_PENDING : Fld := ⟨HOST_MGR_CFG, 23, 23⟩
def HOST_MGR_CFG_MGR_PORT_ACTIVE : Fld := ⟨HOST_MGR_CFG, 22, 16⟩
def HOST_MGR_CFG_MGR_PORT : Fld := ⟨HOST_MGR_CFG, 6, 0⟩

/-! Block 3, DRW (base 0x00300000). -/

def DRW_CFG : Nat := 0x00300000
def DRW_CFG_DRAIN_TIMEOUT : Fld := ⟨DRW_CFG, 31, 16⟩
def DRW_CFG_DISJOINT_ENFORCE : Fld := ⟨DRW_CFG, 1, 1⟩
def DRW_STATUS : Nat := 0x00300004
def DRW_STATUS_ACTIVE_COUNT : Fld := ⟨DRW_STATUS, 28, 16⟩
def DRW_STATUS_DEBUG_UNLOCKED : Fld := ⟨DRW_STATUS, 1, 1⟩
def DRW_STATUS_DISJOINT : Fld := ⟨DRW_STATUS, 0, 0⟩
def DRW_POOL_TOTAL (a : Nat) : Nat := 0x00300100 + 0x00000010 * a
def DRW_POOL_TOTAL_GRANULES (a : Nat) : Fld := ⟨DRW_POOL_TOTAL a, 31, 0⟩
def DRW_POOL_SEALED (a : Nat) : Nat := 0x00300104 + 0x00000010 * a
def DRW_POOL_SEALED_GRANULES (a : Nat) : Fld := ⟨DRW_POOL_SEALED a, 31, 0⟩
def DRW_POOL_USED (a : Nat) : Nat := 0x00300108 + 0x00000010 * a
def DRW_POOL_USED_GRANULES (a : Nat) : Fld := ⟨DRW_POOL_USED a, 31, 0⟩
def DRW_FENCE_SEL : Nat := 0x00301000
def DRW_FENCE_SEL_TARGET : Fld := ⟨DRW_FENCE_SEL, 31, 16⟩
def DRW_FENCE_SEL_INDEX : Fld := ⟨DRW_FENCE_SEL, 15, 0⟩
def DRW_FENCE_DATA (a : Nat) : Nat := 0x00301010 + 4 * a
def n_fence_denied_total : Nat := 0x00302000
def n_stale_result_discard : Nat := 0x00302008
def n_reset_unquiesced : Nat := 0x00302010
def n_quiesce_timeout : Nat := 0x00302018
def n_fence_overlap_refused : Nat := 0x00302020
def DRW_DRAWER_STATUS (a : Nat) : Nat := 0x00310000 + 0x00000020 * a
def DRW_DRAWER_STATUS_GENERATION (a : Nat) : Fld := ⟨DRW_DRAWER_STATUS a, 31, 16⟩
def DRW_DRAWER_STATUS_BUSY (a : Nat) : Fld := ⟨DRW_DRAWER_STATUS a, 12, 12⟩
def DRW_DRAWER_STATUS_PERSONALITY (a : Nat) : Fld := ⟨DRW_DRAWER_STATUS a, 9, 8⟩
def DRW_DRAWER_STATUS_KIND (a : Nat) : Fld := ⟨DRW_DRAWER_STATUS a, 4, 4⟩
def DRW_DRAWER_STATUS_STATE (a : Nat) : Fld := ⟨DRW_DRAWER_STATUS a, 2, 0⟩
def DRW_DRAWER_BIND (a : Nat) : Nat := 0x00310004 + 0x00000020 * a
def DRW_DRAWER_BIND_BOUND (a : Nat) : Fld := ⟨DRW_DRAWER_BIND a, 31, 31⟩
def DRW_DRAWER_BIND_VF (a : Nat) : Fld := ⟨DRW_DRAWER_BIND a, 23, 16⟩
def DRW_DRAWER_BIND_PF (a : Nat) : Fld := ⟨DRW_DRAWER_BIND a, 13, 12⟩
def DRW_DRAWER_BIND_PORT (a : Nat) : Fld := ⟨DRW_DRAWER_BIND a, 5, 0⟩
def n_fence_denied (a : Nat) : Nat := 0x00310008 + 0x00000020 * a
def n_rx_quiesce_drop (a : Nat) : Nat := 0x00310010 + 0x00000020 * a
def n_aborted_work (a : Nat) : Nat := 0x00310018 + 0x00000020 * a

/-! Block 4, RING (base 0x00400000). -/

def RING_CFG : Nat := 0x00400000
def RING_CFG_CQ_STARVE_US : Fld := ⟨RING_CFG, 31, 16⟩
def RING_CFG_PREFETCH_DEPTH : Fld := ⟨RING_CFG, 5, 4⟩
def RING_DOORBELL : Nat := 0x00400010
def RING_INSPECT_SEL_LOW : Nat := 0x00400020
def RING_INSPECT_SEL_LOW_RING : Fld := ⟨RING_INSPECT_SEL_LOW, 23, 0⟩
def RING_INSPECT_SEL_HIGH : Nat := 0x00400024
def RING_INSPECT_SEL_HIGH_DRAWER : Fld := ⟨RING_INSPECT_SEL_HIGH, 11, 0⟩
def RING_INSPECT_DATA (a : Nat) : Nat := 0x00400040 + 4 * a
def n_prefetch_discard : Nat := 0x00400100
def n_mgr_event_lost : Nat := 0x00400108
def RING_CTL_CFG (a : Nat) : Nat := 0x00401000 + 0x00000040 * a
def RING_CTL_CFG_ENABLE (a : Nat) : Fld := ⟨RING_CTL_CFG a, 31, 31⟩
def RING_CTL_CFG_KIND (a : Nat) : Fld := ⟨RING_CTL_CFG a, 29, 28⟩
def RING_CTL_CFG_MEM (a : Nat) : Fld := ⟨RING_CTL_CFG a, 27, 27⟩
def RING_CTL_CFG_VEC_EN (a : Nat) : Fld := ⟨RING_CTL_CFG a, 24, 24⟩
def RING_CTL_CFG_LOG2_SIZE (a : Nat) : Fld := ⟨RING_CTL_CFG a, 20, 16⟩
def RING_CTL_CFG_CPL_SLOT (a : Nat) : Fld := ⟨RING_CTL_CFG a, 13, 8⟩
def RING_CTL_CFG_VECTOR (a : Nat) : Fld := ⟨RING_CTL_CFG a, 7, 0⟩
def RING_CTL_STATUS (a : Nat) : Nat := 0x00401004 + 0x00000040 * a
def RING_CTL_STATUS_STATE (a : Nat) : Fld := ⟨RING_CTL_STATUS a, 31, 30⟩
def RING_CTL_STATUS_LAST_STATUS (a : Nat) : Fld := ⟨RING_CTL_STATUS a, 23, 16⟩
def RING_CTL_STATUS_ARMED (a : Nat) : Fld := ⟨RING_CTL_STATUS a, 8, 8⟩
def RING_CTL_STATUS_STARVED (a : Nat) : Fld := ⟨RING_CTL_STATUS a, 0, 0⟩
def RING_CTL_BASE (a : Nat) : Nat := 0x00401008 + 0x00000040 * a
def RING_CTL_BASE_BASE (a : Nat) : Fld := ⟨RING_CTL_BASE a, 63, 0⟩
def RING_CTL_INDEX (a : Nat) : Nat := 0x00401010 + 0x00000040 * a
def RING_CTL_INDEX_DEV_INDEX (a : Nat) : Fld := ⟨RING_CTL_INDEX a, 31, 0⟩
def RING_CTL_MOD (a : Nat) : Nat := 0x00401014 + 0x00000040 * a
def RING_CTL_MOD_MOD_USEC (a : Nat) : Fld := ⟨RING_CTL_MOD a, 31, 16⟩
def RING_CTL_MOD_MOD_COUNT (a : Nat) : Fld := ⟨RING_CTL_MOD a, 15, 0⟩
def n_doorbell_dropped (a : Nat) : Nat := 0x00410000 + 0x00000040 * a
def n_slip_rejected (a : Nat) : Nat := 0x00410008 + 0x00000040 * a
def n_slip_malformed (a : Nat) : Nat := 0x00410010 + 0x00000040 * a
def n_attach_refused (a : Nat) : Nat := 0x00410018 + 0x00000040 * a
def n_owner_stale (a : Nat) : Nat := 0x00410020 + 0x00000040 * a
def n_malformed_entries (a : Nat) : Nat := 0x00410028 + 0x00000040 * a
def n_cq_starved_count (a : Nat) : Nat := 0x00410030 + 0x00000040 * a
def n_event_lost (a : Nat) : Nat := 0x00410038 + 0x00000040 * a

/-! Block 5, PRS (base 0x00500000). -/

def PRS_CFG : Nat := 0x00500000
def PRS_CFG_UNMATCHED_ACTION : Fld := ⟨PRS_CFG, 27, 16⟩
def PRS_CFG_FORCE_ISOLATE : Fld := ⟨PRS_CFG, 0, 0⟩
def PRS_STATUS : Nat := 0x00500004
def PRS_STATUS_FAIL_REASON : Fld := ⟨PRS_STATUS, 31, 28⟩
def PRS_STATUS_BAD_KIND : Fld := ⟨PRS_STATUS, 25, 24⟩
def PRS_STATUS_BAD_INDEX : Fld := ⟨PRS_STATUS, 17, 8⟩
def PRS_STATUS_BAD_RULE : Fld := ⟨PRS_STATUS, 7, 4⟩
def PRS_STATUS_SWITCH_BUSY : Fld := ⟨PRS_STATUS, 2, 2⟩
def PRS_STATUS_ACTIVE_BANK : Fld := ⟨PRS_STATUS, 1, 1⟩
def PRS_STATUS_PROGRAMMED : Fld := ⟨PRS_STATUS, 0, 0⟩
def PRS_BANK_CTRL : Nat := 0x00500008
def PRS_BANK_CTRL_SWITCH : Fld := ⟨PRS_BANK_CTRL, 31, 31⟩
def PRS_ISOLATE : Nat := 0x00500010
def PRS_ISOLATE_TRAP_EN : Fld := ⟨PRS_ISOLATE, 31, 31⟩
def PRS_ISOLATE_TRAP_QUEUE : Fld := ⟨PRS_ISOLATE, 19, 0⟩
def PRS_ACT_STAGE (a : Nat) : Nat := 0x00500040 + 4 * a
def PRS_ACT_COMMIT : Nat := 0x00500050
def PRS_ACT_COMMIT_GO : Fld := ⟨PRS_ACT_COMMIT, 31, 31⟩
def PRS_ACT_COMMIT_REFUSED : Fld := ⟨PRS_ACT_COMMIT, 30, 30⟩
def PRS_ACT_COMMIT_INDEX : Fld := ⟨PRS_ACT_COMMIT, 11, 0⟩
def PRS_EDIT_STAGE (a : Nat) : Nat := 0x00500100 + 4 * a
def PRS_EDIT_COMMIT : Nat := 0x00500180
def PRS_EDIT_COMMIT_GO : Fld := ⟨PRS_EDIT_COMMIT, 31, 31⟩
def PRS_EDIT_COMMIT_REFUSED : Fld := ⟨PRS_EDIT_COMMIT, 30, 30⟩
def PRS_EDIT_COMMIT_INDEX : Fld := ⟨PRS_EDIT_COMMIT, 7, 0⟩
def n_bank_write_refused : Nat := 0x00500200
def PRS_PORT_CLASS (a : Nat) : Nat := 0x00501000 + 4 * a
def PRS_TMPL_HDR (a b : Nat) : Nat := 0x00520000 + 0x00020000 * a + 0x00000100 * b
def PRS_TMPL_HDR_VALID (a b : Nat) : Fld := ⟨PRS_TMPL_HDR a b, 31, 31⟩
def PRS_TMPL_HDR_LEN_EN (a b : Nat) : Fld := ⟨PRS_TMPL_HDR a b, 30, 30⟩
def PRS_TMPL_HDR_CSUM_EN (a b : Nat) : Fld := ⟨PRS_TMPL_HDR a b, 29, 29⟩
def PRS_TMPL_HDR_CSUM_WORDS (a b : Nat) : Fld := ⟨PRS_TMPL_HDR a b, 19, 16⟩
def PRS_TMPL_HDR_CSUM_OFF (a b : Nat) : Fld := ⟨PRS_TMPL_HDR a b, 15, 8⟩
def PRS_TMPL_HDR_MIN_LEN (a b : Nat) : Fld := ⟨PRS_TMPL_HDR a b, 7, 0⟩
def PRS_TMPL_CHECK (a b : Nat) : Nat := 0x00520004 + 0x00020000 * a + 0x00000100 * b
def PRS_TMPL_CHECK_LEN_BIAS (a b : Nat) : Fld := ⟨PRS_TMPL_CHECK a b, 31, 24⟩
def PRS_TMPL_CHECK_LEN_SCALE (a b : Nat) : Fld := ⟨PRS_TMPL_CHECK a b, 17, 16⟩
def PRS_TMPL_CHECK_LEN_OFF (a b : Nat) : Fld := ⟨PRS_TMPL_CHECK a b, 7, 0⟩
def PRS_TMPL_ACTIONS (a b : Nat) : Nat := 0x00520008 + 0x00020000 * a + 0x00000100 * b
def PRS_TMPL_ACTIONS_MALFORMED_ACTION (a b : Nat) : Fld := ⟨PRS_TMPL_ACTIONS a b, 27, 16⟩
def PRS_TMPL_ACTIONS_MISS_ACTION (a b : Nat) : Fld := ⟨PRS_TMPL_ACTIONS a b, 11, 0⟩
def PRS_TMPL_LOOKUP (a b c : Nat) : Nat := 0x00520010 + 0x00020000 * a + 0x00000100 * b + 4 * c
def PRS_TMPL_EXT (a b c : Nat) : Nat := 0x00520080 + 0x00020000 * a + 0x00000100 * b + 4 * c
def PRS_NODE_MATCH (a b : Nat) : Nat := 0x00530000 + 0x00020000 * a + 0x00000040 * b
def PRS_NODE_ARM (a b c : Nat) : Nat := 0x00530004 + 0x00020000 * a + 0x00000040 * b + 4 * c
def PRS_NODE_DEFAULT (a b : Nat) : Nat := 0x00530024 + 0x00020000 * a + 0x00000040 * b
def PRS_ACTION (a b : Nat) : Nat := 0x00560000 + 0x00000010 * a + 4 * b
def PRS_EDIT (a b : Nat) : Nat := 0x00570000 + 0x00000080 * a + 4 * b
def n_template_packets (a : Nat) : Nat := 0x00580000 + 0x00000020 * a
def n_template_malformed (a : Nat) : Nat := 0x00580008 + 0x00000020 * a
def n_template_miss (a : Nat) : Nat := 0x00580010 + 0x00000020 * a
def n_pipe_packets (a : Nat) : Nat := 0x00590000 + 0x00000100 * a
def n_parse_malformed (a : Nat) : Nat := 0x00590008 + 0x00000100 * a
def n_parse_short (a : Nat) : Nat := 0x00590010 + 0x00000100 * a
def n_parse_length (a : Nat) : Nat := 0x00590018 + 0x00000100 * a
def n_parse_checksum (a : Nat) : Nat := 0x00590020 + 0x00000100 * a
def n_parse_unmatched (a : Nat) : Nat := 0x00590028 + 0x00000100 * a
def n_parse_no_arm (a : Nat) : Nat := 0x00590030 + 0x00000100 * a
def n_parse_depth (a : Nat) : Nat := 0x00590038 + 0x00000100 * a
def n_parse_miss (a : Nat) : Nat := 0x00590040 + 0x00000100 * a
def n_parse_action_drop (a : Nat) : Nat := 0x00590048 + 0x00000100 * a
def n_parse_isolate_drop (a : Nat) : Nat := 0x00590050 + 0x00000100 * a
def n_parse_parity (a : Nat) : Nat := 0x00590058 + 0x00000100 * a
def n_edit_drop (a : Nat) : Nat := 0x00590060 + 0x00000100 * a
def n_edit_expired (a : Nat) : Nat := 0x00590068 + 0x00000100 * a
def n_pipe_reset_drop (a : Nat) : Nat := 0x00590070 + 0x00000100 * a

/-! Block 6, TBL (base 0x00600000). -/

def TBL_CFG : Nat := 0x00600000
def TBL_CFG_JIG_SCAN : Fld := ⟨TBL_CFG, 8, 8⟩
def TBL_CFG_HBM_EN : Fld := ⟨TBL_CFG, 0, 0⟩
def TBL_STATUS : Nat := 0x00600004
def TBL_STATUS_HBM_READY : Fld := ⟨TBL_STATUS, 0, 0⟩
def TBL_HBM_SPLIT : Nat := 0x00600008
def TBL_HBM_SPLIT_SPLIT : Fld := ⟨TBL_HBM_SPLIT, 10, 0⟩
def TBL_SHARD_CFG (a : Nat) : Nat := 0x00600100 + 0x00000040 * a
def TBL_SHARD_CFG_SCAN_PERIOD (a : Nat) : Fld := ⟨TBL_SHARD_CFG a, 31, 16⟩
def TBL_SHARD_CFG_MOVE_HOLD (a : Nat) : Fld := ⟨TBL_SHARD_CFG a, 15, 0⟩
def TBL_SHARD_CTRL (a : Nat) : Nat := 0x00600104 + 0x00000040 * a
def TBL_SHARD_CTRL_WRITE_SHARE (a : Nat) : Fld := ⟨TBL_SHARD_CTRL a, 1, 0⟩
def TBL_SHARD_SEED_DIE (a : Nat) : Nat := 0x00600108 + 0x00000040 * a
def TBL_SHARD_SEED_DIE_SEED_DIE (a : Nat) : Fld := ⟨TBL_SHARD_SEED_DIE a, 31, 0⟩
def TBL_SHARD_SEED_HBM (a : Nat) : Nat := 0x0060010C + 0x00000040 * a
def TBL_SHARD_SEED_HBM_SEED_HBM (a : Nat) : Fld := ⟨TBL_SHARD_SEED_HBM a, 31, 0⟩
def TBL_SHARD_SPLIT (a : Nat) : Nat := 0x00600110 + 0x00000040 * a
def TBL_SHARD_SPLIT_SPLIT (a : Nat) : Fld := ⟨TBL_SHARD_SPLIT a, 7, 0⟩
def TBL_SHARD_STATUS (a : Nat) : Nat := 0x00600114 + 0x00000040 * a
def TBL_SHARD_STATUS_SPLIT_REFUSED (a : Nat) : Fld := ⟨TBL_SHARD_STATUS a, 9, 9⟩
def TBL_SHARD_STATUS_SEED_REFUSED (a : Nat) : Fld := ⟨TBL_SHARD_STATUS a, 8, 8⟩
def TBL_SHARD_STATUS_SWEEPING (a : Nat) : Fld := ⟨TBL_SHARD_STATUS a, 1, 1⟩
def TBL_SHARD_STATUS_LEARN_QUEUE_FULL (a : Nat) : Fld := ⟨TBL_SHARD_STATUS a, 0, 0⟩
def TBL_SHARD_DIE_USED (a : Nat) : Nat := 0x00600118 + 0x00000040 * a
def TBL_SHARD_DIE_USED_USED (a : Nat) : Fld := ⟨TBL_SHARD_DIE_USED a, 19, 0⟩
def TBL_SHARD_HBM_USED (a : Nat) : Nat := 0x0060011C + 0x00000040 * a
def TBL_SHARD_HBM_USED_USED (a : Nat) : Fld := ⟨TBL_SHARD_HBM_USED a, 26, 0⟩
def TBL_SHARD_OVF_USED (a : Nat) : Nat := 0x00600120 + 0x00000040 * a
def TBL_SHARD_OVF_USED_DIE_OVF (a : Nat) : Fld := ⟨TBL_SHARD_OVF_USED a, 31, 19⟩
def TBL_SHARD_OVF_USED_HBM_OVF (a : Nat) : Fld := ⟨TBL_SHARD_OVF_USED a, 16, 0⟩
def TBL_LPM_CFG : Nat := 0x00601000
def TBL_LPM_CFG_REBALANCE : Fld := ⟨TBL_LPM_CFG, 31, 31⟩
def TBL_LPM_CFG_GAP_MODE : Fld := ⟨TBL_LPM_CFG, 0, 0⟩
def TBL_LPM_STATUS : Nat := 0x00601004
def TBL_LPM_STATUS_REBALANCING : Fld := ⟨TBL_LPM_STATUS, 31, 31⟩
def TBL_LPM_STATUS_USED : Fld := ⟨TBL_LPM_STATUS, 18, 0⟩
def n_lpm_moves : Nat := 0x00601010
def n_lpm_parity : Nat := 0x00601018
def TBL_TABLE_CFG (a : Nat) : Nat := 0x00602000 + 0x00000010 * a
def TBL_TABLE_CFG_ENABLE (a : Nat) : Fld := ⟨TBL_TABLE_CFG a, 31, 31⟩
def TBL_TABLE_CFG_KIND (a : Nat) : Fld := ⟨TBL_TABLE_CFG a, 29, 28⟩
def TBL_TABLE_CFG_SHARD (a : Nat) : Fld := ⟨TBL_TABLE_CFG a, 25, 24⟩
def TBL_TABLE_CFG_KEY_WORDS (a : Nat) : Fld := ⟨TBL_TABLE_CFG a, 20, 16⟩
def TBL_TABLE_CFG_OWNED (a : Nat) : Fld := ⟨TBL_TABLE_CFG a, 15, 15⟩
def TBL_TABLE_CFG_OWNER (a : Nat) : Fld := ⟨TBL_TABLE_CFG a, 11, 0⟩
def TBL_TABLE_LEARN (a : Nat) : Nat := 0x00602004 + 0x00000010 * a
def TBL_TABLE_LEARN_LEARN_EN (a : Nat) : Fld := ⟨TBL_TABLE_LEARN a, 31, 31⟩
def TBL_TABLE_LEARN_AGE_EN (a : Nat) : Fld := ⟨TBL_TABLE_LEARN a, 30, 30⟩
def TBL_TABLE_LEARN_LEARN_PLACE (a : Nat) : Fld := ⟨TBL_TABLE_LEARN a, 29, 28⟩
def TBL_TABLE_LEARN_AGE_PASSES (a : Nat) : Fld := ⟨TBL_TABLE_LEARN a, 27, 20⟩
def TBL_TABLE_LEARN_FW_WRITE (a : Nat) : Fld := ⟨TBL_TABLE_LEARN a, 18, 18⟩
def TBL_TABLE_LEARN_LEARN_ACTION (a : Nat) : Fld := ⟨TBL_TABLE_LEARN a, 11, 0⟩
def TBL_TABLE_STATUS (a : Nat) : Nat := 0x00602008 + 0x00000010 * a
def TBL_TABLE_STATUS_CFG_REFUSED (a : Nat) : Fld := ⟨TBL_TABLE_STATUS a, 31, 31⟩
def TBL_TABLE_STATUS_SWEEP (a : Nat) : Fld := ⟨TBL_TABLE_STATUS a, 30, 29⟩
def TBL_TABLE_ENTRIES (a : Nat) : Nat := 0x0060200C + 0x00000010 * a
def TBL_TABLE_ENTRIES_ENTRIES (a : Nat) : Fld := ⟨TBL_TABLE_ENTRIES a, 26, 0⟩
def TBL_LEARN_DEST_LOW (a : Nat) : Nat := 0x00604000 + 8 * a
def TBL_LEARN_DEST_LOW_DEST (a : Nat) : Fld := ⟨TBL_LEARN_DEST_LOW a, 31, 0⟩
def TBL_LEARN_DEST_HIGH (a : Nat) : Nat := 0x00604004 + 8 * a
def TBL_LEARN_DEST_HIGH_CASC (a : Nat) : Fld := ⟨TBL_LEARN_DEST_HIGH a, 0, 0⟩
def n_lookup_hit (a : Nat) : Nat := 0x00610000 + 0x00000100 * a
def n_lookup_miss (a : Nat) : Nat := 0x00610008 + 0x00000100 * a
def n_lookup_mismatch (a : Nat) : Nat := 0x00610010 + 0x00000100 * a
def n_hbm_reads (a : Nat) : Nat := 0x00610018 + 0x00000100 * a
def n_table_parity (a : Nat) : Nat := 0x00610020 + 0x00000100 * a
def n_learn_requests (a : Nat) : Nat := 0x00610028 + 0x00000100 * a
def n_learn_commit (a : Nat) : Nat := 0x00610030 + 0x00000100 * a
def n_learn_redundant (a : Nat) : Nat := 0x00610038 + 0x00000100 * a
def n_learn_move (a : Nat) : Nat := 0x00610040 + 0x00000100 * a
def n_learn_conflict (a : Nat) : Nat := 0x00610048 + 0x00000100 * a
def n_learn_static (a : Nat) : Nat := 0x00610050 + 0x00000100 * a
def n_learn_full (a : Nat) : Nat := 0x00610058 + 0x00000100 * a
def n_learn_dropped (a : Nat) : Nat := 0x00610060 + 0x00000100 * a
def n_learn_blocked (a : Nat) : Nat := 0x00610068 + 0x00000100 * a
def n_age_deleted (a : Nat) : Nat := 0x00610070 + 0x00000100 * a
def n_age_spared (a : Nat) : Nat := 0x00610078 + 0x00000100 * a
def n_sweep_deleted (a : Nat) : Nat := 0x00610080 + 0x00000100 * a
def n_write_commands (a : Nat) : Nat := 0x00610088 + 0x00000100 * a
def n_reset_lookup_miss (a : Nat) : Nat := 0x00610090 + 0x00000100 * a

/-! Block 7, CELL (base 0x00700000). -/

def CELL_HEADROOM : Nat := 0x00700000
def CELL_HEADROOM_HEADROOM : Fld := ⟨CELL_HEADROOM, 21, 0⟩
def CELL_LOW_MARK : Nat := 0x00700004
def CELL_LOW_MARK_LOW_MARK : Fld := ⟨CELL_LOW_MARK, 21, 0⟩
def CELL_STATUS : Nat := 0x00700008
def CELL_STATUS_LOW : Fld := ⟨CELL_STATUS, 31, 31⟩
def CELL_STATUS_HBM_FULL : Fld := ⟨CELL_STATUS, 30, 30⟩
def CELL_STATUS_HEADROOM_REFUSED : Fld := ⟨CELL_STATUS, 29, 29⟩
def CELL_DIE_FREE : Nat := 0x0070000C
def CELL_DIE_FREE_FREE : Fld := ⟨CELL_DIE_FREE, 21, 0⟩
def CELL_OUTSTANDING : Nat := 0x00700010
def CELL_OUTSTANDING_OUTSTANDING : Fld := ⟨CELL_OUTSTANDING, 21, 0⟩
def CELL_HBM_PAGES : Nat := 0x00700014
def CELL_HBM_PAGES_PAGES : Fld := ⟨CELL_HBM_PAGES, 21, 0⟩
def CELL_HBM_FREE : Nat := 0x00700018
def CELL_HBM_FREE_FREE_PAGES : Fld := ⟨CELL_HBM_FREE, 21, 0⟩
def CELL_INSPECT_PTR : Nat := 0x00700020
def CELL_INSPECT_PTR_PTR : Fld := ⟨CELL_INSPECT_PTR, 31, 0⟩
def CELL_INSPECT_DATA (a : Nat) : Nat := 0x00700040 + 4 * a
def CELL_INSPECT_DATA_DATA (a : Nat) : Fld := ⟨CELL_INSPECT_DATA a, 31, 0⟩
def n_leaf_alloc : Nat := 0x00700100
def n_leaf_free : Nat := 0x00700108
def n_quire_alloc : Nat := 0x00700110
def n_quire_free : Nat := 0x00700118
def n_spill_quires : Nat := 0x00700120
def n_spill_bytes : Nat := 0x00700128
def n_ingress_no_leaf : Nat := 0x00700130
def n_bad_pointer : Nat := 0x00700138
def n_owner_refused : Nat := 0x00700140
def n_shared_write_refused : Nat := 0x00700148
def n_refcnt_saturated : Nat := 0x00700150
def n_free_poisoned : Nat := 0x00700158
def n_deep_discard : Nat := 0x00700160
def CELL_SPILL_PROFILE (a : Nat) : Nat := 0x00701000 + 8 * a
def CELL_SPILL_PROFILE_SPILL_EN (a : Nat) : Fld := ⟨CELL_SPILL_PROFILE a, 31, 31⟩
def CELL_SPILL_PROFILE_JIG_ALLOW (a : Nat) : Fld := ⟨CELL_SPILL_PROFILE a, 30, 30⟩
def CELL_SPILL_PROFILE_DIE_LIMIT (a : Nat) : Fld := ⟨CELL_SPILL_PROFILE a, 21, 0⟩
def CELL_SPILL_USED (a : Nat) : Nat := 0x00701004 + 8 * a
def CELL_SPILL_USED_USED (a : Nat) : Fld := ⟨CELL_SPILL_USED a, 21, 0⟩
def CELL_DRW_DIE_USED (a : Nat) : Nat := 0x00710000 + 0x00000010 * a
def CELL_DRW_DIE_USED_USED (a : Nat) : Fld := ⟨CELL_DRW_DIE_USED a, 21, 0⟩
def CELL_DRW_HBM_PAGES (a : Nat) : Nat := 0x00710004 + 0x00000010 * a
def CELL_DRW_HBM_PAGES_PAGES (a : Nat) : Fld := ⟨CELL_DRW_HBM_PAGES a, 21, 0⟩
def n_no_leaf (a : Nat) : Nat := 0x00710008 + 0x00000010 * a

/-! Block 8, TM (base 0x00800000). -/

def TM_CFG : Nat := 0x00800000
def TM_CFG_INT_LIMIT : Fld := ⟨TM_CFG, 31, 16⟩
def TM_CFG_IQ_LIMIT : Fld := ⟨TM_CFG, 15, 0⟩
def TM_COMMIT : Nat := 0x00800010
def TM_COMMIT_GO : Fld := ⟨TM_COMMIT, 31, 31⟩
def TM_COMMIT_REFUSED : Fld := ⟨TM_COMMIT, 30, 30⟩
def TM_COMMIT_REASON : Fld := ⟨TM_COMMIT, 29, 27⟩
def TM_COMMIT_READ : Fld := ⟨TM_COMMIT, 26, 26⟩
def TM_COMMIT_FLUSH : Fld := ⟨TM_COMMIT, 25, 25⟩
def TM_COMMIT_READ_CLEAR : Fld := ⟨TM_COMMIT, 24, 24⟩
def TM_COMMIT_KIND : Fld := ⟨TM_COMMIT, 22, 20⟩
def TM_COMMIT_INDEX : Fld := ⟨TM_COMMIT, 19, 0⟩
def TM_STAGE (a : Nat) : Nat := 0x00800040 + 4 * a
def TM_STAGE_WORD (a : Nat) : Fld := ⟨TM_STAGE a, 31, 0⟩
def n_tm_enq_packets : Nat := 0x00800100
def n_tm_deq_packets : Nat := 0x00800108
def n_tm_disabled_drop : Nat := 0x00800110
def n_tm_access_drop : Nat := 0x00800118
def n_police_red_drop : Nat := 0x00800120
def n_tm_limit_drop : Nat := 0x00800128
def n_tm_yellow_drop : Nat := 0x00800130
def n_tm_no_leaf_drop : Nat := 0x00800138
def n_repl_copies : Nat := 0x00800140
def n_repl_truncated : Nat := 0x00800148
def n_cal_lap : Nat := 0x00800150
def n_port_down_drop : Nat := 0x00800158
def n_reset_flush : Nat := 0x00800160
def n_int_drop : Nat := 0x00800168
def TM_PORT_CFG (a : Nat) : Nat := 0x00801000 + 8 * a
def TM_PORT_CFG_RATE (a : Nat) : Fld := ⟨TM_PORT_CFG a, 31, 12⟩
def TM_PORT_CFG_DOWN_ACTION (a : Nat) : Fld := ⟨TM_PORT_CFG a, 9, 9⟩
def TM_PORT_CFG_MODE (a : Nat) : Fld := ⟨TM_PORT_CFG a, 8, 8⟩
def TM_PORT_CFG_OVERHEAD (a : Nat) : Fld := ⟨TM_PORT_CFG a, 7, 0⟩
def TM_PORT_STATUS (a : Nat) : Nat := 0x00801004 + 8 * a
def TM_PORT_STATUS_SEALED_COUNT (a : Nat) : Fld := ⟨TM_PORT_STATUS a, 31, 24⟩
def TM_PORT_STATUS_MODE_REFUSED (a : Nat) : Fld := ⟨TM_PORT_STATUS a, 23, 23⟩
def TM_PORT_STATUS_MODE_REASON (a : Nat) : Fld := ⟨TM_PORT_STATUS a, 22, 21⟩
def TM_PORT_STATUS_SEALED_GBPS (a : Nat) : Fld := ⟨TM_PORT_STATUS a, 19, 0⟩
def n_port_tx_packets (a : Nat) : Nat := 0x00804000 + 0x00000010 * a
def n_port_tx_bytes (a : Nat) : Nat := 0x00804008 + 0x00000010 * a
def n_iq_drop (a : Nat) : Nat := 0x00808000 + 8 * a

/-! Block 9, XPT (base 0x00900000). -/

def XPT_CFG : Nat := 0x00900000
def XPT_CFG_CLOSE_MS : Fld := ⟨XPT_CFG, 31, 20⟩
def XPT_CFG_ROCE_EN : Fld := ⟨XPT_CFG, 17, 17⟩
def XPT_CFG_ENABLE : Fld := ⟨XPT_CFG, 16, 16⟩
def XPT_CFG_UDP_PORT : Fld := ⟨XPT_CFG, 15, 0⟩
def XPT_STATUS : Nat := 0x00900004
def XPT_STATUS_PORT_REFUSED : Fld := ⟨XPT_STATUS, 31, 31⟩
def XPT_STATUS_CONNECTED : Fld := ⟨XPT_STATUS, 20, 0⟩
def XPT_TRACKERS : Nat := 0x00900008
def XPT_TRACKERS_RESERVED_K : Fld := ⟨XPT_TRACKERS, 31, 16⟩
def XPT_TRACKERS_FREE_K : Fld := ⟨XPT_TRACKERS, 15, 0⟩
def XPT_RTO_CFG : Nat := 0x00900010
def XPT_RTO_CFG_RTO_INIT : Fld := ⟨XPT_RTO_CFG, 31, 16⟩
def XPT_RTO_CFG_RTO_MIN : Fld := ⟨XPT_RTO_CFG, 15, 0⟩
def XPT_RTO_MAX : Nat := 0x00900014
def XPT_RTO_MAX_RNR_WAIT : Fld := ⟨XPT_RTO_MAX, 31, 20⟩
def XPT_RTO_MAX_RTO_MAX : Fld := ⟨XPT_RTO_MAX, 19, 0⟩
def XPT_CC_CFG : Nat := 0x00900018
def XPT_CC_CFG_ECN_EN : Fld := ⟨XPT_CC_CFG, 31, 31⟩
def XPT_CC_CFG_JIG_SPRAY : Fld := ⟨XPT_CC_CFG, 30, 30⟩
def XPT_CC_CFG_WEIGHT_MAX : Fld := ⟨XPT_CC_CFG, 27, 24⟩
def XPT_CC_CFG_AI_BYTES : Fld := ⟨XPT_CC_CFG, 23, 16⟩
def XPT_CC_CFG_CWND_INIT : Fld := ⟨XPT_CC_CFG, 15, 0⟩
def XPT_CC_MAX : Nat := 0x0090001C
def XPT_CC_MAX_CWND_MAX : Fld := ⟨XPT_CC_MAX, 15, 0⟩
def XPT_ACK_CFG : Nat := 0x00900020
def XPT_ACK_CFG_ACK_COALESCE : Fld := ⟨XPT_ACK_CFG, 31, 24⟩
def XPT_ACK_CFG_ACK_DELAY : Fld := ⟨XPT_ACK_CFG, 15, 0⟩
def XPT_PATH_CFG : Nat := 0x00900024
def XPT_PATH_CFG_REORDER : Fld := ⟨XPT_PATH_CFG, 31, 24⟩
def XPT_PATH_CFG_PATH_FAIL : Fld := ⟨XPT_PATH_CFG, 23, 16⟩
def XPT_PATH_CFG_PATH_HOLD : Fld := ⟨XPT_PATH_CFG, 15, 0⟩
def XPT_ROCE_CFG : Nat := 0x00900028
def XPT_ROCE_CFG_CNP_EN : Fld := ⟨XPT_ROCE_CFG, 16, 16⟩
def XPT_ROCE_CFG_CNP_GAP : Fld := ⟨XPT_ROCE_CFG, 15, 8⟩
def XPT_ROCE_CFG_RNR_TIMER : Fld := ⟨XPT_ROCE_CFG, 4, 0⟩
def XPT_LOCAL_ADDR (a b : Nat) : Nat := 0x00900100 + 0x00000020 * a + 4 * b
def XPT_LOCAL_ADDR_ADDR (a b : Nat) : Fld := ⟨XPT_LOCAL_ADDR a b, 31, 0⟩
def XPT_LOCAL_CTRL (a : Nat) : Nat := 0x00900110 + 0x00000020 * a
def XPT_LOCAL_CTRL_VALID (a : Nat) : Fld := ⟨XPT_LOCAL_CTRL a, 31, 31⟩
def XPT_LOCAL_CTRL_OWNED (a : Nat) : Fld := ⟨XPT_LOCAL_CTRL a, 30, 30⟩
def XPT_LOCAL_CTRL_ADDR_REFUSED (a : Nat) : Fld := ⟨XPT_LOCAL_CTRL a, 29, 29⟩
def XPT_LOCAL_CTRL_OWNER (a : Nat) : Fld := ⟨XPT_LOCAL_CTRL a, 11, 0⟩
def XPT_CONN_SEL : Nat := 0x00901000
def XPT_CONN_SEL_GO : Fld := ⟨XPT_CONN_SEL, 31, 31⟩
def XPT_CONN_SEL_CONN : Fld := ⟨XPT_CONN_SEL, 19, 0⟩
def XPT_CONN_DATA (a : Nat) : Nat := 0x00901100 + 4 * a
def XPT_CONN_DATA_DATA (a : Nat) : Fld := ⟨XPT_CONN_DATA a, 31, 0⟩
def XPT_KEY_SEL : Nat := 0x00901200
def XPT_KEY_SEL_GO : Fld := ⟨XPT_KEY_SEL, 31, 31⟩
def XPT_KEY_SEL_KEY : Fld := ⟨XPT_KEY_SEL, 21, 0⟩
def XPT_KEY_DATA (a : Nat) : Nat := 0x00901240 + 4 * a
def XPT_KEY_DATA_DATA (a : Nat) : Fld := ⟨XPT_KEY_DATA a, 31, 0⟩
def n_conn_cache_hit : Nat := 0x00902000
def n_conn_cache_miss : Nat := 0x00902008
def n_conn_cache_writeback : Nat := 0x00902010
def n_rx_conn_mismatch : Nat := 0x00902018
def n_reset_notice_sent : Nat := 0x00902020
def n_rnr_sent : Nat := 0x00902028
def n_tracker_full : Nat := 0x00902030
def n_recv_too_short : Nat := 0x00902038
def n_atomic_replayed : Nat := 0x00902040
def n_conn_error_count : Nat := 0x00902048
def n_tx_data_pkts : Nat := 0x00902100
def n_tx_retx_pkts : Nat := 0x00902108
def n_retx_sack : Nat := 0x00902110
def n_retx_timeout : Nat := 0x00902118
def n_rx_data_pkts : Nat := 0x00902120
def n_dup_drop : Nat := 0x00902128
def n_window_drop : Nat := 0x00902130
def n_place_mismatch : Nat := 0x00902138
def n_udp_csum_error : Nat := 0x00902140
def n_auth_fail : Nat := 0x00902148
def n_hdr_error : Nat := 0x00902150
def n_ce_received : Nat := 0x00902158
def n_cwnd_cuts : Nat := 0x00902160
def n_path_down_count : Nat := 0x00902168
def n_acks_sent : Nat := 0x00902170
def n_naks_sent : Nat := 0x00902178
def n_notice_ignored : Nat := 0x00902180
def n_icrc_error : Nat := 0x00902188
def n_cnp_sent : Nat := 0x00902190
def n_roce_seq_nak : Nat := 0x00902198
def n_key_refused (a : Nat) : Nat := 0x00910000 + 0x00000010 * a
def n_conn_errors (a : Nat) : Nat := 0x00910008 + 0x00000010 * a

/-! Block 10, CORE (base 0x00A00000). -/

def CORE_CL_CFG (a : Nat) : Nat := 0x00A00000 + 0x00000040 * a
def CORE_CL_CFG_JIG_CLOCK (a : Nat) : Fld := ⟨CORE_CL_CFG a, 31, 31⟩
def CORE_CL_CFG_START_ACCEPT (a : Nat) : Fld := ⟨CORE_CL_CFG a, 23, 0⟩
def CORE_CL_STATUS (a : Nat) : Nat := 0x00A00004 + 0x00000040 * a
def CORE_CL_STATUS_FREQ_MHZ (a : Nat) : Fld := ⟨CORE_CL_STATUS a, 31, 20⟩
def CORE_CL_STATUS_RESERVED_WAYS (a : Nat) : Fld := ⟨CORE_CL_STATUS a, 15, 0⟩
def CORE_CL_LIVE (a : Nat) : Nat := 0x00A00008 + 0x00000040 * a
def CORE_CL_LIVE_LIVE (a : Nat) : Fld := ⟨CORE_CL_LIVE a, 63, 0⟩
def CORE_NOTIFY_ROUTE (a : Nat) : Nat := 0x00A01000 + 4 * a
def CORE_NOTIFY_ROUTE_ENABLE (a : Nat) : Fld := ⟨CORE_NOTIFY_ROUTE a, 31, 31⟩
def CORE_NOTIFY_ROUTE_CLUSTER (a : Nat) : Fld := ⟨CORE_NOTIFY_ROUTE a, 28, 24⟩
def CORE_NOTIFY_ROUTE_PORT (a : Nat) : Fld := ⟨CORE_NOTIFY_ROUTE a, 21, 16⟩
def CORE_NOTIFY_ROUTE_BIT (a : Nat) : Fld := ⟨CORE_NOTIFY_ROUTE a, 4, 0⟩
def CORE_STAGE_SEL : Nat := 0x00A02000
def CORE_STAGE_SEL_THREAD : Fld := ⟨CORE_STAGE_SEL, 10, 0⟩
def CORE_STAGE_CTL : Nat := 0x00A02004
def CORE_STAGE_CTL_DISCARD : Fld := ⟨CORE_STAGE_CTL, 31, 31⟩
def CORE_STAGE_CTL_DISCARD_REFUSED : Fld := ⟨CORE_STAGE_CTL, 30, 30⟩
def CORE_STAGE_CTL_WORDS : Fld := ⟨CORE_STAGE_CTL, 5, 0⟩
def CORE_STAGE_DEST : Nat := 0x00A02008
def CORE_STAGE_DEST_REPLY : Fld := ⟨CORE_STAGE_DEST, 31, 16⟩
def CORE_STAGE_DEST_DEST : Fld := ⟨CORE_STAGE_DEST, 15, 0⟩
def CORE_STAGE_DATA (a : Nat) : Nat := 0x00A02040 + 4 * a
def CORE_STAGE_DATA_DATA (a : Nat) : Fld := ⟨CORE_STAGE_DATA a, 31, 0⟩
def CORE_THREAD_CTL (a : Nat) : Nat := 0x00A10000 + 0x00000020 * a
def CORE_THREAD_CTL_START (a : Nat) : Fld := ⟨CORE_THREAD_CTL a, 31, 31⟩
def CORE_THREAD_CTL_RESET (a : Nat) : Fld := ⟨CORE_THREAD_CTL a, 30, 30⟩
def CORE_THREAD_CTL_START_REFUSED (a : Nat) : Fld := ⟨CORE_THREAD_CTL a, 29, 29⟩
def CORE_THREAD_CTL_START_MODE (a : Nat) : Fld := ⟨CORE_THREAD_CTL a, 1, 0⟩
def CORE_THREAD_STATUS (a : Nat) : Nat := 0x00A10004 + 0x00000020 * a
def CORE_THREAD_STATUS_STATE (a : Nat) : Fld := ⟨CORE_THREAD_STATUS a, 31, 29⟩
def CORE_THREAD_STATUS_BLOCK_KIND (a : Nat) : Fld := ⟨CORE_THREAD_STATUS a, 28, 27⟩
def CORE_THREAD_STATUS_BLOCK_INDEX (a : Nat) : Fld := ⟨CORE_THREAD_STATUS a, 25, 20⟩
def CORE_THREAD_STATUS_MASTER (a : Nat) : Fld := ⟨CORE_THREAD_STATUS a, 13, 8⟩
def CORE_THREAD_STATUS_LAST_FAULT (a : Nat) : Fld := ⟨CORE_THREAD_STATUS a, 3, 0⟩
def CORE_THREAD_PC (a : Nat) : Nat := 0x00A10008 + 0x00000020 * a
def CORE_THREAD_PC_PC (a : Nat) : Fld := ⟨CORE_THREAD_PC a, 63, 0⟩
def CORE_THREAD_ARG (a : Nat) : Nat := 0x00A10010 + 0x00000020 * a
def CORE_THREAD_ARG_ARG (a : Nat) : Fld := ⟨CORE_THREAD_ARG a, 31, 0⟩
def CORE_THREAD_SHARE (a : Nat) : Nat := 0x00A10014 + 0x00000020 * a
def CORE_THREAD_SHARE_SHARE_REFUSED (a : Nat) : Fld := ⟨CORE_THREAD_SHARE a, 31, 31⟩
def CORE_THREAD_SHARE_SHARE (a : Nat) : Fld := ⟨CORE_THREAD_SHARE a, 6, 0⟩
def CORE_EP_CFG (a b c : Nat) : Nat := 0x00A20000 + 0x00001000 * a + 0x00000200 * b + 8 * c
def CORE_EP_CFG_ENABLE (a b c : Nat) : Fld := ⟨CORE_EP_CFG a b c, 31, 31⟩
def CORE_EP_CFG_ACCEPT (a b c : Nat) : Fld := ⟨CORE_EP_CFG a b c, 27, 24⟩
def CORE_EP_CFG_READER (a b c : Nat) : Fld := ⟨CORE_EP_CFG a b c, 2, 0⟩
def CORE_EP_STATUS (a b c : Nat) : Nat := 0x00A20004 + 0x00001000 * a + 0x00000200 * b + 8 * c
def CORE_EP_STATUS_WORDS (a b c : Nat) : Fld := ⟨CORE_EP_STATUS a b c, 22, 16⟩
def CORE_EP_STATUS_MESSAGES (a b c : Nat) : Fld := ⟨CORE_EP_STATUS a b c, 12, 8⟩
def CORE_EP_STATUS_RESERVED_WORDS (a b c : Nat) : Fld := ⟨CORE_EP_STATUS a b c, 6, 0⟩
def CORE_PORT_CFG (a b : Nat) : Nat := 0x00A40000 + 0x00000200 * a + 8 * b
def CORE_PORT_CFG_INTERNAL (a b : Nat) : Fld := ⟨CORE_PORT_CFG a b, 31, 31⟩
def CORE_PORT_CFG_GROUP (a b : Nat) : Fld := ⟨CORE_PORT_CFG a b, 5, 0⟩
def CORE_PORT_VALUE (a b : Nat) : Nat := 0x00A40004 + 0x00000200 * a + 8 * b
def CORE_PORT_VALUE_VALUE (a b : Nat) : Fld := ⟨CORE_PORT_VALUE a b, 31, 0⟩
def n_thread_starts (a : Nat) : Nat := 0x00A50000 + 0x00000100 * a
def n_thread_releases (a : Nat) : Nat := 0x00A50008 + 0x00000100 * a
def n_ch_messages (a : Nat) : Nat := 0x00A50010 + 0x00000100 * a
def n_ch_refused (a : Nat) : Nat := 0x00A50018 + 0x00000100 * a
def n_ch_timeouts (a : Nat) : Nat := 0x00A50020 + 0x00000100 * a
def n_wait_all_count (a : Nat) : Nat := 0x00A50028 + 0x00000100 * a
def n_reply_discard (a : Nat) : Nat := 0x00A50030 + 0x00000100 * a
def n_deliver_drop (a : Nat) : Nat := 0x00A50038 + 0x00000100 * a
def n_notify_refused (a : Nat) : Nat := 0x00A50040 + 0x00000100 * a
def n_access_faults (a : Nat) : Nat := 0x00A50048 + 0x00000100 * a

/-! Block 11, ACC (base 0x00B00000). -/

def ACC_CFG : Nat := 0x00B00000
def ACC_CFG_ENABLE : Fld := ⟨ACC_CFG, 31, 31⟩
def ACC_CFG_KT_COUNT : Fld := ⟨ACC_CFG, 10, 0⟩
def ACC_STATUS : Nat := 0x00B00004
def ACC_STATUS_KT_READY : Fld := ⟨ACC_STATUS, 31, 31⟩
def ACC_STATUS_KT_REFUSED : Fld := ⟨ACC_STATUS, 30, 30⟩
def ACC_STATUS_SLOTS_FREE : Fld := ⟨ACC_STATUS, 12, 0⟩
def ACC_KT_BASE : Nat := 0x00B00008
def ACC_KT_BASE_BASE : Fld := ⟨ACC_KT_BASE, 63, 0⟩
def ACC_BS_CFG : Nat := 0x00B00010
def ACC_BS_CFG_FLUSH_MS : Fld := ⟨ACC_BS_CFG, 31, 20⟩
def ACC_BS_CFG_REBUILD_RATE : Fld := ⟨ACC_BS_CFG, 15, 0⟩
def ACC_FW_KT_LOW : Nat := 0x00B00018
def ACC_FW_KT_LOW_BASE : Fld := ⟨ACC_FW_KT_LOW, 19, 0⟩
def ACC_FW_KT_HIGH : Nat := 0x00B0001C
def ACC_FW_KT_HIGH_COUNT : Fld := ⟨ACC_FW_KT_HIGH, 20, 0⟩
def n_acc_jobs : Nat := 0x00B00100
def n_acc_errors : Nat := 0x00B00108
def n_auth_fail_jobs : Nat := 0x00B00110
def n_seal_records : Nat := 0x00B00118
def n_seal_readback : Nat := 0x00B00120
def n_seal_rnr : Nat := 0x00B00128
def n_seal_overdue : Nat := 0x00B00130
def n_bs_reads : Nat := 0x00B00138
def n_bs_writes : Nat := 0x00B00140
def n_bs_decodes : Nat := 0x00B00148
def n_bs_cache_hits : Nat := 0x00B00150
def ACC_DRW_KT_LOW (a : Nat) : Nat := 0x00B10000 + 8 * a
def ACC_DRW_KT_LOW_BASE (a : Nat) : Fld := ⟨ACC_DRW_KT_LOW a, 19, 0⟩
def ACC_DRW_KT_HIGH (a : Nat) : Nat := 0x00B10004 + 8 * a
def ACC_DRW_KT_HIGH_COUNT (a : Nat) : Fld := ⟨ACC_DRW_KT_HIGH a, 20, 0⟩

/-! Block 12, MEM (base 0x00C00000). -/

def MEM_REGION_CFG : Nat := 0x00C00000
def MEM_REGION_CFG_CORE_GIB : Fld := ⟨MEM_REGION_CFG, 20, 16⟩
def MEM_REGION_CFG_SPILL_GIB : Fld := ⟨MEM_REGION_CFG, 13, 8⟩
def MEM_STATUS : Nat := 0x00C00004
def MEM_STATUS_HBM_READY : Fld := ⟨MEM_STATUS, 31, 31⟩
def MEM_STATUS_SIZE_REFUSED : Fld := ⟨MEM_STATUS, 16, 16⟩
def MEM_STATUS_TRAIN_FAIL : Fld := ⟨MEM_STATUS, 15, 12⟩
def MEM_STATUS_TRAINED : Fld := ⟨MEM_STATUS, 11, 8⟩
def MEM_STATUS_CLEARING : Fld := ⟨MEM_STATUS, 4, 4⟩
def MEM_HBM_CTRL : Nat := 0x00C00008
def MEM_HBM_CTRL_TRAIN : Fld := ⟨MEM_HBM_CTRL, 0, 0⟩
def MEM_SCRUB_CFG : Nat := 0x00C00010
def MEM_SCRUB_CFG_JIG_SCRUB : Fld := ⟨MEM_SCRUB_CFG, 31, 31⟩
def MEM_SCRUB_CFG_SRAM_SCRUB_MS : Fld := ⟨MEM_SCRUB_CFG, 29, 16⟩
def MEM_SCRUB_CFG_SCRUB_HOURS : Fld := ⟨MEM_SCRUB_CFG, 7, 0⟩
def MEM_WEAR_CFG : Nat := 0x00C00014
def MEM_WEAR_CFG_WEAR_WINDOW : Fld := ⟨MEM_WEAR_CFG, 31, 24⟩
def MEM_WEAR_CFG_ROW_CE_THR : Fld := ⟨MEM_WEAR_CFG, 23, 16⟩
def MEM_WEAR_CFG_PC_CE_THR : Fld := ⟨MEM_WEAR_CFG, 15, 0⟩
def MEM_INJECT_LOW : Nat := 0x00C00018
def MEM_INJECT_LOW_ADDR_LOW : Fld := ⟨MEM_INJECT_LOW, 31, 0⟩
def MEM_INJECT_HIGH : Nat := 0x00C0001C
def MEM_INJECT_HIGH_ARM : Fld := ⟨MEM_INJECT_HIGH, 31, 31⟩
def MEM_INJECT_HIGH_INJECT_REFUSED : Fld := ⟨MEM_INJECT_HIGH, 30, 30⟩
def MEM_INJECT_HIGH_SRAM : Fld := ⟨MEM_INJECT_HIGH, 29, 29⟩
def MEM_INJECT_HIGH_SYMBOLS : Fld := ⟨MEM_INJECT_HIGH, 25, 24⟩
def MEM_INJECT_HIGH_ADDR_HIGH : Fld := ⟨MEM_INJECT_HIGH, 15, 0⟩
def MEM_REGION_BASE (a : Nat) : Nat := 0x00C00100 + 8 * a
def MEM_REGION_BASE_BASE (a : Nat) : Fld := ⟨MEM_REGION_BASE a, 63, 0⟩
def MEM_PC_SPARE (a b : Nat) : Nat := 0x00C00200 + 0x00000010 * a + 4 * b
def MEM_PC_SPARE_COMMITTED (a b : Nat) : Fld := ⟨MEM_PC_SPARE a b, 31, 31⟩
def MEM_PC_SPARE_UNUSABLE (a b : Nat) : Fld := ⟨MEM_PC_SPARE a b, 30, 30⟩
def MEM_PC_SPARE_STATE (a b : Nat) : Fld := ⟨MEM_PC_SPARE a b, 29, 28⟩
def MEM_PC_SPARE_STATE_REFUSED (a b : Nat) : Fld := ⟨MEM_PC_SPARE a b, 27, 27⟩
def MEM_PC_SPARE_TARGET (a b : Nat) : Fld := ⟨MEM_PC_SPARE a b, 4, 0⟩
def MEM_ROW_REPAIR : Nat := 0x00C00300
def MEM_ROW_REPAIR_GO : Fld := ⟨MEM_ROW_REPAIR, 31, 31⟩
def MEM_ROW_REPAIR_ROW : Fld := ⟨MEM_ROW_REPAIR, 24, 16⟩
def MEM_ROW_REPAIR_BANK : Fld := ⟨MEM_ROW_REPAIR, 15, 0⟩
def MEM_ROW_STATUS : Nat := 0x00C00304
def MEM_ROW_STATUS_REFUSED : Fld := ⟨MEM_ROW_STATUS, 31, 31⟩
def MEM_BANK_SEL : Nat := 0x00C00400
def MEM_BANK_SEL_BANK : Fld := ⟨MEM_BANK_SEL, 15, 0⟩
def MEM_BANK_STATUS : Nat := 0x00C00404
def MEM_BANK_STATUS_COLUMNS_FUSED : Fld := ⟨MEM_BANK_STATUS, 31, 30⟩
def MEM_BANK_STATUS_ROWS_FUSED : Fld := ⟨MEM_BANK_STATUS, 27, 24⟩
def MEM_BANK_STATUS_ROWS_IN_USE : Fld := ⟨MEM_BANK_STATUS, 19, 16⟩
def MEM_BANK_STATUS_CORRECTED : Fld := ⟨MEM_BANK_STATUS, 15, 0⟩
def MEM_ERR_LOG_SEL : Nat := 0x00C00500
def MEM_ERR_LOG_SEL_NEXT : Fld := ⟨MEM_ERR_LOG_SEL, 31, 16⟩
def MEM_ERR_LOG_SEL_ENTRY : Fld := ⟨MEM_ERR_LOG_SEL, 5, 0⟩
def MEM_ERR_LOG_DATA (a : Nat) : Nat := 0x00C00510 + 4 * a
def MEM_ERR_LOG_DATA_DATA (a : Nat) : Fld := ⟨MEM_ERR_LOG_DATA a, 31, 0⟩
def n_write_poisoned : Nat := 0x00C00600
def n_hbm_corrected (a : Nat) : Nat := 0x00C01000 + 0x00000040 * a
def n_hbm_uncorrectable (a : Nat) : Nat := 0x00C01008 + 0x00000040 * a
def n_hbm_poison_consumed (a : Nat) : Nat := 0x00C01010 + 0x00000040 * a
def n_hbm_scrub_bytes (a : Nat) : Nat := 0x00C01018 + 0x00000040 * a
def n_sram_corrected (a : Nat) : Nat := 0x00C02000 + 0x00000010 * a
def n_sram_uncorrectable (a : Nat) : Nat := 0x00C02008 + 0x00000010 * a
def MEM_PC_CE (a b : Nat) : Nat := 0x00C03000 + 0x00000100 * a + 4 * b
def MEM_PC_CE_COUNT (a b : Nat) : Fld := ⟨MEM_PC_CE a b, 31, 0⟩
def n_spm_conflict (a b : Nat) : Nat := 0x00C10000 + 0x00000400 * a + 8 * b

/-! Block 13, CAS (base 0x00D00000). -/

def CAS_CFG : Nat := 0x00D00000
def CAS_CFG_ENABLE : Fld := ⟨CAS_CFG, 31, 31⟩
def CAS_CFG_HOP_LIMIT : Fld := ⟨CAS_CFG, 23, 16⟩
def CAS_CFG_LOSS_HB : Fld := ⟨CAS_CFG, 15, 12⟩
def CAS_CFG_ALT_HOLD_MS : Fld := ⟨CAS_CFG, 9, 0⟩
def CAS_DEV_ID : Nat := 0x00D00004
def CAS_DEV_ID_ID_VALID : Fld := ⟨CAS_DEV_ID, 31, 31⟩
def CAS_DEV_ID_ID_REFUSED : Fld := ⟨CAS_DEV_ID, 30, 30⟩
def CAS_DEV_ID_ID : Fld := ⟨CAS_DEV_ID, 15, 0⟩
def CAS_STATUS : Nat := 0x00D00008
def CAS_STATUS_LINKS_UP : Fld := ⟨CAS_STATUS, 7, 0⟩
def CAS_STACK_CFG : Nat := 0x00D00010
def CAS_STACK_CFG_STACK_EN : Fld := ⟨CAS_STACK_CFG, 31, 31⟩
def CAS_STACK_CFG_STACK_MGR : Fld := ⟨CAS_STACK_CFG, 30, 30⟩
def CAS_STACK_CFG_PRIORITY : Fld := ⟨CAS_STACK_CFG, 23, 16⟩
def CAS_STACK_CFG_STACK_ID : Fld := ⟨CAS_STACK_CFG, 15, 0⟩
def CAS_STACK_STATUS : Nat := 0x00D00014
def CAS_STACK_STATUS_ROLE : Fld := ⟨CAS_STACK_STATUS, 31, 30⟩
def CAS_STACK_STATUS_HEAD_LINK : Fld := ⟨CAS_STACK_STATUS, 26, 24⟩
def CAS_STACK_STATUS_MEMBERS : Fld := ⟨CAS_STACK_STATUS, 19, 16⟩
def CAS_STACK_STATUS_HEAD_ID : Fld := ⟨CAS_STACK_STATUS, 15, 0⟩
def CAS_STACK_MEMBER (a : Nat) : Nat := 0x00D00020 + 4 * a
def CAS_STACK_MEMBER_VALID (a : Nat) : Fld := ⟨CAS_STACK_MEMBER a, 31, 31⟩
def CAS_STACK_MEMBER_LINK (a : Nat) : Fld := ⟨CAS_STACK_MEMBER a, 26, 24⟩
def CAS_STACK_MEMBER_ID (a : Nat) : Fld := ⟨CAS_STACK_MEMBER a, 15, 0⟩
def CAS_TIME_CFG : Nat := 0x00D00040
def CAS_TIME_CFG_FOLLOW_HEAD : Fld := ⟨CAS_TIME_CFG, 31, 31⟩
def CAS_TIME_CFG_ALT_EN : Fld := ⟨CAS_TIME_CFG, 30, 30⟩
def CAS_TIME_CFG_ALT_LINK : Fld := ⟨CAS_TIME_CFG, 26, 24⟩
def CAS_TIME_CFG_TIME_LINK : Fld := ⟨CAS_TIME_CFG, 18, 16⟩
def CAS_TIME_CFG_LOCK_NS : Fld := ⟨CAS_TIME_CFG, 15, 0⟩
def CAS_TIME_STATUS : Nat := 0x00D00044
def CAS_TIME_STATUS_LOCKED : Fld := ⟨CAS_TIME_STATUS, 31, 31⟩
def CAS_TIME_STATUS_HOLDOVER : Fld := ⟨CAS_TIME_STATUS, 30, 30⟩
def CAS_TIME_STATUS_SOURCE_ALT : Fld := ⟨CAS_TIME_STATUS, 29, 29⟩
def CAS_TIME_STATUS_DEPTH : Fld := ⟨CAS_TIME_STATUS, 23, 16⟩
def CAS_TIME_STATUS_OFFSET : Fld := ⟨CAS_TIME_STATUS, 15, 0⟩
def CAS_REMOTE_CTRL : Nat := 0x00D00080
def CAS_REMOTE_CTRL_GO : Fld := ⟨CAS_REMOTE_CTRL, 31, 31⟩
def CAS_REMOTE_CTRL_WRITE : Fld := ⟨CAS_REMOTE_CTRL, 30, 30⟩
def CAS_REMOTE_CTRL_SIZE8 : Fld := ⟨CAS_REMOTE_CTRL, 29, 29⟩
def CAS_REMOTE_CTRL_SPACE : Fld := ⟨CAS_REMOTE_CTRL, 28, 28⟩
def CAS_REMOTE_CTRL_STATUS : Fld := ⟨CAS_REMOTE_CTRL, 23, 16⟩
def CAS_REMOTE_CTRL_TARGET : Fld := ⟨CAS_REMOTE_CTRL, 15, 0⟩
def CAS_REMOTE_ADDR : Nat := 0x00D00088
def CAS_REMOTE_ADDR_ADDR : Fld := ⟨CAS_REMOTE_ADDR, 39, 0⟩
def CAS_REMOTE_DATA : Nat := 0x00D00090
def CAS_REMOTE_DATA_DATA : Fld := ⟨CAS_REMOTE_DATA, 63, 0⟩
def CAS_LINK_CFG (a : Nat) : Nat := 0x00D00100 + 0x00000020 * a
def CAS_LINK_CFG_ADMIN_UP (a : Nat) : Fld := ⟨CAS_LINK_CFG a, 31, 31⟩
def CAS_LINK_CFG_TRAIN_EN (a : Nat) : Fld := ⟨CAS_LINK_CFG a, 30, 30⟩
def CAS_LINK_STATUS (a : Nat) : Nat := 0x00D00104 + 0x00000020 * a
def CAS_LINK_STATUS_STATE (a : Nat) : Fld := ⟨CAS_LINK_STATUS a, 31, 29⟩
def CAS_LINK_STATUS_LAST_LOSS (a : Nat) : Fld := ⟨CAS_LINK_STATUS a, 27, 24⟩
def CAS_LINK_STATUS_PEER_LINK (a : Nat) : Fld := ⟨CAS_LINK_STATUS a, 18, 16⟩
def CAS_LINK_STATUS_PEER_ID (a : Nat) : Fld := ⟨CAS_LINK_STATUS a, 15, 0⟩
def CAS_LINK_TQ (a : Nat) : Nat := 0x00D00108 + 0x00000020 * a
def CAS_LINK_TQ_QUEUE (a : Nat) : Fld := ⟨CAS_LINK_TQ a, 19, 0⟩
def CAS_LINK_OQ (a : Nat) : Nat := 0x00D0010C + 0x00000020 * a
def CAS_LINK_OQ_QUEUE (a : Nat) : Fld := ⟨CAS_LINK_OQ a, 19, 0⟩
def CAS_BCAST_MASK (a : Nat) : Nat := 0x00D00110 + 0x00000020 * a
def CAS_BCAST_MASK_LOCAL (a : Nat) : Fld := ⟨CAS_BCAST_MASK a, 8, 8⟩
def CAS_BCAST_MASK_FWD (a : Nat) : Fld := ⟨CAS_BCAST_MASK a, 7, 0⟩
def CAS_LINK_ASYM (a : Nat) : Nat := 0x00D00114 + 0x00000020 * a
def CAS_LINK_ASYM_ASYM (a : Nat) : Fld := ⟨CAS_LINK_ASYM a, 15, 0⟩
def CAS_BCAST_ORIGIN : Nat := 0x00D00300
def CAS_BCAST_ORIGIN_FWD : Fld := ⟨CAS_BCAST_ORIGIN, 7, 0⟩
def n_route_miss : Nat := 0x00D01000
def n_route_self : Nat := 0x00D01008
def n_route_drop : Nat := 0x00D01010
def n_hop_expired : Nat := 0x00D01018
def n_bcast_self : Nat := 0x00D01020
def n_remote_refused : Nat := 0x00D01028
def n_flits_tx (a : Nat) : Nat := 0x00D02000 + 0x00000100 * a
def n_flits_rx (a : Nat) : Nat := 0x00D02008 + 0x00000100 * a
def n_crc_error (a : Nat) : Nat := 0x00D02010 + 0x00000100 * a
def n_replay_count (a : Nat) : Nat := 0x00D02018 + 0x00000100 * a
def n_records_tx (a : Nat) : Nat := 0x00D02020 + 0x00000100 * a
def n_records_rx (a : Nat) : Nat := 0x00D02028 + 0x00000100 * a
def n_transit_records (a : Nat) : Nat := 0x00D02030 + 0x00000100 * a
def n_record_drop (a : Nat) : Nat := 0x00D02038 + 0x00000100 * a
def n_frames_lost (a : Nat) : Nat := 0x00D02040 + 0x00000100 * a
def n_link_lost_count (a : Nat) : Nat := 0x00D02048 + 0x00000100 * a
def CAS_ROUTE (a : Nat) : Nat := 0x00D40000 + 4 * a
def CAS_ROUTE_VALID (a : Nat) : Fld := ⟨CAS_ROUTE a, 31, 31⟩
def CAS_ROUTE_BCAST (a : Nat) : Fld := ⟨CAS_ROUTE a, 30, 30⟩
def CAS_ROUTE_USE_ALT (a : Nat) : Fld := ⟨CAS_ROUTE a, 29, 29⟩
def CAS_ROUTE_ALT_EN (a : Nat) : Fld := ⟨CAS_ROUTE a, 23, 23⟩
def CAS_ROUTE_ALT (a : Nat) : Fld := ⟨CAS_ROUTE a, 18, 16⟩
def CAS_ROUTE_PRIMARY (a : Nat) : Fld := ⟨CAS_ROUTE a, 2, 0⟩

/-! Block 14, PWR (base 0x00E00000). -/

def PWR_CFG : Nat := 0x00E00000
def PWR_CFG_JIG_STATES : Fld := ⟨PWR_CFG, 31, 31⟩
def PWR_CFG_DRAIN_US : Fld := ⟨PWR_CFG, 10, 0⟩
def PWR_STATE_REQ : Nat := 0x00E00004
def PWR_STATE_REQ_GO : Fld := ⟨PWR_STATE_REQ, 31, 31⟩
def PWR_STATE_REQ_REFUSED : Fld := ⟨PWR_STATE_REQ, 30, 30⟩
def PWR_STATE_REQ_REASON : Fld := ⟨PWR_STATE_REQ, 29, 27⟩
def PWR_STATE_REQ_TARGET : Fld := ⟨PWR_STATE_REQ, 2, 0⟩
def PWR_STATUS : Nat := 0x00E00008
def PWR_STATUS_DEV_STATE : Fld := ⟨PWR_STATUS, 31, 29⟩
def PWR_STATUS_BUSY : Fld := ⟨PWR_STATUS, 28, 28⟩
def PWR_STATUS_STEP : Fld := ⟨PWR_STATUS, 27, 24⟩
def PWR_STATUS_WAKE_PENDING : Fld := ⟨PWR_STATUS, 23, 23⟩
def PWR_STATUS_LAST_DURING_ENTRY : Fld := ⟨PWR_STATUS, 22, 22⟩
def PWR_STATUS_LOST : Fld := ⟨PWR_STATUS, 19, 16⟩
def PWR_STATUS_SUPPLY_FAULT : Fld := ⟨PWR_STATUS, 15, 15⟩
def PWR_STATUS_LAST_WAKE : Fld := ⟨PWR_STATUS, 14, 8⟩
def PWR_WAKE_EN : Nat := 0x00E0000C
def PWR_WAKE_EN_ENABLE : Fld := ⟨PWR_WAKE_EN, 6, 0⟩
def PWR_WAKE_STATUS : Nat := 0x00E00010
def PWR_WAKE_STATUS_SEEN : Fld := ⟨PWR_WAKE_STATUS, 7, 0⟩
def PWR_WAKE_CFG : Nat := 0x00E00014
def PWR_WAKE_CFG_AUTH_EN : Fld := ⟨PWR_WAKE_CFG, 31, 31⟩
def PWR_WAKE_CFG_ANY_TARGET : Fld := ⟨PWR_WAKE_CFG, 30, 30⟩
def PWR_ALARM : Nat := 0x00E00018
def PWR_ALARM_ALARM : Fld := ⟨PWR_ALARM, 63, 0⟩
def PWR_WAKE_KEY (a : Nat) : Nat := 0x00E00020 + 4 * a
def PWR_WAKE_KEY_KEY (a : Nat) : Fld := ⟨PWR_WAKE_KEY a, 31, 0⟩
def PWR_WAKE_SEQ : Nat := 0x00E00040
def PWR_WAKE_SEQ_SEQ : Fld := ⟨PWR_WAKE_SEQ, 63, 0⟩
def PWR_FLYLEAF_STATUS : Nat := 0x00E00050
def PWR_FLYLEAF_STATUS_SRAM_OK : Fld := ⟨PWR_FLYLEAF_STATUS, 31, 31⟩
def PWR_FLYLEAF_STATUS_EXTENT_OK : Fld := ⟨PWR_FLYLEAF_STATUS, 30, 30⟩
def PWR_FLYLEAF_STATUS_EXTENT_MIB : Fld := ⟨PWR_FLYLEAF_STATUS, 9, 0⟩
def PWR_RAIL_CFG (a : Nat) : Nat := 0x00E00100 + 4 * a
def PWR_RAIL_CFG_PG_EN (a : Nat) : Fld := ⟨PWR_RAIL_CFG a, 31, 31⟩
def PWR_RAIL_CFG_DEEP_OFF (a : Nat) : Fld := ⟨PWR_RAIL_CFG a, 30, 30⟩
def PWR_RAIL_CFG_OFF_OFF (a : Nat) : Fld := ⟨PWR_RAIL_CFG a, 29, 29⟩
def PWR_RAIL_CFG_GROUP (a : Nat) : Fld := ⟨PWR_RAIL_CFG a, 25, 24⟩
def PWR_RAIL_CFG_PG_TIMEOUT_US (a : Nat) : Fld := ⟨PWR_RAIL_CFG a, 15, 0⟩
def PWR_RAIL_STATUS : Nat := 0x00E00140
def PWR_RAIL_STATUS_PG : Fld := ⟨PWR_RAIL_STATUS, 27, 16⟩
def PWR_RAIL_STATUS_EN : Fld := ⟨PWR_RAIL_STATUS, 11, 0⟩
def PWR_DOMAIN (a : Nat) : Nat := 0x00E01000 + 4 * a
def PWR_DOMAIN_STATE (a : Nat) : Fld := ⟨PWR_DOMAIN a, 31, 30⟩
def PWR_DOMAIN_JIG_ALLOW (a : Nat) : Fld := ⟨PWR_DOMAIN a, 29, 29⟩
def PWR_DOMAIN_GO (a : Nat) : Fld := ⟨PWR_DOMAIN a, 28, 28⟩
def PWR_DOMAIN_REFUSED (a : Nat) : Fld := ⟨PWR_DOMAIN a, 27, 27⟩
def PWR_DOMAIN_REQ (a : Nat) : Fld := ⟨PWR_DOMAIN a, 25, 24⟩
def n_state_changes : Nat := 0x00E02000
def n_deep_entries : Nat := 0x00E02008
def n_deep_abandoned : Nat := 0x00E02010
def n_deep_ingress_drop : Nat := 0x00E02018
def n_wake_during_entry : Nat := 0x00E02020
def n_wake_frames_rx : Nat := 0x00E02028
def n_wake_frame_refused : Nat := 0x00E02030
def n_supply_faults : Nat := 0x00E02038
def n_flyleaf_restore_fail : Nat := 0x00E02040

/-! Block 15, JIG (base 0x00F00000). -/

def JIG_CFG : Nat := 0x00F00000
def JIG_CFG_ENABLE : Fld := ⟨JIG_CFG, 31, 31⟩
def JIG_CFG_VEC_EN : Fld := ⟨JIG_CFG, 24, 24⟩
def JIG_CFG_LOG_MOD : Fld := ⟨JIG_CFG, 23, 16⟩
def JIG_CFG_VECTOR : Fld := ⟨JIG_CFG, 7, 0⟩
def JIG_STATUS : Nat := 0x00F00004
def JIG_STATUS_RUNNING : Fld := ⟨JIG_STATUS, 31, 31⟩
def JIG_STATUS_LOG_FULL : Fld := ⟨JIG_STATUS, 30, 30⟩
def JIG_STATUS_THROTTLED : Fld := ⟨JIG_STATUS, 29, 29⟩
def JIG_LOG_BASE : Nat := 0x00F00008
def JIG_LOG_BASE_BASE : Fld := ⟨JIG_LOG_BASE, 63, 0⟩
def JIG_LOG_CFG : Nat := 0x00F00010
def JIG_LOG_CFG_MEM : Fld := ⟨JIG_LOG_CFG, 31, 31⟩
def JIG_LOG_CFG_LOG2_SIZE : Fld := ⟨JIG_LOG_CFG, 4, 0⟩
def JIG_LOG_PROD : Nat := 0x00F00014
def JIG_LOG_PROD_PROD : Fld := ⟨JIG_LOG_PROD, 31, 0⟩
def JIG_LOG_CONS : Nat := 0x00F00018
def JIG_LOG_CONS_CONS : Fld := ⟨JIG_LOG_CONS, 31, 0⟩
def JIG_STOP (a : Nat) : Nat := 0x00F00040 + 4 * a
def JIG_STOP0_DEEPEST : Fld := ⟨JIG_STOP 0, 31, 30⟩
def JIG_STOP0_MIN_IDLE_MS : Fld := ⟨JIG_STOP 0, 15, 0⟩
def JIG_STOP1_FMAX_MHZ : Fld := ⟨JIG_STOP 1, 27, 16⟩
def JIG_STOP1_FMIN_MHZ : Fld := ⟨JIG_STOP 1, 11, 0⟩
def JIG_STOP2_POWER_CAP_W : Fld := ⟨JIG_STOP 2, 9, 0⟩
def JIG_STOP3_DIE_MAX : Fld := ⟨JIG_STOP 3, 31, 16⟩
def JIG_STOP3_DIE_MIN : Fld := ⟨JIG_STOP 3, 15, 0⟩
def JIG_STOP4_SCRUB_MIN_H : Fld := ⟨JIG_STOP 4, 31, 24⟩
def JIG_STOP4_SCAN_MIN_MS : Fld := ⟨JIG_STOP 4, 23, 8⟩
def JIG_STOP4_SRAM_SCRUB_MIN_MS : Fld := ⟨JIG_STOP 4, 7, 0⟩
def JIG_STOP5_WEIGHT_MAX_HI : Fld := ⟨JIG_STOP 5, 31, 28⟩
def JIG_STOP5_WEIGHT_MAX_LO : Fld := ⟨JIG_STOP 5, 27, 24⟩
def JIG_STOP5_CWND_INIT_HI : Fld := ⟨JIG_STOP 5, 21, 11⟩
def JIG_STOP5_CWND_INIT_LO : Fld := ⟨JIG_STOP 5, 10, 0⟩
def JIG_STOP6_LANE : Fld := ⟨JIG_STOP 6, 31, 31⟩
def JIG_STOP6_CORE : Fld := ⟨JIG_STOP 6, 30, 30⟩
def JIG_STOP6_ROW : Fld := ⟨JIG_STOP 6, 29, 29⟩
def JIG_STOP6_PC : Fld := ⟨JIG_STOP 6, 28, 28⟩
def JIG_STOP6_FUSE : Fld := ⟨JIG_STOP 6, 27, 27⟩
def JIG_STOP6_FUSE_HOLD_H : Fld := ⟨JIG_STOP 6, 23, 8⟩
def JIG_STOP6_COPY_GBPS : Fld := ⟨JIG_STOP 6, 7, 0⟩
def JIG_WEAR_CFG : Nat := 0x00F00080
def JIG_WEAR_CFG_MARGIN_THR : Fld := ⟨JIG_WEAR_CFG, 31, 16⟩
def JIG_WEAR_CFG_CORE_AGE_PPM : Fld := ⟨JIG_WEAR_CFG, 15, 0⟩
def JIG_COPY_STATUS : Nat := 0x00F000A0
def JIG_COPY_STATUS_PHASE : Fld := ⟨JIG_COPY_STATUS, 31, 30⟩
def JIG_COPY_STATUS_STACK : Fld := ⟨JIG_COPY_STATUS, 25, 24⟩
def JIG_COPY_STATUS_SPARE : Fld := ⟨JIG_COPY_STATUS, 20, 20⟩
def JIG_COPY_STATUS_TARGET : Fld := ⟨JIG_COPY_STATUS, 12, 8⟩
def JIG_COPY_STATUS_PC_FAILED : Fld := ⟨JIG_COPY_STATUS, 7, 0⟩
def JIG_COPY_CURSOR : Nat := 0x00F000A4
def JIG_COPY_CURSOR_LINE : Fld := ⟨JIG_COPY_CURSOR, 23, 0⟩
def JIG_FUSE_STATUS : Nat := 0x00F000C0
def JIG_FUSE_STATUS_USED : Fld := ⟨JIG_FUSE_STATUS, 25, 16⟩
def JIG_FUSE_STATUS_FREE : Fld := ⟨JIG_FUSE_STATUS, 9, 0⟩
def JIG_CORE_SPARE (a : Nat) : Nat := 0x00F00100 + 4 * a
def JIG_CORE_SPARE_COMMITTED (a : Nat) : Fld := ⟨JIG_CORE_SPARE a, 31, 31⟩
def JIG_CORE_SPARE_IN_USE (a : Nat) : Fld := ⟨JIG_CORE_SPARE a, 30, 30⟩
def JIG_CORE_SPARE_PENDING (a : Nat) : Fld := ⟨JIG_CORE_SPARE a, 29, 29⟩
def JIG_CORE_SPARE_SPARE_FAILED (a : Nat) : Fld := ⟨JIG_CORE_SPARE a, 28, 28⟩
def JIG_CORE_SPARE_FOR_CORE (a : Nat) : Fld := ⟨JIG_CORE_SPARE a, 2, 0⟩
def JIG_HEALTH (a : Nat) : Nat := 0x00F01000 + 4 * a
def JIG_HEALTH_AGE_PPM (a : Nat) : Fld := ⟨JIG_HEALTH a, 31, 16⟩
def JIG_HEALTH_TEMP_C (a : Nat) : Fld := ⟨JIG_HEALTH a, 7, 0⟩
def JIG_CORE_HEALTH (a b : Nat) : Nat := 0x00F01400 + 0x00000020 * a + 4 * b
def JIG_CORE_HEALTH_AGE_PPM (a b : Nat) : Fld := ⟨JIG_CORE_HEALTH a b, 31, 16⟩
def JIG_CORE_HEALTH_MARGIN (a b : Nat) : Fld := ⟨JIG_CORE_HEALTH a b, 15, 0⟩
def n_jig_decisions : Nat := 0x00F02000
def n_jig_refused_stop : Nat := 0x00F02008
def n_jig_refused_target : Nat := 0x00F02010
def n_jig_deferred : Nat := 0x00F02018
def n_spares_substituted : Nat := 0x00F02020
def n_fuses_burned : Nat := 0x00F02028
def n_throttle_count : Nat := 0x00F02030

/-! Block 16, BOOT (base 0x01000000). -/

def BOOT_STATUS : Nat := 0x01000000
def BOOT_STATUS_MODE : Fld := ⟨BOOT_STATUS, 31, 30⟩
def BOOT_STATUS_SLOT : Fld := ⟨BOOT_STATUS, 29, 29⟩
def BOOT_STATUS_PROOF : Fld := ⟨BOOT_STATUS, 28, 28⟩
def BOOT_STATUS_CAUSE : Fld := ⟨BOOT_STATUS, 27, 24⟩
def BOOT_STATUS_REASON_A : Fld := ⟨BOOT_STATUS, 23, 20⟩
def BOOT_STATUS_REASON_B : Fld := ⟨BOOT_STATUS, 19, 16⟩
def BOOT_STATUS_PROOF_FAIL_A : Fld := ⟨BOOT_STATUS, 15, 15⟩
def BOOT_STATUS_PROOF_FAIL_B : Fld := ⟨BOOT_STATUS, 14, 14⟩
def BOOT_STATUS_HANDOFF : Fld := ⟨BOOT_STATUS, 13, 13⟩
def BOOT_STATUS_SVN : Fld := ⟨BOOT_STATUS, 6, 0⟩
def BOOT_CTRL : Nat := 0x01000004
def BOOT_CTRL_CONFIRM : Fld := ⟨BOOT_CTRL, 31, 31⟩
def BOOT_CTRL_ABANDON : Fld := ⟨BOOT_CTRL, 30, 30⟩
def BOOT_CTRL_RECOVER : Fld := ⟨BOOT_CTRL, 29, 29⟩
def BOOT_CTRL_HANDOFF : Fld := ⟨BOOT_CTRL, 28, 28⟩
def BOOT_CTRL_STAGE : Fld := ⟨BOOT_CTRL, 27, 27⟩
def BOOT_CTRL_STAGE_SLOT : Fld := ⟨BOOT_CTRL, 24, 24⟩
def BOOT_CTRL_CTRL_REFUSED : Fld := ⟨BOOT_CTRL, 23, 23⟩
def BOOT_CTRL_CTRL_REASON : Fld := ⟨BOOT_CTRL, 19, 16⟩
def BOOT_STAGE_STATUS : Nat := 0x01000008
def BOOT_STAGE_STATUS_BUSY : Fld := ⟨BOOT_STAGE_STATUS, 31, 31⟩
def BOOT_STAGE_STATUS_DONE : Fld := ⟨BOOT_STAGE_STATUS, 30, 30⟩
def BOOT_STAGE_STATUS_REASON : Fld := ⟨BOOT_STAGE_STATUS, 3, 0⟩
def BOOT_WDT : Nat := 0x0100000C
def BOOT_WDT_RUNNING : Fld := ⟨BOOT_WDT, 31, 31⟩
def BOOT_WDT_REMAINING_S : Fld := ⟨BOOT_WDT, 11, 0⟩
def BOOT_DIR (a : Nat) : Nat := 0x01000010 + 4 * a
def BOOT_DIR_STATE (a : Nat) : Fld := ⟨BOOT_DIR a, 31, 30⟩
def BOOT_DIR_GEN (a : Nat) : Fld := ⟨BOOT_DIR a, 23, 0⟩
def BOOT_FLASH_CTRL : Nat := 0x01000040
def BOOT_FLASH_CTRL_GO : Fld := ⟨BOOT_FLASH_CTRL, 31, 31⟩
def BOOT_FLASH_CTRL_BUSY : Fld := ⟨BOOT_FLASH_CTRL, 30, 30⟩
def BOOT_FLASH_CTRL_DONE : Fld := ⟨BOOT_FLASH_CTRL, 29, 29⟩
def BOOT_FLASH_CTRL_RESULT : Fld := ⟨BOOT_FLASH_CTRL, 27, 24⟩
def BOOT_FLASH_CTRL_OP : Fld := ⟨BOOT_FLASH_CTRL, 2, 0⟩
def BOOT_FLASH_ADDR : Nat := 0x01000044
def BOOT_FLASH_ADDR_ADDR : Fld := ⟨BOOT_FLASH_ADDR, 31, 0⟩
def BOOT_FLASH_LEN : Nat := 0x01000048
def BOOT_FLASH_LEN_LEN : Fld := ⟨BOOT_FLASH_LEN, 28, 0⟩
def BOOT_FLASH_HBM : Nat := 0x01000050
def BOOT_FLASH_HBM_HBM : Fld := ⟨BOOT_FLASH_HBM, 39, 0⟩
def BOOT_DIGEST_CTRL : Nat := 0x01000060
def BOOT_DIGEST_CTRL_GO : Fld := ⟨BOOT_DIGEST_CTRL, 31, 31⟩
def BOOT_DIGEST_CTRL_DONE : Fld := ⟨BOOT_DIGEST_CTRL, 29, 29⟩
def BOOT_DIGEST_ADDR : Nat := 0x01000068
def BOOT_DIGEST_ADDR_ADDR : Fld := ⟨BOOT_DIGEST_ADDR, 39, 0⟩
def BOOT_DIGEST_LEN : Nat := 0x01000070
def BOOT_DIGEST_LEN_LEN : Fld := ⟨BOOT_DIGEST_LEN, 28, 0⟩
def BOOT_DIGEST_DATA (a : Nat) : Nat := 0x01000080 + 4 * a
def BOOT_DIGEST_DATA_DIGEST (a : Nat) : Fld := ⟨BOOT_DIGEST_DATA a, 31, 0⟩
def BOOT_FUSE_ERRATA : Nat := 0x01000100
def BOOT_FUSE_ERRATA_SVN_FLOOR : Fld := ⟨BOOT_FUSE_ERRATA, 22, 16⟩
def BOOT_FUSE_ERRATA_ROOT_REVOKED : Fld := ⟨BOOT_FUSE_ERRATA, 3, 0⟩
def BOOT_FUSE_KEYREV : Nat := 0x01000108
def BOOT_FUSE_KEYREV_KEY_REVOKED : Fld := ⟨BOOT_FUSE_KEYREV, 63, 0⟩
def BOOT_FUSE_MISC : Nat := 0x01000110
def BOOT_FUSE_MISC_DEBUG_DISABLE : Fld := ⟨BOOT_FUSE_MISC, 31, 31⟩
def BOOT_FUSE_MISC_RECOVERY_SPLIT : Fld := ⟨BOOT_FUSE_MISC, 8, 8⟩
def BOOT_FUSE_MISC_RECOVERY_PORT : Fld := ⟨BOOT_FUSE_MISC, 6, 0⟩
def BOOT_ROOT_HASH (a b : Nat) : Nat := 0x01000200 + 0x00000040 * a + 4 * b
def BOOT_ROOT_HASH_HASH (a b : Nat) : Fld := ⟨BOOT_ROOT_HASH a b, 31, 0⟩
def BOOT_FLASH_DATA (a : Nat) : Nat := 0x01001000 + 4 * a
def BOOT_FLASH_DATA_DATA (a : Nat) : Fld := ⟨BOOT_FLASH_DATA a, 31, 0⟩

/-! Block 17, ERR (base 0x01100000). -/

def ERR_STATUS : Nat := 0x01100000
def ERR_STATUS_RESET_CAUSE : Fld := ⟨ERR_STATUS, 3, 0⟩
def ERR_WARM_RESET : Nat := 0x01100004
def ERR_WARM_RESET_KEY : Fld := ⟨ERR_WARM_RESET, 31, 24⟩
def ERR_WARM_RESET_GO : Fld := ⟨ERR_WARM_RESET, 0, 0⟩
def ERR_HALT : Nat := 0x01100008
def ERR_HALT_KEY : Fld := ⟨ERR_HALT, 31, 24⟩
def ERR_HALT_GO : Fld := ⟨ERR_HALT, 0, 0⟩
def ERR_BLOCK_RESET : Nat := 0x0110000C
def ERR_BLOCK_RESET_GO : Fld := ⟨ERR_BLOCK_RESET, 31, 31⟩
def ERR_BLOCK_RESET_REFUSED : Fld := ⟨ERR_BLOCK_RESET, 30, 30⟩
def ERR_BLOCK_RESET_BUSY : Fld := ⟨ERR_BLOCK_RESET, 29, 29⟩
def ERR_BLOCK_RESET_BLOCK : Fld := ⟨ERR_BLOCK_RESET, 20, 16⟩
def ERR_BLOCK_RESET_INSTANCE : Fld := ⟨ERR_BLOCK_RESET, 11, 0⟩
def ERR_WDT_CFG : Nat := 0x01100010
def ERR_WDT_CFG_ENABLE : Fld := ⟨ERR_WDT_CFG, 31, 31⟩
def ERR_WDT_CFG_TIMEOUT_MS : Fld := ⟨ERR_WDT_CFG, 15, 0⟩
def ERR_WDT_KICK : Nat := 0x01100014
def ERR_WDT_KICK_KICK : Fld := ⟨ERR_WDT_KICK, 31, 0⟩
def ERR_COLO_SEL : Nat := 0x01100020
def ERR_COLO_SEL_FLYLEAF : Fld := ⟨ERR_COLO_SEL, 31, 31⟩
def ERR_COLO_SEL_PAGE : Fld := ⟨ERR_COLO_SEL, 14, 0⟩
def ERR_COLO_STATUS : Nat := 0x01100024
def ERR_COLO_STATUS_WRITING : Fld := ⟨ERR_COLO_STATUS, 31, 31⟩
def ERR_COLO_STATUS_SHORT_ONLY : Fld := ⟨ERR_COLO_STATUS, 30, 30⟩
def ERR_COLO_STATUS_NEWEST_HALF : Fld := ⟨ERR_COLO_STATUS, 16, 16⟩
def ERR_COLO_STATUS_NEWEST_SEQ : Fld := ⟨ERR_COLO_STATUS, 15, 0⟩
def n_halt_secondary : Nat := 0x01100200
def n_block_resets : Nat := 0x01100208
def n_warm_resets : Nat := 0x01100210
def ERR_COLO_DATA (a : Nat) : Nat := 0x01101000 + 4 * a
def ERR_COLO_DATA_DATA (a : Nat) : Fld := ⟨ERR_COLO_DATA a, 31, 0⟩
def n_target_reset_ended (a : Nat) : Nat := 0x01110000 + 0x00000010 * a
def n_late_reply_discard (a : Nat) : Nat := 0x01110008 + 0x00000010 * a

/-! Block 18, DBG (base 0x01200000). -/

def DBG_STATUS : Nat := 0x01200000
def DBG_STATUS_UNLOCKED : Fld := ⟨DBG_STATUS, 31, 31⟩
def DBG_STATUS_SESSION : Fld := ⟨DBG_STATUS, 30, 30⟩
def DBG_STATUS_TRANSPORT : Fld := ⟨DBG_STATUS, 29, 29⟩
def DBG_STATUS_LAST_REFUSE : Fld := ⟨DBG_STATUS, 27, 24⟩
def DBG_STATUS_REMAINING_S : Fld := ⟨DBG_STATUS, 16, 0⟩
def DBG_CTRL : Nat := 0x01200004
def DBG_CTRL_LOCK : Fld := ⟨DBG_CTRL, 31, 31⟩
def DBG_CTRL_HALT_DEVICE : Fld := ⟨DBG_CTRL, 30, 30⟩
def DBG_CHALLENGE (a : Nat) : Nat := 0x01200010 + 4 * a
def DBG_CHALLENGE_CHALLENGE (a : Nat) : Fld := ⟨DBG_CHALLENGE a, 31, 0⟩
def DBG_TOKEN_CTRL : Nat := 0x01200040
def DBG_TOKEN_CTRL_SUBMIT : Fld := ⟨DBG_TOKEN_CTRL, 31, 31⟩
def DBG_THREAD_SEL : Nat := 0x01200080
def DBG_THREAD_SEL_THREAD : Fld := ⟨DBG_THREAD_SEL, 10, 0⟩
def DBG_THREAD_CTL : Nat := 0x01200084
def DBG_THREAD_CTL_HALT : Fld := ⟨DBG_THREAD_CTL, 31, 31⟩
def DBG_THREAD_CTL_RESUME : Fld := ⟨DBG_THREAD_CTL, 30, 30⟩
def DBG_THREAD_CTL_STEP : Fld := ⟨DBG_THREAD_CTL, 29, 29⟩
def DBG_THREAD_CTL_THREAD_REFUSED : Fld := ⟨DBG_THREAD_CTL, 28, 28⟩
def DBG_THREAD_STATUS : Nat := 0x01200088
def DBG_THREAD_STATUS_HALTED : Fld := ⟨DBG_THREAD_STATUS, 0, 0⟩
def DBG_TOKEN_DATA (a : Nat) : Nat := 0x01204000 + 4 * a
def DBG_TOKEN_DATA_DATA (a : Nat) : Fld := ⟨DBG_TOKEN_DATA a, 31, 0⟩

end Sys2Proof.Machine.Reg
end

