-- ==== Sys2Proof/Machine/State.lean ====
section
/-! DEFINITION. The state of the device as plain data, and the state right after a power-on reset. Every register and counter of
BAR0 stands in `regs`, the sparse register file; what the spec gives the device beyond its registers stands in the records
below. -/

namespace Sys2Proof.Machine

/-- Why the device model stops. No command of the spec stops it: every behaviour the spec gives is a next state, a device
halt included. The one constructor stands for an access to an address outside every space the spec lays out and is safe. -/
inductive Fault where
  /-- Raised by no meaning at present; safe, since it only stops the model. -/
  | noSuchAddress (addr : Nat)
deriving DecidableEq, Repr

/-- Why the model answers no state. -/
inductive Refusal where
  /-- Raised only by the arms of `exec` for a command whose meaning is not written; safe. -/
  | notModelled (mnemonic : String)
deriving DecidableEq, Repr

/-! ## Rings and their completion and event traffic (R114–R140) -/

/-- The states of a ring (R126); `absent` is a ring that does not exist (R149). -/
inductive RingSt where
  | absent | active | flushing | stopped
deriving DecidableEq, Repr

/-- What a ring carries (R114): submissions, completions or event records. -/
inductive RingKind where
  | sub | cpl | evt
deriving DecidableEq, Repr

/-- One accepted work item of a submission ring (R117, R120): the index of its head entry, the header fields, the entries
it takes, and whether it has started. -/
structure Item where
  index   : Nat
  opcode  : Nat
  tag     : Nat
  cplReq  : Bool
  order   : Bool
  flags   : Nat
  chain   : Nat
  started : Bool
  posted  : Bool                -- a receive buffer that FRAME_RECV or RECV has posted (R131, R254)
  segs    : List (Nat × Nat)    -- its segments: address and length
  body    : List Byte
deriving DecidableEq, Repr

/-- An item's end that is held back: its index, tag, CPL_REQ, status, COUNT and detail. -/
structure Ended where
  index  : Nat
  tag    : Nat
  cplReq : Bool
  st     : Nat
  count  : Nat
  detail : List Nat
deriving DecidableEq, Repr

/-- One ring: a drawer's ring or a control slot (R114–R137). -/
structure Ring where
  st       : RingSt
  kind     : RingKind
  log2     : Nat          -- size as log2 of entries (R115)
  base     : Nat
  inDev    : Bool         -- held in device memory (R114, R149 MEM)
  link     : Nat          -- key of the bound completion ring, of a submission ring
  vec      : Option Nat   -- MSI-X vector of a completion or event ring (R137)
  mirror   : Option Nat   -- head mirror address (R127)
  mirrorAt : Nat          -- consumer index at the last mirror write
  dev      : Nat          -- device index: C of a submission ring, P of the others (R118)
  peer     : Nat          -- X, the last index accepted from the producer or consumer (R121)
  limit    : Nat          -- producer index the device works to (R133)
  spec     : Nat          -- entries below this index have been read once (R132)
  reserved : Nat          -- credits reserved and not yet written (R135)
  items    : List Item
  slips    : SMap (List Byte)   -- descriptors taken from slips, by index (R123)
  armed    : Bool
  modCount : Nat
  modUsec  : Nat
  unsig    : Nat          -- entries written since the last message (R137)
  oldest   : Nat          -- device time of the oldest of them
  starved  : Bool         -- R136
  starveUp : Bool         -- ring.cq_starved already raised in this episode
  done     : List Ended     -- ends held back in strict mode (R66)
  lastRR   : Nat          -- submission ring served last (R135)
  seq      : Nat          -- sequence number of the next event record (R138)
  lost     : Nat          -- records lost since the last ring.event_overflow (R140)
  waitQuit : Option Item  -- the RING_DISABLE that waits for the last item (R126)
  lastStat : Nat          -- status that stopped a control slot (R141)
  gen      : Nat          -- drawer generation of the ring's work (R21)
  nv       : Nat          -- entries of an NVM Express queue, which holds one less; a virtqueue's and one; 0 for other rings
deriving DecidableEq, Repr

/-- A ring that does not exist. -/
def Ring.absent : Ring :=
  { st := .absent, kind := .sub, log2 := 6, base := 0, inDev := false, link := 0, vec := none, mirror := none, mirrorAt := 0,
    dev := 0, peer := 0, limit := 0, spec := 0, reserved := 0, items := [], slips := [], armed := true, modCount := 1,
    modUsec := 0, unsig := 0, oldest := 0, starved := false, starveUp := false, done := [],
    lastRR := 0, seq := 0, lost := 0,
    waitQuit := none, lastStat := 0, gen := 0, nv := 0 }

/-- One event raised by the device (R138, R140): its code, source instance, device time, the ring it is directed to
(0 the manager's, `d + 1` drawer `d`'s) and the values of its detail. -/
structure Event where
  code   : Nat
  source : Nat
  time   : Nat
  dest   : Nat
  detail : List Nat
deriving DecidableEq, Repr
/-! ## What leaves the device -/

/-- Messages a host port sends to its host (R68–R76). -/
inductive PcieMsg where
  | cfgRetry | cfgOk | unsupported | completerAbort | readData (data : List Byte) | translationRequest (addr : Nat)
  | invalidationCompletion (tag : Nat) | pmeToAck | pme (fn : Nat) | ltr (value : Nat) | errFatal
  | readRequest (tag addr len : Nat) | flushRead
deriving DecidableEq, Repr

/-- What the device sends out, in order: the model's record of its outputs. -/
inductive Out where
  /-- A completion entry written (R134). -/
  | completion (ring index status tag count : Nat) (detail : List Nat)
  /-- An event record written to an event ring (R138). -/
  | record (ring index seq : Nat) (e : Event)
  /-- An MSI-X message of the ring's vector (R137); `ring` names whose function. -/
  | msix (ring vector : Nat)
  /-- A head mirror written (R127). -/
  | mirror (ring value : Nat)
  /-- A frame leaves on a port (R234), with FCS. -/
  | frame (port : Nat) (data : List Byte)
  /-- A DMA write to host memory of a port (R66). -/
  | hostWrite (port addr : Nat) (data : List Byte)
  /-- A Spline operation that the block service issues on a target's connection: a READ of `len` bytes, or the data
  of a WRITE or SEND (R356–R358). -/
  | spline (conn opcode rkey roff len : Nat) (data : List Byte)
  | pcie (port : Nat) (m : PcieMsg)
  /-- A flit on a Winak link (R392–R395). -/
  | flit (link : Nat) (data : List Byte)
  /-- An output pin driven: the ball's name and its level (R534–R549). -/
  | pin (name : String) (level : Bool)
  /-- An answer on a management path (R502, R527, R529): path, sequence, status and data. -/
  | reply (path seq status : Nat) (data : List Byte)
  /-- A 16-byte completion entry of an NVM Express queue (R91): completion ring and index, submission queue, SQHD, command
  identifier, status as SCT × 256 + SC, and dword 0. -/
  | nvme (ring index sq sqhd cid status dw0 : Nat)
  /-- A used element of a virtqueue (R93): the queue's ring, the buffer's identifier and how many bytes were written to it. -/
  | used (ring id len : Nat)
  /-- A byte on the UART (R526). -/
  | uart (b : Byte)
  /-- Bytes programmed into the flash at an offset (R458, R460, R477). -/
  | program (addr : Nat) (data : List Byte)
  /-- Sectors of 64 KiB of the flash erased from an offset on. -/
  | erase (addr sectors : Nat)
  /-- A frame sent on the management port, without FCS (R528). -/
  | mgmt (data : List Byte)
deriving DecidableEq, Repr

/-! ## Lanes and octets (R35–R51) -/

/-- What is in force on an octet beside its role, as captured by APPLY (R35, R36, R38). -/
structure OctPlan where
  mode  : Nat           -- ETH_MODE
  split : Bool          -- HOST_SPLIT
  sris  : Bool          -- REFCLK_SEL
deriving DecidableEq, Repr

/-- A ninth-lane steering in progress, or in force (R46, R48). -/
structure Steer where
  lane    : Nat
  pair    : Bool        -- pair replacement
  byJig   : Bool
  reverse : Bool        -- a REVERT is running
  loaded  : Bool        -- step 2: coefficients loaded
  good    : Nat         -- windows of step 4 passed so far
  answer  : Bool        -- the peer's REQ began it (R395)
  acked   : Bool        -- the peer has answered ACK
deriving DecidableEq, Repr

/-- State of the lane array that no register shows. -/
structure LaneSt where
  plan   : SMap OctPlan   -- mode and split in force, by octet; the role stands in LANE_OCT_STATUS
  apply  : SMap Nat       -- a role change in progress: the old role, by octet
  step   : SMap Nat       -- bring-up step 1 to 5 of each NET port that is coming up or is up (R42)
  steer  : SMap Steer     -- by octet
  overRun : SMap Nat       -- consecutive windows over the degrade threshold, by working link (R41)
  underRun : SMap Nat       -- consecutive windows under it
  refLost : List Nat      -- network references lost (R544)
  todSet : Bool           -- device time has been set (R408)
  spineRx : List (List Byte)   -- wake frames passed to the spine (R40, R424)
deriving DecidableEq, Repr
/-! ## Host ports (R55–R80, R531) -/

/-- Where a host port's link stands (R550, R551, R72). -/
inductive LinkPhase where
  | down | training | l0 | recovery | l2entry | l2
deriving DecidableEq, Repr

/-- What an outstanding DMA read is for (R68). -/
inductive ReadUse where
  | fetch | frame | payload | flush
  | readResp (conn onum : Nat)                          -- a READ served for a peer (R260)
  | atomic (conn onum wire op1 op2 key psn : Nat)       -- an atomic executed for a peer (R261)
deriving DecidableEq, Repr

/-- A DMA read issued, or waiting to be issued, toward a host port (R68). -/
structure DmaRead where
  tag    : Nat
  drawer : Nat
  gen    : Nat
  ref    : Ref
  addr   : Nat
  len    : Nat
  use    : ReadUse
  issued : Bool
  pos    : Nat                -- place of these bytes in the item's data
  data   : Option (List Byte) -- what came in, kept until the item's reads have all ended
deriving DecidableEq, Repr

/-- An address translation held by a port (R69). -/
structure AtsEntry where
  fn    : Nat
  page  : Nat
  xlat  : Nat
  perm  : Nat      -- bit 0 read, bit 1 write
deriving DecidableEq, Repr

/-- An access waiting for a Translation Completion (R69). -/
structure AtsWait where
  fn     : Nat
  page   : Nat
  drawer : Nat
  ref    : Ref
  perm   : Nat
deriving DecidableEq, Repr

/-- An Invalidation Request whose completion is owed (R69). -/
structure AtsInval where
  tag    : Nat
  fn     : Nat
  page   : Nat
  pages  : Nat
deriving DecidableEq, Repr

/-- One host port beyond its registers. -/
structure HostPort where
  phase    : LinkPhase
  attempts : Nat              -- links taken down below 16 GT/s (R56)
  gaveUp   : Bool             -- the speed floor was reached
  disabled : Bool             -- retired: down until re-enabled (R75, R76)
  settled  : Bool             -- the rate change has ended since the link came up (R550)
  vfEn     : List Nat         -- PFs whose VF Enable is set
  d3       : List Nat         -- functions in D3hot
  mse      : List Nat         -- functions whose Memory Space Enable is set
  pmeEn    : List Nat         -- functions whose PME_En is set (R73)
  ats      : List Nat         -- functions with ATS enabled
  msix     : SMap (Nat × Nat) -- MSI-X table entries written: address and data, keyed like the vectors below (R62)
  unmasked : List Nat         -- MSI-X vectors whose mask bit is clear, as function × 256 + vector (R62)
  pendVec  : List Nat         -- vectors with their pending bit set
  ltrEn    : Bool             -- LTR Mechanism Enable on PF0
  ltrLast  : Nat
  ltrAt    : Nat
  dmaAt    : Option Nat       -- device time of the last DMA (R70)
  numVfs   : SMap Nat         -- VFs the host enabled, by PF
  cache    : List AtsEntry
  atsWait  : List AtsWait
  invals   : List AtsInval
  reads    : List DmaRead
  nextTag  : Nat
  retiring : Bool             -- RETIRE waits for RETIRE_ACK (R76)
  stopped  : Bool             -- PME_Turn_Off received: no fetching (R72)
  wakePend : Option Nat       -- a wake condition that arose during L2 entry (R73)
  pfEn     : List Nat         -- PFs present (PF_EN as last taken, R80)
  flrs     : List (Nat × List Nat × Nat)   -- FLRs in progress: function, drawers left, drawers in all (R79)
  evAt     : SMap Nat         -- device time of the last event of each kind (R79)
  logProd  : Nat              -- PF0's event log (R531)
  logCons  : Nat
  logLost  : Nat
  log      : List Event       -- the last 64 records, the newest last
deriving DecidableEq, Repr

/-- A port as reset leaves it. -/
def HostPort.reset : HostPort :=
  { phase := .down, attempts := 0, gaveUp := false, disabled := false, settled := false, vfEn := [], d3 := [], mse := [],
    pmeEn := [], ats := [], msix := [], unmasked := [], pendVec := [], ltrEn := false, ltrLast := 0, ltrAt := 0, dmaAt := none, numVfs := [], cache := [], atsWait := [],
    invals := [], reads := [], nextTag := 0, retiring := false, stopped := false, wakePend := none, pfEn := [0], flrs := [],
    evAt := [], logProd := 0, logCons := 0, logLost := 0, log := [] }

/-- State of the host complex. -/
structure HostSt where
  ports      : SMap HostPort
  errFatalEn : List Nat       -- ports whose PF0 error reporting lets ERR_FATAL be sent (R75)
  mgrWaits   : Bool           -- the test of R65 waits for the handover after a warm reset
deriving DecidableEq, Repr
/-! ## Drawers, shares and fences (R81–R111)

A drawer's state, kind, personality, generation and binding stand in DRW_DRAWER_STATUS and DRW_DRAWER_BIND, which are
their one home; what those registers do not show is held here. -/

/-- A share of a drawer (R85, R86). `extents` holds the granted indices of an index pool as (first granule, granules). -/
structure Share where
  pool    : Nat
  inst    : Nat
  reserve : Nat
  ceiling : Nat
  extents : List (Nat × Nat)
deriving DecidableEq, Repr

/-- The steps of the quiesce sequence that a drawer waits in (R104). -/
inductive QStep where
  | fetch | drain | abort | purge | flush | reset
deriving DecidableEq, Repr

/-- A quiesce or reset in progress on a drawer (R104, R105, R107). -/
structure Quiesce where
  step     : QStep
  doReset  : Bool          -- steps 7 and 8 run
  skipDrain : Bool
  ringOnly : Bool          -- the D3hot form (R71)
  hostTrig : Bool          -- started or joined by a host-triggered reset
  joined   : Bool
  timedOut : Bool
  aborted  : Nat           -- items ended at step 3
  refs     : List Ref      -- the manager commands that wait
  trigger  : Nat           -- row of R105's table that began it, from 0
  fromQ    : Bool          -- a reset of a QUIESCED drawer: steps 4, 7 and 8 only (R103)
  drainMs  : Nat           -- bound of step 2
deriving DecidableEq, Repr

/-- A fence entry in force (R95). -/
structure Fence where
  master : Nat
  mask   : Nat
  perm   : Nat
  lock   : Bool
  base   : Nat
  limit  : Nat
deriving DecidableEq, Repr

/-- One virtqueue's fields of the common configuration (R93). -/
structure VQueue where
  size : Nat
  vec  : Nat             -- MSI-X vector, 0xFFFF none
  on   : Bool
  desc : Nat
  drv  : Nat
  dev  : Nat
deriving DecidableEq, Repr

/-- The controller registers of an NVM Express or virtio-net drawer (R91, R93). -/
structure Person where
  cc      : Nat             -- NVM Express CC
  aqa     : Nat
  asq     : Nat
  acq     : Nat
  shst    : Nat             -- CSTS.SHST: 0 normal, 1 in progress, 2 complete
  rdy     : Bool            -- CSTS.RDY
  feats   : SMap Nat        -- features set (R92)
  aers    : List Nat        -- outstanding Asynchronous Event Requests, by command identifier
  vqPairs : Nat             -- active virtio queue pairs (R93)
  status  : Nat             -- virtio device_status
  dfsel   : Nat             -- device_feature_select, driver_feature_select and queue_select
  gfsel   : Nat
  qsel    : Nat
  feat    : Nat             -- driver features
  cfgVec  : Nat             -- config_msix_vector
  vqs     : SMap VQueue
deriving DecidableEq, Repr

/-- The registers of a controller after a reset. -/
def Person.reset : Person :=
  { cc := 0, aqa := 0, asq := 0, acq := 0, shst := 0, rdy := false, feats := [], aers := [], vqPairs := 1, status := 0,
    dfsel := 0, gfsel := 0, qsel := 0, feat := 0, cfgVec := 0xFFFF, vqs := [] }

/-- State of the drawer and fence manager that no register shows. -/
structure DrwSt where
  shares    : SMap (List Share)
  quiesce   : SMap Quiesce
  resetDone : List Nat              -- drawers whose identity page shows RESET_DONE (R110)
  bells     : SMap (List (Nat × Nat))   -- doorbells recorded during a quiesce: (local ring number, word)
  fences    : SMap Fence            -- by `fenceKey`
  denied    : SMap Nat              -- device time of the last drw.fence_denied, by master ID (R100)
  person    : SMap Person
deriving DecidableEq, Repr
/-! ## Pipelines (R150–R171) -/

/-- Where a bank switch stands (R155). -/
inductive SwitchPhase where
  | idle | validating | changing
deriving DecidableEq, Repr

/-- State of the pipelines that no register shows. -/
structure PrsSt where
  phase  : SwitchPhase
  bad    : List (Nat × Nat × Nat)   -- entries with a parity error: kind 0 node, 1 template, 2 action, 3 edit; bank; index
  malAt  : SMap Nat                 -- last prs.malformed, by template
  unmAt  : SMap Nat                 -- last prs.unmatched, by pipeline
deriving DecidableEq, Repr
/-! ## Tables (R172–R201) -/

/-- One exact-match slot (R175). The second slot of a wide entry carries `second`. -/
structure Entry where
  table   : Nat
  key     : List Nat
  action  : List Byte
  hit     : Bool
  learned : Bool
  static  : Bool
  wide    : Bool
  second  : Bool
  settled : Bool
  idle    : Nat
  port    : Nat          -- LEARN_PORT
  time    : Nat          -- LEARN_TIME
deriving DecidableEq, Repr

/-- One TCAM entry with its result record (R180). -/
structure Tcam where
  table  : Nat
  value  : Nat
  len    : Nat
  action : List Byte
  bad    : Bool          -- in error
  hidden : Bool          -- in the set of a running flush
deriving DecidableEq, Repr

/-- A learn request (R190). -/
structure LearnReq where
  table : Nat
  key   : List Nat
  port  : Nat
deriving DecidableEq, Repr

/-- A table command as taken from its ring (R184, R185). -/
structure TblCmd where
  ref    : Ref
  opcode : Nat
  table  : Nat
  words  : Nat
  flags  : Nat
  plen   : Nat
  action : List Byte
  key    : List Nat
deriving DecidableEq, Repr

/-- A sweep of a table (R194). -/
structure Sweep where
  table   : Nat
  all     : Bool
  trigger : Nat            -- 0 OWNER_RESET, 1 FLUSH, 2 OWNER_DESTROYED
  set     : List (Nat × Nat)   -- tier and index of the entries it removes
  ref     : List Ref       -- the TABLE_FLUSH commands that wait for it
deriving DecidableEq, Repr

/-- A sealed drawer's bucket range (R174). -/
structure SealRange where
  drawer : Nat
  area   : Nat             -- shard 0 to 3, or 4 for the HBM flow table
  base   : Nat
  len    : Nat
  ovf    : Nat             -- overflow entries reserved with it
deriving DecidableEq, Repr

/-- State of the table engine that no register shows. Exact-match slots are keyed by tier × 2^32 + index (R188). -/
structure TblSt where
  slots   : SMap Entry
  bad     : List Nat            -- slots in error, by the same key
  tcam    : SMap Tcam
  learnQ  : SMap (List LearnReq)
  sweeps  : List Sweep
  held    : SMap (List TblCmd)  -- commands held behind a flush of their ring, or behind a rebalance
  ranges  : List SealRange
  clearing : Bool               -- HBM_EN set and the flow table not cleared yet
  moves   : Nat                 -- moves made by the rebalance that runs
  evAt    : SMap Nat            -- last event of a kind and source (R200)
deriving DecidableEq, Repr
/-! ## Leaves and quires (R202–R224) -/

/-- A quire: its head fields and data, and the leaves it occupies (R205, R206). The key of a quire is the pointer word of its
head leaf. -/
structure Quire where
  refcnt  : Nat
  poison  : Bool
  owner   : Nat            -- master ID charged
  profile : Nat
  arrival : Nat
  ptrs    : List Nat       -- pointer leaves, as pointer words
  leaves  : List Nat       -- data leaves, as pointer words
  data    : List Byte      -- its LENGTH bytes
  tail    : List Byte      -- bytes behind LENGTH that a write has put into the last leaf (R212)
  copying : Bool           -- its copy to HBM is not written yet (R218)
deriving DecidableEq, Repr

/-- State of the cell buffer that no register shows. -/
structure CellSt where
  quires : SMap Quire
  slice  : Nat             -- next slice in rotation (R208)
  opened : SMap (Nat × Nat)   -- open HBM page and fill mark, by owner (R209)
  pages  : SMap (Nat × Nat)   -- owner and live count of every HBM page that is not free
  dieUse : SMap Nat        -- on-die leaves charged to owners that are no drawer
  hbmUse : SMap Nat        -- pages charged to owners that are no drawer
  badAt  : SMap Nat        -- last cell.bad_pointer, by master ID (R212)
  satAt  : Option Nat      -- last cell.refcnt_saturated
  full   : Bool            -- cell.hbm_exhausted raised and no page freed since
deriving DecidableEq, Repr
/-! ## Traffic manager (R225–R246) -/

/-- A frame on its way through the device: where it came from and whose work it is (R151, R153). -/
structure Frame where
  quire   : Nat        -- pointer word of its quire
  kind    : Nat        -- INGRESS_KIND: 0 NET, 1 HOST, 2 CASC
  port    : Nat        -- INGRESS_PORT: 0 to 511, or the host port
  drawer  : Nat        -- d + 1 of the drawer whose work it is, 0 for none
  gen     : Nat        -- that drawer's generation when the work was fetched (R21)
  src     : Nat        -- SRC_DEVICE of a CASC frame
  rxTime  : Option Nat -- receive timestamp (R49)
  ref     : Option Ref -- the FRAME_SEND whose completion is still to be written (R130)
  tsReq   : Bool       -- that FRAME_SEND asks for a transmit timestamp
  tmpl    : Nat        -- template selected (R131)
  casc    : Option (List Byte)   -- header of a frame bound for a CASC port (R396)
  pre     : List Byte  -- bytes that replace the front of the frame (R166)
  skip    : Nat        -- how many bytes they replace
deriving DecidableEq, Repr

/-- A frame held in a queue. -/
structure Held where
  frame : Frame
  len   : Nat          -- wire length fixed at admission (R230)
  alone : Bool         -- enqueued as a single copy (R130, R232)
deriving DecidableEq, Repr

/-- State of one queue (R230, R243, R246). -/
structure TmQueue where
  frames   : List Held
  depthMax : Nat
  delayMax : Nat
  enq      : Nat
  deqBytes : Nat
  drops    : Nat
  tag      : Nat          -- finish tag F of a FLAT port (R235)
  inWfq    : Bool         -- it was backlogged when its port last selected (R235)
  alarm    : Option Nat   -- device time of the last tm.queue_delay
deriving DecidableEq, Repr

/-- An empty queue. -/
def TmQueue.empty : TmQueue :=
  { frames := [], depthMax := 0, delayMax := 0, enq := 0, deqBytes := 0, drops := 0, tag := 0, inWfq := false,
    alarm := none }

/-- Scheduling state of a node: queue, subscriber or group, or a port as the parent of its children (R234, R238). -/
structure TmNode where
  deficit : Int           -- DWRR deficit at its parent
  nextAt  : Nat           -- E of the calendar, in ns
  part    : Nat           -- fraction of a nanosecond of E, over the node's CAL_RATE
  slot    : Option Nat    -- number of the wheel slot it waits in
  lastS   : Nat           -- child served last in the sealed, committed and excess bands
  lastC   : Nat
  lastE   : Nat
deriving DecidableEq, Repr

/-- A node that has not been served. -/
def TmNode.fresh : TmNode := { deficit := 0, nextAt := 0, part := 0, slot := none, lastS := 0, lastC := 0, lastE := 0 }

/-- A pair of buckets, in units of 1/80,000 byte, and the device time they were last filled at (R231, R237). -/
structure Bucket where
  tc   : Int
  tp   : Int
  time : Nat
deriving DecidableEq, Repr

/-- State of the traffic manager that no register shows. Objects are keyed by KIND × 2^20 + INDEX. -/
structure TmSt where
  objs    : SMap (List Nat)         -- configuration words as committed
  queues  : SMap TmQueue
  nodes   : SMap TmNode             -- KIND 7 for ports
  buckets : SMap Bucket             -- shapers and policers
  sealedB : SMap (Int × Nat)        -- sealed bucket of a SEALED group and the time it was filled
  colours : SMap (Nat × Nat × Nat)  -- p_green, p_yellow, p_red
  vtime   : SMap Nat                -- V of each FLAT port (R235)
  ingress : SMap (List Frame)       -- IQ[0..63] (R227)
  iqTurn  : SMap Nat                -- ingress queue each pipeline served last
  xptQ    : SMap (List (Frame × Nat))       -- XPT[0..15], with the kind of transport
  coreQ   : SMap (List (Frame × Nat))       -- CORE[0..23], with the action's DEST
  iqEvent : SMap (Nat × Nat)        -- last tm.iq_drop of an octet, and iq_drop then
  accEvent : SMap Nat               -- last tm.access_drop of a drawer
deriving DecidableEq, Repr
/-! ## Spline transport (R247–R302) -/

/-- An operation of a connection (R254–R258). -/
structure XOp where
  ref     : Ref
  opcode  : Nat
  seq     : Nat            -- MSN or ONUM, once started
  len     : Nat
  imm     : Option Nat
  rkey    : Nat
  roff    : Nat
  op1     : Nat
  op2     : Nat
  fence   : Bool
  segs    : List (Nat × Nat)
  next    : Nat            -- bytes handed to packets so far
  sent    : Bool           -- every packet has been sent once
  out     : Nat            -- its packets not acknowledged
  acked   : Nat            -- payload bytes acknowledged by ACKs
  got     : Nat            -- bytes of a READ placed
  stopped : Bool           -- stopped by RNR (R293)
deriving DecidableEq, Repr

/-- A packet without payload of an operation, or an answer, that waits to be sent (R277). -/
structure XCtl where
  wire  : Nat
  fence : Bool
  seq   : Nat
  off   : Nat
  total : Nat
  ext   : List Byte
  data  : List Byte
  item  : Option Nat       -- ring index of the operation it belongs to
deriving DecidableEq, Repr

/-- A retransmit record (R288). -/
structure XUnack where
  psn    : Nat
  wire   : Nat
  ptr    : Nat             -- pointer word of the held quire
  path   : Nat
  time   : Nat
  order  : Nat             -- transmission number
  passed : Nat             -- later packets of its path acknowledged (R291)
  once   : Bool            -- sent once only
  len    : Nat             -- payload bytes
  item   : Option Nat
  fill   : Bool            -- to be sent again as a FILL (R287)
  total  : Nat
  seq    : Nat
deriving DecidableEq, Repr

/-- A posted receive bound to an MSN (R258). -/
structure XRecv where
  seq  : Nat
  ref  : Ref
  cap  : Nat
  segs : List (Nat × Nat)
deriving DecidableEq, Repr

/-- A receive or read tracker (R259, R284). -/
structure XTrack where
  read     : Bool
  seq      : Nat
  total    : Nat
  got      : Nat
  short    : Bool          -- RECV_TOO_SHORT has been written
  opcode   : Nat           -- 0x30 or 0x31
  imm      : Option Nat
  fence    : Bool
  low      : Nat           -- lowest PSN seen, as a distance already resolved to a number
  recv     : Option XRecv
  sealed   : Bool          -- a seal-ring credit is reserved for it (R351)
  parts    : List (Nat × List Byte)   -- bytes kept for the seal engine
  held     : List (Nat × Nat × Nat)   -- quires held beyond the cursor: offset, length, pointer word (R350)
  cursor   : Nat
  readback : Bool
deriving DecidableEq, Repr

/-- A receive completion withheld by FENCE (R267). -/
structure XHeld where
  low    : Nat
  seq    : Nat
  ref    : Ref
  count  : Nat
  detail : List Nat
deriving DecidableEq, Repr

/-- A request withheld by FENCE (R267). -/
structure XReq where
  psn   : Nat
  wire  : Nat
  seq   : Nat
  total : Nat
  rkey  : Nat
  roff  : Nat
  op1   : Nat
  op2   : Nat
deriving DecidableEq, Repr

/-- A connection: its context (R249, R299) and the lists the context only counts. -/
structure Conn where
  st       : Nat           -- 0 UNUSED, 1 READY, 2 CONNECTED, 3 DRAINING, 4 ERROR (R248)
  roce     : Bool
  enc      : Bool
  payload  : Nat
  paths    : Nat
  qcount   : Nat
  laddr    : Nat
  dscp     : Nat
  drawer   : Nat
  gen      : Nat
  ltoken   : Nat
  rtoken   : Nat
  raddr    : Nat
  rconn    : Nat
  txq      : Nat
  udpSrc   : Nat
  retryLim : Nat
  rnrLim   : Nat
  sa       : Nat
  msn      : Nat
  onum     : Nat
  rbase    : Nat
  sndNxt   : Nat
  sndUna   : Nat
  rcvBase  : Nat
  rcvMap   : Nat
  cwnd     : Nat
  alpha    : Nat
  retries  : Nat
  rnrs     : Nat
  srtt     : Nat
  rttvar   : Nat
  rto      : Nat
  txEpoch  : Nat
  rxEpoch  : Nat
  list     : Option Nat    -- retransmit list's quire (R288)
  spPath   : Nat
  spRound  : Nat
  ackSeq   : Nat
  winEnd   : Nat
  winAcked : Nat
  winCe    : Nat
  down     : Nat
  weights  : SMap Nat      -- weights that are not 8
  pathCe   : Nat
  pathSent : Nat
  failPath : Nat
  failRun  : Nat
  downEnd  : Nat           -- device time in ns
  vol      : Bool          -- held by the block service, without rings (R355)
  ops      : List XOp      -- started
  wait     : List XOp      -- accepted and held back (R257)
  ctl      : List XCtl
  unacks   : List XUnack
  rtx      : List Nat      -- PSNs to be retransmitted
  order    : Nat
  tracks   : List XTrack
  recvs    : List XRecv    -- posted receives not consumed
  recvNext : Nat           -- number of the next posted receive
  results  : SMap (Nat × Option Nat)   -- atomic result slots by ONUM: value and the PSN of the answer (R261)
  ackCnt   : Nat
  ackCe    : Nat
  ackPaths : Nat
  ackPath  : Nat           -- path of the packet that causes the next ACK
  lossWin  : Bool          -- a loss in this window (R294)
  cutWin   : Bool          -- CWND halved for a loss in this window
  closeRef : Option Ref    -- the CONN_CLOSE that waits
  heldCpl  : List XHeld
  heldReq  : List XReq
  rMsn     : Nat           -- RoCEv2: next message to receive, and the bytes of it
  rGot     : Nat
  rKey     : Nat
  rOff     : Nat
  rTotal   : Nat
  rNak     : Bool          -- a sequence-error NAK stands
  cnpAt    : Option Nat
  authAt   : Option Nat
  sealTo   : Option Nat    -- seal stream it is bound to (R354)
  unbind   : Bool          -- unbinding at the next message boundary
deriving DecidableEq, Repr

/-- An UNUSED connection, its context zeroed. -/
def Conn.unused : Conn :=
  { st := 0, roce := false, enc := false, payload := 0, paths := 1, qcount := 1, laddr := 0, dscp := 0, drawer := 0,
    gen := 0, ltoken := 0, rtoken := 0, raddr := 0, rconn := 0, txq := 0, udpSrc := 0, retryLim := 0, rnrLim := 0,
    sa := 0, msn := 0, onum := 0, rbase := 0, sndNxt := 0, sndUna := 0, rcvBase := 0, rcvMap := 0, cwnd := 0, alpha := 0,
    retries := 0, rnrs := 0, srtt := 0, rttvar := 0, rto := 0, txEpoch := 0, rxEpoch := 0, list := none, spPath := 0,
    spRound := 0, ackSeq := 0, winEnd := 0, winAcked := 0, winCe := 0, down := 0, weights := [], pathCe := 0, pathSent := 0,
    failPath := 0, failRun := 0, downEnd := 0, vol := false, ops := [], wait := [], ctl := [], unacks := [], rtx := [],
    order := 0, tracks := [], recvs := [], recvNext := 0, results := [], ackCnt := 0, ackCe := 0, ackPaths := 0,
    ackPath := 0, lossWin := false, cutWin := false, closeRef := none, heldCpl := [], heldReq := [], rMsn := 0, rGot := 0,
    rKey := 0, rOff := 0, rTotal := 0, rNak := false, cnpAt := none, authAt := none, sealTo := none, unbind := false }

/-- A region key (R262, R274). -/
structure XKey where
  base     : Nat
  len      : Nat
  perm     : Nat
  st       : Nat           -- 0 FREE, 1 VALID, 2 REVOKING
  tag      : Nat
  drawer   : Nat
  scopeEn  : Bool
  scope    : Nat
  inflight : Nat
  ref      : Option Ref    -- the KEY_REVOKE that waits
  slow     : Bool          -- xpt.revoke_slow raised
  evAt     : Option Nat    -- last xpt.key_refused
deriving DecidableEq, Repr

/-- A key that has never been registered. -/
def XKey.free : XKey :=
  { base := 0, len := 0, perm := 0, st := 0, tag := 0, drawer := 0, scopeEn := false, scope := 0, inflight := 0,
    ref := none, slow := false, evAt := none }

/-- State of the transport engine that no register shows. -/
structure XptSt where
  conns    : SMap Conn
  keys     : SMap XKey
  cache    : List Nat      -- contexts on die, most recently used first (R250)
  fetching : List Nat      -- contexts being read
  lowUp    : Bool          -- xpt.tracker_low raised and not re-armed (R273)
deriving DecidableEq, Repr
/-! ## Threads and channels (R303–R336) -/

/-- A message on a channel (R320–R326): its number in order of commit, master ID of its source (an engine: 2^16 + its free SOURCE), destination endpoint ID, reply
endpoint ID (0xFFFF none). -/
structure Msg where
  id    : Nat
  src   : Nat
  dest  : Nat
  reply : Nat
  words : List Nat
deriving DecidableEq, Repr

/-- A thread endpoint: the messages it holds, how many words of the first have been read, and the engine replies it has
reserved room for (R320–R323). -/
structure Endpoint where
  msgs : List Msg
  read : Nat
  owed : Nat
deriving DecidableEq, Repr

/-- What a thread waits for (R323, R327): the destination register, whether CHHDR, the timeout in cycles and the order in
which it began. -/
structure ThreadWait where
  rd      : Nat
  header  : Bool
  timeout : Nat
  order   : Nat
  commit  : Option Msg     -- a blocked commit's message
  sent    : Bool           -- that message is in flight
deriving DecidableEq, Repr

/-- A hardware thread (R307, R314–R321): its registers, privilege, CSRs, reservation, staging slot and wait. Its STATE,
BLOCK_KIND, BLOCK_INDEX, MASTER and LAST_FAULT stand in CORE_THREAD_STATUS. -/
structure Thread where
  pc     : Nat
  x      : SMap Nat           -- integer registers that are not zero
  f      : SMap Nat           -- floating-point registers that are not zero
  priv   : Nat                -- 3 M, 1 S, 0 U
  csr    : SMap Nat           -- CSRs that are not zero, fcsr among them
  resv   : Option Nat         -- 64-byte line of the load reservation
  stage  : Option (Nat × Nat × List Nat)   -- destination, reply and words staged
  fault  : List (Nat × Nat)   -- refused stores not yet raised, oldest first: address and LAST_FAULT code (R309)
  wait   : Option ThreadWait
  was    : Nat                -- state before a debugger halt
deriving DecidableEq, Repr

/-- A thread that has not been started. -/
def Thread.reset : Thread :=
  { pc := 0, x := [], f := [], priv := 3, csr := [], resv := none, stage := none, fault := [], wait := none, was := 0 }

/-- State of the core array that no register shows. -/
structure CoreSt where
  threads : SMap Thread
  ends    : SMap Endpoint     -- by endpoint ID
  flight  : List Msg          -- committed messages that have not arrived, oldest first
  nextMsg : Nat
  nextWait : Nat
  evAt    : SMap Nat          -- last core.ch_refused and core.thread_fault by source, core.deliver_drop by endpoint
deriving DecidableEq, Repr
/-! ## Accelerators and the block service (R337–R364) -/

/-- An entry of the key table (R344). -/
structure KtEntry where
  type   : Nat
  users  : Nat
  secret : List Byte
deriving DecidableEq, Repr

/-- On whose behalf a job runs (R339, R361): the owner of its key range (a drawer, or firmware), the master of its accesses, its
work item, and for a message to the accelerator endpoint the thread and its reply endpoint. -/
structure JobEnv where
  owner  : Option Nat
  master : Nat
  ref    : Ref
  thread : Option (Nat × Nat)
deriving DecidableEq, Repr

/-- A SEAL_CHECKPOINT that waits for its boundary (R353). -/
structure SealWait where
  env   : JobEnv
  addr  : Nat
  len   : Nat
  space : Nat
  fin   : Bool
deriving DecidableEq, Repr

/-- A seal stream (R348, R352). -/
structure SealStream where
  next     : Nat             -- next record number
  last     : Nat             -- record number of the last checkpoint
  lastTime : Nat
  link     : List Byte
  sign     : Nat             -- local index of the signing entry
  hybrid   : Option Nat      -- local index of the ML-DSA-65 entry
  records  : Nat             -- INTERVAL_RECORDS
  millis   : Nat             -- INTERVAL_MS
  ring     : Nat             -- key of the seal ring
  gap      : Bool
  overdue  : Bool            -- a boundary has passed with no waiting job
  wait     : List SealWait   -- checkpoints that wait, oldest first
deriving DecidableEq, Repr

/-- A target of a volume (R355, R359). -/
structure VolTarget where
  conn   : Nat
  rkey   : Nat
  roff   : Nat
  failed : Bool
  cursor : Option Nat        -- rebuild cursor, while a rebuild runs
deriving DecidableEq, Repr

/-- A Flush that waits for its targets (R358). -/
structure VolFlush where
  seq     : Nat
  waiting : List Nat
  good    : Nat              -- targets that have answered 0
  ring    : Nat              -- submission queue of the command
  tag     : Nat
deriving DecidableEq, Repr

/-- A volume (R355). -/
structure Vol where
  k       : Nat
  m       : Nat
  clog    : Nat
  blocks  : Nat
  targets : SMap VolTarget
  cache   : SMap (List Byte) -- 4 KiB blocks held in the cache
  flushes : List VolFlush
  seq     : Nat              -- next COMMIT_SEQ
deriving DecidableEq, Repr

/-- State of the accelerator bank that no register shows. -/
structure AccSt where
  opened  : Bool             -- ENABLE has been set once: the table is cleared, or being cleared
  keys    : SMap KtEntry     -- entries that are not FREE, by global index
  streams : SMap SealStream  -- by global index
  vols    : SMap Vol         -- by drawer × 32 + NSID
  slots   : SMap Nat         -- job slots held, by drawer + 1; firmware 0
  waiting : List Nat         -- rings that wait for a job slot, in turn
  granted : List Nat         -- rings whose turn for a slot has come
  starved : List Nat         -- of those, rings for which acc.slot_starved was raised
deriving DecidableEq, Repr
/-! ## Banks, scratchpads and HBM (R365–R389) -/

/-- A record of the error log (R382). -/
structure ErrRec where
  addr   : Nat
  master : Nat
  kind   : Nat
  symbol : Nat
  pc     : Nat
  time   : Nat
deriving DecidableEq, Repr

/-- State of the memories that no register shows. Bytes are named by the physical address of R308 (HBM by device HBM
address, scratchpads by their plain view, boot SRAM), and a byte that is not listed is zero, as bring-up leaves it (R379).
A 32-byte word is named by its address over 32; a word of another SRAM array by 2^44 + bank × 2^24 + offset, over 32. -/
structure MemSt where
  bytes    : SMap Byte            -- bytes that are not zero
  poison   : List Nat             -- words rewritten as poisoned (R369)
  errs     : SMap (List Nat)      -- words stored with bad symbols: their positions
  log      : SMap ErrRec          -- the error log, by position (R382)
  corrAt   : SMap Nat             -- last mem.corrected: by stack, or 16 + array kind
  rows     : SMap (List (Nat × Nat))   -- the four tracked rows of a bank and their counts (R383)
  corr     : SMap Nat             -- CORRECTED, by bank
  subst    : SMap (List (Nat × Nat × Bool))   -- field spare rows in use, by bank: spare, row, fused (R384)
  mirrored : List Nat             -- spares that have been in MIRROR since power-on: 2 × stack + k (R385)
  phase    : SMap Nat             -- bring-up of a stack: 0 step 1, 1 step 2, 2 step 3, 3 step 4, 4 cleared, 5 failed (R378)
  tries    : SMap Nat             -- failed trainings of a stack in this bring-up
  cause    : Nat                  -- what the present bring-up follows: 0 power-on, 1 warm reset, 2 DEEP exit
deriving DecidableEq, Repr
/-! ## Winak (R390–R413) -/

/-- A sequenced flit that is not acknowledged, or not sent yet: its type and body, how often it was replayed, and how many records end
in it (R393). -/
structure CasFlit where
  kind  : Nat
  fseq  : Nat
  body  : List Byte
  tries : Nat
  ends  : Nat
deriving DecidableEq, Repr

/-- What the last valid heartbeat of a link's peer said, and when it arrived (R394). -/
structure CasPeer where
  dev    : Nat
  valid  : Bool
  stack  : Bool
  timeOk : Bool
  prio   : Nat
  sid    : Nat
  head   : Nat
  link   : Nat
  depth  : Nat
  tx     : Nat
  rx     : Nat
deriving DecidableEq, Repr

/-- A Winak link beyond its registers. -/
structure CasLink where
  step    : Nat              -- step of R391: 0 none, 2 to 6
  rxSeq   : Nat              -- next FSEQ expected
  got     : Bool             -- a sequenced flit has been accepted
  nakSent : Bool
  txSeq   : Nat              -- FSEQ of the next flit
  replay  : List CasFlit     -- sent and not acknowledged
  waiting : List CasFlit     -- waiting for room in the replay buffer
  part    : List Byte        -- a record of which the rest has not arrived
  peer    : Option CasPeer
  clash   : Bool             -- cas.id_conflict raised in this bring-up
deriving DecidableEq, Repr

/-- A link as it is while down. -/
def CasLink.reset : CasLink :=
  { step := 0, rxSeq := 0, got := false, nakSent := false, txSeq := 0, replay := [], waiting := [], part := [], peer := none, clash := false }

/-- State of the cascade engine that no register shows. -/
structure CasSt where
  links   : SMap CasLink
  missAt  : Option Nat       -- last cas.route_miss
  tag     : Nat              -- TAG of the last remote access
  remote  : Option Nat       -- TAG of the one outstanding (R407)
  lockRun : Nat              -- consecutive offsets within LOCK_NS (R408)
  adjAt   : Nat              -- device time of the last correction
deriving DecidableEq, Repr
/-! ## Power (R411–R431) -/

/-- How far power-on has come (R427): only the wake latch powered, or a step of the bring-up. -/
inductive PowerPhase where
  | off | standby | supplies | refclk | fuses | up
deriving DecidableEq, Repr

/-- A change of the device state that runs (R418, R420, R421): from and to as DEV_STATE counts them, its step, who asked, and when it
began. `named` holds the DOMAINS of a wake frame with ACTION 2 (R424). -/
structure Trans where
  src   : Nat
  dst   : Nat
  step  : Nat
  jig   : Bool
  start : Nat
  named : Option Nat
deriving DecidableEq, Repr

/-- State of the power manager that no register shows. -/
structure PwrSt where
  closed : Bool                -- admission is closed: step 1 of DEEP or OFF entry has run (R420)
  trans  : Option Trans
  doms   : SMap (Nat × Nat)    -- domain moves that run: target, and 0 manager, 1 jig, 2 wake
  clamp  : SMap Nat            -- requests that wait at a domain's clamp (R23)
  held   : List Event          -- events of entries, written in RUN or IDLE (R435)
  refAt  : Option Nat          -- last pwr.wake_refused
  phase  : PowerPhase
  tries  : Nat                 -- attempts of step 2 of R427 that failed
  porLow : Bool                -- POR_N is low
  badP   : Bool                -- the restore that runs has met an uncorrectable P-class word (R431)
  badW   : Bool                -- or a W- or B-class word
deriving DecidableEq, Repr
/-! ## The jig and spares (R437–R457) -/

/-- A substitution in service that is not fused (R448, R449): 7 a lane (octet, slot), 8 a core (cluster, core), 9 an SRAM row (bank,
spare row), 10 a pseudo-channel (2 × stack + spare, pseudo-channel), and since when it has stood. -/
structure Subst where
  kind   : Nat
  target : Nat
  info   : Nat
  since  : Nat
deriving DecidableEq, Repr

/-- A record of the spare fuse array (R448, R449). One without VALID is void. -/
structure FuseRec where
  kind   : Nat
  target : Nat
  info   : Nat
  valid  : Bool
deriving DecidableEq, Repr

/-- A fuse burn that runs: the substitution, its record's number, and whether it is the retry (R449). -/
structure FuseBurn where
  sub   : Subst
  pos   : Nat
  again : Bool
deriving DecidableEq, Repr

/-- State of the jig that no register shows. The remap and its cursor stand in JIG_COPY_STATUS and JIG_COPY_CURSOR. -/
structure JigSt where
  seq      : Nat                 -- SEQ of the next record (R444)
  recs     : List (List Byte)    -- the last 256 records (R499)
  unsig    : Nat                 -- records not yet signalled (R443)
  oldest   : Nat                 -- device time of the oldest of them
  fullUp   : Bool                -- jig.log_full raised and no slot freed since (R445)
  reserved : Nat                 -- slots reserved by spare operations that run (R445)
  lastAt   : SMap Nat            -- last change of a target, by KIND × 2^16 + target (R440)
  idleAt   : Nat                 -- since when the device is in IDLE (R442)
  subs     : List Subst
  fuses    : List FuseRec        -- the fuse array, N-class
  burn     : Option FuseBurn
  remap    : Bool                -- the remap of the cursor runs since the jig last started (R454)
  line     : Nat                 -- its next line, which the cursor saves every 16,384 lines
  pcWait   : List (Nat × Nat)    -- wear events that wait for a remap to end (R454)
  testing  : List Nat            -- clusters whose spare core runs its self-test (R451)
  clock    : SMap Nat            -- cluster clocks before the throttle (R447)
  power    : Nat                 -- measured device power in W (R542)
deriving DecidableEq, Repr
/-! ## Boot (R458–R486) -/

/-- A slot in the directory (R459). -/
structure DirSlot where
  base : Nat
  size : Nat
  st   : Nat         -- 0 EMPTY, 1 PROOF, 2 BOUND, 3 REJECTED
  gen  : Nat
deriving DecidableEq, Repr

/-- The directory in force (R459): its SEQ, the copy that holds it, and the two slots. -/
structure Dir where
  seq  : Nat
  copy : Nat
  a    : DirSlot
  b    : DirSlot
deriving DecidableEq, Repr

/-- Why a new directory is written (R460). -/
inductive DirWhy where
  | staged | confirmed | rejected | recovery
deriving DecidableEq, Repr

/-- State of the loader, the BOOT block and the recovery agent that no register shows. -/
structure BootSt where
  dir     : Option Dir
  step    : Nat                 -- step of R469 that runs, 0 for none
  todo    : List Nat            -- candidates after the present one (R461)
  cur     : Nat                 -- the present candidate
  front   : List Byte           -- the copied front of the running image
  jigMem  : List Byte           -- jig memory (R437)
  update  : Option (Dir × DirWhy)   -- directory update that runs
  op      : Option (Nat × Nat × Nat × Nat)   -- flash operation that runs: OP, ADDR, LEN, HBM
  digest  : Option (Nat × Nat)  -- digest that runs: address and length
  stage   : Option Nat          -- slot whose STAGE runs
  burning : Option (Nat × Nat × Nat)   -- burn that runs: floor, roots and keys to be revoked (R468)
  wdtLeft : Nat                 -- nanoseconds of the proof watchdog (R478)
  failEv  : Option (Nat × Nat)  -- boot.proof_failed still to be raised: slot, and 0 expiry or 1 ABANDON
  lastA   : Nat                 -- last REASON of slot A, for IDENT (R482)
  lastB   : Nat
  cmd     : Nat                 -- the recovery mailbox (R482)
  arg0    : Nat
  arg1    : Nat
  result  : Nat
  info    : List Byte
  data    : List Byte
deriving DecidableEq, Repr
/-! ## Resets, the halt and the colophon (R487–R507) -/

/-- The header of a dump, or of the short colophon (R500). -/
structure Dump where
  seq       : Nat
  cause     : Nat
  complete  : Bool
  truncated : Bool
  oneStack  : Bool
  secLost   : Bool
  time      : Nat
  timeDone  : Nat
  detail    : List Nat
  ready     : List Nat
  secondary : List (Nat × Nat)
  image     : Nat              -- SVN, slot and proof bits
  build     : List Byte        -- BUILD_ID of the running image
deriving DecidableEq, Repr

/-- Why a warm reset is in progress, and how far it is (R490). -/
inductive ResetPhase where
  /-- none runs -/
  | none
  /-- the trigger waits for the colophon (R497) -/
  | waitHalt (cause : Nat)
  /-- the trigger waits for a safe point of a power transition (R426) -/
  | waitStep (cause : Nat)
  /-- steps 2 and 3 -/
  | clearing (cause : Nat)
  /-- step 4 -/
  | waitPin
deriving DecidableEq, Repr

/-- A block reset in progress (R492). -/
structure BlockReset where
  block : Nat
  inst  : Nat
  ended : Nat       -- requests ended with TARGET_RESET
deriving DecidableEq, Repr

/-- State of ERR and DBG that no register shows. -/
structure ErrSt where
  secondary : List (Nat × Nat)     -- later halt causes with their times (R497)
  dumpSeq   : Nat                  -- halts since power-on (R498)
  half      : Nat                  -- half the running dump is written to
  dumps     : SMap Dump            -- the two halves
  short     : Option Dump          -- the short colophon in the flyleaf SRAM
  coloEvent : Bool                 -- err.colophon is still to be raised (R501)
  phase     : ResetPhase
  pinLow    : Bool                 -- WARM_RST_N held low
  blk       : List BlockReset      -- block resets that run (R492)
  lateSeen  : List Nat             -- readiness bits already reported late (R489)
  kickAt    : Nat                  -- device time of the last watchdog kick (R495)
  warned    : Bool                 -- err.wdt_warning raised since the last kick
  wdtHalt   : Bool                 -- the running halt is the watchdog's, a warm reset follows it
  unlockEnd : Nat                  -- device time at which the debug unlock ends (R503)
  holdEv    : List Event           -- events raised before slot 7 is enabled (R485)
  stepReq   : Option Nat           -- a halted thread that is to execute one instruction (R504)
deriving DecidableEq, Repr
/-! ## The GLB block's ports (R512, R526–R529) -/

/-- State of the register paths, the UART, the I3C target and the management port that no register shows. -/
structure GlbSt where
  latch   : SMap (Nat × Nat)    -- latched high half, by master × 32 + block: offset of its pair and value (R512)
  held    : SMap (Nat × Nat)    -- held low half, likewise
  uartTx  : List Byte
  uartRx  : List Byte
  uartAt  : Nat                 -- device time at which the byte on the line began
  i3cPtr  : Nat
  i3cAddr : Option Nat          -- dynamic address (R527)
  mgmtUp  : Bool
  kept    : List (List Byte × List Byte)   -- headers of the last 16 requests and their replies (R529)
deriving DecidableEq, Repr
/-- The state of the device. -/
structure State where
  regs    : SMap Word        -- registers and counters away from their reset values, by BAR0 offset (R508–R514)
  events  : List Event       -- every event raised, oldest first (R138)
  out     : List Out         -- everything sent out, oldest first
  rings   : SMap Ring        -- by ring key: drawer × 2^24 + local ring number; 2^40 + c for control slot c (R116)
  drw     : DrwSt
  lane    : LaneSt
  host    : HostSt
  cell    : CellSt
  tm      : TmSt
  prs     : PrsSt
  tbl     : TblSt
  xpt     : XptSt
  core    : CoreSt
  acc     : AccSt
  mem     : MemSt
  cas     : CasSt
  pwr     : PwrSt
  jig     : JigSt
  boot    : BootSt
  err     : ErrSt
  glb     : GlbSt
  freeCtr : Nat              -- the model's own: how many free values have been taken
  todFrac : Nat              -- fraction of a nanosecond of device time, in units of 2^-40 ns (R51)
  pending : List Instr       -- commands waiting, first in, first out
deriving DecidableEq, Repr

/-! ## Reset -/

/-- The device as a cold power-on leaves it at step 2 of R427: the wake latch has reset, and every supply is awaited. Registers hold
the reset values of their tables, which an empty register file stands for; every queue, table and buffer is empty. Fields that
fuses load hold 0 until they are sensed (DESIGN CHOICE, log entry 1). -/
def State.reset : State :=
  { regs := [], events := [], out := [], rings := []
    drw := { shares := [], quiesce := [], resetDone := [], bells := [], fences := [], denied := [], person := [] }
    lane := { plan := [], apply := [], step := [], steer := [], overRun := [], underRun := [], refLost := [], todSet := false, spineRx := [] }
    host := { ports := [], errFatalEn := [], mgrWaits := false }
    cell := { quires := [], slice := 0, opened := [], pages := [], dieUse := [], hbmUse := [], badAt := [], satAt := none, full := false }
    tm := { objs := [], queues := [], nodes := [], buckets := [], sealedB := [], colours := [], vtime := [], ingress := [], iqTurn := [],
            xptQ := [], coreQ := [], iqEvent := [], accEvent := [] }
    prs := { phase := .idle, bad := [], malAt := [], unmAt := [] }
    tbl := { slots := [], bad := [], tcam := [], learnQ := [], sweeps := [], held := [], ranges := [], clearing := false, moves := 0, evAt := [] }
    xpt := { conns := [], keys := [], cache := [], fetching := [], lowUp := false }
    core := { threads := [], ends := [], flight := [], nextMsg := 0, nextWait := 0, evAt := [] }
    acc := { opened := false, keys := [], streams := [], vols := [], slots := [], waiting := [], granted := [], starved := [] }
    mem := { bytes := [], poison := [], errs := [], log := [], corrAt := [], rows := [], corr := [], subst := [], mirrored := [],
             phase := [], tries := [], cause := 0 }
    cas := { links := [], missAt := none, tag := 0, remote := none, lockRun := 0, adjAt := 0 }
    pwr := { closed := false, trans := none, doms := [], clamp := [], held := [], refAt := none, phase := .supplies, tries := 0,
             porLow := false, badP := false, badW := false }
    jig := { seq := 0, recs := [], unsig := 0, oldest := 0, fullUp := false, reserved := 0, lastAt := [], idleAt := 0, subs := [],
             fuses := [], burn := none, remap := false, line := 0, pcWait := [], testing := [], clock := [], power := 0 }
    boot := { dir := none, step := 0, todo := [], cur := 0, front := [], jigMem := [], update := none, op := none, digest := none,
              stage := none, burning := none, wdtLeft := 0, failEv := none, lastA := 0, lastB := 0, cmd := 0, arg0 := 0,
              arg1 := 0, result := 0, info := [], data := [] }
    err := { secondary := [], dumpSeq := 0, half := 0, dumps := [], short := none, coloEvent := false, phase := .none, pinLow := false,
             blk := [], lateSeen := [], kickAt := 0, warned := false, wdtHalt := false, unlockEnd := 0,
             holdEv := [], stepReq := none }
    glb := { latch := [], held := [], uartTx := [], uartRx := [], uartAt := 0, i3cPtr := 0, i3cAddr := none, mgmtUp := false, kept := [] }
    freeCtr := 0, todFrac := 0, pending := [] }

end Sys2Proof.Machine
end

