-- ==== Sys2Proof/Machine/Ops.lean ====
section
/-! DEFINITION. The named operations every command is written over: sparse tables, the register file and its fields and counters,
bit and byte helpers, rings and completions, events, free values and the device's outputs. -/

namespace Sys2Proof.Machine

/-! ## Sparse tables -/

/-- The value a table holds at a key. -/
def mget {α : Type} : SMap α → Nat → Option α
  | [], _ => none
  | (j, w) :: t, k => if k = j then some w else mget t k

/-- A table with one entry written, keys kept rising. -/
def mput {α : Type} : SMap α → Nat → α → SMap α
  | [], k, v => [(k, v)]
  | (j, w) :: t, k, v => if k < j then (k, v) :: (j, w) :: t else if k = j then (k, v) :: t else (j, w) :: mput t k v

/-- A table without any entry at a key. -/
def mdel {α : Type} (m : SMap α) (k : Nat) : SMap α := m.filter (fun e => !decide (e.1 = k))

/-- The value at a key, or `d` where the table lists none. -/
def mgetD {α : Type} (m : SMap α) (k : Nat) (d : α) : α := (mget m k).getD d

/-- A table with the entry at `k` written, or removed when the value is the one an unlisted key has. -/
def mputD {α : Type} [DecidableEq α] (m : SMap α) (k : Nat) (v d : α) : SMap α :=
  if v = d then mdel m k else mput m k v

/-- A table's keys rise strictly. -/
def sortedKeys {α : Type} : SMap α → Bool
  | [] => true
  | [_] => true
  | a :: b :: t => decide (a.1 < b.1) && sortedKeys (b :: t)

/-- An element put into a sorted list, behind those that come before it or beside it. -/
def insertBy {α : Type} (le : α → α → Bool) (x : α) : List α → List α
  | [] => [x]
  | y :: t => if le y x then y :: insertBy le x t else x :: y :: t

/-- A list sorted, equal elements keeping their order. -/
def sortBy {α : Type} (le : α → α → Bool) (l : List α) : List α := l.foldl (fun a x => insertBy le x a) []

/-! ## Bits and bytes -/

/-- Bits [hi:lo] of a number. -/
def bits (x hi lo : Nat) : Nat := x / 2 ^ lo % 2 ^ (hi + 1 - lo)

/-- A number with bits [hi:lo] replaced. -/
def putBits (x hi lo v : Nat) : Nat :=
  x / 2 ^ (hi + 1) * 2 ^ (hi + 1) + v % 2 ^ (hi + 1 - lo) * 2 ^ lo + x % 2 ^ lo

/-- One bit as a Bool. -/
def bit (x i : Nat) : Bool := decide (x / 2 ^ i % 2 = 1)

/-- 1 or 0. -/
def b2n (b : Bool) : Nat := if b then 1 else 0

/-- A number of `w` bits read as two's complement. -/
def toSigned (w x : Nat) : Int := if bit x (w - 1) then (x : Int) - (2 ^ w : Nat) else (x : Int)

/-- An integer as a number of `w` bits. -/
def ofSigned (w : Nat) (x : Int) : Nat := (x % ((2 ^ w : Nat) : Int)).toNat

/-- The little-endian number in a byte string (R7). -/
def leNat : List Byte → Nat
  | [] => 0
  | b :: t => b.toNat + 256 * leNat t

/-- The big-endian number in a byte string (R7, wire formats). -/
def beNat (l : List Byte) : Nat := l.foldl (fun a b => a * 256 + b.toNat) 0

/-- `n` bytes, least significant first. -/
def leBytes : Nat → Nat → List Byte
  | 0, _ => []
  | n + 1, x => BitVec.ofNat 8 x :: leBytes n (x / 256)

/-- `n` bytes, most significant first. -/
def beBytes (n x : Nat) : List Byte := (leBytes n x).reverse

/-- `len` bytes from position `off`; bytes beyond the end read as zero. -/
def slice (l : List Byte) (off len : Nat) : List Byte :=
  let t := (l.drop off).take len
  t ++ List.replicate (len - t.length) 0

/-- The big-endian field at a position of a frame. -/
def beAt (l : List Byte) (off len : Nat) : Nat := beNat (slice l off len)

/-- The little-endian field at a position of a structure. -/
def leAt (l : List Byte) (off len : Nat) : Nat := leNat (slice l off len)

/-- A byte string with `v` laid over position `off`. -/
def overlay (l : List Byte) (off : Nat) (v : List Byte) : List Byte :=
  l.take off ++ v.take (l.length - off) ++ l.drop (off + v.length)

/-- One step of a reflected CRC over a bit. -/
def crcBit (poly c : Nat) : Nat := if c % 2 = 1 then Nat.xor (c / 2) poly else c / 2

/-- One byte of a reflected CRC. -/
def crcByte (poly c : Nat) (b : Byte) : Nat :=
  let c := Nat.xor c b.toNat
  crcBit poly (crcBit poly (crcBit poly (crcBit poly (crcBit poly (crcBit poly (crcBit poly (crcBit poly c)))))))

/-- A reflected CRC over a byte string. The running value is matched, so that each step is evaluated before the next. -/
def crcOver (poly : Nat) : List Byte → Nat → Nat
  | [], c => c
  | b :: t, 0 => crcOver poly t (crcByte poly 0 b)
  | b :: t, c + 1 => crcOver poly t (crcByte poly (c + 1) b)

/-- The Ethernet FCS of a frame body (IEEE 802.3), as the number whose little-endian bytes end the frame. -/
def crc32 (l : List Byte) : BitVec 32 := ~~~ (BitVec.ofNat 32 (crcOver 0xEDB88320 l 0xFFFFFFFF))

/-- CRC-32C with a given start value and the final inversion (R176; DEDUCED, log entry 7). -/
def crc32c (seed : BitVec 32) (l : List Byte) : BitVec 32 := ~~~ (BitVec.ofNat 32 (crcOver 0x82F63B78 l seed.toNat))

/-! ## The register file -/

/-- Does an offset of BAR0 fall on an instance of this register? -/
def dimsHit : List (Nat × Nat) → Nat → Bool
  | [], r => decide (r = 0)
  | (c, st) :: t, r => decide (r / st < c) && dimsHit t (r % st)

/-- Does the row describe the register at offset `a`? -/
def rowHit (r : RegRow) (a : Nat) : Bool := decide (r.base ≤ a) && dimsHit r.dims (a - r.base)

/-- The row of the register table that describes offset `a`; none where the offset is reserved (R508, R510). -/
def rowAt (a : Nat) : Option RegRow := (rowsOf (a / 0x100000)).find? (rowHit · a)

/-- A register's reset word: the reset value of every field in its place. -/
def resetOf (r : RegRow) : Nat := (r.fields.map (fun f => f.rst * 2 ^ f.lo)).foldl (· + ·) 0

/-- The reset word of the register at an offset; zero at a reserved offset (R510). -/
def resetWord (a : Nat) : Nat :=
  match rowAt a with
  | some r => resetOf r
  | none => 0

/-- The word of the register at offset `a`. -/
def State.rd (s : State) (a : Nat) : Nat :=
  match mget s.regs a with
  | some w => w.toNat
  | none => resetWord a

/-- The word at offset `a` written. A register that holds its reset word is not listed, so that equal register files are
equal data. -/
def State.wr (s : State) (a v : Nat) : State :=
  { s with regs := mputD s.regs a (BitVec.ofNat 32 v) (BitVec.ofNat 32 (resetWord a)) }

/-- A pair read as one 64-bit number (R8). -/
def State.rd64 (s : State) (a : Nat) : Nat := s.rd a + s.rd (a + 4) * 2 ^ 32

/-- A pair written as one 64-bit number. -/
def State.wr64 (s : State) (a v : Nat) : State := (s.wr a (v % 2 ^ 32)).wr (a + 4) (v / 2 ^ 32)

/-- The value of a field. -/
def State.get (s : State) (f : Fld) : Nat :=
  if f.hi < 32 then bits (s.rd f.addr) f.hi f.lo else bits (s.rd64 f.addr) f.hi f.lo

/-- A field written, cut to its width; the other fields of its register keep their values. -/
def State.set (s : State) (f : Fld) (v : Nat) : State :=
  if f.hi < 32 then s.wr f.addr (putBits (s.rd f.addr) f.hi f.lo v)
  else s.wr64 f.addr (putBits (s.rd64 f.addr) f.hi f.lo v)

/-- A one-bit field as a Bool. -/
def State.on (s : State) (f : Fld) : Bool := decide (s.get f = 1)

/-- A 64-bit counter advanced; counters wrap at 2^64. -/
def State.bump (s : State) (a : Nat) (n : Nat := 1) : State := s.wr64 a ((s.rd64 a + n) % 2 ^ 64)

/-- A read-only count kept in a register field, raised. -/
def State.inc (s : State) (f : Fld) (n : Nat := 1) : State := s.set f (s.get f + n)

/-- The same, lowered, never below zero. -/
def State.dec (s : State) (f : Fld) (n : Nat := 1) : State := s.set f (s.get f - n)

/-- Device time in nanoseconds (R24). -/
def State.now (s : State) : Nat := s.rd64 Reg.GLB_TIME

/-- Is the device halted (R144, R496)? -/
def State.halted (s : State) : Bool := s.on Reg.GLB_HALT_STATUS_HALTED

/-- Is a block instance under a block reset (R492)? -/
def State.inReset (s : State) (b i : Nat) : Bool := s.err.blk.any (fun x => decide (x.block = b) && decide (x.inst = i))

/-- A request that reaches a resetting instance ends with TARGET_RESET and is counted (R22, R493). -/
def State.resetHit (s : State) (b i : Nat) (n : Nat := 1) : State :=
  let s := s.bump (Reg.n_target_reset_ended b) n
  { s with err := { s.err with blk := s.err.blk.map (fun (x : BlockReset) =>
      if x.block = b ∧ x.inst = i then { x with ended := x.ended + n } else x) } }

/-! ## Outputs and free values -/

/-- Something leaves the device. -/
def State.emit (s : State) (o : Out) : State := { s with out := s.out ++ [o] }

/-- A fresh free value of fewer than `2^w`, and the state that has taken it. -/
def State.free (s : State) (w : Nat) : Nat × State :=
  (Config.freeValue s.freeCtr % 2 ^ w, { s with freeCtr := s.freeCtr + 1 })

/-! ## Rings -/

/-- The key of a control slot's ring (R116). -/
def ctlKey (c : Nat) : Nat := 2 ^ 40 + c

/-- The key of a drawer's ring by its local ring number (R116). -/
def ringKey (d n : Nat) : Nat := d * 2 ^ 24 + n

/-- Does a ring key name a control slot? -/
def isCtl (k : Nat) : Bool := decide (2 ^ 40 ≤ k)

/-- The drawer that holds a ring (control slots: none). -/
def ringDrawer (k : Nat) : Nat := k / 2 ^ 24

/-- The local ring number, or the control slot, of a ring key. -/
def ringNum (k : Nat) : Nat := k % 2 ^ 24

/-- The ring of a key. -/
def State.ring (s : State) (k : Nat) : Ring := mgetD s.rings k Ring.absent

/-- A ring written; an absent ring is not listed. -/
def State.setRing (s : State) (k : Nat) (r : Ring) : State := { s with rings := mputD s.rings k r Ring.absent }

/-- Entries that a ring may hold. -/
def Ring.size (r : Ring) : Nat := if r.nv = 0 then 2 ^ r.log2 else r.nv - 1

/-- Free credits of a completion ring: S − (P − C) − R (R135). -/
def Ring.credits (r : Ring) : Nat := r.size - (r.dev + 2 ^ 32 - r.peer) % 2 ^ 32 - r.reserved

/-- The owner mark of entry `i` (R118). -/
def ownerMark (log2 i : Nat) : Bool := decide (i / 2 ^ log2 % 2 = 0)

/-- MOD_COUNT, where 0 acts as 1 (R125). -/
def Ring.count (r : Ring) : Nat := if r.modCount = 0 then 1 else r.modCount

/-- A host port beyond its registers. -/
def State.hport (s : State) (q : Nat) : HostPort := mgetD s.host.ports q HostPort.reset

/-- A host port written. -/
def State.setHport (s : State) (q : Nat) (x : HostPort) : State :=
  { s with host := { s.host with ports := mputD s.host.ports q x HostPort.reset } }

/-- Payload written to a host by DMA (R66, R78). -/
def State.hostWrite (s : State) (q addr : Nat) (data : List Byte) : State :=
  let s := (s.emit (.hostWrite q addr data)).bump (Reg.n_dma_write_bytes q) data.length
  s.setHport q { s.hport q with dmaAt := some s.now }

/-- The host port a drawer is bound to, if any (R88). -/
def State.drPort (s : State) (d : Nat) : Option Nat :=
  if s.on (Reg.DRW_DRAWER_BIND_BOUND d) then some (s.get (Reg.DRW_DRAWER_BIND_PORT d)) else none

/-- The model's number of a drawer's function at its host port: VF v of PF f is 4 + 256 f + v; PF f is f and the manager
function 3 (R59, R65). -/
def State.drFunc (s : State) (d : Nat) : Nat :=
  4 + 256 * s.get (Reg.DRW_DRAWER_BIND_PF d) + s.get (Reg.DRW_DRAWER_BIND_VF d)

/-- The host port that carries the manager function, if one does (R65). -/
def State.mgrPort (s : State) : Option Nat :=
  if s.get Reg.HOST_MGR_CFG_MGR_PORT_ACTIVE < 64 then some (s.get Reg.HOST_MGR_CFG_MGR_PORT_ACTIVE) else none

/-- The port and function that a ring's messages go to: a drawer's VF, or the manager function for control slots 0 to 7. -/
def State.ringHost (s : State) (k : Nat) : Option (Nat × Nat) :=
  if isCtl k then s.mgrPort.map (fun q => (q, 3))
  else (s.drPort (ringDrawer k)).map (fun q => (q, s.drFunc (ringDrawer k)))

/-- An MSI-X message of a function: sent, or its pending bit set while the vector is masked (R137). -/
def State.sendVec (s : State) (k q fn v : Nat) : State :=
  let h := s.hport q
  if h.unmasked.contains (fn * 256 + v) then s.emit (.msix k v)
  else if h.pendVec.contains (fn * 256 + v) then s
  else s.setHport q { h with pendVec := h.pendVec ++ [fn * 256 + v] }

/-! ## Domains (R23, R25) -/

/-- Role in force of an octet: 0 OFF, 1 NET, 2 HOST, 3 CASC (R35). -/
def State.octRole (s : State) (n : Nat) : Nat := if n < 64 then s.get (Reg.LANE_OCT_STATUS_ROLE_ACTIVE n) else 0

/-- State of a domain: 0 RUN, 1 IDLE, 2 SLEEP, 3 OFF. A role OFF keeps an octet's domain in OFF (R25). -/
def State.domState (s : State) (d : Nat) : Nat :=
  if 64 ≤ d ∧ s.octRole (d - 64) = 0 then 3 else s.get (Reg.PWR_DOMAIN_STATE d)

/-- A domain's state written. -/
def State.setDom (s : State) (d st : Nat) : State := s.set (Reg.PWR_DOMAIN_STATE d) st

/-- The power manager's record changed. -/
def State.withPwr (s : State) (f : PwrSt → PwrSt) : State := { s with pwr := f s.pwr }

/-- A domain begins to move. -/
def State.domBegin (s : State) (d st by' : Nat) : State := s.withPwr (fun p => { p with doms := mput p.doms d (st, by') })

/-- A domain that a request finds in SLEEP or OFF is woken (R23); one in IDLE returns to RUN (R414). -/
def State.domWake (s : State) (d : Nat) : State :=
  if decide (s.domState d = 0) || (mget s.pwr.doms d).any (fun m => decide (m.1 = 0)) then s else s.domBegin d 0 2

/-! ## Threads and ports (R315, R327, R328) -/

/-- A thread's record. -/
def State.thread (s : State) (t : Nat) : Thread := mgetD s.core.threads t Thread.reset

/-- A thread's record written. -/
def State.setThread (s : State) (t : Nat) (x : Thread) : State :=
  { s with core := { s.core with threads := mputD s.core.threads t x Thread.reset } }

/-- STATE of a thread: 0 STOPPED, 1 RUNNING, 2 BLOCKED, 3 HALTED. -/
def State.thState (s : State) (t : Nat) : Nat := s.get (Reg.CORE_THREAD_STATUS_STATE t)

/-- STATE written; LIVE of the cluster follows it. -/
def State.setThState (s : State) (t st : Nat) : State :=
  let s := s.set (Reg.CORE_THREAD_STATUS_STATE t) st
  let f := Reg.CORE_CL_LIVE_LIVE (t / 64)
  s.set f (putBits (s.get f) (t % 64) (t % 64) (b2n (decide (st ≠ 0))))

/-- An integer register of a thread; x0 reads zero. -/
def Thread.getX (x : Thread) (r : Nat) : Nat := if r = 0 then 0 else mgetD x.x r 0

/-- An integer register written; x0 discards writes. -/
def Thread.setX (x : Thread) (r v : Nat) : Thread := if r = 0 then x else { x with x := mputD x.x r (v % 2 ^ 64) 0 }

/-- An instruction retired: minstret, which instret shows, counts it (R307). -/
def Thread.retired (x : Thread) : Thread := { x with csr := mputD x.csr 0xB02 ((mgetD x.csr 0xB02 0 + 1) % 2 ^ 64) 0 }

/-- A blocked thread's instruction ends with a result: rd is written, the pc advances and the thread runs (R315). -/
def State.threadResult (s : State) (t v : Nat) : State :=
  let x := s.thread t
  let rd := (x.wait.map (·.rd)).getD 0
  let s := s.setThread t { (x.setX rd v).retired with pc := (x.pc + 4) % 2 ^ 64, wait := none }
  (s.set (Reg.CORE_THREAD_STATUS_BLOCK_KIND t) 0).setThState t 1

/-- The blocked threads of a cluster that wait on an endpoint (kind 1) or port (kind 2), in the order in which they began. -/
def State.waiters (s : State) (n kind index : Nat) : List Nat :=
  let l := (s.core.threads.filter (fun e => decide (e.1 / 64 = n) && decide (s.thState e.1 = 2) &&
    decide (s.get (Reg.CORE_THREAD_STATUS_BLOCK_KIND e.1) = kind) && decide (s.get (Reg.CORE_THREAD_STATUS_BLOCK_INDEX e.1) = index))).map
      (fun e => (((e.2.wait.map (·.order)).getD 0), e.1))
  (sortBy (fun a b => decide (a.1 ≤ b.1)) l).map (·.2)

/-- Bits set in a port of a cluster: the thread that began waiting first takes the value (R327). -/
def State.portSet (s : State) (n p v : Nat) : State :=
  let s := s.set (Reg.CORE_PORT_VALUE_VALUE n p) (Nat.lor (s.get (Reg.CORE_PORT_VALUE_VALUE n p)) (v % 2 ^ 32))
  let now := s.get (Reg.CORE_PORT_VALUE_VALUE n p)
  match s.waiters n 2 p with
  | t :: _ => if now = 0 then s else (s.set (Reg.CORE_PORT_VALUE_VALUE n p) 0).threadResult t now
  | [] => s

/-- A firmware ring's signal on notify vector `v` (R328). It wakes a sleeping cluster. -/
def State.notify (s : State) (v : Nat) : State :=
  let n := s.get (Reg.CORE_NOTIFY_ROUTE_CLUSTER v)
  if !s.on (Reg.CORE_NOTIFY_ROUTE_ENABLE v) || decide (24 ≤ n) then s
  else
    let p := s.get (Reg.CORE_NOTIFY_ROUTE_PORT v)
    let s := if 2 ≤ s.domState (32 + n) then s.domWake (32 + n) else s
    if s.on (Reg.CORE_PORT_CFG_INTERNAL n p) then s.bump (Reg.n_notify_refused n)
    else s.portSet n p (2 ^ s.get (Reg.CORE_NOTIFY_ROUTE_BIT v))

/-! ## Signals -/

/-- The message of an armed completion or event ring is sent and the ring disarms (R137). The queues of NVM Express and virtio
know no arming: they stay armed (R146). -/
def State.sendSignal (s : State) (k : Nat) : State :=
  let r := s.ring k
  match r.vec with
  | none => s
  | some v =>
    let s := s.setRing k { r with armed := decide (0 < r.nv), unsig := 0 }
    if isCtl k && decide (8 ≤ ringNum k) then s.notify v
    else match s.ringHost k with
      | some (q, fn) => s.sendVec k q fn v
      | none => s

/-- The moderation of R137: the message is sent, and the ring disarms, once MOD_COUNT entries are unsignalled or MOD_USEC is 0. -/
def State.signal (s : State) (k : Nat) : State :=
  let r := s.ring k
  if r.armed && decide (0 < r.unsig) && (decide (r.count ≤ r.unsig) || decide (r.modUsec = 0)) then s.sendSignal k else s

/-- One more entry stands in a completion or event ring at the device's index. -/
def Ring.wrote (r : Ring) (now : Nat) : Ring :=
  { r with dev := (r.dev + 1) % 2 ^ 32, unsig := r.unsig + 1, oldest := if r.unsig = 0 then now else r.oldest }

/-- Is an opcode that of an accelerator job (R339)? -/
def isJob (op : Nat) : Bool := decide (op = 0x48) || (decide (0x50 ≤ op) && decide (op ≤ 0x5E))

/-- Who holds the slot of a job of a ring: a drawer + 1, or firmware as 0 (R338). -/
def slotHolder (k op : Nat) : Option Nat :=
  if !isJob op then none
  else if isCtl k then (if 8 ≤ ringNum k then some 0 else none)
  else if ringNum k / 2 ^ 22 = 0 then some (ringDrawer k + 1) else none

/-- SLOTS_FREE: job slots that no sealed drawer reserves and no job holds (R338, R364). -/
def State.slotSync (s : State) : State :=
  let sealed := fun h => decide (0 < h) && s.on (Reg.DRW_DRAWER_STATUS_KIND (h - 1))
  let res := s.drw.shares.foldl (fun a e => if s.on (Reg.DRW_DRAWER_STATUS_KIND e.1) then
    (e.2.filter (fun x => decide (x.pool = 0xF))).foldl (fun b x => b + 16 * x.reserve) a else a) 0
  let used := (s.acc.slots.filter (fun e => !sealed e.1)).foldl (fun a e => a + e.2) 0
  s.set Reg.ACC_STATUS_SLOTS_FREE (4096 - res - used)

/-- A job slot is taken by a holder, or returns. -/
def State.slotMove (s : State) (h : Nat) (up : Bool) : State :=
  let n := mgetD s.acc.slots h 0
  ({ s with acc := { s.acc with slots := mputD s.acc.slots h (if up then n + 1 else n - 1) 0 } }).slotSync

/-- The slot of an item that ends returns. -/
def State.slotBack (s : State) (k index : Nat) : State :=
  match (s.ring k).items.find? (fun i => decide (i.index = index)) with
  | none => s
  | some i => match slotHolder k i.opcode with
    | some h => s.slotMove h false
    | none => s

/-- An item of a submission ring has ended: it is no longer in flight. -/
def Ring.drop (r : Ring) (index : Nat) : Ring := { r with items := r.items.filter (fun i => !decide (i.index = index)) }

/-- A completion entry is written to the ring bound to the item's ring (R134), one reserved credit becoming the entry (R135). -/
def State.writeCpl (s : State) (ring index tag st count : Nat) (detail : List Nat) : State :=
  let k := (s.ring ring).link
  let c := s.ring k
  let s := if c.st = .absent then s else s.setRing k { (c.wrote s.now) with reserved := c.reserved - 1 }
  let s := s.emit (.completion ring index st tag count detail)
  if c.st = .absent then s else s.signal k

/-- Is a ring a virtqueue of a virtio-net drawer (R93)? -/
def State.isVirtq (s : State) (k : Nat) : Bool := !isCtl k && decide (s.get (Reg.DRW_DRAWER_STATUS_PERSONALITY (ringDrawer k)) = 2)

/-- A buffer of a virtqueue is used: its element goes to the driver, with the bytes written to a receive buffer or to a
control command's acknowledgement (R93, R146). -/
def State.useBuffer (s : State) (k index tag count : Nat) : State :=
  let s := s.setRing k ((s.ring k).drop index)
  let l := (s.ring k).link
  let c := (s.ring l).wrote s.now
  let s := s.setRing l { c with reserved := c.reserved - 1, peer := c.dev }
  (s.emit (.used k tag count)).signal l

/-- The end of an item of a ring takes its place: the item is no longer in flight, and its completion is written or its credit
returns (R120, R134, R135). -/
def State.endItem (s : State) (k index tag : Nat) (cplReq : Bool) (st count : Nat) (detail : List Nat) : State :=
  if s.isVirtq k then s.useBuffer k index tag count
  else
  let s := s.slotBack k index
  let s := s.setRing k ((s.ring k).drop index)
  if decide (st = ST_OK) && !cplReq then
    let l := (s.ring k).link
    let c := s.ring l
    s.setRing l { c with reserved := c.reserved - 1 }
  else s.writeCpl k index tag st count detail

/-- Is the ring's host port in strict ordering mode (R66)? -/
def State.strict (s : State) (k : Nat) : Bool :=
  match s.ringHost k with
  | some (q, _) => s.on (Reg.HOST_PORT_CFG_ORDER_MODE q)
  | none => false

/-- Ends held back in strict mode go on once their predecessors have ended (R66). -/
def drainDone (k : Nat) : Nat → State → State
  | 0, s => s
  | n + 1, s =>
    match (s.ring k).items with
    | [] => s
    | i :: _ =>
      match (s.ring k).done.find? (fun d => decide (d.index = i.index)) with
      | none => s
      | some d =>
        let r := s.ring k
        let s := s.setRing k { r with done := r.done.filter (fun e => !decide (e.index = d.index)) }
        drainDone k n (s.endItem k d.index d.tag d.cplReq d.st d.count d.detail)

/-- An item ends with a status (R120, R134, R135): a failure always writes its completion, a success only with CPL_REQ; else the
credit returns. In strict mode an end waits for its predecessors of the ring (R66). In a halt no item already accepted writes a
completion (R144). -/
def State.complete (s : State) (r : Ref) (st count : Nat) (detail : List Nat) : State :=
  if s.halted then s
  else
    let k := s.ring r.ring
    if s.strict r.ring && (k.items.any (fun i => decide (i.index = r.index))) then
      let s := s.setRing r.ring { k with done := k.done ++ [⟨r.index, r.tag, r.cplReq, st, count, detail⟩] }
      drainDone r.ring (k.items.length + 1) s
    else s.endItem r.ring r.index r.tag r.cplReq st count detail

/-- An item whose body fails its checks is one that failed under R142: a drawer's ring counts it. -/
def State.countBad (s : State) (r : Ref) (st : Nat) : State :=
  if decide (ST_BAD_OPCODE ≤ st) && decide (st ≤ ST_BAD_RING_REF) && !isCtl r.ring then s.bump (Reg.n_malformed_entries (ringDrawer r.ring))
  else s

/-- An item fails with a status. A BAD_* status is counted and has the head index in the detail (R134, R142). -/
def State.fail (s : State) (r : Ref) (st : Nat) : State :=
  (s.countBad r st).complete r st 0 (if ST_BAD_OPCODE ≤ st ∧ st ≤ ST_BAD_RING_REF then [r.index] else [])

/-- May an item start? One with ORDER waits until every earlier item of its ring has ended (R120). -/
def State.mayStart (s : State) (r : Ref) : Bool :=
  match (s.ring r.ring).items with
  | [] => true
  | h :: t =>
    if h.index = r.index then true
    else !(t.any (fun i => decide (i.index = r.index) && i.order))

/-- An item marked as started. -/
def State.markStarted (s : State) (r : Ref) : State :=
  let x := s.ring r.ring
  s.setRing r.ring { x with items := x.items.map (fun i => if i.index = r.index then { i with started := true } else i) }

/-- A command of a ring runs once its item may start (R120). -/
def State.work (s : State) (r : Ref) (t : State → State) : State := if s.mayStart r then t (s.markStarted r) else s

/-! ## Events -/

/-- An event record goes to an event ring that is ACTIVE, or is lost when the ring is full (R138, R140). The counter of
lost records is `lostCtr`. -/
def State.record (s : State) (k lostCtr : Nat) (e : Event) : State :=
  let r := s.ring k
  if decide (r.st = .active) && !s.halted then
    let q := r.seq
    let r := { r with seq := (r.seq + 1) % 2 ^ 24 }
    if (r.dev + 2 ^ 32 - r.peer) % 2 ^ 32 < r.size then
      (((s.setRing k (r.wrote s.now)).emit (.record k r.dev q e))).signal k
    else (s.setRing k { r with lost := r.lost + 1 }).bump lostCtr
  else s

/-- An event goes to the manager's event ring, slot 7 (R140). Events raised before the slot is first enabled are held, up
to 16 of them, and further ones are lost and counted (R485). -/
def State.raiseEvent (s : State) (e : Event) : State :=
  let s := { s with events := s.events ++ [e] }
  if (s.ring (ctlKey 7)).st = .absent then
    if s.err.holdEv.length < 16 then { s with err := { s.err with holdEv := s.err.holdEv ++ [e] } }
    else s.bump Reg.n_mgr_event_lost
  else s.record (ctlKey 7) Reg.n_mgr_event_lost e

/-- An event raised now into the manager's event ring. -/
def State.raise (s : State) (code source : Nat) (detail : List Nat) : State :=
  s.raiseEvent { code := code, source := source, time := s.now, dest := 0, detail := detail }

/-- The event ring of a drawer, if it has one (R125, R140). -/
def State.eventRing (s : State) (d : Nat) : Option Nat :=
  (s.rings.find? (fun e => decide (ringDrawer e.1 = d) && decide (e.2.kind = .evt))).map (·.1)

/-- An event raised into a drawer's event ring (R140). -/
def State.raiseTo (s : State) (d code source : Nat) (detail : List Nat) : State :=
  let e : Event := { code := code, source := source, time := s.now, dest := d + 1, detail := detail }
  let s := { s with events := s.events ++ [e] }
  match s.eventRing d with
  | some k => s.record k (Reg.n_event_lost d) e
  | none => s

/-- An event of this chapter about a ring goes to the manager for a control slot and to the drawer otherwise (R140, R148). -/
def State.raiseRing (s : State) (k code : Nat) (detail : List Nat) : State :=
  if isCtl k then s.raise code 0xFFFF (ringNum k :: detail)
  else s.raiseTo (ringDrawer k) code (ringDrawer k) (ringNum k :: detail)

/-! ## Drawers' registers -/

/-- The state code of a drawer (R82). -/
def State.drState (s : State) (d : Nat) : Nat := s.get (Reg.DRW_DRAWER_STATUS_STATE d)

/-- The generation of a drawer (R103). -/
def State.drGen (s : State) (d : Nat) : Nat := s.get (Reg.DRW_DRAWER_STATUS_GENERATION d)

/-- A drawer's state written, ACTIVE_COUNT following it. -/
def State.setDr (s : State) (d st : Nat) : State :=
  let was := s.drState d
  let s := s.set (Reg.DRW_DRAWER_STATUS_STATE d) st
  let s := if was = 3 then s.dec Reg.DRW_STATUS_ACTIVE_COUNT else s
  if st = 3 then s.inc Reg.DRW_STATUS_ACTIVE_COUNT else s

/-- Is a drawer in its quiesce sequence, where doorbells are recorded only and arriving frames and packets are dropped
(R104)? -/
def State.quiescing (s : State) (d : Nat) : Bool := decide (4 ≤ s.drState d) && decide (s.drState d ≤ 6)

/-- Does a drawer's work still run to its end: is it at step 1 or 2 of the sequence (R104)? -/
def State.draining (s : State) (d : Nat) : Bool :=
  match mget s.drw.quiesce d with
  | some q => decide (q.step = .fetch) || decide (q.step = .drain)
  | none => false

/-- The shares a drawer holds. -/
def State.sharesOf (s : State) (d : Nat) : List Share := mgetD s.drw.shares d []

/-- The share of a drawer in a pool (and instance, 0xFFFF where the pool has none). -/
def State.share (s : State) (d pool inst : Nat) : Option Share :=
  (s.sharesOf d).find? (fun h => decide (h.pool = pool) && decide (h.inst = inst))

/-- The ceiling of a drawer in a pool, in granules, over all instances; zero where its list names none (R85). -/
def State.ceiling (s : State) (d pool : Nat) : Nat :=
  ((s.sharesOf d).filter (fun h => decide (h.pool = pool))).foldl
    (fun a h => a + (if h.ceiling = 0 then h.reserve else h.ceiling)) 0

/-- The `j`-th index of a drawer's grant in an index pool, counted upward across its extents (R116). -/
def nthIndex : List (Nat × Nat) → Nat → Option Nat
  | [], _ => none
  | (b, n) :: t, j => if j < n then some (b + j) else nthIndex t (j - n)

/-- How many indices a list of extents holds. -/
def extentsLen (l : List (Nat × Nat)) : Nat := l.foldl (fun a e => a + e.2) 0

/-- The position of an index within a grant (R116). -/
def indexPos : List (Nat × Nat) → Nat → Nat → Option Nat
  | [], _, _ => none
  | (b, n) :: t, i, acc => if decide (b ≤ i) && decide (i < b + n) then some (acc + (i - b)) else indexPos t i (acc + n)

/-- The granted extents of a drawer in an index pool, in indices. -/
def State.extents (s : State) (d pool granule : Nat) : List (Nat × Nat) :=
  match s.share d pool 0xFFFF with
  | some h => h.extents.map (fun e => (e.1 * granule, e.2 * granule))
  | none => []

/-- Does a drawer hold this index of a pool? -/
def State.holdsIndex (s : State) (d pool granule i : Nat) : Bool :=
  (s.extents d pool granule).any (fun e => decide (e.1 ≤ i) && decide (i < e.1 + e.2))

/-- Work tagged with a drawer and an older generation gives no result; the discard is counted (R21, R103). -/
def State.stale (s : State) (d gen : Nat) : Bool := !decide (s.drGen d = gen)

end Sys2Proof.Machine
end

