-- ==== Sys2Proof/Machine/Halt.lean ====
section
/-! DEFINITION. The device halt (R144, R496, R497): one shared operation for every cause. -/

namespace Sys2Proof.Machine

/-- Host ports whose link is up, as numbers (R80). -/
def State.upHostPorts (s : State) : List Nat := (List.range 64).filter (fun q => s.on (Reg.HOST_PORT_STATUS_LINK_UP q))

/-- The readiness map (R487). -/
def State.readyMap (s : State) : List Nat := (List.range 8).map (fun w => s.rd (Reg.GLB_READY w))

/-- A readiness bit set or cleared; FORWARD follows once the pipelines, the cell buffer, the traffic manager and the shards are
ready (R487). -/
def State.setReady (s : State) (b : Nat) (on : Bool) : State :=
  let f := fun (s : State) (b : Nat) (on : Bool) => s.wr (Reg.GLB_READY (b / 32)) (putBits (s.rd (Reg.GLB_READY (b / 32))) (b % 32) (b % 32) (b2n on))
  let s := f s b on
  let all := (6 :: 7 :: ((List.range 4).map (· + 16) ++ (List.range 16).map (· + 32))).all (fun i => bit (s.rd (Reg.GLB_READY (i / 32))) (i % 32))
  if on && all then f s 3 true else s

/-- The IMAGE word of a dump header (R500). -/
def State.imageWord (s : State) : Nat :=
  s.get Reg.BOOT_STATUS_SVN + s.get Reg.BOOT_STATUS_SLOT * 2 ^ 8 + s.get Reg.BOOT_STATUS_PROOF * 2 ^ 9

/-- The header of a dump of the present halt, with COMPLETE clear (R498, R500). -/
def State.dumpHeader (s : State) (cause : Nat) (detail : List Nat) : Dump :=
  { seq := s.err.dumpSeq, cause := cause, complete := false, truncated := false, oneStack := false, secLost := false,
    time := s.now, timeDone := 0, detail := detail, ready := s.readyMap, secondary := [], image := s.imageWord,
    build := (s.boot.front.drop 48).take 16 }

/-- The half a halt's dump goes to: the one without the COMPLETE dump of greatest DUMP_SEQ, or half 0 (R498). -/
def State.dumpHalf (s : State) : Nat :=
  let q := fun h => match mget s.err.dumps h with
    | some d => if d.complete then some d.seq else none
    | none => none
  match q 0, q 1 with
  | some a, some b => if a < b then 0 else 1
  | some _, none => 1
  | _, _ => 0

/-- The device halts with a cause and its detail of four words (R144, R496, R524). A later cause during a halt leaves the
status as it stands and is counted (R497). -/
def State.halt (s : State) (cause : Nat) (detail : List Nat) : State :=
  if s.halted then
    let s := s.bump Reg.n_halt_secondary
    { s with err := { s.err with secondary := s.err.secondary ++ [(cause, s.now)] } }
  else
    let h := s.dumpHalf
    let s := { s with err := { s.err with dumpSeq := s.err.dumpSeq + 1, half := h, secondary := [] } }
    let s := { s with err := { s.err with short := some (s.dumpHeader cause detail), coloEvent := true } }
    let s := (s.set Reg.GLB_HALT_STATUS_HALTED 1).set Reg.GLB_HALT_STATUS_CAUSE cause
    let s := s.wr64 Reg.GLB_HALT_TIME s.now
    let s := (s.wr (Reg.GLB_HALT_DETAIL 0) (detail.getD 0 0)).wr (Reg.GLB_HALT_DETAIL 1) (detail.getD 1 0)
    let s := (s.wr (Reg.GLB_HALT_DETAIL 2) (detail.getD 2 0)).wr (Reg.GLB_HALT_DETAIL 3) (detail.getD 3 0)
    let s := s.set Reg.ERR_COLO_STATUS_WRITING 1
    { s with out := s.out ++ (s.upHostPorts.filter (fun q => s.host.errFatalEn.contains q)).map (fun q => Out.pcie q .errFatal) }

/-- A malformed entry on a control-class ring halts the device (R143): slot, failing check of R141, index and opcode. -/
def State.malformed (s : State) (r : Ref) (check opcode : Nat) : State :=
  s.halt 1 [ringNum r.ring + check * 256, r.index, opcode, 0]

/-- Does the device run: power-on done, no halt, no warm reset, and not in DEEP or OFF, where its logic is unpowered (R144, R414,
R427, R490)? -/
def State.running (s : State) : Bool :=
  !s.halted && decide (s.err.phase = .none) && decide (s.pwr.phase = .up) && decide (s.get Reg.PWR_STATUS_DEV_STATE < 3)

/-- Is there a path to the registers: powered, not in DEEP or OFF, and not in the steps of a warm reset that clear the device? In a
halt there is (R490, R519, R520). -/
def State.regOpen (s : State) : Bool :=
  decide (s.pwr.phase = .up) && decide (s.get Reg.PWR_STATUS_DEV_STATE < 3) &&
  (match s.err.phase with
   | .clearing _ => false
   | .waitPin => false
   | _ => true)

/-- A command's effect is on everything but the queue of commands that wait. -/
def State.always (s t : State) : Host.Outcome State Fault Refusal := .next { t with pending := s.pending }

/-- Work goes on only while the device runs: a halt, a warm reset and an unpowered domain leave it as it stands (R144, R419, R490). -/
def State.run (s t : State) : Host.Outcome State Fault Refusal := s.always (if s.running then t else s)

/-- A register write acts while a path is open; during a halt it is dropped and counted in halt_write_drop (R519). -/
def State.write (s t : State) : Host.Outcome State Fault Refusal :=
  s.always (if !s.regOpen then s else if s.halted then s.bump Reg.n_halt_write_drop else t)

/-- What a path to the registers does for itself, in a halt too. -/
def State.path (s t : State) : Host.Outcome State Fault Refusal := s.always (if s.regOpen then t else s)

end Sys2Proof.Machine
end

