-- ==== Sys2Proof/Machine/CellOps.lean ====
section
/-! DEFINITION. The cell buffer's operations (R202–R218): leaf and page allocation, charges, quires and their reference counts. -/

namespace Sys2Proof.Machine

/-- Data leaves of a quire of `n` bytes (R206). -/
def dataLeaves (n : Nat) : Nat := (n + 63) / 64

/-- Pointer leaves of a quire of `n` bytes (R206). -/
def ptrLeaves (n : Nat) : Nat := if dataLeaves n ≤ 12 then 0 else (dataLeaves n - 12 + 14) / 15

/-- All leaves of a quire of `n` bytes (R206). -/
def quireLeaves (n : Nat) : Nat := 1 + ptrLeaves n + dataLeaves n

/-- Tier bit of a pointer word (R202). -/
def ptrTier (p : Nat) : Nat := bits p 29 29

/-- INDEX of a pointer word (R202). -/
def ptrIndex (p : Nat) : Nat := bits p 28 0

/-- The pointer word of a leaf (R202). -/
def mkPtr (tier i : Nat) : Nat := 2 ^ 31 + tier * 2 ^ 29 + i

/-- Master ID of a drawer (R18). -/
def drMaster (d : Nat) : Nat := 0x1000 + d

/-- The ingress account (R214). -/
def ingressOwner : Nat := 0x3001

/-- Does a master ID name a drawer? -/
def isDrMaster (m : Nat) : Bool := decide (m / 0x1000 = 1)

/-- Is a drawer sealed? -/
def State.sealed (s : State) (d : Nat) : Bool := s.on (Reg.DRW_DRAWER_STATUS_KIND d)

/-- On-die leaves charged to an owner (R214). -/
def State.dieUse (s : State) (m : Nat) : Nat :=
  if isDrMaster m then s.get (Reg.CELL_DRW_DIE_USED_USED (m % 0x1000)) else mgetD s.cell.dieUse m 0

/-- HBM pages charged to an owner. -/
def State.hbmUse (s : State) (m : Nat) : Nat :=
  if isDrMaster m then s.get (Reg.CELL_DRW_HBM_PAGES_PAGES (m % 0x1000)) else mgetD s.cell.hbmUse m 0

/-- The on-die charge of an owner written. -/
def State.setDieUse (s : State) (m v : Nat) : State :=
  if isDrMaster m then s.set (Reg.CELL_DRW_DIE_USED_USED (m % 0x1000)) v
  else { s with cell := { s.cell with dieUse := mputD s.cell.dieUse m v 0 } }

/-- The page charge of an owner written. -/
def State.setHbmUse (s : State) (m v : Nat) : State :=
  if isDrMaster m then s.set (Reg.CELL_DRW_HBM_PAGES_PAGES (m % 0x1000)) v
  else { s with cell := { s.cell with hbmUse := mputD s.cell.hbmUse m v 0 } }

/-- Leaves of one granule's share held by a sealed drawer in LEAF_DIE, in leaves (R85). -/
def Share.dieLeaves (h : Share) : Nat := h.reserve * 1024

/-- What the sealed drawers hold back on-die: reserve not yet in use (R215). -/
def State.sealedDie (s : State) : Nat :=
  (s.drw.shares.map (fun e =>
    if s.sealed e.1 then
      (e.2.filter (fun h => decide (h.pool = 1))).foldl (fun a h => a + (h.dieLeaves - s.dieUse (drMaster e.1))) 0
    else 0)).foldl (· + ·) 0

/-- OUTSTANDING of R215, in leaves. -/
def State.outstanding (s : State) : Nat :=
  (s.get Reg.CELL_HEADROOM_HEADROOM - s.dieUse ingressOwner) + s.sealedDie

/-- What the sealed drawers hold back in HBM, in pages: a granule of LEAF_HBM is 256 pages. -/
def State.outstandingHbm (s : State) : Nat :=
  (s.drw.shares.map (fun e =>
    if s.sealed e.1 then
      (e.2.filter (fun h => decide (h.pool = 2))).foldl (fun a h => a + (h.reserve * 256 - s.hbmUse (drMaster e.1))) 0
    else 0)).foldl (· + ·) 0

/-- May an owner take `n` more on-die leaves (R215)? `free` is the number of free leaves. -/
def State.dieGrant (s : State) (m n : Nat) : Bool :=
  let free := s.get Reg.CELL_DIE_FREE_FREE
  let room := decide (n + s.outstanding ≤ free)
  if isDrMaster m then
    let d := m % 0x1000
    if s.sealed d then decide (s.dieUse m + n ≤ s.ceiling d 1 * 1024) && decide (n ≤ free)
    else decide (s.dieUse m + n ≤ s.ceiling d 1 * 1024) && room
  else if m = ingressOwner then
    (decide (s.dieUse m + n ≤ s.get Reg.CELL_HEADROOM_HEADROOM) && decide (n ≤ free)) || room
  else room

/-- May an owner take `n` more HBM pages (R215)? -/
def State.hbmGrant (s : State) (m n : Nat) : Bool :=
  let free := s.get Reg.CELL_HBM_FREE_FREE_PAGES
  let room := decide (n + s.outstandingHbm ≤ free)
  if isDrMaster m then
    let d := m % 0x1000
    if s.sealed d then decide (s.hbmUse m + n ≤ s.ceiling d 2 * 256) && decide (n ≤ free)
    else decide (s.hbmUse m + n ≤ s.ceiling d 2 * 256) && room
  else room

/-- The registers that report the tiers follow them: OUTSTANDING, and LOW with its event cell.low_free (R223, R224). -/
def State.cellSync (s : State) : State :=
  let s := s.set Reg.CELL_OUTSTANDING_OUTSTANDING s.outstanding
  let free := s.get Reg.CELL_DIE_FREE_FREE
  let low := decide (free < s.get Reg.CELL_LOW_MARK_LOW_MARK + s.outstanding)
  let s' := s.set Reg.CELL_STATUS_LOW (b2n low)
  if low && !s.on Reg.CELL_STATUS_LOW then s'.raise EV_cell_low_free 0xFFFF [free, s.outstanding] else s'

/-- Leaves of both kinds that a quire occupies, head first. -/
def Quire.all (q : Quire) (p : Nat) : List Nat := p :: (q.ptrs ++ q.leaves)

/-- Every on-die leaf in use. -/
def State.dieLeavesUsed (s : State) : List Nat :=
  (s.cell.quires.map (fun e => if ptrTier e.1 = 0 then (e.2.all e.1).map ptrIndex else [])).flatten

/-- The lowest leaf of `[a, top)` that is not used. -/
def firstFree (used : List Nat) (top : Nat) : Nat → Nat → Option Nat
  | 0, _ => none
  | fuel + 1, a => if top ≤ a then none else if used.contains a then firstFree used top fuel (a + 1) else some a

/-- Up to `k` free leaves of one 64-leaf word from leaf `a` on (R208). -/
def wordFree (used : List Nat) (a : Nat) : Nat → List Nat
  | 0 => []
  | k + 1 =>
    if used.contains a then (if (a + 1) % 64 = 0 then [] else wordFree used (a + 1) k)
    else a :: (if (a + 1) % 64 = 0 then [] else wordFree used (a + 1) k)

/-- `n` free on-die leaves: requests of up to eight leaves go to the slices in rotation, and each takes the lowest free word of
its slice (R208). -/
def takeDie : Nat → List Nat → Nat → Nat → List Nat → List Nat × Nat
  | 0, _, sl, _, acc => (acc, sl)
  | fuel + 1, used, sl, n, acc =>
    if n = 0 then (acc, sl)
    else
      match firstFree used (32768 * (sl + 1)) (used.length + 1) (32768 * sl) with
      | none => takeDie fuel used ((sl + 1) % 64) n acc
      | some a =>
        let g := (wordFree used a 64).take (min 8 n)
        takeDie fuel (g ++ used) ((sl + 1) % 64) (n - g.length) (acc ++ g)

/-- A new quire from its leaves: the head is the first, then the pointer leaves, then the data leaves (R205). -/
def mkQuire (owner arrival : Nat) (data : List Byte) (leaves : List Nat) (copying : Bool) : Nat × Quire :=
  (leaves.headD 0,
   { refcnt := 1, poison := false, owner := owner, profile := 0, arrival := arrival % 2 ^ 32,
     ptrs := (leaves.drop 1).take (ptrLeaves data.length), leaves := leaves.drop (1 + ptrLeaves data.length),
     data := data, tail := [], copying := copying })

/-- A quire of the cell buffer. -/
def State.quire (s : State) (p : Nat) : Option Quire := mget s.cell.quires p

/-- A quire written. -/
def State.setQuire (s : State) (p : Nat) (q : Quire) : State :=
  { s with cell := { s.cell with quires := mput s.cell.quires p q } }

/-- NO_LEAF counts against a drawer's owner (R216). -/
def State.noLeaf (s : State) (m : Nat) : State := if isDrMaster m then s.bump (Reg.n_no_leaf (m % 0x1000)) else s

/-- An on-die quire allocated, or none when R215 does not grant it. -/
def State.allocDie (s : State) (m arrival : Nat) (data : List Byte) : Option (Nat × State) :=
  let n := quireLeaves data.length
  if s.dieGrant m n then
    let (l, sl) := takeDie (n + 64) s.dieLeavesUsed s.cell.slice n []
    let (p, q) := mkQuire m arrival data (l.map (mkPtr 0)) false
    let s := { s with cell := { s.cell with slice := sl, quires := mput s.cell.quires p q } }
    let s := (s.setDieUse m (s.dieUse m + n)).dec Reg.CELL_DIE_FREE_FREE n
    some (p, ((s.bump Reg.n_leaf_alloc n).bump Reg.n_quire_alloc).cellSync)
  else none

/-- The lowest free HBM page (R209). -/
def State.freePage (s : State) : Option Nat :=
  firstFree (s.cell.pages.map (·.1)) (s.get Reg.CELL_HBM_PAGES_PAGES) (s.cell.pages.length + 1) 0

/-- Consecutive HBM leaves for an owner: from the fill mark of its open page, and on to new pages as each runs out (R209). -/
def takeHbm (m : Nat) : Nat → State → Nat → List Nat → Option (List Nat × State)
  | 0, _, _, _ => none
  | fuel + 1, s, n, acc =>
    if n = 0 then some (acc, s)
    else
      match mget s.cell.opened m with
      | some (g, f) =>
        if f < 256 then
          let k := min n (256 - f)
          let live := (mgetD s.cell.pages g (m, 0)).2
          let s := { s with cell := { s.cell with
            opened := mput s.cell.opened m (g, f + k), pages := mput s.cell.pages g (m, live + k) } }
          takeHbm m fuel s (n - k) (acc ++ (List.range k).map (fun i => mkPtr 1 (256 * g + f + i)))
        else takeHbm m fuel { s with cell := { s.cell with opened := mdel s.cell.opened m } } n acc
      | none =>
        if s.hbmGrant m 1 then
          match s.freePage with
          | some g =>
            let s := { s with cell := { s.cell with
              opened := mput s.cell.opened m (g, 0), pages := mput s.cell.pages g (m, 0) } }
            let s := (s.setHbmUse m (s.hbmUse m + 1)).dec Reg.CELL_HBM_FREE_FREE_PAGES
            takeHbm m fuel s n acc
          | none => none
        else none

/-- The owner that holds the most HBM pages, with their number (R223). -/
def State.mostPages (s : State) : Nat × Nat :=
  (s.cell.pages.map (fun e => e.2.1)).foldl
    (fun a m => if a.1 < s.hbmUse m then (s.hbmUse m, m) else a) (0, 0)

/-- HBM_FULL follows the page bitmap, and cell.hbm_exhausted is raised once until a page frees (R223). -/
def State.hbmSync (s : State) : State :=
  let none' := decide (s.get Reg.CELL_HBM_FREE_FREE_PAGES = 0) && decide (0 < s.get Reg.CELL_HBM_PAGES_PAGES)
  let s := s.set Reg.CELL_STATUS_HBM_FULL (b2n none')
  if none' && !s.cell.full then
    { (s.raise EV_cell_hbm_exhausted 0xFFFF [s.mostPages.1, s.mostPages.2]) with cell := { s.cell with full := true } }
  else s

/-- An HBM quire allocated, or none when no page can be granted. -/
def State.allocHbm (s : State) (m arrival : Nat) (data : List Byte) (copying : Bool) : Option (Nat × State) :=
  match takeHbm m (quireLeaves data.length + 520) s (quireLeaves data.length) [] with
  | none => none
  | some (l, s) =>
    let (p, q) := mkQuire m arrival data l copying
    let s := { s with cell := { s.cell with quires := mput s.cell.quires p q } }
    some (p, ((s.bump Reg.n_leaf_alloc l.length).bump Reg.n_quire_alloc).hbmSync)

/-- One HBM leaf freed: its page's live count falls, and a page that is no owner's open page and holds none returns to the
free bitmap (R209, R211). -/
def State.freeHbmLeaf (s : State) (p : Nat) : State :=
  let g := ptrIndex p / 256
  match mget s.cell.pages g with
  | none => s
  | some (m, live) =>
    let isOpen := match mget s.cell.opened m with
      | some (g', _) => decide (g' = g)
      | none => false
    if live ≤ 1 && !isOpen then
      let s := { s with cell := { s.cell with pages := mdel s.cell.pages g, full := false } }
      (s.setHbmUse m (s.hbmUse m - 1)).inc Reg.CELL_HBM_FREE_FREE_PAGES
    else { s with cell := { s.cell with pages := mput s.cell.pages g (m, live - 1) } }

/-- A quire freed: every leaf returns to its tier (R211). -/
def State.freeQuire (s : State) (p : Nat) : State :=
  match s.quire p with
  | none => s
  | some q =>
    let n := (q.all p).length
    let s := { s with cell := { s.cell with quires := mdel s.cell.quires p } }
    let s := if ptrTier p = 0 then (s.setDieUse q.owner (s.dieUse q.owner - n)).inc Reg.CELL_DIE_FREE_FREE n
             else ((q.all p).foldl (fun s l => s.freeHbmLeaf l) s).hbmSync
    let s := (s.bump Reg.n_leaf_free n).bump Reg.n_quire_free
    let s := if q.poison then s.bump Reg.n_free_poisoned else s
    s.cellSync

/-- One hold ended; the last frees the quire (R210, R211). -/
def State.release (s : State) (p : Nat) : State :=
  match s.quire p with
  | none => s
  | some q => if q.refcnt ≤ 1 then s.freeQuire p else s.setQuire p { q with refcnt := q.refcnt - 1 }

/-- A further holder, refused at 255 (R210): the answer says whether it holds. -/
def State.hold (s : State) (p holder : Nat) : Bool × State :=
  match s.quire p with
  | none => (false, s)
  | some q =>
    if q.refcnt < 255 then (true, s.setQuire p { q with refcnt := q.refcnt + 1 })
    else
      let s := s.bump Reg.n_refcnt_saturated
      let ok := match s.cell.satAt with
        | none => true
        | some t => decide (1000000 ≤ s.now - t)
      if ok then (false, { (s.raise EV_cell_refcnt_saturated 0xFFFF [p, holder]) with cell := { s.cell with satAt := some s.now } })
      else (false, s)

/-- A quire moved to HBM under an owner: a new head with REFCNT 1 there, the on-die quire freed (R218). -/
def State.moveHbm (s : State) (p m profile : Nat) : Option (Nat × State) :=
  match s.quire p with
  | none => none
  | some q =>
    match s.allocHbm m q.arrival q.data true with
    | none => none
    | some (p', s) =>
      let s := match s.quire p' with
        | some q' => s.setQuire p' { q' with profile := profile, poison := q.poison }
        | none => s
      let s := s.freeQuire p
      some (p', (s.bump Reg.n_spill_quires).bump Reg.n_spill_bytes q.data.length)

/-- An on-die quire charged to another owner (R217). -/
def State.recharge (s : State) (p m : Nat) : State :=
  match s.quire p with
  | none => s
  | some q =>
    let n := (q.all p).length
    let s := s.setDieUse q.owner (s.dieUse q.owner - n)
    let s := s.setDieUse m (s.dieUse m + n)
    (s.setQuire p { q with owner := m }).cellSync

/-- die_grant of R217: tested as though the quire's leaves had already been returned by their present owner. -/
def State.dieGrantMoved (s : State) (p m : Nat) : Bool :=
  match s.quire p with
  | none => false
  | some q =>
    let n := (q.all p).length
    let s := (s.setDieUse q.owner (s.dieUse q.owner - n)).inc Reg.CELL_DIE_FREE_FREE n
    s.dieGrant m n

/-- Placement at enqueue under spill profile `k` for owner `m` (R217): the quire's pointer word afterwards, or none for NO_LEAF. -/
def State.place (s : State) (p k m : Nat) : Option (Nat × State) :=
  match s.quire p with
  | none => none
  | some q =>
    let n := (q.all p).length
    if ptrTier p = 1 then some (p, s.setQuire p { q with profile := k })
    else if 1 < q.refcnt then some (p, s.inc (Reg.CELL_SPILL_USED_USED k) n)
    else
      let free := s.get Reg.CELL_DIE_FREE_FREE
      let sealed' := isDrMaster m && s.sealed (m % 0x1000)
      let stay := !s.on (Reg.CELL_SPILL_PROFILE_SPILL_EN k) ||
        (decide (s.get (Reg.CELL_SPILL_USED_USED k) + n ≤ s.get (Reg.CELL_SPILL_PROFILE_DIE_LIMIT k)) && s.dieGrantMoved p m &&
          (sealed' || decide (s.get Reg.CELL_LOW_MARK_LOW_MARK + s.outstanding ≤ free)))
      if stay then
        if s.dieGrantMoved p m then
          let s := s.recharge p m
          let s := match s.quire p with
            | some q => s.setQuire p { q with profile := k }
            | none => s
          some (p, s.inc (Reg.CELL_SPILL_USED_USED k) n)
        else none
      else s.moveHbm p m k

/-- A quire leaves its queue: USED of the queue's profile falls (R217). -/
def State.unplace (s : State) (p k : Nat) : State :=
  match s.quire p with
  | none => s
  | some q => if ptrTier p = 0 then s.dec (Reg.CELL_SPILL_USED_USED k) (q.all p).length else s

/-- The 64 bytes of a head leaf (R205). -/
def headLeaf (q : Quire) : List Byte :=
  [BitVec.ofNat 8 q.refcnt, BitVec.ofNat 8 (128 + b2n q.poison * 64)] ++ leBytes 2 q.owner ++
  leBytes 4 (q.data.length + q.profile * 2 ^ 17) ++ leBytes 4 q.arrival ++ leBytes 4 (q.ptrs.headD 0) ++
  ((List.range 12).map (fun j => leBytes 4 (q.leaves.getD j 0))).flatten

/-- The 64 bytes of pointer leaf `i` of a quire (R205). -/
def ptrLeaf (q : Quire) (i : Nat) : List Byte :=
  ((List.range 15).map (fun j => leBytes 4 (q.leaves.getD (12 + 15 * i + j) 0))).flatten ++ leBytes 4 (q.ptrs.getD (i + 1) 0)

/-- The 64 bytes a leaf holds, if it is allocated (R204, R205). -/
def State.leafBytes (s : State) (p : Nat) : Option (List Byte) :=
  (s.cell.quires.map (fun e =>
    if e.1 = p then some (headLeaf e.2)
    else match e.2.ptrs.idxOf? p with
      | some i => some (ptrLeaf e.2 i)
      | none => match e.2.leaves.idxOf? p with
        | some j => some (slice (e.2.data ++ e.2.tail) (64 * j) 64)
        | none => none)).findSome? id

/-- The owner check of R213. `reads` says whether a fence of the CELL register block admits the thread's read. -/
def ownerOk (m owner : Nat) (reads unlocked : Bool) : Bool :=
  match m / 0x1000 with
  | 0 => true
  | 3 => true
  | 1 => decide (owner = m)
  | 2 => decide (owner / 0x1000 = 2) || decide (owner / 0x1000 = 3) || (decide (owner / 0x1000 = 1) && reads)
  | 4 => unlocked
  | _ => false

/-- Does an entry of a fence table admit a master's access to [a, a + len) with the permission bit? (R94). -/
def Fence.admits (f : Fence) (m a len permBit : Nat) : Bool :=
  decide (Nat.land m f.mask = Nat.land f.master f.mask) && decide (f.base ≤ a) && decide (a + len ≤ f.limit + 1) && bit f.perm permBit

/-- Key of a fence entry: kind, instance and position (R96). -/
def fenceKey (kind inst index : Nat) : Nat := kind * 2 ^ 28 + inst * 2 ^ 16 + index

/-- Does some fence entry at a target admit the access (R94)? -/
def State.fenceAdmits (s : State) (kind inst m a len permBit : Nat) : Bool :=
  s.drw.fences.any (fun e => decide (e.1 / 2 ^ 16 = kind * 2 ^ 12 + inst) && e.2.admits m a len permBit)

/-- Is the word null or malformed, out of range, or a free leaf (checks 1 to 3 of R212)? The failing check, or 0. -/
def State.ptrForm (s : State) (p : Nat) : Nat :=
  if !bit p 31 || bit p 30 then 1
  else if (if ptrTier p = 0 then 2097152 else 256 * s.get Reg.CELL_HBM_PAGES_PAGES) ≤ ptrIndex p then 2
  else match s.leafBytes p with
    | none => 3
    | some _ => 0

/-- Checks 1 to 5 of R212 for an operation that names a quire: the failing check, or 0. -/
def State.ptrCheck (s : State) (m p : Nat) : Nat :=
  if s.ptrForm p ≠ 0 then s.ptrForm p
  else match s.quire p with
    | none => 4
    | some q =>
      let o := q.owner
      let rd := s.fenceAdmits 3 7 m (Reg.CELL_DRW_DIE_USED (o % 0x1000) % 2 ^ 20) 4 0
      if ownerOk m o rd (s.on Reg.DBG_STATUS_UNLOCKED) then 0 else 5

/-- A failed pointer check is counted, and cell.bad_pointer raised at most once per millisecond per master (R212). -/
def State.badPointer (s : State) (m p check : Nat) : State :=
  let s := if check ≤ 4 then s.bump Reg.n_bad_pointer else s.bump Reg.n_owner_refused
  let ok := match mget s.cell.badAt m with
    | none => true
    | some t => decide (1000000 ≤ s.now - t)
  if ok then
    let t := s.now
    let s := s.raise EV_cell_bad_pointer (if ptrTier p = 0 then ptrIndex p / 32768 % 64 else 0xFFFF) [m, p, check]
    { s with cell := { s.cell with badAt := mput s.cell.badAt m t } }
  else s

/-- The status of a failed check of R212. -/
def checkStatus (check : Nat) : Nat := if check ≤ 4 then ST_BAD_POINTER else ST_QUIRE_OWNER

end Sys2Proof.Machine
end

