-- ==== Sys2Proof/Machine/TmOps.lean ====
section
/-! DEFINITION. The traffic manager's operations (R225–R246): its objects and their owners, buckets, admission and the
choice of the next frame. -/

namespace Sys2Proof.Machine

/-! ## Objects -/

/-- Key of an object: KIND 0 queue, 1 subscriber, 2 group, 3 shaper, 4 policer, 5 replication list (R246). -/
def tmKey (kind index : Nat) : Nat := kind * 2 ^ 20 + index

/-- How many objects of a kind there are (R228, R237, R246). -/
def tmCount : Nat → Nat
  | 0 => 1048576
  | 1 => 131072
  | 2 => 8192
  | 3 => 262144
  | 4 => 524288
  | 5 => 16384
  | _ => 0

/-- Configuration word `j` of an object. -/
def State.tmWord (s : State) (kind index j : Nat) : Nat := (mgetD s.tm.objs (tmKey kind index) []).getD j 0

/-- A queue's state. -/
def State.tmQueue (s : State) (q : Nat) : TmQueue := mgetD s.tm.queues q TmQueue.empty

/-- A queue's state written. -/
def State.setTmQueue (s : State) (q : Nat) (x : TmQueue) : State :=
  { s with tm := { s.tm with queues := mputD s.tm.queues q x TmQueue.empty } }

/-- A node's scheduling state; KIND 7 for a port. -/
def State.tmNode (s : State) (kind index : Nat) : TmNode := mgetD s.tm.nodes (tmKey kind index) TmNode.fresh

/-- A node's scheduling state written. -/
def State.setTmNode (s : State) (kind index : Nat) (x : TmNode) : State :=
  { s with tm := { s.tm with nodes := mputD s.tm.nodes (tmKey kind index) x TmNode.fresh } }

/-- ENABLE of an object: bit 31 of word 0. -/
def State.tmOn (s : State) (kind index : Nat) : Bool := bit (s.tmWord kind index 0) 31

/-- KIND of a queue: 0 NORMAL, 1 HOSTRX, 2 REPL. -/
def State.qKind (s : State) (q : Nat) : Nat := bits (s.tmWord 0 q 0) 30 29

/-- Word that holds PACE and SHAPER of a node: word 2 of a queue, word 1 of the others. -/
def paceWord (kind : Nat) : Nat := if kind = 0 then 2 else 1

/-- PACE of a node. -/
def State.tmPace (s : State) (kind index : Nat) : Nat := bits (s.tmWord kind index (paceWord kind)) 31 30

/-- SHAPER of a node. -/
def State.tmShaper (s : State) (kind index : Nat) : Nat := bits (s.tmWord kind index (paceWord kind)) 17 0

/-- CAL_RATE of a node, in units of 100 kb/s. -/
def State.tmCal (s : State) (kind index : Nat) : Nat := bits (s.tmWord kind index (paceWord kind + 1)) 23 0

/-- WEIGHT of a node, where 0 acts as 1 (R234). -/
def State.tmWeight (s : State) (kind index : Nat) : Nat :=
  max 1 (if kind = 0 then bits (s.tmWord 0 index 1) 15 0 else bits (s.tmWord kind index 3) 15 0)

/-- Packets a queue holds. -/
def State.depth (s : State) (q : Nat) : Nat := (s.tmQueue q).frames.length

/-! ## Owners (R229) -/

/-- The drawer whose grant of an index pool holds an index. -/
def State.ownerOf (s : State) (pool granule i : Nat) : Option Nat :=
  (s.drw.shares.find? (fun e => s.holdsIndex e.1 pool granule i)).map (·.1)

/-- Owner of a queue. -/
def State.queueOwner (s : State) (q : Nat) : Option Nat := s.ownerOf 6 8 q

/-- Owner of a subscriber: the owner of its queues (R228). -/
def State.subOwner (s : State) (n : Nat) : Option Nat := s.queueOwner (8 * n)

/-- Owner of a group. -/
def State.groupOwner (s : State) (g : Nat) : Option Nat :=
  if bit (s.tmWord 2 g 0) 30 then some (bits (s.tmWord 2 g 0) 27 16) else none

/-- Owner of a shaper. -/
def State.shaperOwner (s : State) (i : Nat) : Option Nat := s.ownerOf 7 8 i

/-- Owner of a policer. -/
def State.policerOwner (s : State) (i : Nat) : Option Nat := s.ownerOf 8 8 i

/-- Owner of a node. -/
def State.tmOwner (s : State) (kind index : Nat) : Option Nat :=
  match kind with
  | 0 => s.queueOwner index
  | 1 => s.subOwner index
  | _ => s.groupOwner index

/-! ## The tree -/

/-- PORT of a group. -/
def State.groupPort (s : State) (g : Nat) : Nat := bits (s.tmWord 2 g 0) 9 0

/-- The port below which a subscriber's word 0 places it, or none. -/
def State.subPortOf (s : State) (w : Nat) : Option Nat :=
  if !bit w 31 then none
  else if bit w 30 then (if bits w 9 0 < 576 then some (bits w 9 0) else none)
  else if s.tmOn 2 (bits w 12 0) then some (s.groupPort (bits w 12 0)) else none

/-- The port below which a queue lies. -/
def State.queuePort (s : State) (q : Nat) : Option Nat := s.subPortOf (s.tmWord 1 (q / 8) 0)

/-- Signed OVERHEAD of a port. -/
def State.overhead (s : State) (p : Nat) : Int := toSigned 8 (s.get (Reg.TM_PORT_CFG_OVERHEAD p))

/-- Is the port in MODE FLAT? -/
def State.flat (s : State) (p : Nat) : Bool := s.on (Reg.TM_PORT_CFG_MODE p)

/-- Enabled objects of a kind. -/
def State.tmEnabled (s : State) (kind : Nat) : List Nat :=
  (s.tm.objs.filter (fun e => decide (e.1 / 2 ^ 20 = kind) && bit (e.2.getD 0 0) 31)).map (fun e => e.1 % 2 ^ 20)

/-- Groups of a port. -/
def State.portGroups (s : State) (p : Nat) : List Nat := (s.tmEnabled 2).filter (fun g => decide (s.groupPort g = p))

/-- Subscribers of a group. -/
def State.groupSubs (s : State) (g : Nat) : List Nat :=
  (s.tmEnabled 1).filter (fun n => !bit (s.tmWord 1 n 0) 30 && decide (bits (s.tmWord 1 n 0) 12 0 = g))

/-- FLAT subscribers of a port. -/
def State.flatSubs (s : State) (p : Nat) : List Nat :=
  (s.tmEnabled 1).filter (fun n => bit (s.tmWord 1 n 0) 30 && decide (bits (s.tmWord 1 n 0) 9 0 = p))

/-! ## Sealed groups (R239, R240) -/

/-- Guaranteed rate of a sealed drawer on a port, in Gb/s. -/
def State.schedShare (s : State) (d p : Nat) : Nat :=
  if s.sealed d then
    match s.share d 0x10 p with
    | some h => h.reserve
    | none => 0
  else 0

/-- Is the group SEALED? -/
def State.groupSealed (s : State) (g : Nat) : Bool :=
  s.tmOn 2 g && (match s.groupOwner g with
    | some d => decide (0 < s.schedShare d (s.groupPort g))
    | none => false)

/-- G of a SEALED group, in Gb/s. -/
def State.groupRate (s : State) (g : Nat) : Nat :=
  match s.groupOwner g with
  | some d => s.schedShare d (s.groupPort g)
  | none => 0

/-- Sum of the sealed shares on a port. -/
def State.portSealed (s : State) (p : Nat) : Nat :=
  (s.drw.shares.map (fun e => s.schedShare e.1 p)).foldl (· + ·) 0

/-- TM_PORT_STATUS of a port follows the shares and groups. -/
def State.tmPortSync (s : State) (p : Nat) : State :=
  (s.set (Reg.TM_PORT_STATUS_SEALED_GBPS p) (s.portSealed p)).set (Reg.TM_PORT_STATUS_SEALED_COUNT p)
    ((s.portGroups p).filter s.groupSealed).length

/-! ## Buckets (R231, R237, R239); one byte is 80,000 units, and 100 kb/s fill one unit in a nanosecond -/

/-- Units of one byte. -/
def unit : Int := 80000

/-- CIR, PIR, CBS and PBS of a shaper (KIND 3) or policer (KIND 4). -/
def State.cir (s : State) (kind i : Nat) : Nat := bits (s.tmWord kind i 0) 23 0
/-- PIR. -/
def State.pir (s : State) (kind i : Nat) : Nat := bits (s.tmWord kind i 1) 23 0
/-- CBS. -/
def State.cbs (s : State) (kind i : Nat) : Nat := bits (s.tmWord kind i 2) 23 0
/-- PBS. -/
def State.pbs (s : State) (kind i : Nat) : Nat := bits (s.tmWord kind i 3) 23 0

/-- Full buckets. -/
def State.fullBucket (s : State) (kind i : Nat) : Bucket :=
  { tc := unit * s.cbs kind i, tp := unit * s.pbs kind i, time := s.now }

/-- The buckets of a shaper or policer as they stand at device time. -/
def State.bucket (s : State) (kind i : Nat) : Bucket :=
  match mget s.tm.buckets (tmKey kind i) with
  | none => s.fullBucket kind i
  | some b =>
    let dt := s.now - b.time
    { tc := min (b.tc + (s.cir kind i * dt : Nat)) (unit * s.cbs kind i),
      tp := min (b.tp + (s.pir kind i * dt : Nat)) (unit * s.pbs kind i), time := s.now }

/-- Buckets written. -/
def State.setBucket (s : State) (kind i : Nat) (b : Bucket) : State :=
  { s with tm := { s.tm with buckets := mput s.tm.buckets (tmKey kind i) b } }

/-- Size of a sealed bucket. -/
def sealedMax : Int := unit * 16384

/-- A sealed group's bucket as it stands; it starts full. -/
def State.sealedBucket (s : State) (g : Nat) : Int :=
  match mget s.tm.sealedB g with
  | none => sealedMax
  | some (b, t) => min (b + (s.groupRate g * 10000 * (s.now - t) : Nat)) sealedMax

/-- A sealed bucket written. -/
def State.setSealedBucket (s : State) (g : Nat) (b : Int) : State :=
  { s with tm := { s.tm with sealedB := mput s.tm.sealedB g (b, s.now) } }

/-- The colour a policer gives a frame of `b` bytes, 0 green, 1 yellow, 2 red, and the state with its buckets and counters
updated (R231). -/
def State.colour (s : State) (i b : Nat) : Nat × State :=
  if !s.tmOn 4 i then
    let (g, y, r) := mgetD s.tm.colours i (0, 0, 0)
    (0, { s with tm := { s.tm with colours := mput s.tm.colours i ((g + 1) % 2 ^ 64, y, r) } })
  else
    let n := ((b : Int) + toSigned 8 (bits (s.tmWord 4 i 4) 7 0)).toNat
    let k := s.bucket 4 i
    let c := unit * n
    let (g, y, r) := mgetD s.tm.colours i (0, 0, 0)
    let cnt := fun (s : State) x => { s with tm := { s.tm with colours := mput s.tm.colours i x } }
    if k.tp < c then (2, cnt (s.setBucket 4 i k) (g, y, (r + 1) % 2 ^ 64))
    else if k.tc < c then (1, cnt (s.setBucket 4 i { k with tp := k.tp - c }) (g, (y + 1) % 2 ^ 64, r))
    else (0, cnt (s.setBucket 4 i { k with tc := k.tc - c, tp := k.tp - c }) ((g + 1) % 2 ^ 64, y, r))

/-! ## Frames -/

/-- The bytes of a frame's quire. -/
def State.quireData (s : State) (p : Nat) : List Byte := ((s.quire p).map (·.data)).getD []

/-- The bytes a frame leaves with, after its edit (R166). -/
def State.frameBytes (s : State) (f : Frame) : List Byte := f.pre ++ (s.quireData f.quire).drop f.skip

/-- Frame length after the edit. -/
def State.frameLen (s : State) (f : Frame) : Nat := f.pre.length + ((s.quireData f.quire).length - f.skip)

/-- Wire length of a frame below a port, or below none. -/
def State.wireLen (s : State) (f : Frame) (p : Option Nat) : Nat :=
  match p with
  | some p => ((s.frameLen f : Int) + s.overhead p).toNat
  | none => s.frameLen f

/-- The FRAME_SEND of a frame completes with STATUS OK and the detail of R130: disposition, and the transmit time if taken. -/
def State.sendDone (s : State) (f : Frame) (disp : Nat) (tx : Option Nat) : State :=
  match f.ref with
  | none => s
  | some r =>
    if s.stale (f.drawer - 1) f.gen then s.bump Reg.n_stale_result_discard
    else s.complete r ST_OK (s.quireData f.quire).length [tx.getD 0, disp, b2n tx.isSome]

/-- The end of a frame that was admitted and asks for a transmit timestamp: its FRAME_SEND completes with the timestamp or without
one (R130). -/
def State.sendEnd (s : State) (f : Frame) (tx : Option Nat) : State :=
  if f.tsReq && !s.stale (f.drawer - 1) f.gen then s.sendDone f 0 tx else s

/-- A frame dropped: its hold ends (R230). -/
def State.dropFrame (s : State) (f : Frame) (disp : Nat) : State := (s.sendDone f disp none).release f.quire

/-- tm.access_drop at most once per millisecond per drawer (R245). -/
def State.accessDrop (s : State) (d refused : Nat) : State :=
  let s := s.bump Reg.n_tm_access_drop
  let ok := match mget s.tm.accEvent d with
    | none => true
    | some t => decide (1000000 ≤ s.now - t)
  if ok then
    let t := s.now
    let s := s.raise EV_tm_access_drop d [refused]
    { s with tm := { s.tm with accEvent := mput s.tm.accEvent d t } }
  else s

/-! ## Admission (R230, R232) -/

/-- A frame dropped at checks 3 to 6 of queue `q` counts there. -/
def State.qDrop (s : State) (q : Nat) : State :=
  let x := s.tmQueue q
  s.setTmQueue q { x with drops := (x.drops + 1) % 2 ^ 64 }

/-- Check 2 of R230: may work of drawer `d` (0 for none) use queue `q`, and the policer if one is named? Answers what refuses. -/
def State.accessRefused (s : State) (d q : Nat) (pol : Option Nat) : Option Nat :=
  if d = 0 then none
  else
    let qo := match s.queueOwner q with
      | some o => !decide (o = d - 1) && !bit (s.tmWord 0 q 0) 28
      | none => false
    if qo then some q
    else match pol with
      | none => none
      | some i => match s.policerOwner i with
        | some o => if o = d - 1 then none else some i
        | none => none

/-- Checks 1 and 2 of R230; a frame for a host-receive queue of a drawer in its quiesce sequence is dropped (R104). -/
def State.admit12 (s : State) (f : Frame) (q : Nat) (pol : Option Nat) : Bool × State :=
  if !s.tmOn 0 q then (false, s.bump Reg.n_tm_disabled_drop)
  else match s.accessRefused f.drawer q pol with
    | some x => (false, s.accessDrop (f.drawer - 1) x)
    | none =>
      match (if s.qKind q = 1 then s.queueOwner q else none) with
      | some d => if s.quiescing d then (false, s.bump (Reg.n_rx_quiesce_drop d)) else (true, s)
      | none => (true, s)

/-- Checks 4 and 5 of R230. -/
def State.admit45 (s : State) (q : Nat) (yellow : Bool) : Bool × State :=
  if bits (s.tmWord 0 q 0) 15 0 ≤ s.depth q then (false, (s.bump Reg.n_tm_limit_drop).qDrop q)
  else if yellow && decide (bits (s.tmWord 0 q 1) 31 16 ≤ s.depth q) then (false, (s.bump Reg.n_tm_yellow_drop).qDrop q)
  else (true, s)

/-- The frame enters the queue. -/
def State.enqueue (s : State) (f : Frame) (q : Nat) (alone : Bool) : State :=
  let x := s.tmQueue q
  let h : Held := { frame := f, len := s.wireLen f (s.queuePort q), alone := alone }
  (s.setTmQueue q { x with frames := x.frames ++ [h], enq := (x.enq + 1) % 2 ^ 64 }).bump Reg.n_tm_enq_packets

/-- Check 6 of R230 and the enqueue: the placement of R217 for the queue's owner. -/
def State.admit6 (s : State) (f : Frame) (q : Nat) (alone : Bool) : Bool × State :=
  let k := bits (s.tmWord 0 q 0) 21 16
  let m := match s.queueOwner q with
    | some d => drMaster d
    | none => ((s.quire f.quire).map (·.owner)).getD ingressOwner
  match s.place f.quire k m with
  | some (p, s) => (true, s.enqueue { f with quire := p } q alone)
  | none =>
    let s := (s.noLeaf m).bump Reg.n_tm_no_leaf_drop
    (false, s.qDrop q)

/-- A FRAME_SEND that asks for no transmit timestamp completes when the frame is admitted (R130). -/
def State.admitted (s : State) (f : Frame) (disp : Nat) : State := if f.tsReq then s else s.sendDone f disp none

/-- The members of a REPL queue's list in list order, at most 64, with how many were skipped (R232). -/
def replMembers (s : State) : Nat → Nat → List Nat → List Nat → Nat → List Nat × Nat
  | 0, _, _, acc, skipped => (acc, skipped)
  | fuel + 1, l, seen, acc, skipped =>
    if seen.contains l || !s.tmOn 5 l then (acc, skipped)
    else
      let w := s.tmWord 5 l 0
      let ms := (List.range (bits w 20 16)).map (fun j => bits (s.tmWord 5 l (j + 1)) 19 0)
      let good := ms.filter (fun q => !decide (s.qKind q = 2))
      let room := 64 - acc.length
      let acc' := acc ++ good.take room
      let skipped := skipped + (ms.length - good.length) + (good.length - room)
      if bit w 15 && decide (acc'.length < 64) then replMembers s fuel (bits w 13 0) (l :: seen) acc' skipped
      else (acc', skipped)

/-- A copy of a replicated frame enters a member queue. -/
def State.replicate (s : State) (f : Frame) (q : Nat) : State :=
  let k := bits (s.tmWord 0 q 0) 21 16
  let s := if ptrTier f.quire = 0 then
      match s.quire f.quire with
      | some x => s.inc (Reg.CELL_SPILL_USED_USED k) (x.all f.quire).length
      | none => s
    else s
  s.enqueue { f with ref := none, tsReq := false } q false

/-- The checks of the members (R232): which of them pass. -/
def State.replPass (s : State) (f : Frame) (yellow : Bool) : List Nat → List Nat → List Nat × State
  | [], acc => (acc, s)
  | q :: t, acc =>
    match s.admit12 f q none with
    | (false, s) => s.replPass f yellow t acc
    | (true, s) =>
      match s.admit45 q yellow with
      | (false, s) => s.replPass f yellow t acc
      | (true, s) => s.replPass f yellow t (acc ++ [q])

/-- A replicated frame on each passing member, the first without a further hold (R232). -/
def State.replEnqueue (s : State) (f : Frame) : List Nat → Bool → State
  | [], _ => s
  | q :: t, first =>
    if first then (s.replicate f q).replEnqueue f t false
    else
      match s.hold f.quire q with
      | (true, s) => ((s.replicate f q).bump Reg.n_repl_copies).replEnqueue f t false
      | (false, s) => s.replEnqueue f t false

/-- A frame bound for queue `q` is admitted or dropped (R230–R232). `pol` names its policer. -/
def State.admitFrame (s : State) (f : Frame) (q : Nat) (pol : Option Nat) : State :=
  match s.admit12 f q pol with
  | (false, s) => s.dropFrame f 3
  | (true, s) =>
    let (c, s) := match pol with
      | some i => s.colour i (s.frameLen f)
      | none => (0, s)
    if c = 2 then ((s.bump Reg.n_police_red_drop).qDrop q).dropFrame f 3
    else if s.qKind q = 2 then
      let (ms, skipped) := replMembers s 64 (bits (s.tmWord 0 q 4) 13 0) [] [] 0
      let s := if skipped = 0 then s else s.bump Reg.n_repl_truncated skipped
      let (pass, s) := s.replPass f (decide (c = 1)) ms []
      match pass with
      | [] => s.dropFrame f 3
      | [m] =>
        match s.admit6 f m true with
        | (true, s) => s.admitted f 0
        | (false, s) => s.dropFrame f 3
      | _ => (s.sendDone f 0 none).replEnqueue { f with ref := none, tsReq := false } pass true
    else
      match s.admit45 q (decide (c = 1)) with
      | (false, s) => s.dropFrame f 3
      | (true, s) =>
        match s.admit6 f q true with
        | (true, s) => s.admitted f 0
        | (false, s) => s.dropFrame f 3

/-- A mirror copy: checks 1, 2, 4 and 6, never policed and green (R230). It holds the quire once more. -/
def State.admitMirror (s : State) (f : Frame) (q : Nat) : State :=
  let f := { f with ref := none, tsReq := false, pre := [], skip := 0 }
  match s.hold f.quire q with
  | (false, s) => s
  | (true, s) =>
    match s.admit12 f q none with
    | (false, s) => s.release f.quire
    | (true, s) =>
      match s.admit45 q false with
      | (false, s) => s.release f.quire
      | (true, s) =>
        match s.admit6 f q false with
        | (true, s) => s
        | (false, s) => s.release f.quire

/-- A transit frame of the cascade: checks 1, 4 and 6 (R398). -/
def State.admitTransit (s : State) (f : Frame) (q : Nat) : State :=
  if !s.tmOn 0 q then (s.bump Reg.n_tm_disabled_drop).release f.quire
  else
    match s.admit45 q false with
    | (false, s) => s.release f.quire
    | (true, s) =>
      match s.admit6 f q true with
      | (true, s) => s
      | (false, s) => s.release f.quire

/-- INT_LIMIT and IQ_LIMIT, where 0 acts as 1. -/
def State.intLimit (s : State) : Nat := max 1 (s.get Reg.TM_CFG_INT_LIMIT)
/-- IQ_LIMIT. -/
def State.iqLimit (s : State) : Nat := max 1 (s.get Reg.TM_CFG_IQ_LIMIT)

/-- A frame for a delivery queue (R226): XPT of a pipeline, or CORE of a cluster. -/
def State.deliver (s : State) (xpt : Bool) (n dest : Nat) (f : Frame) : State :=
  let l := if xpt then mgetD s.tm.xptQ n [] else mgetD s.tm.coreQ n []
  if s.intLimit ≤ l.length then (s.bump Reg.n_int_drop).dropFrame f 3
  else
    let s := s.sendDone f 1 none
    let f := { f with ref := none, tsReq := false }
    if xpt then { s with tm := { s.tm with xptQ := mput s.tm.xptQ n (l ++ [(f, dest)]) } }
    else { s with tm := { s.tm with coreQ := mput s.tm.coreQ n (l ++ [(f, dest)]) } }

/-- tm.iq_drop at most once per millisecond per octet, with the frames dropped since (R245). -/
def State.iqDropped (s : State) (o : Nat) : State :=
  let s := s.bump (Reg.n_iq_drop o)
  let due := match mget s.tm.iqEvent o with
    | none => some 0
    | some (t, c) => if 1000000 ≤ s.now - t then some c else none
  match due with
  | none => s
  | some c =>
    let n := s.rd64 (Reg.n_iq_drop o)
    let t := s.now
    let s := s.raise EV_tm_iq_drop o [n - c]
    { s with tm := { s.tm with iqEvent := mput s.tm.iqEvent o (t, n) } }

/-- A frame arrives at an octet's ingress queue, or is dropped there (R227). -/
def State.arrive (s : State) (o : Nat) (f : Frame) : State :=
  let l := mgetD s.tm.ingress o []
  if s.iqLimit ≤ l.length then (s.iqDropped o).dropFrame f 3
  else { s with tm := { s.tm with ingress := mput s.tm.ingress o (l ++ [f]) } }

/-! ## Host-receive queues (R241) -/

/-- The key of the general ring a HOSTRX queue delivers to. -/
def State.rxRing (s : State) (q : Nat) : Option Nat :=
  (s.queueOwner q).map (fun d => ringKey d (bits (s.tmWord 0 q 4) 16 0))

/-- The posted receive descriptor that is filled next (R131). -/
def State.rxItem (s : State) (q : Nat) : Option (Nat × Item) :=
  match s.rxRing q with
  | none => none
  | some k =>
    match (s.ring k).items.find? (fun i => i.posted) with
    | some i => if (s.ring k).st = .active then some (k, i) else none
    | none => none

/-- Is a queue paused (R241)? -/
def State.paused (s : State) (q : Nat) : Bool :=
  decide (s.qKind q = 1) && (match s.queueOwner q with
    | none => true
    | some d =>
      (s.rxItem q).isNone || !decide (s.drState d = 3) ||
      (match s.drPort d with
        | some h => (s.hport h).d3.contains (s.drFunc d) || decide ((s.hport h).phase = .l2)
        | none => true))

/-- Is a queue backlogged (R233)? -/
def State.backlogged (s : State) (q : Nat) : Bool := decide (0 < s.depth q) && !s.paused q

/-! ## Choosing the next frame (R233–R235) -/

/-- Does pacing permit a node (R233)? -/
def State.permitted (s : State) (kind index : Nat) : Bool :=
  match s.tmPace kind index with
  | 1 => decide (s.pir 3 (s.tmShaper kind index) = 0) || decide (0 ≤ (s.bucket 3 (s.tmShaper kind index)).tp)
  | 2 => (s.tmNode kind index).slot.isNone
  | _ => true

/-- Is an eligible node in the committed band (R234)? -/
def State.committed (s : State) (kind index : Nat) : Bool :=
  decide (s.tmPace kind index = 1) && decide (0 < s.cir 3 (s.tmShaper kind index)) &&
  decide (0 ≤ (s.bucket 3 (s.tmShaper kind index)).tc)

/-- Eligible queue. -/
def State.elQueue (s : State) (q : Nat) : Bool := s.backlogged q && s.permitted 0 q

/-- Services of a subscriber that are eligible. -/
def State.elServices (s : State) (n : Nat) : List Nat := (List.range 8).filter (fun v => s.elQueue (8 * n + v))

/-- Eligible subscriber. -/
def State.elSub (s : State) (n : Nat) : Bool := s.permitted 1 n && !(s.elServices n).isEmpty

/-- Eligible group. -/
def State.elGroup (s : State) (g : Nat) : Bool := s.permitted 2 g && (s.groupSubs g).any s.elSub

/-- The first child after `last` in rising order, wrapping: round robin after the child served last. -/
def nextRR (last : Nat) (l : List Nat) : Option Nat :=
  match l.find? (fun c => decide (last < c)) with
  | some c => some c
  | none => l.head?

/-- Wire length of the frame at a queue's head, below a port. -/
def State.headLen (s : State) (p q : Nat) : Nat :=
  match (s.tmQueue q).frames.head? with
  | some h => s.wireLen h.frame (some p)
  | none => 0

/-- One DWRR choice among `l`, pairs of a child and its head length: from the child served last, each visit to a further child
adding its quantum, until a deficit covers a head (R234). `here` says that the visit to `pos` goes on. -/
def dwrr (quantum : Nat → Nat) (l : List (Nat × Nat)) : Nat → Nat → Bool → SMap Int → Option (Nat × SMap Int)
  | 0, _, _, _ => none
  | fuel + 1, pos, here, defs =>
    let stay : Option (Nat × SMap Int) :=
      if here then
        match l.find? (fun e => decide (e.1 = pos)) with
        | some e => if (e.2 : Int) ≤ mgetD defs pos 0 then some (pos, mput defs pos (mgetD defs pos 0 - e.2)) else none
        | none => none
      else none
    match stay with
    | some r => some r
    | none =>
      match nextRR pos (l.map (·.1)) with
      | none => none
      | some c => dwrr quantum l fuel c true (mput defs c (mgetD defs c 0 + quantum c))

/-- The DWRR choice among eligible children of a node, and the state with their deficits (R234). A child that is not eligible
loses its deficit. -/
def State.dwrrPick (s : State) (kind : Nat) (all : List Nat) (l : List (Nat × Nat)) (last : Nat) : Option (Nat × State) :=
  let s := all.foldl (fun (s : State) (c : Nat) =>
    if l.any (fun e => decide (e.1 = c)) then s else s.setTmNode kind c { s.tmNode kind c with deficit := 0 }) s
  let start : SMap Int := l.map (fun e => (e.1, (s.tmNode kind e.1).deficit))
  match dwrr (fun c => s.tmWeight kind c * 64) l (200 * (l.length + 1)) last true start with
  | none => none
  | some (c, defs) =>
    some (c, defs.foldl (fun (s : State) (e : Nat × Int) => s.setTmNode kind e.1 { s.tmNode kind e.1 with deficit := e.2 }) s)

/-- What a selection debits: buckets of a node when the frame is chosen there. -/
structure Chosen where
  queue  : Nat
  subC   : Bool     -- chosen in the committed band as a subscriber, and as a queue
  queueC : Bool
deriving DecidableEq, Repr

/-- A subscriber among its services (R234). -/
def State.pickService (s : State) (p n : Nat) : Option (Nat × Bool × State) :=
  let el := s.elServices n
  let sp := bits (s.tmWord 1 n 0) 27 24
  match el.find? (fun v => decide (v < sp)) with
  | some v => some (8 * n + v, false, s)
  | none =>
    let com := el.filter (fun v => s.committed 0 (8 * n + v))
    let nd := s.tmNode 1 n
    match nextRR nd.lastC com with
    | some v => some (8 * n + v, true, s.setTmNode 1 n { nd with lastC := v })
    | none =>
      let qs := el.map (fun v => (8 * n + v, s.headLen p (8 * n + v)))
      match s.dwrrPick 0 ((List.range 8).map (8 * n + ·)) qs nd.lastE with
      | some (q, s) => some (q, false, s.setTmNode 1 n { s.tmNode 1 n with lastE := q })
      | none => none

/-- A group among its subscribers. -/
def State.pickSub (s : State) (p g : Nat) : Option (Chosen × State) :=
  let el := (s.groupSubs g).filter s.elSub
  let nd := s.tmNode 2 g
  let down := fun (s : State) (n : Nat) (c : Bool) =>
    match s.pickService p n with
    | some (q, qc, s) => some ({ queue := q, subC := c, queueC := qc : Chosen }, s)
    | none => none
  match nextRR nd.lastC (el.filter (s.committed 1 ·)) with
  | some n => down (s.setTmNode 2 g { nd with lastC := n }) n true
  | none =>
    let ls := el.filterMap (fun n => (s.pickService p n).map (fun x => (n, s.headLen p x.1)))
    match s.dwrrPick 1 (s.groupSubs g) ls nd.lastE with
    | some (n, s) => down (s.setTmNode 2 g { s.tmNode 2 g with lastE := n }) n false
    | none => none

/-- The band a port chose a group in: 0 sealed, 1 committed, 2 excess. -/
def State.pickGroup (s : State) (p : Nat) : Option (Nat × Nat × Chosen × State) :=
  let el := (s.portGroups p).filter s.elGroup
  let nd := s.tmNode 7 p
  let down := fun (s : State) (g band : Nat) =>
    match s.pickSub p g with
    | some (c, s) => some (g, band, c, s)
    | none => none
  match nextRR nd.lastS (el.filter (fun g => s.groupSealed g && decide (0 ≤ s.sealedBucket g))) with
  | some g => down (s.setTmNode 7 p { nd with lastS := g }) g 0
  | none =>
    match nextRR nd.lastC (el.filter (s.committed 2 ·)) with
    | some g => down (s.setTmNode 7 p { nd with lastC := g }) g 1
    | none =>
      let ls := el.filterMap (fun g => (s.pickSub p g).map (fun x => (g, s.headLen p x.1.queue)))
      match s.dwrrPick 2 (s.portGroups p) ls nd.lastE with
      | some (g, s) => down (s.setTmNode 7 p { s.tmNode 7 p with lastE := g }) g 2
      | none => none

/-- A node's buckets are debited: the peak bucket always, the committed one when the frame was chosen in that band; a calendar
node moves to its next slot (R234, R238). -/
def State.debitNode (s : State) (kind index b : Nat) (com : Bool) : State :=
  match s.tmPace kind index with
  | 1 =>
    let i := s.tmShaper kind index
    let k := s.bucket 3 i
    s.setBucket 3 i { k with tc := if com then k.tc - unit * b else k.tc, tp := k.tp - unit * b }
  | 2 =>
    let r := max 1 (s.tmCal kind index)
    let nd := s.tmNode kind index
    let e := if nd.nextAt < s.now then s.now else nd.nextAt
    let t := (if nd.nextAt < s.now then 0 else nd.part % r) + b * 80000
    let e := e + t / r
    let slot := e / 128
    let far := decide (s.now / 128 + 65536 ≤ slot)
    let s := s.setTmNode kind index { nd with
      nextAt := e, part := t % r,
      slot := if slot ≤ s.now / 128 then none else if far then some (s.now / 128 + 65535) else some slot }
    if far then s.bump Reg.n_cal_lap else s
  | _ => s

/-- Is tag `a` before tag `b`, modulo 2^48 (R235)? -/
def tagBefore (a b : Nat) : Bool := decide (2 ^ 47 ≤ (a + 2 ^ 48 - b) % 2 ^ 48)

/-- Cost of a frame of `b` wire bytes at a weight (R235). -/
def wfqCost (w b : Nat) : Nat := (b * 65536 + w - 1) / w

/-- Queues of a FLAT port that became backlogged take their finish tags (R235). -/
def State.wfqRefresh (s : State) (p : Nat) (qs : List Nat) : State :=
  qs.foldl (fun s q =>
    let x := s.tmQueue q
    if s.backlogged q then
      if x.inWfq then s
      else
        let v := mgetD s.tm.vtime p 0
        let f := if tagBefore v x.tag then x.tag else v
        s.setTmQueue q { x with inWfq := true, tag := (f + wfqCost (s.tmWeight 0 q) (s.headLen p q)) % 2 ^ 48 }
    else if x.inWfq then s.setTmQueue q { x with inWfq := false } else s) s

/-- The smallest finish tag, the lowest queue on a tie. -/
def wfqBest (s : State) : List Nat → Option Nat
  | [] => none
  | q :: t =>
    match wfqBest s t with
    | none => some q
    | some r => if tagBefore (s.tmQueue r).tag (s.tmQueue q).tag then some r else some q

/-- The frame at a queue's head leaves it. -/
def State.dequeue (s : State) (q : Nat) : Option (Held × State) :=
  let x := s.tmQueue q
  match x.frames with
  | [] => none
  | h :: t =>
    let s := s.setTmQueue q { x with frames := t }
    some (h, s.unplace h.frame.quire (bits (s.tmWord 0 q 0) 21 16))

/-- A port's choice of its next queue, the buckets debited (R234, R235). -/
def State.selectQueue (s : State) (p : Nat) (debit : Bool) : Option (Nat × State) :=
  if s.flat p then
    let qs := ((s.flatSubs p).map (fun n => (List.range 8).map (8 * n + ·))).flatten
    let s := s.wfqRefresh p qs
    match wfqBest s (qs.filter s.elQueue) with
    | none => none
    | some q =>
      let b := s.headLen p q
      let x := s.tmQueue q
      let s := { s with tm := { s.tm with vtime := mput s.tm.vtime p x.tag } }
      let s := if debit then s.debitNode 0 q b false else s
      let next := match x.frames.drop 1 with
        | h :: _ => (x.tag + wfqCost (s.tmWeight 0 q) (s.wireLen h.frame (some p))) % 2 ^ 48
        | [] => x.tag
      some (q, s.setTmQueue q { x with tag := next, inWfq := decide (1 < x.frames.length) })
  else
    match s.pickGroup p with
    | none => none
    | some (g, band, c, s) =>
      if debit then
        let b := s.headLen p c.queue
        let s := if band = 0 then s.setSealedBucket g (s.sealedBucket g - unit * b) else s
        let s := s.debitNode 2 g b (decide (band = 1))
        let s := s.debitNode 1 (c.queue / 8) b c.subC
        some (c.queue, s.debitNode 0 c.queue b c.queueC)
      else some (c.queue, s)

/-- Every frame of a queue is released and counted in reset_flush (R242). -/
def State.flushQueue (s : State) (q : Nat) : State :=
  let x := s.tmQueue q
  let k := bits (s.tmWord 0 q 0) 21 16
  let s := x.frames.foldl (fun s h => ((s.sendEnd h.frame none).unplace h.frame.quire k).release h.frame.quire) s
  let s := s.setTmQueue q { s.tmQueue q with frames := [], inWfq := false }
  if x.frames.isEmpty then s else s.bump Reg.n_reset_flush x.frames.length

end Sys2Proof.Machine
end

