-- ==== Sys2Proof/Machine/Tm.lean ====
section
/-! DEFINITION. Commands of the traffic manager: commits of its objects, port modes, the calendar and samples (R237–R246). -/

namespace Sys2Proof.Machine

/-- Staged word `j`. -/
def State.stage (s : State) (j : Nat) : Nat := s.rd (Reg.TM_STAGE j)

/-- How many configuration words a kind has (R246). -/
def tmConfWords : Nat → Nat
  | 0 => 6
  | 1 => 4
  | 2 => 4
  | 3 => 4
  | 4 => 5
  | _ => 17

/-- The port below which a subscriber would lie if group `g` had word 0 `w`. -/
def State.subPortWith (s : State) (n g w : Nat) : Option Nat :=
  let x := s.tmWord 1 n 0
  if bit x 31 && !bit x 30 && decide (bits x 12 0 = g) then (if bit w 31 then some (bits w 9 0) else none) else s.subPortOf x

/-- The HOSTRX test of R229 on a queue, the port below which it would lie and its kind. -/
def State.hostrxBad (s : State) (q : Nat) (p : Option Nat) : Bool :=
  match s.queueOwner q with
  | none => true
  | some d =>
    match s.drPort d with
    | none => true
    | some h => match p with
      | some p => !decide (p = 512 + h)
      | none => false

/-- PACE and CAL_RATE of staged words `j` and `j + 1` break their ranges. -/
def State.paceBad (s : State) (j : Nat) : Bool :=
  !decide (bits (s.stage j) 29 18 = 0) || decide (bits (s.stage j) 31 30 = 3) || !decide (bits (s.stage (j + 1)) 31 24 = 0) ||
  (decide (bits (s.stage j) 31 30 = 2) && decide (bits (s.stage (j + 1)) 23 0 = 0))

/-- BAD_VALUE of a staged object (R246). -/
def State.tmBadValue (s : State) (kind index : Nat) : Bool :=
  let w := s.stage
  match kind with
  | 0 =>
    !decide (bits (w 0) 27 22 = 0) || decide (bits (w 0) 30 29 = 3) || decide (bits (w 0) 15 0 < bits (w 1) 31 16) || s.paceBad 2 ||
    !decide (bits (w 4) 31 17 = 0) || (decide (bits (w 0) 30 29 = 2) && !decide (bits (w 4) 16 14 = 0)) || !decide (bits (w 5) 31 16 = 0)
  | 1 =>
    !decide (bits (w 0) 29 28 = 0) || !decide (bits (w 0) 23 13 = 0) || decide (8 < bits (w 0) 27 24) ||
    (bit (w 0) 30 && (decide (576 ≤ bits (w 0) 12 0) ||
      (bit (w 0) 31 && decide (64 ≤ ((s.flatSubs (bits (w 0) 9 0)).filter (fun n => !decide (n = index))).length)))) ||
    s.paceBad 1 || !decide (bits (w 3) 31 16 = 0)
  | 2 =>
    !decide (bits (w 0) 29 28 = 0) || !decide (bits (w 0) 15 10 = 0) || decide (576 ≤ bits (w 0) 9 0) || s.paceBad 1 ||
    !decide (bits (w 3) 31 16 = 0)
  | 3 =>
    !decide (bits (w 0) 31 24 = 0) || !decide (bits (w 1) 31 24 = 0) || !decide (bits (w 2) 31 24 = 0) || !decide (bits (w 3) 31 24 = 0) ||
    (decide (0 < bits (w 1) 23 0) && decide (bits (w 1) 23 0 < bits (w 0) 23 0))
  | 4 =>
    !decide (bits (w 0) 30 24 = 0) || !decide (bits (w 1) 31 24 = 0) || !decide (bits (w 2) 31 24 = 0) || !decide (bits (w 3) 31 24 = 0) ||
    !decide (bits (w 4) 31 8 = 0) || (decide (0 < bits (w 1) 23 0) && decide (bits (w 1) 23 0 < bits (w 0) 23 0)) ||
    (bit (w 0) 31 && (decide (bits (w 2) 23 0 = 0) || decide (bits (w 3) 23 0 = 0)))
  | _ =>
    !decide (bits (w 0) 30 21 = 0) || bit (w 0) 14 || decide (16 < bits (w 0) 20 16) ||
    ((List.range 16).any (fun j => !decide (bits (w (j + 1)) 31 20 = 0))) ||
    ((List.range (bits (w 0) 20 16)).any (fun j => decide (s.qKind (bits (w (j + 1)) 19 0) = 2)))

/-- Subscribers below a node, by KIND. -/
def State.subsBelow (s : State) (kind index : Nat) : List Nat :=
  match kind with
  | 1 => [index]
  | _ => ((s.tm.objs.filter (fun e => decide (e.1 / 2 ^ 20 = 1) && !bit (e.2.getD 0 0) 30 && decide (bits (e.2.getD 0 0) 12 0 = index))).map
      (fun e => e.1 % 2 ^ 20))

/-- Is a queue below a subscriber or group backlogged? -/
def State.anyBacklog (s : State) (kind index : Nat) : Bool :=
  (s.subsBelow kind index).any (fun n => (List.range 8).any (fun v => s.backlogged (8 * n + v)))

/-- BUSY of a staged object (R242). -/
def State.tmBusy (s : State) (kind index : Nat) : Bool :=
  let w := s.stage 0
  let old := s.tmWord kind index 0
  match kind with
  | 0 => decide (0 < s.depth index) && (!decide (bits w 30 29 = bits old 30 29) || !decide (bits w 21 16 = bits old 21 16) ||
      (decide (bits w 30 29 = 1) && !decide (bits (s.stage 4) 16 0 = bits (s.tmWord 0 index 4) 16 0)))
  | 1 => s.anyBacklog 1 index && (!decide (bit w 30 = bit old 30) || !decide (bits w 12 0 = bits old 12 0))
  | 2 => s.anyBacklog 2 index &&
      (!decide (bits w 9 0 = bits old 9 0) || !decide (bit w 30 = bit old 30) || !decide (bits w 27 16 = bits old 27 16))
  | _ => false

/-- The owner a staged node would have. -/
def State.stagedOwner (s : State) (kind index : Nat) : Option Nat :=
  if kind = 2 then (if bit (s.stage 0) 30 then some (bits (s.stage 0) 27 16) else none) else s.tmOwner kind index

/-- HOSTRX queues of a subscriber. -/
def State.hostrxOf (s : State) (n : Nat) : List Nat :=
  ((List.range 8).map (8 * n + ·)).filter (fun q => decide (s.qKind q = 1))

/-- REASON OWNER of a staged object (R229). -/
def State.tmOwnerBad (s : State) (kind index : Nat) : Bool :=
  let w := s.stage 0
  let node := decide (kind ≤ 2) && decide (bits (s.stage (paceWord kind)) 31 30 = 1) &&
    (match s.shaperOwner (bits (s.stage (paceWord kind)) 17 0) with
      | some o => !decide (s.stagedOwner kind index = some o)
      | none => false)
  node || (match kind with
    | 0 => decide (bits w 30 29 = 1) && s.hostrxBad index (s.queuePort index)
    | 1 =>
      (!bit w 30 && (match s.groupOwner (bits w 12 0) with
        | some o => !decide (s.subOwner index = some o)
        | none => false)) ||
      (match s.subPortOf w with
        | some p => (s.hostrxOf index).any (fun q => s.hostrxBad q (some p))
        | none => false)
    | 2 => bit w 31 && (s.subsBelow 2 index).any (fun n => bit (s.tmWord 1 n 0) 31 &&
        (s.hostrxOf n).any (fun q => s.hostrxBad q (some (bits w 9 0))))
    | _ => false)

/-- The nodes that name a shaper. -/
def State.shaperUsers (s : State) (i : Nat) : List (Nat × Nat) :=
  (s.tm.objs.filter (fun e =>
    let k := e.1 / 2 ^ 20
    decide (k ≤ 2) && decide (bits (e.2.getD (paceWord k) 0) 31 30 = 1) && decide (bits (e.2.getD (paceWord k) 0) 17 0 = i))).map
    (fun e => (e.1 / 2 ^ 20, e.1 % 2 ^ 20))

/-- REASON IN_USE: the staged node names a shaper that another node uses (R237). -/
def State.tmInUse (s : State) (kind index : Nat) : Bool :=
  decide (kind ≤ 2) && decide (bits (s.stage (paceWord kind)) 31 30 = 1) &&
  (s.shaperUsers (bits (s.stage (paceWord kind)) 17 0)).any (fun u => !decide (u = (kind, index)))

/-- REASON SEALED: a second enabled owned group of a drawer on a port its SCHED shares name (R239). -/
def State.tmSealedBad (s : State) (kind index : Nat) : Bool :=
  let w := s.stage 0
  decide (kind = 2) && bit w 31 && bit w 30 && decide (0 < s.schedShare (bits w 27 16) (bits w 9 0)) &&
  (s.portGroups (bits w 9 0)).any (fun g => !decide (g = index) && decide (s.groupOwner g = some (bits w 27 16)))

/-- REASON of a commit, 0 when it is accepted (R246). -/
def State.tmReason (s : State) (kind index : Nat) : Nat :=
  if tmCount kind ≤ index then 1
  else if s.tmBadValue kind index then 2
  else if s.tmBusy kind index then 3
  else if s.tmOwnerBad kind index then 4
  else if s.tmInUse kind index then 5
  else if s.tmSealedBad kind index then 6
  else 0

/-- Does some HOSTRX queue name this general ring (R128)? -/
def State.ringNamed (s : State) (k : Nat) : Bool :=
  s.tm.objs.any (fun e => decide (e.1 / 2 ^ 20 = 0) && decide (bits (e.2.getD 0 0) 30 29 = 1) && decide (s.rxRing e.1 = some k))

/-- A ring that no HOSTRX queue names any more flushes its posted buffers (R128). -/
def State.unnameRing (s : State) (k : Option Nat) : State :=
  match k with
  | none => s
  | some k =>
    if s.ringNamed k then s
    else
      let l := (s.ring k).items.filter (fun i => decide (i.opcode = 0x11))
      l.foldl (fun (s : State) (i : Item) =>
        s.complete { ring := k, index := i.index, tag := i.tag, cplReq := i.cplReq } ST_FLUSHED 0 []) s

/-- An accepted commit: the object takes the staged configuration words. -/
def State.tmApply (s : State) (kind index : Nat) : State :=
  let ws := (List.range (tmConfWords kind)).map s.stage
  let oldPort := if kind = 2 then some (s.groupPort index) else none
  let oldRing := if kind = 0 ∧ s.qKind index = 1 then s.rxRing index else none
  let oldPace := s.tmPace kind index
  let s := { s with tm := { s.tm with objs := mput s.tm.objs (tmKey kind index) ws } }
  let s := s.unnameRing oldRing
  let s := if kind = 3 ∨ kind = 4 then s.setBucket kind index (s.fullBucket kind index) else s
  let s := if kind ≤ 2 ∧ s.tmPace kind index ≠ oldPace then s.setTmNode kind index { s.tmNode kind index with slot := none } else s
  match oldPort with
  | some p => ((s.tmPortSync p).tmPortSync (s.groupPort index))
  | none => s

/-- TM_COMMIT names the object, FLUSH and no READ; GO reads 0 again. -/
def State.tmName (s : State) (kind index : Nat) (flush : Bool) : State :=
  ((((s.set Reg.TM_COMMIT_KIND kind).set Reg.TM_COMMIT_INDEX index).set Reg.TM_COMMIT_FLUSH (b2n flush)).set
    Reg.TM_COMMIT_READ 0).set Reg.TM_COMMIT_GO 0

/-- A commit through TM_COMMIT without READ (R242, R246). A refusal sets REFUSED and changes nothing else; an accepted commit
sets REASON 0 and leaves REFUSED as it is. -/
def State.tmCommit (s : State) (kind index : Nat) (flush : Bool) : State :=
  let s := s.tmName kind index flush
  let r := s.tmReason kind index
  let s := s.set Reg.TM_COMMIT_REASON r
  if r ≠ 0 then s.set Reg.TM_COMMIT_REFUSED 1
  else
    let s := s.tmApply kind index
    if flush && decide (kind = 0) then s.flushQueue index else s

/-- Low and high words of a 64-bit count from staged word `j`. -/
def State.stage64 (s : State) (j v : Nat) : State := (s.wr (Reg.TM_STAGE j) (v % 2 ^ 32)).wr (Reg.TM_STAGE (j + 1)) (v / 2 ^ 32)

/-- The state words of an object copied into the stage (R246). -/
def State.stageState (s : State) (kind index : Nat) : State :=
  let put := fun (s : State) j v => s.wr (Reg.TM_STAGE j) v
  match kind with
  | 0 =>
    let x := s.tmQueue index
    let s := put s 8 (2 ^ 31 * b2n (s.paused index) + x.frames.length)
    let s := put s 9 ((x.frames.map (·.len)).foldl (· + ·) 0)
    let s := put (put s 10 x.depthMax) 11 x.delayMax
    ((s.stage64 12 x.enq).stage64 14 x.deqBytes).stage64 16 x.drops
  | 1 => put s 8 (((List.range 8).map (fun v => if s.backlogged (8 * index + v) then 2 ^ v else 0)).foldl (· + ·) 0)
  | 2 =>
    let g := if s.groupSealed index then 2 ^ 31 + s.groupRate index else 0
    put (put s 8 g) 9 (if s.groupSealed index then ofSigned 32 (s.sealedBucket index / unit) else 0)
  | 3 =>
    let k := s.bucket 3 index
    let s := put (put s 8 (ofSigned 32 (k.tc / unit))) 9 (ofSigned 32 (k.tp / unit))
    put s 10 (match s.shaperUsers index with
      | (k, i) :: _ => 2 ^ 31 + k * 2 ^ 20 + i
      | [] => 0)
  | 4 =>
    let k := s.bucket 4 index
    let s := put (put s 8 (ofSigned 32 (k.tc / unit))) 9 (ofSigned 32 (k.tp / unit))
    let c := mgetD s.tm.colours index (0, 0, 0)
    ((s.stage64 10 c.1).stage64 12 c.2.1).stage64 14 c.2.2
  | _ => s

/-- TM_COMMIT names the object to read; GO reads 0 again. -/
def State.tmNameRead (s : State) (kind index : Nat) (clear : Bool) : State :=
  ((((s.set Reg.TM_COMMIT_KIND kind).set Reg.TM_COMMIT_INDEX index).set Reg.TM_COMMIT_READ_CLEAR (b2n clear)).set
    Reg.TM_COMMIT_READ 1).set Reg.TM_COMMIT_GO 0

/-- A commit with READ: the object's configuration and state are copied into TM_STAGE (R246). -/
def State.tmRead (s : State) (kind index : Nat) (clear : Bool) : State :=
  let s := s.tmNameRead kind index clear
  if tmCount kind ≤ index then (s.set Reg.TM_COMMIT_REASON 1).set Reg.TM_COMMIT_REFUSED 1
  else
    let s := (List.range (tmConfWords kind)).foldl (fun (s : State) (j : Nat) => s.wr (Reg.TM_STAGE j) (s.tmWord kind index j)) s
    let s := (s.stageState kind index).set Reg.TM_COMMIT_REASON 0
    if clear && decide (kind = 0) then s.setTmQueue index { s.tmQueue index with depthMax := 0, delayMax := 0 } else s

/-- Is a queue below a port backlogged? -/
def State.portBacklog (s : State) (p : Nat) : Bool :=
  s.tm.queues.any (fun e => decide (s.queuePort e.1 = some p) && s.backlogged e.1)

/-- A write of TM_PORT_CFG (R239, R246): a change of MODE may be refused, the other fields take effect. -/
def State.tmPortWrite (s : State) (p v : Nat) : State :=
  let s := (s.set (Reg.TM_PORT_CFG_OVERHEAD p) (bits v 7 0)).set (Reg.TM_PORT_CFG_DOWN_ACTION p) (bits v 9 9)
  let s := if 512 ≤ p then s.set (Reg.TM_PORT_CFG_RATE p) (bits v 31 12) else s
  let m := bits v 8 8
  if m = s.get (Reg.TM_PORT_CFG_MODE p) then s
  else
    let refuse := fun r => (s.set (Reg.TM_PORT_STATUS_MODE_REFUSED p) 1).set (Reg.TM_PORT_STATUS_MODE_REASON p) r
    if m = 1 ∧ 0 < s.portSealed p then refuse 1
    else if s.portBacklog p then refuse 2
    else s.set (Reg.TM_PORT_CFG_MODE p) m

/-- TM_COMMIT_QUEUE (R242). -/
def execTmCommitQueue (index : Nat) (flush : Bool) (s : State) : Host.Outcome State Fault Refusal := s.write (s.tmCommit 0 index flush)

/-- TM_COMMIT_SUBSCRIBER (R242). -/
def execTmCommitSubscriber (index : Nat) (s : State) : Host.Outcome State Fault Refusal := s.write (s.tmCommit 1 index false)

/-- TM_COMMIT_GROUP (R239, R242). -/
def execTmCommitGroup (index : Nat) (s : State) : Host.Outcome State Fault Refusal := s.write (s.tmCommit 2 index false)

/-- TM_COMMIT_SHAPER (R237). -/
def execTmCommitShaper (index : Nat) (s : State) : Host.Outcome State Fault Refusal := s.write (s.tmCommit 3 index false)

/-- TM_COMMIT_POLICER (R231). -/
def execTmCommitPolicer (index : Nat) (s : State) : Host.Outcome State Fault Refusal := s.write (s.tmCommit 4 index false)

/-- TM_COMMIT_REPL_LIST (R232). -/
def execTmCommitReplList (index : Nat) (s : State) : Host.Outcome State Fault Refusal := s.write (s.tmCommit 5 index false)

/-- TM_COMMIT_READ (R246). -/
def execTmCommitRead (kind index : Nat) (clear : Bool) (s : State) : Host.Outcome State Fault Refusal :=
  s.write (s.tmRead kind index clear)

/-- TM_PORT_MODE_WRITE (R239). -/
def execTmPortModeWrite (p v : Nat) (s : State) : Host.Outcome State Fault Refusal := s.write (s.tmPortWrite p v)

/-- The wheel reaches the slot a node waits in (R238): the node becomes eligible, or is placed again when its next eligible time
still lies beyond the horizon. -/
def State.slotReached (s : State) (kind index : Nat) : State :=
  let nd := s.tmNode kind index
  match nd.slot with
  | none => s
  | some t =>
    let e := nd.nextAt / 128
    if e ≤ t then s.setTmNode kind index { nd with slot := none }
    else if t + 65536 ≤ e then (s.setTmNode kind index { nd with slot := some (t + 65535) }).bump Reg.n_cal_lap
    else s.setTmNode kind index { nd with slot := some e }

/-- CALENDAR_SLOT_REACHED (R238). -/
def execCalendarSlotReached (kind index : Nat) (s : State) : Host.Outcome State Fault Refusal := s.run (s.slotReached kind index)

/-- Head delay of a queue (R243). -/
def State.headDelay (s : State) (q : Nat) : Nat :=
  match (s.tmQueue q).frames.head? with
  | none => 0
  | some h =>
    let a := ((s.quire h.frame.quire).map (·.arrival)).getD 0
    let d := (s.now % 2 ^ 32 + 2 ^ 32 - a) % 2 ^ 32
    if 2 ^ 31 < d then 0 else d

/-- A queue is sampled (R243). -/
def State.sampleQueue (s : State) (q : Nat) : State :=
  if s.backlogged q || s.paused q then
    let x := s.tmQueue q
    let d := s.headDelay q
    let n := x.frames.length
    let x := { x with depthMax := max x.depthMax n, delayMax := max x.delayMax d }
    let alarm := bits (s.tmWord 0 q 5) 15 0
    let due := match x.alarm with
      | none => true
      | some t => decide (1000000 ≤ s.now - t)
    if 0 < alarm ∧ alarm * 1000 < d ∧ due = true then
      (s.setTmQueue q { x with alarm := some s.now }).raise EV_tm_queue_delay (q % 2 ^ 16) [q, d, n]
    else s.setTmQueue q x
  else s

/-- QUEUE_SAMPLE (R243). -/
def execQueueSample (q : Nat) (s : State) : Host.Outcome State Fault Refusal := s.run (s.sampleQueue q)

end Sys2Proof.Machine
end

