-- ==== Sys2Proof/Machine/RingOps.lean ====
section
/-! DEFINITION. What the ring engine does with entries: their header checks, credits, doorbells and the states of a ring
(R114–R143). -/

namespace Sys2Proof.Machine

/-! ## Which opcodes a ring carries (R125, R128, R141) -/

/-- Header rule of an opcode: the CLASS_FLAGS bits it defines, its least and greatest chain and its continuation opcode. -/
structure OpRule where
  flags : Nat
  least : Nat
  most  : Nat
  cont  : Nat
deriving DecidableEq, Repr

/-- Jobs of the accelerators (R339, R353). -/
def jobRule (op : Nat) : Option OpRule :=
  if op = 0x48 then some ⟨1, 0, 0, 0x5F⟩
  else if op = 0x54 ∨ op = 0x55 then some ⟨0, 0, 6, 0x5F⟩
  else if op = 0x56 then some ⟨0, 0, 1, 0x5F⟩
  else if op = 0x5E then some ⟨3, 0, 0, 0x5F⟩
  else if 0x50 ≤ op ∧ op ≤ 0x5D then some ⟨0, 0, 0, 0x5F⟩
  else none

/-- Table commands (R184, R185): a wide key takes exactly one continuation entry. -/
def tableRule (op : Nat) (e : List Byte) : Option OpRule :=
  if 0x80 ≤ op ∧ op ≤ 0x86 then
    if op ≤ 0x83 ∧ 8 < leAt e 9 1 then some ⟨0, 1, 1, 0x8F⟩ else some ⟨0, 0, 0, 0x8F⟩
  else none

/-- The rule of an opcode on a control slot (R83, R96, R184, R339, R355). -/
def slotRule (c op : Nat) (e : List Byte) : Option OpRule :=
  if c = 0 then
    if op = 0x60 ∨ op = 0x66 then some ⟨0, 0, 32, 0x6F⟩
    else if 0x61 ≤ op ∧ op ≤ 0x67 then some ⟨0, 0, 0, 0x6F⟩
    else if op = 0xA1 then some ⟨0, 1, 1, 0xAF⟩
    else if op = 0xA0 ∨ op = 0xA2 then some ⟨0, 0, 0, 0xAF⟩
    else none
  else if c = 1 then if op = 0x70 ∨ op = 0x71 then some ⟨0, 0, 0, 0x7F⟩ else none
  else if c ≤ 5 then tableRule op e
  else match tableRule op e with
    | some r => some r
    | none => jobRule op

/-- The rule of an opcode on a drawer's ring by its local ring number (R116, R125, R128, R251, R262, R339). -/
def drawerRule (num op : Nat) : Option OpRule :=
  if num = 0 then if 1 ≤ op ∧ op ≤ 6 then some ⟨0, 0, 0, 0⟩ else none
  else if num / 2 ^ 22 = 0 then
    if op = 0x10 then some ⟨1, 0, 15, 0x1F⟩
    else if op = 0x11 then some ⟨0, 0, 15, 0x1F⟩
    else if op = 0x28 ∨ op = 0x29 then some ⟨0, 0, 0, 0x2F⟩
    else jobRule op
  else if num % 2 = 1 then if op = 0x40 then some ⟨0, 0, 15, 0x4F⟩ else none
  else if op = 0x30 ∨ op = 0x31 then some ⟨3, 0, 15, 0x3F⟩
  else if op = 0x32 then some ⟨2, 0, 15, 0x3F⟩
  else if op = 0x33 ∨ op = 0x34 then some ⟨2, 0, 0, 0x3F⟩
  else if 0x38 ≤ op ∧ op ≤ 0x3B then some ⟨0, 0, 0, 0x3F⟩
  else none

/-- The rule of an entry's opcode on the ring it stands in. -/
def opRule (k : Nat) (e : List Byte) : Option OpRule :=
  if isCtl k then slotRule (ringNum k) (leAt e 0 1) e else drawerRule (ringNum k) (leAt e 0 1)

/-- Owner mark of an entry. -/
def entryMark (e : List Byte) : Bool := bit (leAt e 1 1) 7

/-- CHAIN of an entry. -/
def entryChain (e : List Byte) : Nat := leAt e 2 2

/-- A continuation entry is as R117 requires. -/
def contOk (cont : Nat) (e : List Byte) : Bool :=
  decide (leAt e 0 1 = cont) && decide (leAt e 1 1 % 128 = 0) && decide (leAt e 2 2 = 0)

/-- The first header check an item fails: 0 none, 1 opcode, 2 flags, 3 chain (R141). -/
def headerCheck (k : Nat) (e : List Byte) (conts : List (List Byte)) : Nat :=
  match opRule k e with
  | none => 1
  | some r =>
    if !decide (Nat.land (leAt e 1 1 % 32) r.flags = leAt e 1 1 % 32) then 2
    else if entryChain e < r.least ∨ r.most < entryChain e ∨ conts.any (fun c => !contOk r.cont c) then 3
    else 0

/-- The status of a failing header check on a data-class ring (R142). -/
def headerStatus (c : Nat) : Nat := if c = 1 then ST_BAD_OPCODE else if c = 2 then ST_BAD_FLAGS else ST_BAD_CHAIN

/-- How many continuation entries an item takes: CHAIN within the opcode's limit, else none (R142). -/
def itemChain (k : Nat) (e : List Byte) : Nat :=
  match opRule k e with
  | some r => if entryChain e ≤ r.most then entryChain e else 0
  | none => 0

/-! ## Rings of a drawer and their states -/

/-- `a − b` modulo 2^32. -/
def idxSub (a b : Nat) : Nat := (a + 2 ^ 32 - b % 2 ^ 32) % 2 ^ 32

/-- `a` lies at or behind `b`, indices compared as signed differences. -/
def idxLe (a b : Nat) : Bool := decide (idxSub b a < 2 ^ 31)

/-- Entries within a ring's producer index and not fetched. -/
def Ring.waiting (r : Ring) : Nat := if idxLe r.limit r.dev then 0 else idxSub r.limit r.dev

/-- PREFETCH_DEPTH in entries (R132, R149); strict ports, and the queues of standard personalities, are never read ahead
(R66, R146). -/
def State.prefetch (s : State) (k : Nat) : Nat :=
  if s.strict k then 0
  else if !isCtl k && !decide (s.get (Reg.DRW_DRAWER_STATUS_PERSONALITY (ringDrawer k)) = 0) then 0
  else match s.get Reg.RING_CFG_PREFETCH_DEPTH with
    | 0 => 0
    | 1 => 8
    | 2 => 16
    | _ => 32

/-- The reads of one item, or of one answer of the transport engine, which belong together. -/
def sameRead (a b : DmaRead) : Bool := decide (a.ref = b.ref) && decide (a.use = b.use) && decide (a.drawer = b.drawer)

/-- Are all parts of a read's item in? -/
def State.readFull (s : State) (q : Nat) (r : DmaRead) : Bool :=
  (s.hport q).reads.all (fun e => !sameRead r e || e.data.isSome)

/-- Does a frame of a ring wait for leaves, its payload in? Fetching of the ring pauses (R216). -/
def State.waitsLeaves (s : State) (q k : Nat) : Bool :=
  (s.hport q).reads.any (fun r => decide (r.use = .frame) && decide (r.ref.ring = k) && s.readFull q r)

/-- May the device fetch from a ring (R71, R72, R82, R126, R420)? -/
def State.fetches (s : State) (k : Nat) : Bool :=
  let r := s.ring k
  decide (r.kind = .sub) && decide (r.st = .active) && !s.pwr.closed && decide (r.nv = 0) &&
  (if isCtl k then r.inDev || (match s.mgrPort with
      | some q => !(s.hport q).stopped && !(s.hport q).d3.contains 3
      | none => true)
  else decide (s.drState (ringDrawer k) = 3) && (match s.ringHost k with
      | some (q, fn) => !(s.hport q).stopped && !(s.hport q).d3.contains fn && !s.waitsLeaves q k
      | none => false))

/-- The head mirror is written with the consumer index (R127). -/
def State.mirrorNow (s : State) (k : Nat) : State :=
  let r := s.ring k
  match r.mirror with
  | none => s
  | some _ => (s.setRing k { r with mirrorAt := r.dev }).emit (.mirror k r.dev)

/-- The mirror is written once the index has advanced by 16 (R127). -/
def State.mirrorDue (s : State) (k : Nat) : State :=
  let r := s.ring k
  if 16 ≤ idxSub r.dev r.mirrorAt then s.mirrorNow k else s

/-- Entries below the consumer index need no slip copy. -/
def Ring.trimSlips (r : Ring) : Ring := { r with slips := r.slips.filter (fun e => !idxLe (e.1 + 1) r.dev) }

/-- A credit is reserved for an item and the item is accepted (R120, R135). -/
def State.acceptItem (s : State) (k : Nat) (e : List Byte) (conts : List (List Byte)) (n : Nat) : State :=
  let r := s.ring k
  let i : Item := { index := r.dev, opcode := leAt e 0 1, tag := leAt e 4 4, cplReq := bit (leAt e 1 1) 6,
                    order := bit (leAt e 1 1) 5, flags := leAt e 1 1 % 32, chain := n - 1, started := false,
                    posted := false, segs := [], body := e ++ conts.flatten }
  let s := s.setRing k { r with dev := (r.dev + n) % 2 ^ 32, items := r.items ++ [i], starved := false,
                                gen := if isCtl k then 0 else s.drGen (ringDrawer k) }
  let s := s.setRing k (s.ring k).trimSlips
  let s := match slotHolder k i.opcode with
    | some h => s.slotMove h true
    | none => s
  let l := s.ring r.link
  let s := s.setRing r.link { l with reserved := l.reserved + 1, lastRR := k, starveUp := false }
  s.mirrorDue k

/-- The work item of a ring's entry. -/
def refOf (k index : Nat) (e : List Byte) : Ref :=
  { ring := k, index := index, tag := leAt e 4 4, cplReq := bit (leAt e 1 1) 6 }

/-- A control slot stops with the status that stopped it (R68, R141). -/
def State.slotStop (s : State) (k st : Nat) : State :=
  let r := s.ring k
  let s := s.setRing k { r with st := .stopped, lastStat := st }
  s.raise EV_ring_control_stopped 0xFFFF [ringNum k, r.dev, st]

/-- A failed fetch of an entry (R68, R141): an item of a data-class ring completes with the status, its tag unknown; a control
slot stops. -/
def State.fetchFailed (s : State) (k st : Nat) : State :=
  if isCtl k then s.slotStop k st
  else
    let (tag, s) := s.free 32
    let e := leBytes 4 0 ++ leBytes 4 tag
    let i := (s.ring k).dev
    (s.acceptItem k e [] 1).complete { ring := k, index := i, tag := tag, cplReq := true } st 0 [i]

/-- An entry acted on whose checks fail on a data-class ring (R142). -/
def State.dataFailed (s : State) (k st : Nat) (e : List Byte) (conts : List (List Byte)) : State :=
  let i := (s.ring k).dev
  let s := s.acceptItem k e conts (1 + itemChain k e)
  (s.bump (Reg.n_malformed_entries (ringDrawer k))).complete (refOf k i e) st 0 [i]

/-- Checks of an item and its acceptance (R128, R141–R143). -/
def State.actOn (s : State) (k : Nat) (e : List Byte) (conts : List (List Byte)) : State :=
  let op := leAt e 0 1
  let num := ringNum k
  match headerCheck k e conts with
  | 0 =>
    if !isCtl k && !decide (num = 0) && decide (num / 2 ^ 22 = 0) && !decide (s.ringNamed k = decide (op = 0x11)) then
      s.dataFailed k ST_BAD_RING_REF e conts
    else s.acceptItem k e conts (1 + entryChain e)
  | c =>
    if isCtl k then s.malformed (refOf k (s.ring k).dev e) c op
    else s.dataFailed k (headerStatus c) e conts

/-- A ring finds no credit: it is starved while it has entries within its producer index (R135, R136). -/
def State.starve (s : State) (k : Nat) : State :=
  let r := s.ring k
  if r.waiting = 0 ∨ r.starved then s else s.setRing k { r with starved := true, oldest := s.now }

/-- The entry of an index: its slip copy, or what was read (R123). -/
def entryFrom (r : Ring) (start : Nat) (entries : List (List Byte)) (i : Nat) : Option (List Byte) :=
  match mget r.slips i with
  | some e => some e
  | none => entries[idxSub i start]?

/-- The continuation entries of an item at index `i`, if every one of them was read and carries its mark (R132). -/
def contsFrom (r : Ring) (start : Nat) (entries : List (List Byte)) (i : Nat) : Nat → Option (List (List Byte))
  | 0 => some []
  | n + 1 =>
    match contsFrom r start entries i n, entryFrom r start entries ((i + n + 1) % 2 ^ 32) with
    | some l, some e => if entryMark e = ownerMark r.log2 ((i + n + 1) % 2 ^ 32) then some (l ++ [e]) else none
    | _, _ => none

/-- Entries beyond the producer index with a stale mark are discarded and counted; their slots are not read again before a
doorbell names a producer index beyond them (R132). -/
def discardAhead (k start : Nat) (entries : List (List Byte)) (depth : Nat) : Nat → State → State
  | 0, s => s
  | n + 1, s =>
    let r := s.ring k
    let i := if idxLe r.spec r.dev then r.dev else r.spec
    if !idxLe r.limit i || decide (depth ≤ idxSub i r.limit) then s
    else match entries[idxSub i start]? with
      | none => s
      | some e =>
        let s := s.setRing k { r with spec := (i + 1) % 2 ^ 32 }
        discardAhead k start entries depth n (if entryMark e = ownerMark r.log2 i then s else s.bump Reg.n_prefetch_discard)

/-- The holders that share a holder's slots: a sealed drawer's are its own (R338). -/
def State.slotPool (s : State) (h : Nat) : Nat := if 0 < h ∧ s.sealed (h - 1) then h else 0

/-- Is a job slot free for a holder while the bank accepts jobs (R338, R364)? -/
def State.jobSlotFree (s : State) (h : Nat) : Bool :=
  s.on Reg.ACC_CFG_ENABLE &&
  (if s.slotPool h = 0 then decide (0 < s.get Reg.ACC_STATUS_SLOTS_FREE)
   else decide (mgetD s.acc.slots h 0 < 16 * ((s.share (h - 1) 0xF 0xFFFF).map (·.reserve)).getD 0))

/-- The holder whose slot the next item of a ring needs, if it is a job that passes its header checks. -/
def slotWanted (k : Nat) (e : List Byte) (conts : List (List Byte)) : Option Nat :=
  if headerCheck k e conts = 0 then slotHolder k (leAt e 0 1) else none

/-- May a ring's next item have its slot: one is free, and no ring of the same pool waits ahead of it (R338)? -/
def State.slotTurn (s : State) (k h : Nat) : Bool :=
  s.jobSlotFree h && (s.acc.granted.contains k ||
    (s.acc.waiting.filter (fun j => match slotHolder j 0x50 with
      | some g => decide (s.slotPool g = s.slotPool h)
      | none => false)).isEmpty)

/-- A ring waits for a job slot. -/
def State.slotWait (s : State) (k : Nat) : State :=
  if s.acc.waiting.contains k then s else { s with acc := { s.acc with waiting := s.acc.waiting ++ [k] } }

/-- A ring has its slot. -/
def State.slotGot (s : State) (k : Nat) : State :=
  { s with acc := { s.acc with granted := s.acc.granted.filter (fun j => !decide (j = k)),
                               waiting := s.acc.waiting.filter (fun j => !decide (j = k)),
                               starved := s.acc.starved.filter (fun j => !decide (j = k)) } }

/-- Entries read from index `start` are acted on in order until one is not there, carries a stale mark or finds no credit
(R120, R132, R135). -/
def actLoop (k start : Nat) (entries : List (List Byte)) : Nat → State → State
  | 0, s => s
  | n + 1, s =>
    let r := s.ring k
    if !s.fetches k || s.halted then s
    else match entryFrom r start entries r.dev with
      | none => s
      | some e =>
        let depth := s.prefetch k
        let beyond := idxLe r.limit r.dev
        if beyond && (decide (depth ≤ idxSub r.dev r.limit) || !idxLe r.spec r.dev) then s
        else if entryMark e ≠ ownerMark r.log2 r.dev then
          if beyond then discardAhead k start entries depth 64 s else s
        else match contsFrom r start entries r.dev (itemChain k e) with
          | none => s
          | some cs =>
            if (s.ring r.link).credits = 0 then s.starve k
            else match slotWanted k e cs with
              | none => actLoop k start entries n (s.actOn k e cs)
              | some h =>
                if s.slotTurn k h then actLoop k start entries n ((s.slotGot k).actOn k e cs) else s.slotWait k

/-! ## Doorbells (R121, R122, R137, R140) -/

/-- A dropped doorbell is counted for the drawer. -/
def State.bellDropped (s : State) (who : Nat) : State := if who < 4096 then s.bump (Reg.n_doorbell_dropped who) else s

/-- The ring a doorbell word names for a function: a drawer's, or a control slot for the manager (4096). -/
def bellKey (who w : Nat) : Nat := if who < 4096 then ringKey who (w % 2 ^ 24) else ctlKey (w % 2 ^ 24)

/-- A freed slot of an event ring takes ring.event_overflow with the number lost (R140). -/
def State.overflow (s : State) (k : Nat) : State :=
  let r := s.ring k
  if decide (r.kind = .evt) && decide (0 < r.lost) && decide (idxSub r.dev r.peer < r.size) then
    let d := ringDrawer k
    let e : Event := { code := EV_ring_event_overflow, source := if isCtl k then 0xFFFF else d, time := s.now,
                       dest := if isCtl k then 0 else d + 1, detail := if isCtl k then [r.lost, ringNum k] else [r.lost] }
    let s := s.setRing k { r with lost := 0 }
    ({ s with events := s.events ++ [e] }).record k (if isCtl k then Reg.n_mgr_event_lost else Reg.n_event_lost d) e
  else s

/-- ARM sets the ring's ARMED bit; entries beyond the new consumer index count from this moment (R137). -/
def State.arm (s : State) (k : Nat) : State :=
  let r := s.ring k
  (s.setRing k { r with armed := true, unsig := idxSub r.dev r.peer, oldest := s.now }).signal k

/-- What a doorbell word does (R121, R122); whether it was accepted. -/
def State.bell (s : State) (who w : Nat) : Bool × State :=
  let k := bellKey who w
  let r := s.ring k
  let arm := bit w 56
  if !decide (bits w 63 57 = 0) || !decide (bits w 55 48 = 0) || !decide (bits w 31 24 = 0) ||
     (decide (who = 4096) && decide (64 ≤ w % 2 ^ 24)) || !decide (r.st = .active) || decide (0 < r.nv) || (arm && decide (r.kind = .sub)) then
    (false, s.bellDropped who)
  else
    let new := (r.peer + (bits w 47 32 + 2 ^ 16 - r.peer % 2 ^ 16) % 2 ^ 16) % 2 ^ 32
    match r.kind with
    | .sub =>
      if idxLe new r.dev || decide (idxSub new r.dev ≤ r.size) then (true, s.setRing k { r with peer := new, limit := new })
      else (false, (s.bellDropped who).raiseRing k EV_ring_doorbell_overrun [bits w 47 32, r.peer])
    | _ =>
      if idxSub new r.peer ≤ idxSub r.dev r.peer then
        let s := (s.setRing k { r with peer := new }).overflow k
        (true, if arm then s.arm k else s)
      else (false, (s.bellDropped who).raiseRing k EV_ring_doorbell_overrun [bits w 47 32, r.peer])

/-- A doorbell of a function: recorded during a quiesce, else acted on. -/
def State.doorbell (s : State) (who w : Nat) : Bool × State :=
  if decide (who < 4096) && s.quiescing who then
    let l := mgetD s.drw.bells who []
    (false, { s with drw := { s.drw with bells := mput s.drw.bells who (l ++ [(w % 2 ^ 24, w)]) } })
  else s.bell who w

/-- The port of the function that rings: its drawer's, or the manager's. -/
def State.whoPort (s : State) (who : Nat) : Option Nat := if who < 4096 then s.drPort who else s.mgrPort

/-! ## Ends of work -/

/-- Items not yet started, or posted and not filled, complete with FLUSHED (R126, R131). -/
def State.flushItems (s : State) (k : Nat) : State :=
  ((s.ring k).items.filter (fun i => !i.started || i.posted)).foldl (fun (s : State) (i : Item) =>
    s.complete { ring := k, index := i.index, tag := i.tag, cplReq := i.cplReq } ST_FLUSHED 0 []) s

/-- The ring is STOPPED once its last item has ended, and the RING_DISABLE that waits completes (R126). -/
def State.stopIfDone (s : State) (k : Nat) : State :=
  let r := s.ring k
  if decide (r.st = .flushing) && r.items.isEmpty then
    let s := s.setRing k { r with st := .stopped, waitQuit := none }
    match r.waitQuit with
    | none => s
    | some i => s.complete { ring := ringKey (ringDrawer k) 0, index := i.index, tag := i.tag, cplReq := i.cplReq } ST_OK 0 []
  else s

/-! ## Segments (R129, R255) -/

/-- Is every byte of an entry outside the listed ranges (start, length) zero? -/
def zeroBut (l : List Byte) (keep : List (Nat × Nat)) : Bool :=
  (l.zipIdx).all (fun e => decide (e.1 = 0) || keep.any (fun r => decide (r.1 ≤ e.2) && decide (e.2 < r.1 + r.2)))

/-- The three segment slots of a continuation entry. -/
def contSlots (e : List Byte) : List (Nat × Nat × Nat) := [0, 1, 2].map (fun j => (leAt e (8 + 16 * j) 8, leAt e (16 + 16 * j) 4, leAt e (20 + 16 * j) 4))

/-- The segments of an item of `total` bytes whose first segment stands in its head: a status, or the list (R255). -/
def segList (addr seg total : Nat) (conts : List (List Byte)) : Except Nat (List (Nat × Nat)) :=
  let slots := conts.flatMap contSlots
  let used := slots.takeWhile (fun x => !decide (x.2.1 = 0))
  let rest := slots.drop used.length
  let first := if seg = 0 then total else seg
  let l := (addr, first) :: used.map (fun x => (x.1, x.2.1))
  if (l.foldl (fun a x => a + x.2) 0) ≠ total then .error ST_BAD_LENGTH
  else if rest.any (fun x => !decide (x = (0, 0, 0))) || used.any (fun x => !decide (x.2.2 = 0)) ||
      conts.any (fun e => !decide (leAt e 56 8 = 0)) then .error ST_BAD_FLAGS
  else .ok l

/-- A translation that a read needs and the port's cache does not hold: its page (R69). -/
def HostPort.missing (h : HostPort) (fn perm addr len : Nat) : Option Nat :=
  if h.ats.contains fn then
    ((List.range ((addr % 4096 + len + 4095) / 4096)).map (fun j => addr / 4096 + j)).find? (fun g =>
      !h.cache.any (fun e => decide (e.fn = fn) && decide (e.page = g) && bit e.perm perm))
  else none

/-- May a read that waits go out now, as far as the link and the reads ahead of it in `before` are concerned (R66, R68, R261)? -/
def State.readTurn (s : State) (q : Nat) (before : List DmaRead) (r : DmaRead) : Bool :=
  let h := s.hport q
  decide (h.phase = .l0) && !h.d3.contains (s.drFunc r.drawer) &&
  !(s.on (Reg.HOST_PORT_CFG_ORDER_MODE q) && before.any (fun e => decide (e.ref.ring = r.ref.ring) && !decide (e.ref.index = r.ref.index))) &&
  (match r.use with
   | .atomic .. => !before.any (fun e => decide (e.addr = r.addr) && (match e.use with
      | .atomic .. => true
      | _ => false))
   | _ => true)

/-- A read goes out, or waits for its translation (R68, R69). -/
def State.issueRead (s : State) (q : Nat) (before : List DmaRead) (r : DmaRead) : State :=
  if r.issued || !s.readTurn q before r then s
  else
    let h := s.hport q
    let fn := s.drFunc r.drawer
    match h.missing fn 0 r.addr r.len with
    | some g =>
      if h.atsWait.any (fun w => decide (w.fn = fn) && decide (w.page = g) && decide (w.ref = r.ref)) then s
      else
        let asked := h.atsWait.any (fun w => decide (w.fn = fn) && decide (w.page = g))
        let s := s.setHport q { h with atsWait := h.atsWait ++ [{ fn := fn, page := g, drawer := r.drawer, ref := r.ref, perm := 0 }] }
        if asked then s else (s.emit (.pcie q (.translationRequest (g * 4096)))).bump (Reg.n_ats_translations q)
    | none =>
      let s := s.setHport q { h with reads := h.reads.map (fun e => if e.tag = r.tag then { e with issued := true } else e),
                                     dmaAt := some s.now }
      s.emit (.pcie q (.readRequest r.tag r.addr r.len))

/-- The reads `l` of a port in turn, those of `before` ahead of them. -/
def issueLoop (q : Nat) : List DmaRead → List DmaRead → State → State
  | _, [], s => s
  | before, r :: t, s => issueLoop q (before ++ [r]) t (s.issueRead q before r)

/-- Every read of a port that may go out goes out. -/
def State.issueReads (s : State) (q : Nat) : State := issueLoop q [] (s.hport q).reads s

/-- DMA reads of an item's segments are issued toward a port, or wait to be issued (R68). -/
def State.queueReads (s : State) (q d : Nat) (r : Ref) (use : ReadUse) (segs : List (Nat × Nat)) : State :=
  (segs.foldl (fun (a : Nat × State) (x : Nat × Nat) =>
    let h := a.2.hport q
    let n : DmaRead := { tag := h.nextTag, drawer := d, gen := a.2.drGen d, ref := r, addr := x.1, len := x.2, use := use,
                         issued := false, pos := a.1, data := none }
    (a.1 + x.2, a.2.setHport q { h with reads := h.reads ++ [n], nextTag := (h.nextTag + 1) % 2 ^ 14 })) (0, s)).2.issueReads q

end Sys2Proof.Machine
end

