-- ==== Sys2Proof/Machine/TblOps.lean ====
section
/-! DEFINITION. The table engine's operations (R172–R201): hashing and areas, exact-match slots, the TCAM, lookups, learns,
sweeps and the scanner. -/

namespace Sys2Proof.Machine

/-! ## Tables (R172) -/

/-- KIND of a table. -/
def State.tKind (s : State) (t : Nat) : Nat := s.get (Reg.TBL_TABLE_CFG_KIND t)
/-- SHARD of a table. -/
def State.tShard (s : State) (t : Nat) : Nat := s.get (Reg.TBL_TABLE_CFG_SHARD t)
/-- KEY_WORDS of a table. -/
def State.tWords (s : State) (t : Nat) : Nat := s.get (Reg.TBL_TABLE_CFG_KEY_WORDS t)
/-- Owner drawer of a table, if it is OWNED. -/
def State.tOwner (s : State) (t : Nat) : Option Nat :=
  if s.on (Reg.TBL_TABLE_CFG_OWNED t) then some (s.get (Reg.TBL_TABLE_CFG_OWNER t)) else none

/-- An event of R200, at most once per millisecond per source. -/
def State.tblEvent (s : State) (code source : Nat) (detail : List Nat) : State :=
  let k := code * 65536 + source
  let due := match mget s.tbl.evAt k with
    | none => true
    | some t => decide (1000000 ≤ s.now - t)
  if due then
    let t := s.now
    let s := s.raise code source detail
    { s with tbl := { s.tbl with evAt := mput s.tbl.evAt k t } }
  else s

/-! ## Slots (R173–R176) -/

/-- Key of an exact-match slot: tier 0 on-die bucket, 1 on-die overflow (shard × 4,096 + position), 2 HBM bucket, 3 HBM
overflow. -/
def slotKey (tier index : Nat) : Nat := tier * 2 ^ 32 + index

/-- Tier of a slot key. -/
def slotTier (k : Nat) : Nat := k / 2 ^ 32

/-- Index of a slot key. -/
def slotIndex (k : Nat) : Nat := k % 2 ^ 32

/-- INDEX of R188: the overflow position is reported within its store. -/
def slotReport (k : Nat) : Nat := if slotTier k = 1 then slotIndex k % 4096 else slotIndex k

/-- Bytes that the hashes are taken over (R176). -/
def hashBytes (t : Nat) (key : List Nat) : List Byte := BitVec.ofNat 8 t :: (key.map (leBytes 4)).flatten

/-- H_DIE of a key. -/
def State.hashDie (s : State) (t : Nat) (key : List Nat) : Nat :=
  (crc32c (BitVec.ofNat 32 (s.rd (Reg.TBL_SHARD_SEED_DIE (s.tShard t)))) (hashBytes t key)).toNat

/-- H_HBM of a key; instance 0 of the seed is used (R201). -/
def State.hashHbm (s : State) (t : Nat) (key : List Nat) : Nat :=
  (crc32c (BitVec.ofNat 32 (s.rd (Reg.TBL_SHARD_SEED_HBM 0))) (hashBytes t key)).toNat

/-- The buckets a table's keys hash into in an area (a shard 0 to 3, or 4 for HBM): its sealed owner's range, or the common
area; none for a sealed owner without a range (R174). -/
def State.tblArea (s : State) (t area : Nat) : Option (Nat × Nat) :=
  let common := if area = 4 then s.get Reg.TBL_HBM_SPLIT_SPLIT * 16384 else s.get (Reg.TBL_SHARD_SPLIT_SPLIT area) * 1024
  match s.tOwner t with
  | some d =>
    if s.sealed d then (s.tbl.ranges.find? (fun r => decide (r.drawer = d) && decide (r.area = area))).map (fun r => (r.base, r.len))
    else if common = 0 then none else some (0, common)
  | none => if common = 0 then none else some (0, common)

/-- The bucket of hash `h` in an area of `n` buckets from `b` (R176). -/
def bucketOf (h b n : Nat) : Nat := b + h * n / 2 ^ 32

/-- The on-die slots of a key's bucket. -/
def State.dieSlots (s : State) (t : Nat) (key : List Nat) : List Nat :=
  match s.tblArea t (s.tShard t) with
  | none => []
  | some (b, n) =>
    let q := 524288 * s.tShard t + 4 * bucketOf (s.hashDie t key) b n
    (List.range 4).map (fun j => slotKey 0 (q + j))

/-- The HBM slots of a key's bucket, from its preferred slot on. -/
def State.hbmSlots (s : State) (t : Nat) (key : List Nat) : List Nat :=
  match s.tblArea t 4 with
  | none => []
  | some (b, n) =>
    let h := s.hashHbm t key
    let q := 4 * bucketOf h b n
    (List.range 4).map (fun j => slotKey 2 (q + (h + j) % 4))

/-- Is a slot in the set of a running sweep (R194)? -/
def State.swept (s : State) (k : Nat) : Bool :=
  s.tbl.sweeps.any (fun w => w.set.contains (slotTier k, slotIndex k))

/-- Does a slot match nothing: it is in error, or it is being swept? -/
def State.blind (s : State) (k : Nat) : Bool := s.tbl.bad.contains k || s.swept k

/-- The slot that holds a key, in every tier (R177). -/
def State.findKey (s : State) (t : Nat) (key : List Nat) : Option (Nat × Entry) :=
  s.tbl.slots.find? (fun e => decide (e.2.table = t) && !e.2.second && decide (e.2.key = key) && !s.blind e.1)

/-- Slots in error that a search of the key meets. -/
def State.badMet (s : State) (t : Nat) (key : List Nat) : List Nat :=
  s.tbl.bad.filter (fun k =>
    (s.dieSlots t key).contains k || (decide (slotTier k = 1) && decide (slotIndex k / 4096 = s.tShard t)) ||
    (decide (s.tKind t = 2) && ((s.hbmSlots t key).contains k || decide (slotTier k = 3))))

/-- The count of slots a drawer's tables use: on-die of a shard (areas 0 to 3), or HBM (4). -/
def State.emUse (s : State) (d area : Nat) : Nat :=
  (s.tbl.slots.filter (fun e =>
    decide (s.tOwner e.2.table = some d) &&
    (if area = 4 then decide (2 ≤ slotTier e.1) else decide (slotTier e.1 ≤ 1) && decide (s.tShard e.2.table = area)))).length

/-- The ceiling of a drawer in a pool and instance, in granules. -/
def State.ceilingAt (s : State) (d pool inst : Nat) : Nat :=
  match s.share d pool inst with
  | some h => if h.ceiling = 0 then h.reserve else h.ceiling
  | none => 0

/-- May a table take `n` more slots in an area (R189)? -/
def State.emShare (s : State) (t area n : Nat) : Bool :=
  match s.tOwner t with
  | none => true
  | some d =>
    let c := if area = 4 then s.ceilingAt d 4 0xFFFF * 65536 else s.ceilingAt d 3 area * 4096
    decide (s.emUse d area + n ≤ c)

/-- Follow the use registers when `n` slots of a tier are taken (or, with `up` false, given back) by a table. -/
def State.tblCount (s : State) (t tier n : Nat) (up : Bool) : State :=
  let f := fun (s : State) (g : Fld) => if up then s.inc g n else s.dec g n
  let h := s.tShard t
  let s := f s (Reg.TBL_TABLE_ENTRIES_ENTRIES t)
  match tier with
  | 0 => f s (Reg.TBL_SHARD_DIE_USED_USED h)
  | 1 => f s (Reg.TBL_SHARD_OVF_USED_DIE_OVF h)
  | 2 => f s (Reg.TBL_SHARD_HBM_USED_USED h)
  | _ => f s (Reg.TBL_SHARD_OVF_USED_HBM_OVF h)

/-- Slots that an entry occupies. -/
def entrySlots (k : Nat) (e : Entry) : List Nat := if e.wide then [k, k + 1] else [k]

/-- An entry written into its slot, or its two slots (R178). -/
def State.putEntry (s : State) (k : Nat) (e : Entry) : State :=
  let m := mput s.tbl.slots k e
  let m := if e.wide then mput m (k + 1) { e with second := true } else m
  { s with tbl := { s.tbl with slots := m } }

/-- A new entry. -/
def State.newEntry (s : State) (k : Nat) (e : Entry) : State :=
  (s.putEntry k e).tblCount e.table (slotTier k) (entrySlots k e).length true

/-- An entry removed and its share given back. -/
def State.delEntry (s : State) (k : Nat) : State :=
  match mget s.tbl.slots k with
  | none => { s with tbl := { s.tbl with bad := s.tbl.bad.filter (fun b => !decide (b = k)) } }
  | some e =>
    let k := if e.second then k - 1 else k
    let ks := entrySlots k e
    let s := { s with tbl := { s.tbl with
      slots := ks.foldl mdel s.tbl.slots, bad := s.tbl.bad.filter (fun b => !ks.contains b) } }
    s.tblCount e.table (slotTier k) ks.length false

/-- Is a slot free? -/
def State.slotFree (s : State) (k : Nat) : Bool := (mget s.tbl.slots k).isNone

/-- Overflow entries that a table may still take in an area: its sealed owner's own, or what the sealed leave (R174). -/
def State.ovfRoom (s : State) (t area : Nat) : Nat :=
  let total := if area = 4 then 65536 else 4096
  let mine := fun (d : Option Nat) => (s.tbl.slots.filter (fun e =>
    (if area = 4 then decide (slotTier e.1 = 3) else decide (slotTier e.1 = 1) && decide (slotIndex e.1 / 4096 = area)) &&
    (match d with
      | some d => decide (s.tOwner e.2.table = some d)
      | none => match s.tOwner e.2.table with
        | some d => !s.sealed d
        | none => true))).length
  let sealedRes := ((s.tbl.ranges.filter (fun r => decide (r.area = area))).map (·.ovf)).foldl (· + ·) 0
  match s.tOwner t with
  | some d =>
    if s.sealed d then
      ((s.tbl.ranges.find? (fun r => decide (r.drawer = d) && decide (r.area = area))).map (·.ovf)).getD 0 - mine (some d)
    else total - sealedRes - mine none
  | none => total - sealedRes - mine none

/-- The lowest free overflow position of an area, an aligned pair for a wide entry. -/
def State.ovfSlot (s : State) (area : Nat) (wide : Bool) : Option Nat :=
  let total := if area = 4 then 65536 else 4096
  let key := fun p => if area = 4 then slotKey 3 p else slotKey 1 (area * 4096 + p)
  if wide then
    ((List.range (total / 2)).find? (fun p => s.slotFree (key (2 * p)) && s.slotFree (key (2 * p + 1)))).map (fun p => key (2 * p))
  else ((List.range total).find? (fun p => s.slotFree (key p))).map key

/-- A free slot for a key in the on-die tier of its shard (`hbm` false) or in HBM. -/
def State.freeSlot (s : State) (t : Nat) (key : List Nat) (hbm : Bool) : Option Nat :=
  let wide := decide (10 < key.length)
  let l := if hbm then s.hbmSlots t key else s.dieSlots t key
  let l := if wide then (l.map (fun k => k / 2 * 2)).eraseDups else l
  match l.find? (fun k => s.slotFree k && (!wide || s.slotFree (k + 1))) with
  | some k => some k
  | none =>
    let area := if hbm then 4 else s.tShard t
    if (if wide then 2 else 1) ≤ s.ovfRoom t area then s.ovfSlot area wide else none

/-- A place for a new entry in one tier: the slot, or the status that refuses it (R187). -/
def State.placeIn (s : State) (t : Nat) (key : List Nat) (hbm : Bool) : Except Nat Nat :=
  let n := if 10 < key.length then 2 else 1
  if !s.emShare t (if hbm then 4 else s.tShard t) n then .error ST_SHARE_EXCEEDED
  else if hbm && !s.on Reg.TBL_STATUS_HBM_READY then .error ST_TABLE_FULL
  else match s.freeSlot t key hbm with
    | some k => .ok k
    | none => .error ST_TABLE_FULL

/-- A place under PLACE: 0 on-die first and then HBM where the kind has it, 1 on-die, 2 HBM (R185). -/
def State.placeEm (s : State) (t : Nat) (key : List Nat) (pl : Nat) : Except Nat Nat :=
  match pl with
  | 1 => s.placeIn t key false
  | 2 => s.placeIn t key true
  | _ => match s.placeIn t key false with
    | .ok k => .ok k
    | .error e => if s.tKind t = 2 then s.placeIn t key true else .error e

/-- LEARN_TIME of now: bits [39:10] of device time (R175). -/
def State.learnTime (s : State) : Nat := bits s.now 39 10

/-- COUNT of R188. -/
def emCount (k : Nat) (e : Option Entry) : Nat :=
  slotTier k * 2 ^ 62 + (match e with
    | some e => b2n e.learned * 2 ^ 61 + b2n e.hit * 2 ^ 60 + b2n e.static * 2 ^ 59
    | none => 0) + slotReport k

/-- A slot in error is invalidated, counted and reported (R196). -/
def State.invalidate (s : State) (k : Nat) : State :=
  let e := mget s.tbl.slots k
  let h := match slotTier k with
    | 0 => slotIndex k / 524288
    | 1 => slotIndex k / 4096
    | _ => (e.map (fun e => s.tShard e.table)).getD 0
  let s := (s.delEntry k).bump (Reg.n_table_parity h)
  s.tblEvent EV_table_parity h
    ([slotTier k, slotReport k] ++ (match e with
      | some e => [e.table, b2n e.learned]
      | none => []))

/-! ## The TCAM (R180–R182) -/

/-- Entries of the TCAM. -/
def tcamSize : Nat := 262144

/-- The 160-bit word of key words, the last the most significant, in the top bits (R162). -/
def lpmWord (key : List Nat) : Nat :=
  (key.reverse.foldl (fun a w => a * 2 ^ 32 + w % 2 ^ 32) 0) * 2 ^ (160 - 32 * key.length)

/-- A value cut to its prefix length. -/
def lpmCut (v len : Nat) : Nat := v / 2 ^ (160 - len) * 2 ^ (160 - len)

/-- The lowest-indexed valid match, if any; one in error makes the search a miss (R180, R196). -/
def State.lpmSearch (s : State) (t w : Nat) : Option (Nat × Tcam) :=
  match s.tbl.tcam.find? (fun e => decide (e.2.table = t) && !e.2.hidden && decide (lpmCut w e.2.len = e.2.value)) with
  | some e => if e.2.bad then none else some e
  | none => none

/-- The entry of an equal prefix. -/
def State.lpmFind (s : State) (t v len : Nat) : Option (Nat × Tcam) :=
  s.tbl.tcam.find? (fun e => decide (e.2.table = t) && !e.2.hidden && !e.2.bad && decide (e.2.len = len) && decide (e.2.value = v))

/-- TCAM entries of a drawer's tables. -/
def State.lpmUse (s : State) (d : Nat) : Nat := (s.tbl.tcam.filter (fun e => decide (s.tOwner e.2.table = some d))).length

/-- TCAM entries that the sealed drawers' reservations keep from others. -/
def State.lpmHeld (s : State) (d : Option Nat) : Nat :=
  (s.drw.shares.map (fun e =>
    if s.sealed e.1 && !decide (d = some e.1) then s.ceilingAt e.1 5 0xFFFF * 1024 - s.lpmUse e.1 else 0)).foldl (· + ·) 0

/-- The lowest free TCAM index from `a` on, below `top`. -/
def freeUp (m : SMap Tcam) (a top : Nat) : Option Nat := (List.range (top - a)).findSome? (fun j => if (mget m (a + j)).isNone then some (a + j) else none)

/-- The highest free TCAM index below `top`. -/
def freeDown (m : SMap Tcam) : Nat → Option Nat
  | 0 => none
  | n + 1 => if (mget m n).isNone then some n else freeDown m n

/-- Shift the edges of the groups between a free slot above and length `l`: each group gives its lowest entry to the free slot
(R181). Answers the slot freed for `l`, the TCAM and the moves made. -/
def shiftUp (l : Nat) : List Nat → SMap Tcam → Nat → Nat → Nat × SMap Tcam × Nat
  | [], m, f, n => (f, m, n)
  | g :: t, m, f, n =>
    match m.find? (fun e => decide (e.2.len = g)) with
    | some (i, x) => if g < l ∧ i < f then shiftUp l t (mdel (mput m f x) i) i (n + 1) else shiftUp l t m f n
    | none => shiftUp l t m f n

/-- The same from a free slot below: each longer group gives its highest entry. -/
def shiftDown (l : Nat) : List Nat → SMap Tcam → Nat → Nat → Nat × SMap Tcam × Nat
  | [], m, f, n => (f, m, n)
  | g :: t, m, f, n =>
    match (m.reverse).find? (fun e => decide (e.2.len = g)) with
    | some (i, x) => if l < g ∧ f < i then shiftDown l t (mdel (mput m f x) i) i (n + 1) else shiftDown l t m f n
    | none => shiftDown l t m f n

/-- A slot for a new entry of length `l`, with the TCAM after the moves and their number (R181). -/
def lpmRoom (m : SMap Tcam) (l : Nat) : Option (Nat × SMap Tcam × Nat) :=
  let lo := ((m.filter (fun e => decide (l < e.2.len))).getLast?.map (fun e => e.1 + 1)).getD 0
  let hi := ((m.find? (fun e => decide (e.2.len < l))).map (·.1)).getD tcamSize
  match freeUp m lo hi with
  | some i => some (i, m, 0)
  | none =>
    let up := (freeUp m hi tcamSize).map (fun f => shiftUp l (List.range l) m f 0)
    let down := (freeDown m lo).map (fun f => shiftDown l ((List.range 161).reverse) m f 0)
    match up, down with
    | some u, some d => if d.2.2 < u.2.2 then some d else some u
    | some u, none => some u
    | none, some d => some d
    | none, none => none

/-- The TCAM after a rebalance (R182): the groups in order of falling length, each followed by its share of the free slots. -/
def lpmLayout (mode : Nat) (m : SMap Tcam) : List Nat → Nat → SMap Tcam
  | [], _ => []
  | l :: t, pos =>
    let g := m.filter (fun e => decide (e.2.len = l))
    if g.isEmpty then lpmLayout mode m t pos
    else
      let free := tcamSize - m.length
      let groups := ((m.map (·.2.len)).eraseDups).length
      let gap := if mode = 0 then free * g.length / m.length else free / groups
      (List.range g.length).zip (g.map (·.2)) |>.map (fun e => (pos + e.1, e.2)) |> (· ++ lpmLayout mode m t (pos + g.length + gap))

/-! ## Lookups (R172, R177) -/

/-- Does an entry of the bucket lie past slot `i` on its way from its preferred slot (PROBE_ON)? -/
def State.probeOn (s : State) (i : Nat) : Bool :=
  s.tbl.slots.any (fun e => decide (slotTier e.1 = 2) && !e.2.second && decide (slotIndex e.1 / 4 = slotIndex i / 4) &&
    ((s.hbmSlots e.2.table e.2.key).takeWhile (fun k => !decide (k / (if e.2.wide then 2 else 1) = e.1 / (if e.2.wide then 2 else 1)))).contains i)

/-- Slot reads that a search of HBM makes (R177). -/
def State.hbmReads (s : State) (t : Nat) (key : List Nat) : Nat :=
  let rec go : List Nat → Nat
    | [] => 0
    | k :: r =>
      match mget s.tbl.slots k with
      | some e => if decide (e.table = t) && decide (e.key = key) && !s.blind k then (if e.wide then 2 else 1)
                  else 1 + (if s.probeOn k then go r else 0)
      | none => 1 + (if s.probeOn k then go r else 0)
  go (s.hbmSlots t key)

/-- The result of a lookup: the location (COUNT of R188) and action record of a hit. -/
structure Found where
  count  : Nat
  action : List Byte
deriving DecidableEq, Repr

/-- An exact-match search that sets HIT (R177). -/
def State.emSearch (s : State) (t : Nat) (key : List Nat) : Option (Nat × Entry) × State :=
  let r := s.findKey t key
  let s := match r with
    | some (k, _) => if slotTier k ≤ 1 then s else s.bump (Reg.n_hbm_reads (s.tShard t)) (s.hbmReads t key)
    | none => if s.tKind t = 2 then s.bump (Reg.n_hbm_reads (s.tShard t)) (s.hbmReads t key) else s
  match r with
  | some (k, e) => (some (k, e), s.putEntry k { e with hit := true })
  | none => (none, s)

/-- A lookup of slot TABLE code `code` (R162, R172): hits and misses are counted in the table's shard. -/
def State.lookup (s : State) (code t : Nat) (key : List Nat) : Option Found × State :=
  let h := s.tShard t
  let miss := fun (s : State) => s.bump (Reg.n_lookup_miss h)
  if s.inReset 6 h then (none, (miss (s.resetHit 6 h)).bump (Reg.n_reset_lookup_miss h))
  else if !s.on (Reg.TBL_TABLE_CFG_ENABLE t) || !decide (s.tKind t = code) || !decide (s.tWords t = key.length) then
    (none, (miss s).bump (Reg.n_lookup_mismatch h))
  else if code = 3 then
    match s.lpmSearch t (lpmWord key) with
    | some (i, e) => (some { count := i, action := e.action }, s.bump (Reg.n_lookup_hit h))
    | none => (none, miss s)
  else
    match s.emSearch t key with
    | (some (k, e), s) => (some { count := emCount k (some e), action := e.action }, s.bump (Reg.n_lookup_hit h))
    | (none, s) => (none, miss s)

/-! ## Learning (R190–R192) -/

/-- LEARN_QUEUE_FULL follows the arbiter's queue. -/
def State.learnSync (s : State) (h : Nat) : State :=
  s.set (Reg.TBL_SHARD_STATUS_LEARN_QUEUE_FULL h) (b2n (decide (4096 ≤ (mgetD s.tbl.learnQ h []).length)))

/-- The learn probe of a frame (R190). -/
def State.learnProbe (s : State) (code t : Nat) (key : List Nat) (port : Nat) : State :=
  if s.on (Reg.TBL_TABLE_LEARN_LEARN_EN t) && s.on (Reg.TBL_TABLE_CFG_ENABLE t) && decide (s.tKind t = code) &&
      decide (s.tWords t = key.length) then
    let h := s.tShard t
    let s := match s.findKey t key with
      | some (k, _) => if slotTier k ≤ 1 then s else s.bump (Reg.n_hbm_reads h) (s.hbmReads t key)
      | none => if s.tKind t = 2 then s.bump (Reg.n_hbm_reads h) (s.hbmReads t key) else s
    let ask :=
      let s := s.bump (Reg.n_learn_requests h)
      let q := mgetD s.tbl.learnQ h []
      let r : LearnReq := { table := t, key := key, port := port }
      if q.contains r then s.bump (Reg.n_learn_redundant h)
      else if 4096 ≤ q.length then s.bump (Reg.n_learn_dropped h)
      else ({ s with tbl := { s.tbl with learnQ := mput s.tbl.learnQ h (q ++ [r]) } }).learnSync h
    match s.findKey t key with
    | some (k, e) => if e.port = port then s.putEntry k { e with hit := true } else ask
    | none => ask
  else s

/-- age(e) in units of 1,024 ns (R192). -/
def State.age (s : State) (e : Entry) : Nat := (s.learnTime + 2 ^ 30 - e.time) % 2 ^ 30

/-- Has an entry's age reached MOVE_HOLD of a shard? -/
def State.aged (s : State) (h : Nat) (e : Entry) : Bool :=
  decide (max 1 (s.get (Reg.TBL_SHARD_CFG_MOVE_HOLD h)) * 1000 ≤ s.age e * 1024)

/-- The record of a learned entry: LEARN_ACTION with the destination of the ingress index (R191). -/
def State.learnRecord (s : State) (t i : Nat) : List Byte :=
  let a := s.get (Reg.TBL_TABLE_LEARN_LEARN_ACTION t)
  let base := ((List.range 4).map (fun j => leBytes 4 (s.rd (Reg.PRS_ACTION a j)))).flatten
  let kind := if s.on (Reg.TBL_LEARN_DEST_HIGH_CASC i) then 4 else 1
  overlay (overlay base 0 [BitVec.ofNat 8 kind]) 4 (leBytes 4 (s.rd (Reg.TBL_LEARN_DEST_LOW i)))

/-- Is a table being swept? -/
def State.sweeping (s : State) (t : Nat) : Bool := s.tbl.sweeps.any (fun w => decide (w.table = t))

/-- The arbiter commits a learn request (R191). -/
def State.learn (s : State) (h : Nat) (r : LearnReq) : State :=
  if s.sweeping r.table then s.bump (Reg.n_learn_blocked h)
  else match s.findKey r.table r.key with
    | none =>
      let lp := s.get (Reg.TBL_TABLE_LEARN_LEARN_PLACE r.table)
      let pl := if s.tKind r.table = 2 then (match lp with
        | 0 => 1
        | 1 => 2
        | _ => 0) else 1
      let s := (s.badMet r.table r.key).foldl (fun (s : State) (k : Nat) => s.invalidate k) s
      match s.placeEm r.table r.key pl with
      | .error st =>
        (s.bump (Reg.n_learn_full h)).tblEvent EV_table_learn_full h
          [r.table, (s.tOwner r.table).getD 0xFFFF, b2n (decide (st = ST_SHARE_EXCEEDED))]
      | .ok k =>
        let e : Entry := {
          table := r.table, key := r.key, action := s.learnRecord r.table r.port, hit := true, learned := true,
          static := false, wide := decide (10 < r.key.length),
          second := false, settled := false, idle := 0, port := r.port,
          time := s.learnTime }
        (s.newEntry k e).bump (Reg.n_learn_commit h)
    | some (k, e) =>
      if !e.learned then s.bump (Reg.n_learn_static h)
      else if e.port = r.port then (s.putEntry k { e with hit := true }).bump (Reg.n_learn_redundant h)
      else if !e.settled && !s.aged h e then
        (s.bump (Reg.n_learn_conflict h)).tblEvent EV_table_learn_conflict h
          [e.table, e.key.getD 0 0, e.key.getD 1 0, e.port, r.port, s.age e * 1024 / 1000]
      else
        let rec' := s.learnRecord r.table r.port
        let a := overlay (overlay e.action 0 (rec'.take 1)) 4 ((rec'.drop 4).take 4)
        (s.putEntry k { e with
          action := a, port := r.port, time := s.learnTime, settled := false, hit := true, idle := 0 }).bump
          (Reg.n_learn_move h)

/-! ## Sweeps and the scanner (R193, R194) -/

/-- SWEEPING and SWEEP follow the sweeps that run. -/
def State.sweepSync (s : State) (t : Nat) : State :=
  let h := s.tShard t
  let code := match s.tbl.sweeps.find? (fun w => decide (w.table = t)) with
    | some w => if w.all then 2 else 1
    | none => 0
  (s.set (Reg.TBL_TABLE_STATUS_SWEEP t) code).set (Reg.TBL_SHARD_STATUS_SWEEPING h)
    (b2n (s.tbl.sweeps.any (fun w => decide (s.tShard w.table = h))))

/-- A sweep of a table's entries starts, or a sweep that runs is joined (R194). `trigger` 0 OWNER_RESET, 1 FLUSH,
2 OWNER_DESTROYED. -/
def State.sweep (s : State) (t : Nat) (all : Bool) (trigger : Nat) (ref : List Ref) : State :=
  let set := (s.tbl.slots.filter (fun e => decide (e.2.table = t) && (all || e.2.learned))).map (fun e => (slotTier e.1, slotIndex e.1))
  let lpm := s.tKind t = 3 ∧ all = true
  let tc := if lpm then s.tbl.tcam.map (fun e => if e.2.table = t then (e.1, { e.2 with hidden := true }) else e) else s.tbl.tcam
  match s.tbl.sweeps.find? (fun w => decide (w.table = t)) with
  | some w =>
    let w' := { w with all := w.all || all, set := (w.set ++ set).eraseDups, ref := w.ref ++ ref }
    ({ s with tbl := { s.tbl with sweeps := s.tbl.sweeps.map (fun (x : Sweep) => if x.table = t then w' else x), tcam := tc } }).sweepSync t
  | none =>
    let w : Sweep := { table := t, all := all, trigger := trigger, set := set, ref := ref }
    ({ s with tbl := { s.tbl with sweeps := s.tbl.sweeps ++ [w], tcam := tc } }).sweepSync t

/-- The entries of a sweep's set are deleted and the sweep ends; answers it with how many entries it removed (R194). -/
def State.sweepDone (s : State) (w : Sweep) : Nat × State :=
  let n := w.set.length
  let lp := (s.tbl.tcam.filter (fun e => decide (e.2.table = w.table) && e.2.hidden)).length
  let s := w.set.foldl (fun (s : State) (p : Nat × Nat) =>
    if (mget s.tbl.slots (slotKey p.1 p.2)).isSome then s.delEntry (slotKey p.1 p.2) else s) s
  let s := { s with tbl := { s.tbl with
    tcam := s.tbl.tcam.filter (fun e => !(decide (e.2.table = w.table) && e.2.hidden)),
    sweeps := s.tbl.sweeps.filter (fun x => !decide (x.table = w.table)) } }
  let s := if lp = 0 then s else (s.dec Reg.TBL_LPM_STATUS_USED lp).dec (Reg.TBL_TABLE_ENTRIES_ENTRIES w.table) lp
  let s := (s.bump (Reg.n_sweep_deleted (s.tShard w.table)) (n + lp)).sweepSync w.table
  (n + lp, s.tblEvent EV_table_sweep_done (s.tShard w.table) [w.table, w.trigger, n + lp])

/-- The scanner visits a slot (R193). `err` says that its parity or code check fails, `race` that a hit arrives in the same
cycle. -/
def State.visit (s : State) (k : Nat) (err race : Bool) : State :=
  if err then { s with tbl := { s.tbl with bad := if s.tbl.bad.contains k then s.tbl.bad else s.tbl.bad ++ [k] } }
  else match mget s.tbl.slots k with
    | none => s
    | some e =>
      if e.second || s.blind k then s
      else
        let h := s.tShard e.table
        let e := if e.learned && !e.settled && s.aged h e then { e with settled := true } else e
        if s.on (Reg.TBL_TABLE_LEARN_AGE_EN e.table) && !e.static then
          if e.hit then s.putEntry k { e with hit := race, idle := 0 }
          else
            let i := e.idle + 1
            if max 1 (s.get (Reg.TBL_TABLE_LEARN_AGE_PASSES e.table)) ≤ i then
              if race then (s.putEntry k { e with hit := true, idle := 0 }).bump (Reg.n_age_spared h)
              else (s.delEntry k).bump (Reg.n_age_deleted h)
            else s.putEntry k { e with hit := race, idle := i }
        else s.putEntry k { e with hit := e.hit || race }

end Sys2Proof.Machine
end

