-- ==== Sys2Proof/Machine/Tbl.lean ====
section
/-! DEFINITION. Commands of the table engine (R181–R201). -/

namespace Sys2Proof.Machine

/-- Is a 16-byte action record one that R164 allows? -/
def actionOk (a : List Byte) : Bool :=
  let b := fun i => (a.getD i 0).toNat
  let dest := leAt a 4 4
  decide (a.length = 16) && decide (b 0 ≤ 4) && decide (b 1 < 8) && decide (b 3 = 0) &&
  decide (leAt a 8 4 < 2 ^ 19) && decide (leAt a 12 4 < 2 ^ 20) &&
  (match b 0 with
    | 0 => true
    | 1 => decide (dest < 2 ^ 20)
    | 2 => decide (dest < 2)
    | 3 => decide (dest < 2 ^ 14)
    | _ => decide (dest < 2 ^ 16))

/-- Is a table command malformed (R186)? -/
def TblCmd.malformed (c : TblCmd) : Bool :=
  let lpm := decide (c.opcode = 0x84) || decide (c.opcode = 0x85)
  let keyed := !decide (c.opcode = 0x86)
  let acts := decide (c.opcode = 0x80) || decide (c.opcode = 0x81) || decide (c.opcode = 0x84)
  (keyed && (decide (c.words = 0) || decide (16 < c.words) || (lpm && decide (5 < c.words)))) ||
  (if lpm then decide (160 < c.plen) || decide (32 * c.words < c.plen) else !decide (c.plen = 0)) ||
  (c.key.drop c.words).any (fun w => !decide (w = 0)) || decide (c.key.length < c.words) ||
  (acts && !actionOk c.action) ||
  (match c.opcode with
    | 0x80 => decide (bits c.flags 2 1 = 3) || decide (8 ≤ c.flags)
    | 0x86 => !decide (c.flags = 0 ∨ c.flags = 8)
    | _ => !decide (c.flags = 0))

/-- The key words of a command. -/
def TblCmd.keyOf (c : TblCmd) : List Nat := c.key.take c.words

/-- Why a well-formed command cannot be carried out, before its table is searched (R187): the status, or 0. -/
def State.tblStatus (s : State) (c : TblCmd) : Nat :=
  let k := s.tKind c.table
  let slot := ringNum c.ref.ring
  let lpm := decide (c.opcode = 0x84) || decide (c.opcode = 0x85)
  if k = 0 then ST_NO_TABLE
  else if decide (8 ≤ slot) && !s.on (Reg.TBL_TABLE_LEARN_FW_WRITE c.table) then ST_TABLE_DENIED
  else if decide (slot < 8) && !decide (slot = 2 + s.tShard c.table) then ST_KEY_MISMATCH
  else if !decide (c.opcode = 0x86) && (!decide (lpm = decide (k = 3)) || !decide (c.words = s.tWords c.table)) then ST_KEY_MISMATCH
  else if decide (c.opcode = 0x80) && decide (bits c.flags 2 1 = 2) && decide (k = 1) then ST_KEY_MISMATCH
  else 0

/-- A table command completes; it counts in write_commands of its table's shard. -/
def State.tblDone (s : State) (c : TblCmd) (st count : Nat) (before : List Byte) : State :=
  (s.bump (Reg.n_write_commands (s.tShard c.table))).complete c.ref st count (before.map (·.toNat))

/-- EM_INSERT (R184). -/
def State.emInsert (s : State) (c : TblCmd) : State :=
  let t := c.table
  let key := c.keyOf
  let pl := bits c.flags 2 1
  let mk := fun (s : State) => ({
    table := t, key := key, action := c.action, hit := false, learned := false,
    static := bit c.flags 0, wide := decide (10 < key.length), second := false, settled := false, idle := 0, port := 0,
    time := s.learnTime } : Entry)
  match s.findKey t key with
  | some (k, e) =>
    if !e.learned then s.tblDone c ST_ENTRY_EXISTS 0 []
    else
      let stays := match pl with
        | 0 => true
        | 1 => decide (slotTier k ≤ 1)
        | _ => decide (2 ≤ slotTier k)
      if stays then (s.putEntry k (mk s)).tblDone c ST_OK (emCount k (some e)) e.action
      else match s.placeEm t key pl with
        | .error st => s.tblDone c st 0 []
        | .ok k' =>
          let s := (s.delEntry k).newEntry k' (mk s)
          s.tblDone c ST_OK (slotTier k' * 2 ^ 62 + emCount k (some e) % 2 ^ 62 / 2 ^ 32 * 2 ^ 32 + slotReport k') e.action
  | none =>
    let s := (s.badMet t key).foldl (fun (s : State) (k : Nat) => s.invalidate k) s
    match s.placeEm t key pl with
    | .error st => s.tblDone c st 0 []
    | .ok k => (s.newEntry k (mk s)).tblDone c ST_OK (emCount k none) []

/-- The status of a search that finds no entry: in error, or absent (R187). -/
def State.absent (s : State) (t : Nat) (key : List Nat) : Nat := if (s.badMet t key).isEmpty then ST_ENTRY_ABSENT else ST_TABLE_PARITY

/-- EM_UPDATE, EM_DELETE and EM_QUERY (R184). -/
def State.emChange (s : State) (c : TblCmd) : State :=
  match s.findKey c.table c.keyOf with
  | none => s.tblDone c (s.absent c.table c.keyOf) 0 []
  | some (k, e) =>
    let s := match c.opcode with
      | 0x81 => s.putEntry k { e with action := c.action, learned := false }
      | 0x82 => s.delEntry k
      | _ => s
    s.tblDone c ST_OK (emCount k (some e)) e.action

/-- LPM_INSERT (R181, R184). -/
def State.lpmInsert (s : State) (c : TblCmd) : State :=
  let t := c.table
  let v := lpmCut (lpmWord c.keyOf) c.plen
  match s.lpmFind t v c.plen with
  | some (i, e) =>
    let s := { s with tbl := { s.tbl with tcam := mput s.tbl.tcam i { e with action := c.action } } }
    s.tblDone c ST_OK i e.action
  | none =>
    let share := match s.tOwner t with
      | some d => decide (s.lpmUse d + 1 ≤ s.ceilingAt d 5 0xFFFF * 1024)
      | none => true
    if !share then s.tblDone c ST_SHARE_EXCEEDED 0 []
    else if tcamSize < s.tbl.tcam.length + 1 + s.lpmHeld (s.tOwner t) then s.tblDone c ST_TABLE_FULL 0 []
    else match lpmRoom s.tbl.tcam c.plen with
      | none => s.tblDone c ST_TABLE_FULL 0 []
      | some (i, m, n) =>
        let e : Tcam := { table := t, value := v, len := c.plen, action := c.action, bad := false, hidden := false }
        let s := { s with tbl := { s.tbl with tcam := mput m i e } }
        let s := (s.inc Reg.TBL_LPM_STATUS_USED).inc (Reg.TBL_TABLE_ENTRIES_ENTRIES t)
        (if n = 0 then s else s.bump Reg.n_lpm_moves n).tblDone c ST_OK i []

/-- A TCAM entry removed. -/
def State.delTcam (s : State) (i : Nat) : State :=
  match mget s.tbl.tcam i with
  | none => s
  | some e =>
    (({ s with tbl := { s.tbl with tcam := mdel s.tbl.tcam i } }).dec Reg.TBL_LPM_STATUS_USED).dec
      (Reg.TBL_TABLE_ENTRIES_ENTRIES e.table)

/-- LPM_DELETE (R184). -/
def State.lpmDelete (s : State) (c : TblCmd) : State :=
  let v := lpmCut (lpmWord c.keyOf) c.plen
  match s.lpmFind c.table v c.plen with
  | some (i, e) => (s.delTcam i).tblDone c ST_OK i e.action
  | none => s.tblDone c (if s.tbl.tcam.any (fun e => e.2.bad) then ST_TABLE_PARITY else ST_ENTRY_ABSENT) 0 []

/-- A well-formed table command that is not held back takes effect (R184, R187). -/
def State.tblRun (s : State) (c : TblCmd) : State :=
  let st := s.tblStatus c
  if st ≠ 0 then s.tblDone c st 0 []
  else match c.opcode with
    | 0x80 => s.emInsert c
    | 0x84 => s.lpmInsert c
    | 0x85 => s.lpmDelete c
    | 0x86 => s.sweep c.table (!bit c.flags 3) 1 [c.ref]
    | _ => s.emChange c

/-- Is a command held back: behind a TABLE_FLUSH of its ring, or behind a rebalance (R182, R184)? -/
def State.tblHeld (s : State) (c : TblCmd) : Bool :=
  !(mgetD s.tbl.held c.ref.ring []).isEmpty ||
  s.tbl.sweeps.any (fun w => w.ref.any (fun r => decide (r.ring = c.ref.ring))) ||
  ((decide (c.opcode = 0x84) || decide (c.opcode = 0x85)) && s.on Reg.TBL_LPM_STATUS_REBALANCING)

/-- A table command arrives (R141, R184): malformed it halts the device, held back it waits, else it takes effect. -/
def State.tblCommand (s : State) (c : TblCmd) : State :=
  if c.malformed then s.malformed c.ref 4 c.opcode
  else if s.inReset 6 (s.tShard c.table) then (s.resetHit 6 (s.tShard c.table)).complete c.ref ST_TARGET_RESET 0 []
  else if s.tblHeld c then
    { s with tbl := { s.tbl with held := mput s.tbl.held c.ref.ring (mgetD s.tbl.held c.ref.ring [] ++ [c]) } }
  else s.tblRun c

/-- Held commands of a ring go on in ring order, as far as they may. -/
def tblDrain (ring : Nat) : Nat → State → State
  | 0, s => s
  | n + 1, s =>
    match mgetD s.tbl.held ring [] with
    | [] => s
    | c :: t =>
      let s' := { s with tbl := { s.tbl with held := mdel s.tbl.held ring } }
      if s'.tblHeld c then s
      else tblDrain ring n (({ s' with tbl := { s'.tbl with held := mputD s'.tbl.held ring t [] } }).tblRun c)

/-- Every ring's held commands go on. -/
def State.tblResume (s : State) : State :=
  s.tbl.held.foldl (fun (s : State) (e : Nat × List TblCmd) => tblDrain e.1 e.2.length s) s

/-- EM_INSERT (R184). -/
def execEmInsert (r : Ref) (table words flags : Nat) (action : List Byte) (key : List Nat) (s : State) :
    Host.Outcome State Fault Refusal :=
  s.run (s.work r (·.tblCommand { ref := r, opcode := 0x80, table, words, flags, plen := 0, action, key }))

/-- EM_UPDATE (R184). -/
def execEmUpdate (r : Ref) (table words : Nat) (action : List Byte) (key : List Nat) (s : State) :
    Host.Outcome State Fault Refusal :=
  s.run (s.work r (·.tblCommand { ref := r, opcode := 0x81, table, words, flags := 0, plen := 0, action, key }))

/-- EM_DELETE (R184). -/
def execEmDelete (r : Ref) (table words : Nat) (key : List Nat) (s : State) : Host.Outcome State Fault Refusal :=
  s.run (s.work r (·.tblCommand { ref := r, opcode := 0x82, table, words, flags := 0, plen := 0, action := [], key }))

/-- EM_QUERY (R184). -/
def execEmQuery (r : Ref) (table words : Nat) (key : List Nat) (s : State) : Host.Outcome State Fault Refusal :=
  s.run (s.work r (·.tblCommand { ref := r, opcode := 0x83, table, words, flags := 0, plen := 0, action := [], key }))

/-- LPM_INSERT (R181). -/
def execLpmInsert (r : Ref) (table words flags plen : Nat) (action : List Byte) (key : List Nat) (s : State) :
    Host.Outcome State Fault Refusal :=
  s.run (s.work r (·.tblCommand { ref := r, opcode := 0x84, table, words, flags, plen, action, key }))

/-- LPM_DELETE (R184). -/
def execLpmDelete (r : Ref) (table words plen : Nat) (key : List Nat) (s : State) : Host.Outcome State Fault Refusal :=
  s.run (s.work r (·.tblCommand { ref := r, opcode := 0x85, table, words, flags := 0, plen, action := [], key }))

/-- TABLE_FLUSH (R194). -/
def execTableFlush (r : Ref) (table flags : Nat) (s : State) : Host.Outcome State Fault Refusal :=
  s.run (s.work r (·.tblCommand { ref := r, opcode := 0x86, table, words := 0, flags, plen := 0, action := [], key := [] }))

/-- The arbiter of a shard takes its oldest learn request (R191). -/
def State.learnNext (s : State) (h : Nat) : State :=
  match mgetD s.tbl.learnQ h [] with
  | [] => s
  | r :: t => (({ s with tbl := { s.tbl with learnQ := mputD s.tbl.learnQ h t [] } }).learnSync h).learn h r

/-- LEARN_COMMIT (R191). -/
def execLearnCommit (shard : Nat) (s : State) : Host.Outcome State Fault Refusal := s.run (s.learnNext shard)

/-- SCANNER_VISIT (R193): the slot visited, whether its check fails, and whether a hit arrives in the same cycle. -/
def execScannerVisit (tier index : Nat) (err race : Bool) (s : State) : Host.Outcome State Fault Refusal :=
  s.run (s.visit (slotKey tier index) err race)

/-- The sweep of a table ends: its flushes complete with the entries removed, and held commands go on (R184, R194). -/
def State.sweepEnd (s : State) (table : Nat) : State :=
  match s.tbl.sweeps.find? (fun w => decide (w.table = table)) with
  | none => s
  | some w =>
    let (n, s) := s.sweepDone w
    let s := w.ref.foldl (fun (s : State) (r : Ref) => (s.bump (Reg.n_write_commands (s.tShard table))).complete r ST_OK n []) s
    s.tblResume

/-- SWEEP_END (R194). -/
def execSweepEnd (table : Nat) (s : State) : Host.Outcome State Fault Refusal := s.run (s.sweepEnd table)

/-- A write of REBALANCE (R182). -/
def State.rebalanceGo (s : State) (gap : Nat) : State :=
  let s := s.set Reg.TBL_LPM_CFG_GAP_MODE gap
  if s.on Reg.TBL_LPM_STATUS_REBALANCING then s
  else (s.set Reg.TBL_LPM_CFG_REBALANCE 1).set Reg.TBL_LPM_STATUS_REBALANCING 1

/-- LPM_REBALANCE_GO (R182). -/
def execLpmRebalanceGo (gap : Nat) (s : State) : Host.Outcome State Fault Refusal := s.write (s.rebalanceGo gap)

/-- The rebalance ends: the free slots are redistributed, and waiting insertions and deletions proceed (R182). -/
def State.rebalanceEnd (s : State) : State :=
  if s.on Reg.TBL_LPM_STATUS_REBALANCING then
    let old := s.tbl.tcam
    let new := lpmLayout (s.get Reg.TBL_LPM_CFG_GAP_MODE) old ((List.range 161).reverse) 0
    let n := (new.filter (fun e => !old.contains e)).length
    let s := { s with tbl := { s.tbl with tcam := new } }
    let s := (s.set Reg.TBL_LPM_CFG_REBALANCE 0).set Reg.TBL_LPM_STATUS_REBALANCING 0
    let s := if n = 0 then s else s.bump Reg.n_lpm_moves n
    (s.tblEvent EV_table_lpm_rebalanced 0xFFFF [n]).tblResume
  else s

/-- LPM_REBALANCE_END (R182). -/
def execLpmRebalanceEnd (s : State) : Host.Outcome State Fault Refusal := s.run s.rebalanceEnd

/-- The TCAM and its result memory are read: `bad` are the entries found in error (R195). -/
def State.tcamScrub (s : State) (bad : List Nat) : State :=
  { s with tbl := { s.tbl with tcam := s.tbl.tcam.map (fun e => if bad.contains e.1 then (e.1, { e.2 with bad := true }) else e) } }

/-- TCAM_SCRUB (R195). -/
def execTcamScrub (bad : List Nat) (s : State) : Host.Outcome State Fault Refusal := s.run (s.tcamScrub bad)

/-- A slot found in error, or a TCAM entry, is invalidated, counted and reported (R196). -/
def State.parityInvalidate (s : State) (tier index : Nat) (lpm : Bool) : State :=
  if lpm then
    let e := mget s.tbl.tcam index
    let s := (s.delTcam index).bump Reg.n_lpm_parity
    s.tblEvent EV_table_parity 0xFFFF ([0, index] ++ (match e with
      | some e => [e.table, 0]
      | none => []))
  else s.invalidate (slotKey tier index)

/-- TABLE_PARITY_INVALIDATE (R196). -/
def execTableParityInvalidate (tier index : Nat) (lpm : Bool) (s : State) : Host.Outcome State Fault Refusal :=
  s.run (s.parityInvalidate tier index lpm)

/-- Master ID of a thread (R18). -/
def thrMaster (t : Nat) : Nat := 0x2000 + t

/-- The longest reply of an engine endpoint, in words (R325). -/
def longestReply (engine : Nat) : Nat :=
  match bits engine 13 8 with
  | 1 => 7
  | 2 => 18
  | _ => 8

/-- An endpoint's record. -/
def State.endp (s : State) (e : Nat) : Endpoint := mgetD s.core.ends e { msgs := [], read := 0, owed := 0 }

/-- An endpoint's record written; an empty one is not listed. -/
def State.setEndp (s : State) (e : Nat) (x : Endpoint) : State :=
  { s with core := { s.core with ends := mputD s.core.ends e x { msgs := [], read := 0, owed := 0 } } }

/-- An engine answers a message to its reply endpoint (R322, R325); the request leaves the messages in flight. The spec gives the
engines no master ID: SOURCE of an answer is a free value (DESIGN CHOICE, log entry 9). -/
def State.engineReply (s : State) (thread engine replyEp : Nat) (words : List Nat) : State :=
  let i := s.core.flight.findIdx? (fun m => decide (m.src = thrMaster thread) && decide (m.dest = engine) && decide (m.reply = replyEp))
  let fl := match i with
    | some i => s.core.flight.eraseIdx i
    | none => s.core.flight
  let (v, s) := s.free 16
  let x := s.endp replyEp
  let s := s.setEndp replyEp { x with owed := x.owed - longestReply engine }
  let m : Msg := { id := s.core.nextMsg, src := 0x10000 + v, dest := replyEp, reply := 0xFFFF, words := words }
  { s with core := { s.core with flight := fl ++ [m], nextMsg := s.core.nextMsg + 1 } }

/-- Four little-endian words of an action record. -/
def actionWords (a : List Byte) : List Nat := (List.range 4).map (fun j => leAt a (4 * j) 4)

/-- A firmware lookup at a shard's table endpoint (R197). -/
def State.fwLookup (s : State) (thread replyEp shard table words : Nat) (key : List Nat) : State :=
  let ep := 0x4100 + shard
  let reply := fun (s : State) st count (a : List Byte) =>
    s.engineReply thread ep replyEp ([st, count % 2 ^ 32, count / 2 ^ 32] ++ actionWords a)
  let key := (key ++ List.replicate words 0).take words
  if !s.fenceAdmits 3 6 (thrMaster thread) (Reg.TBL_TABLE_CFG table % 2 ^ 20) 4 0 then reply s ST_TABLE_DENIED 0 []
  else if s.tKind table = 0 then reply s ST_NO_TABLE 0 []
  else if !decide (s.tShard table = shard) then reply s ST_KEY_MISMATCH 0 []
  else
    let bad := !decide (s.tKind table = 3) && decide (s.tWords table = words) && !(s.badMet table key).isEmpty
    match s.lookup (s.tKind table) table key with
    | (some f, s) => reply s ST_OK f.count f.action
    | (none, s) =>
      if !decide (s.tWords table = words) then reply s ST_KEY_MISMATCH 0 []
      else reply s (if bad then ST_TABLE_PARITY else ST_ENTRY_ABSENT) 0 []

/-- FW_TABLE_LOOKUP (R197). -/
def execFwTableLookup (thread replyEp shard table words : Nat) (key : List Nat) (s : State) : Host.Outcome State Fault Refusal :=
  s.run (s.fwLookup thread replyEp shard table words key)

/-- Does a tier area hold no entry and no sealed reservation (R174)? Area 0 to 3 a shard, 4 the HBM flow table. -/
def State.areaEmpty (s : State) (area : Nat) (ranges : Bool) : Bool :=
  !(s.tbl.slots.any (fun e =>
    if area = 4 then decide (2 ≤ slotTier e.1)
    else (decide (slotTier e.1 = 0) && decide (slotIndex e.1 / 524288 = area)) ||
      (decide (slotTier e.1 = 1) && decide (slotIndex e.1 / 4096 = area)))) &&
  !(ranges && s.tbl.ranges.any (fun r => decide (r.area = area)))

/-- A write of a split register (R174, R201). -/
def State.splitWrite (s : State) (area v : Nat) : State :=
  let hbm := decide (4 ≤ area)
  let v := if hbm then bits v 10 0 else bits v 7 0
  if (if hbm then 1024 else 128) < v || !s.areaEmpty (min area 4) true then
    s.set (Reg.TBL_SHARD_STATUS_SPLIT_REFUSED (if hbm then 0 else area)) 1
  else if hbm then s.set Reg.TBL_HBM_SPLIT_SPLIT v else s.set (Reg.TBL_SHARD_SPLIT_SPLIT area) v

/-- TBL_SPLIT_WRITE (R174). -/
def execTblSplitWrite (area v : Nat) (s : State) : Host.Outcome State Fault Refusal := s.write (s.splitWrite area v)

/-- A write of a seed register (R176, R201): instances of SEED_HBM other than 0 ignore writes and read as instance 0. -/
def State.seedWrite (s : State) (shard : Nat) (hbm : Bool) (v : Nat) : State :=
  if hbm && !decide (shard = 0) then s
  else if !s.areaEmpty (if hbm then 4 else shard) false then s.set (Reg.TBL_SHARD_STATUS_SEED_REFUSED shard) 1
  else if hbm then (List.range 4).foldl (fun (s : State) (h : Nat) => s.wr (Reg.TBL_SHARD_SEED_HBM h) v) s
  else s.wr (Reg.TBL_SHARD_SEED_DIE shard) v

/-- TBL_SEED_WRITE (R176). -/
def execTblSeedWrite (shard : Nat) (hbm : Bool) (v : Nat) (s : State) : Host.Outcome State Fault Refusal :=
  s.write (s.seedWrite shard hbm v)

/-- A write of TBL_CFG: HBM_EN starts the clearing of the flow table, and is dropped while an EM_DIE_HBM table exists (R201). -/
def State.hbmEnWrite (s : State) (v : Nat) : State :=
  let s := s.set Reg.TBL_CFG_JIG_SCAN (bits v 8 8)
  if (List.range 256).any (fun t => decide (s.tKind t = 2)) then s
  else
    let en := bits v 0 0
    let was := s.get Reg.TBL_CFG_HBM_EN
    let s := s.set Reg.TBL_CFG_HBM_EN en
    if en = was then s
    else { (s.set Reg.TBL_STATUS_HBM_READY 0) with tbl := { s.tbl with clearing := decide (en = 1) } }

/-- TBL_HBM_EN_WRITE (R201). -/
def execTblHbmEnWrite (v : Nat) (s : State) : Host.Outcome State Fault Refusal := s.write (s.hbmEnWrite v)

/-- The flow table has been cleared (R201). -/
def State.hbmCleared (s : State) : State :=
  if s.tbl.clearing then { (s.set Reg.TBL_STATUS_HBM_READY 1) with tbl := { s.tbl with clearing := false } } else s

/-- TBL_HBM_CLEAR_DONE (R201). -/
def execTblHbmClearDone (s : State) : Host.Outcome State Fault Refusal := s.run s.hbmCleared

/-- A write of TBL_TABLE_CFG: the table's shape changes only while ENABLE is clear and the table holds no entry (R201). -/
def State.tableCfgWrite (s : State) (t v : Nat) : State :=
  let old := s.rd (Reg.TBL_TABLE_CFG t)
  let same := decide (bits old 29 28 = bits v 29 28) && decide (bits old 25 24 = bits v 25 24) &&
    decide (bits old 20 15 = bits v 20 15) && decide (bits old 11 0 = bits v 11 0)
  if same then s.set (Reg.TBL_TABLE_CFG_ENABLE t) (bits v 31 31)
  else if bit old 31 || !decide (s.get (Reg.TBL_TABLE_ENTRIES_ENTRIES t) = 0) then
    (s.set (Reg.TBL_TABLE_CFG_ENABLE t) (bits v 31 31)).set (Reg.TBL_TABLE_STATUS_CFG_REFUSED t) 1
  else
    let s := ((s.set (Reg.TBL_TABLE_CFG_ENABLE t) (bits v 31 31)).set (Reg.TBL_TABLE_CFG_KIND t) (bits v 29 28)).set
      (Reg.TBL_TABLE_CFG_SHARD t) (bits v 25 24)
    let s := (s.set (Reg.TBL_TABLE_CFG_KEY_WORDS t) (bits v 20 16)).set (Reg.TBL_TABLE_CFG_OWNED t) (bits v 15 15)
    s.set (Reg.TBL_TABLE_CFG_OWNER t) (bits v 11 0)

/-- TBL_TABLE_CFG_WRITE (R201). -/
def execTblTableCfgWrite (table v : Nat) (s : State) : Host.Outcome State Fault Refusal := s.write (s.tableCfgWrite table v)

end Sys2Proof.Machine
end

