-- ==== Sys2Proof/Machine/CoreOps.lean ====
section
/-! DEFINITION. Threads, groups, endpoints, ports and the traps of a thread (R303–R336). -/

namespace Sys2Proof.Machine

/-! ## Traps (R307, R309) -/

/-- A CSR of a thread; one that is zero is not listed. -/
def Thread.csrOf (x : Thread) (n : Nat) : Nat := mgetD x.csr n 0

/-- A CSR written. -/
def Thread.setCsr (x : Thread) (n v : Nat) : Thread := { x with csr := mputD x.csr n (v % 2 ^ 64) 0 }

/-- Where a trap vector leads: BASE, plus four times the cause in vectored mode for interrupts only. -/
def trapBase (v : Nat) : Nat := v / 4 * 4

/-- A thread takes an exception (the RISC-V privileged specification, R307): delegated to S by medeleg, else to M. -/
def Thread.trap (x : Thread) (cause tval : Nat) : Thread :=
  let ms := x.csrOf 0x300
  if x.priv ≤ 1 ∧ bit (x.csrOf 0x302) cause then
    let ms := putBits (putBits (putBits ms 5 5 (bits ms 1 1)) 1 1 0) 8 8 x.priv
    { (((((x.setCsr 0x141 (x.pc / 2 * 2)).setCsr 0x142 cause).setCsr 0x143 tval).setCsr 0x300 ms)) with
      priv := 1, pc := trapBase (x.csrOf 0x105) }
  else
    let ms := putBits (putBits (putBits ms 7 7 (bits ms 3 3)) 3 3 0) 12 11 x.priv
    { (((((x.setCsr 0x341 (x.pc / 2 * 2)).setCsr 0x342 cause).setCsr 0x343 tval).setCsr 0x300 ms)) with
      priv := 3, pc := trapBase (x.csrOf 0x305) }

/-- core events that are raised at most once per millisecond per source (R335). -/
def State.coreEvent (s : State) (key code source : Nat) (detail : List Nat) : State :=
  let due := match mget s.core.evAt key with
    | none => true
    | some t => decide (1000000 ≤ s.now - t)
  if due then
    let t := s.now
    let s := s.raise code source detail
    { s with core := { s.core with evAt := mput s.core.evAt key t } }
  else s

/-- An access fault of a thread: LAST_FAULT, the counter, the event and the trap (R309). -/
def State.accessFault (s : State) (t cause tval why : Nat) : State :=
  let s := s.setThread t ((s.thread t).trap cause tval)
  let s := s.set (Reg.CORE_THREAD_STATUS_LAST_FAULT t) why
  let s := s.bump (Reg.n_access_faults (t / 64))
  s.coreEvent (0x10000 + t) EV_core_thread_fault t [why, tval]

/-- A refused store's access fault is raised at the thread's next fence or thread-extension instruction (R309); whether it was. -/
def State.deferred (s : State) (t : Nat) : Bool × State :=
  match (s.thread t).fault with
  | [] => (false, s)
  | (a, why) :: l => (true, (s.setThread t { s.thread t with fault := l }).accessFault t 7 a why)

/-! ## Groups (R316) -/

/-- Is a thread live (R315)? -/
def State.live (s : State) (t : Nat) : Bool := !decide (s.thState t = 0)

/-- The thread number of a live thread's group master. -/
def State.master (s : State) (t : Nat) : Nat := t / 64 * 64 + s.get (Reg.CORE_THREAD_STATUS_MASTER t)

/-- The live members of the group with this master, the master among them. -/
def State.members (s : State) (m : Nat) : List Nat :=
  ((List.range 64).map (fun j => m / 64 * 64 + j)).filter (fun t => s.live t && decide (s.master t = m))

/-- A thread stops; its staging slot and its wait end (R318, R319). -/
def State.stopThread (s : State) (t : Nat) : State :=
  let s := (s.setThState t 0).setThread t Thread.reset
  let s := (s.set (Reg.CORE_THREAD_STATUS_BLOCK_KIND t) 0).set (Reg.CORE_THREAD_STATUS_BLOCK_INDEX t) 0
  s.set (Reg.CORE_THREAD_STATUS_MASTER t) 0

/-- Are starts of a thread refused: its core waits for the spare (R451), or the device is in recovery (R481)? -/
def State.startHeld (s : State) (t : Nat) : Bool :=
  (s.on (Reg.JIG_CORE_SPARE_PENDING (t / 64)) && decide (s.get (Reg.JIG_CORE_SPARE_FOR_CORE (t / 64)) = t % 64 / 8)) ||
    decide (s.get Reg.BOOT_STATUS_MODE = 2)

/-- A STOPPED thread starts with this record as a member of the group of `master` (R317, R319). -/
def State.startThread (s : State) (t master : Nat) (x : Thread) : State :=
  let s := (s.setThread t x).setThState t 1
  let s := s.set (Reg.CORE_THREAD_STATUS_MASTER t) (master % 64)
  s.bump (Reg.n_thread_starts (t / 64))

/-- When a master stops with members live, the lowest-numbered of them becomes master (R316). -/
def State.newMaster (s : State) (old : Nat) (l : List Nat) : State :=
  match l.filter (fun t => !decide (t = old)) with
  | [] => s
  | m :: rest => (m :: rest).foldl (fun (s : State) (t : Nat) => s.set (Reg.CORE_THREAD_STATUS_MASTER t) (m % 64)) s

/-! ## Endpoints (R320–R325) -/

/-- Cluster, core and number of a thread endpoint's ID. -/
def epCl (e : Nat) : Nat := bits e 13 9
/-- Core. -/
def epCore (e : Nat) : Nat := bits e 8 6
/-- Endpoint number within its core. -/
def epNum (e : Nat) : Nat := e % 64
/-- The ID of endpoint `e` of the executing thread's core. -/
def ownEp (t e : Nat) : Nat := t / 64 * 512 + t % 64 / 8 * 64 + e

/-- Is a thread endpoint enabled? -/
def State.epOn (s : State) (e : Nat) : Bool :=
  decide (e / 2 ^ 14 = 0) && decide (epCl e < 24) && s.on (Reg.CORE_EP_CFG_ENABLE (epCl e) (epCore e) (epNum e))

/-- Is the cluster of a thread endpoint under a block reset (R332)? -/
def State.coreReset (s : State) (e : Nat) : Bool := decide (e / 2 ^ 14 = 0) && s.inReset 10 (epCl e)

/-- ACCEPT of a thread endpoint. -/
def State.epAccept (s : State) (e : Nat) : Nat := s.get (Reg.CORE_EP_CFG_ACCEPT (epCl e) (epCore e) (epNum e))

/-- The thread that may read an endpoint. -/
def State.epReader (s : State) (e : Nat) : Nat :=
  epCl e * 64 + epCore e * 8 + s.get (Reg.CORE_EP_CFG_READER (epCl e) (epCore e) (epNum e))

/-- May thread `t` read endpoint `e` of its own core? -/
def State.mayRead (s : State) (t e : Nat) : Bool := s.epOn (ownEp t e) && decide (s.epReader (ownEp t e) = t)

/-- Is `e` an engine endpoint that a thread may address (R325)? -/
def engineFor (t e : Nat) : Bool :=
  decide (e / 2 ^ 14 = 1) &&
  (match bits e 13 8 with
    | 1 => decide (e % 256 < 4)
    | 2 => decide (e % 256 = t / 64)
    | 3 => decide (e % 256 = 0)
    | _ => false)

/-- Does a thread endpoint admit thread `t` (R320)? -/
def State.admits (s : State) (t e : Nat) : Bool :=
  let a := s.epAccept e
  (bit a 0 && decide (epCl e = t / 64) && s.live (s.epReader e) && decide (s.master (s.epReader e) = s.master t)) ||
  (bit a 1 && decide (epCl e = t / 64)) || bit a 2

/-- Why a commit is refused (R322, R335): reason 0 disabled, 1 not admitted, 2 reply endpoint. -/
def State.chRefusal (s : State) (t dest reply : Nat) : Option Nat :=
  if dest / 2 ^ 14 = 0 then
    if !s.epOn dest then some 0 else if s.admits t dest then none else some 1
  else if engineFor t dest then
    if s.epOn reply && decide (epCl reply = t / 64) && decide (epCore reply = t % 64 / 8) && bit (s.epAccept reply) 3 then none
    else some 2
  else some 1

/-- Words an endpoint holds. -/
def Endpoint.words (x : Endpoint) : Nat := x.msgs.foldl (fun a m => a + m.words.length) 0

/-- Messages in flight toward an endpoint. -/
def State.inflight (s : State) (e : Nat) : List Msg := s.core.flight.filter (fun m => decide (m.dest = e))

/-- Engine requests in flight whose reply an endpoint still waits for. -/
def State.owedMsgs (s : State) (e : Nat) : Nat :=
  (s.core.flight.filter (fun m => decide (m.reply = e) && decide (m.dest / 2 ^ 14 = 1))).length

/-- Has an endpoint room for one more message of `n` words (R320, R322)? -/
def State.epRoom (s : State) (e n : Nat) : Bool :=
  let x := s.endp e
  let f := s.inflight e
  decide (x.words + x.owed + f.foldl (fun a m => a + m.words.length) 0 + n ≤ 64) &&
  decide (x.msgs.length + f.length + s.owedMsgs e + 1 ≤ 16)

/-- Has a commit room: at a thread endpoint for the message, for an engine request at its reply endpoint (R322)? -/
def State.commitRoom (s : State) (m : Msg) : Bool :=
  if m.dest / 2 ^ 14 = 0 then s.epRoom m.dest m.words.length else s.epRoom m.reply (longestReply m.dest)

/-- A committed message is in flight, an engine's reply room reserved. -/
def State.send (s : State) (m : Msg) : State :=
  let s := if m.dest / 2 ^ 14 = 0 then s
    else s.setEndp m.reply { s.endp m.reply with owed := (s.endp m.reply).owed + longestReply m.dest }
  { s with core := { s.core with flight := s.core.flight ++ [{ m with id := s.core.nextMsg }], nextMsg := s.core.nextMsg + 1 } }

/-! ## Results (R314) -/

/-- A result with FAIL set. -/
def failed (result : Nat) : Nat := 2 ^ 63 + result * 2 ^ 40

/-- The next word of an endpoint's head message, and the endpoint after it is read (R314, R323). -/
def Endpoint.take (x : Endpoint) : Nat × Endpoint :=
  match x.msgs with
  | [] => (0, x)
  | m :: t =>
    let last := decide (m.words.length ≤ x.read + 1)
    let v := (if last then 2 ^ 62 else 0) + (if x.read = 0 then 2 ^ 61 else 0) + m.words.getD x.read 0 % 2 ^ 32
    (v, if last then { x with msgs := t, read := 0 } else { x with read := x.read + 1 })

/-- The header of an endpoint's head message (R314). -/
def Endpoint.header (x : Endpoint) : Nat :=
  match x.msgs with
  | [] => 0
  | m :: _ => (m.words.length - 1) % 32 * 2 ^ 56 + m.reply % 2 ^ 16 * 2 ^ 16 + m.src % 2 ^ 16

/-- A blocked reader of endpoint `e` resumes when a message is present (R323). -/
def State.wake (s : State) (e : Nat) : State :=
  let t := s.epReader e
  let x := s.endp e
  if s.epOn e && decide (s.thState t = 2) && decide (s.get (Reg.CORE_THREAD_STATUS_BLOCK_KIND t) = 1) &&
     decide (s.get (Reg.CORE_THREAD_STATUS_BLOCK_INDEX t) = epNum e) && !x.msgs.isEmpty then
    if ((s.thread t).wait.map (·.header)).getD false then s.threadResult t x.header
    else
      let (v, x) := x.take
      (s.setEndp e x).threadResult t v
  else s

/-! ## Executing one instruction of the extension -/

/-- An executed instruction writes rd and the pc advances. -/
def State.retire (s : State) (t rd v : Nat) : State :=
  let x := s.thread t
  s.setThread t { (x.setX rd v).retired with pc := (x.pc + 4) % 2 ^ 64 }

/-- A RUNNING thread executes an instruction of the extension, after a deferred fault (R309, R313, R315). -/
def State.ext (s : State) (t : Nat) (f : State → State) : State :=
  if !decide (s.thState t = 1) then s
  else match s.deferred t with
    | (true, s) => s
    | (false, s) => f s

/-- A timeout operand: a value above 2^32 − 1 acts as that (R313). -/
def timeoutOf (v : Nat) : Nat := min v (2 ^ 32 - 1)

/-- A thread blocks (R315). -/
def State.block (s : State) (t kind index rd timeout : Nat) (header : Bool) (m : Option Msg) : State :=
  let w : ThreadWait := { rd := rd, header := header, timeout := timeout, order := s.core.nextWait, commit := m, sent := false }
  let s := s.setThread t { s.thread t with wait := some w }
  let s := { s with core := { s.core with nextWait := s.core.nextWait + 1 } }
  let s := (s.set (Reg.CORE_THREAD_STATUS_BLOCK_KIND t) kind).set (Reg.CORE_THREAD_STATUS_BLOCK_INDEX t) index
  s.setThState t 2

end Sys2Proof.Machine
end

