-- ==== Sys2Proof/Machine/Ec.lean ====
section
/-! DEFINITION. The erasure code of R342 and the symbol code's field: arithmetic in GF(2^8) with the polynomial 0x11D. -/

namespace Sys2Proof.Machine

/-- Product in GF(2^8) by shifting and reducing. -/
def gfMulLoop : Nat → Nat → Nat → Nat → Nat
  | 0, _, _, acc => acc
  | n + 1, a, b, acc =>
    let acc := if b % 2 = 1 then Nat.xor acc a else acc
    let a := if 128 ≤ a then Nat.xor (a * 2 % 256) 0x1D else a * 2
    gfMulLoop n a (b / 2) acc

/-- Product in GF(2^8). -/
def gfMul (a b : Nat) : Nat := gfMulLoop 8 (a % 256) (b % 256) 0

/-- `a` to the power `n`. -/
def gfPow (a : Nat) : Nat → Nat
  | 0 => 1
  | n + 1 => gfMul a (gfPow a n)

/-- Inverse in GF(2^8): a^254. -/
def gfInv (a : Nat) : Nat :=
  let a2 := gfMul a a
  let a4 := gfMul a2 a2
  let a8 := gfMul a4 a4
  let a16 := gfMul a8 a8
  let a32 := gfMul a16 a16
  let a64 := gfMul a32 a32
  let a128 := gfMul a64 a64
  gfMul a128 (gfMul a64 (gfMul a32 (gfMul a16 (gfMul a8 (gfMul a4 a2)))))

/-- Coefficient c[i][j] for M parity chunks (R342). -/
def ecCoef (m i j : Nat) : Nat := gfInv (Nat.xor i (m + j))

/-- A byte string scaled. -/
def gfScale (c : Nat) (l : List Byte) : List Byte := l.map (fun b => BitVec.ofNat 8 (gfMul c b.toNat))

/-- Two byte strings added; the shorter is filled with zeros. -/
def gfAdd : List Byte → List Byte → List Byte
  | [], b => b
  | a, [] => a
  | a :: s, b :: t => (a ^^^ b) :: gfAdd s t

/-- A combination of byte strings. -/
def gfSum (cs : List Nat) (ls : List (List Byte)) : List Byte :=
  (cs.zip ls).foldl (fun acc e => gfAdd acc (gfScale e.1 e.2)) []

/-- Row of chunk j' of the generator matrix: a unit row for data, the coefficients for parity. -/
def ecRow (k m j : Nat) : List Nat :=
  if j < k then (List.range k).map (fun i => b2n (decide (i = j))) else (List.range k).map (fun i => ecCoef m (j - k) i)

/-- Parity chunks of K data chunks. -/
def ecEncode (m : Nat) (data : List (List Byte)) : List (List Byte) :=
  (List.range m).map (fun i => gfSum ((List.range data.length).map (ecCoef m i)) data)

/-- A row scaled, and one row added to another. -/
def rowScale (c : Nat) (r : List Nat) : List Nat := r.map (gfMul c)

/-- The sum of a row and a multiple of another. -/
def rowSub (c : Nat) (r p : List Nat) : List Nat := (r.zip p).map (fun e => Nat.xor e.1 (gfMul c e.2))

/-- Gauss–Jordan elimination over column `i` and the `n − 1` after it. -/
def ecSolve : Nat → Nat → List (List Nat) → List (List Nat)
  | 0, _, rows => rows
  | n + 1, i, rows =>
    match (List.range rows.length).find? (fun q => decide (i ≤ q) && !decide ((rows.getD q []).getD i 0 = 0)) with
    | none => rows
    | some q =>
      let a := rows.getD q []
      let p := rowScale (gfInv (a.getD i 0)) a
      let rows := (rows.set q (rows.getD i [])).set i p
      ecSolve n (i + 1) ((rows.zipIdx).map (fun e => if e.2 = i then e.1 else rowSub (e.1.getD i 0) e.1 p))

/-- The K data chunks from any K chunks, given as (j', bytes). -/
def ecData (k m : Nat) (have' : List (Nat × List Byte)) : List (List Byte) :=
  let h := have'.take k
  let aug := (h.zipIdx).map (fun e => ecRow k m e.1.1 ++ (List.range k).map (fun i => b2n (decide (i = e.2))))
  (ecSolve k 0 aug).map (fun r => gfSum (r.drop k) (h.map (·.2)))

/-- Chunk j' from any K chunks. -/
def ecChunk (k m : Nat) (have' : List (Nat × List Byte)) (j : Nat) : List Byte :=
  gfSum (ecRow k m j) (ecData k m have')

end Sys2Proof.Machine
end

