-- ==== Sys2Proof/Machine/MemOps.lean ====
section
/-! DEFINITION. The memories: where a word lies, its code, poison and scrubbing, the error log, wear, and the reads and writes
of every consumer (R365–R386). -/

namespace Sys2Proof.Machine

/-! ## Where a word lies -/

/-- First address of the colophon's mirrored view (R377). -/
def coloBase : Nat := 0x17F0000000

/-- First address of its direct view (R377). -/
def coloDirect : Nat := 0x17F8000000

/-- Stack and pseudo-channel of a device HBM address (R376, R377). -/
def hbmWhere (a : Nat) : Nat × Nat :=
  let u := a / 256
  if a < 0x17E0000000 then (u % 4, u / 4 % 32)
  else if a < coloBase then (1 + 2 * (u % 2), u / 2 % 32)
  else if a < coloDirect then (0, Config.colophonPc (a / 32) % 32)
  else (2, Config.colophonPc (a / 32) % 32)

/-- Is an address of the physical space HBM (R308)? -/
def isHbm (a : Nat) : Bool := decide (a < 0x1800000000)

/-- Address of scratchpad offset `o` of a cluster, in the plain view (R308, R371). -/
def spAddr (n o : Nat) : Nat := 0x2000000000 + 0x1000000 * n + o

/-- First address of boot SRAM (R308). -/
def bootBase : Nat := 0x3100000000

/-- Bank ID and byte offset of an SRAM address (R365, R370). -/
def sramWhere (a : Nat) : Nat × Nat :=
  if 2 ^ 44 ≤ a then (bits a 39 24, a % 2 ^ 24)
  else if bootBase ≤ a then (0x7007, a - bootBase)
  else
    let o := a % 0x1000000
    (0x3000 + 32 * ((a - 0x2000000000) / 0x1000000) + o / 64 % 32, o / 2048 * 64 + o % 64)

/-- The address that names byte `off` of a bank. -/
def sramAddr (bank off : Nat) : Nat :=
  if bank / 4096 = 3 then
    let i := bank % 4096
    spAddr (i / 32) (off / 64 * 2048 + i % 32 * 64 + off % 64)
  else if bank = 0x7007 then bootBase + off
  else 2 ^ 44 + bank * 2 ^ 24 + off % 2 ^ 24

/-- How many banks an array kind has (R365, R367). -/
def bankCount (kind : Nat) : Nat :=
  match kind with
  | 1 => 2048
  | 2 => 2048
  | 3 => 768
  | 4 => 1536
  | 5 => 384
  | 6 => 128
  | 7 => 9
  | _ => 0

/-- Is a bank kept under parity and not the symbol code (R365, R367)? -/
def isParity (bank : Nat) : Bool :=
  decide (bank / 4096 = 2) || (decide (bank / 4096 = 5) && decide (bank % 2 = 0)) || (decide (bank / 4096 = 7) && decide (bank % 4096 < 5))

/-- The pseudo-channel a word is read from: the spare in whose place it stands, as 32 or 33 (R385). -/
def State.pcOf (s : State) (a : Nat) : Nat × Nat :=
  let (st, pc) := hbmWhere a
  match (List.range 2).find? (fun k => decide (s.get (Reg.MEM_PC_SPARE_STATE st k) = 2) &&
      decide (s.get (Reg.MEM_PC_SPARE_TARGET st k) = pc)) with
  | some k => (st, 32 + k)
  | none => (st, pc)

/-! ## Regions (R375) -/

/-- First address of core memory. -/
def coreBase : Nat := 0x120000000

/-- First address of the spill tier. -/
def State.spillBase (s : State) : Nat := coreBase + s.get Reg.MEM_REGION_CFG_CORE_GIB * 2 ^ 30

/-- First address of the block-service cache. -/
def State.cacheBase (s : State) : Nat := s.spillBase + s.get Reg.MEM_REGION_CFG_SPILL_GIB * 2 ^ 30

/-- Does a range lie within core memory? -/
def State.inCore (s : State) (a len : Nat) : Bool := decide (coreBase ≤ a) && decide (a + len ≤ s.spillBase)

/-- HBM_READY. -/
def State.hbmReady (s : State) : Bool := s.on Reg.MEM_STATUS_HBM_READY

/-! ## The error log and its events (R382, R383) -/

/-- The 32 bytes of a record. -/
def ErrRec.bytes (r : ErrRec) : List Byte :=
  leBytes 8 r.addr ++ leBytes 2 r.master ++ leBytes 1 r.kind ++ leBytes 1 r.symbol ++ leBytes 2 r.pc ++ leBytes 2 0 ++
  leBytes 8 r.time ++ leBytes 8 0

/-- The record of a word: address, consumer, kind and symbol. -/
def State.errRec (s : State) (a master kind symbol : Nat) : ErrRec :=
  if isHbm a then
    let (st, pc) := s.pcOf a
    { addr := a, master := master, kind := kind, symbol := symbol, pc := st * 64 + pc, time := s.now }
  else
    let (b, o) := sramWhere a
    { addr := b * 2 ^ 48 + o % 2 ^ 16, master := master, kind := kind, symbol := symbol, pc := 0xFFFF, time := s.now }

/-- A record is written to the log. -/
def State.logErr (s : State) (r : ErrRec) : State :=
  let n := s.get Reg.MEM_ERR_LOG_SEL_NEXT
  let s := { s with mem := { s.mem with log := mput s.mem.log (n % 64) r } }
  s.set Reg.MEM_ERR_LOG_SEL_NEXT (n + 1)

/-- Source of a memory event: the stack, or the bank (R388). -/
def memSource (a : Nat) : Nat := if isHbm a then (hbmWhere a).1 else (sramWhere a).1

/-- Detail of a memory event: bytes 0 to 15 of the record. -/
def ErrRec.detail (r : ErrRec) : List Nat := [leAt r.bytes 0 8, leAt r.bytes 8 8]

/-- mem.uncorrectable, with its log record (R382). -/
def State.uncEvent (s : State) (a master kind : Nat) : State :=
  let r := s.errRec a master kind 0xFF
  (s.logErr r).raise EV_mem_uncorrectable (memSource a) r.detail

/-- mem.corrected, at most once per millisecond per array kind or stack (R382). -/
def State.corEvent (s : State) (a : Nat) (r : ErrRec) : State :=
  let k := if isHbm a then (hbmWhere a).1 else 16 + (sramWhere a).1 / 4096
  let due := match mget s.mem.corrAt k with
    | none => true
    | some t => decide (1000000 ≤ s.now - t)
  if due then
    let t := s.now
    let s := s.raise EV_mem_corrected (memSource a) r.detail
    { s with mem := { s.mem with corrAt := mput s.mem.corrAt k t } }
  else s

/-- A threshold, where 0 acts as 1. -/
def atLeast (n : Nat) : Nat := if n = 0 then 1 else n

/-- Wear of a row: one of four tracked rows of its bank (R383). -/
def State.wearRow (s : State) (bank row : Nat) : State :=
  let l := mgetD s.mem.rows bank []
  let n := mgetD s.mem.corr bank 0
  let s := { s with mem := { s.mem with corr := mput s.mem.corr bank (min 65535 (n + 1)) } }
  let (c, l) := match l.find? (fun e => decide (e.1 = row)) with
    | some e => (e.2 + 1, l.map (fun x => if x.1 = row then (row, x.2 + 1) else x))
    | none =>
      if l.length < 4 then (1, l ++ [(row, 1)])
      else
        let m := l.foldl (fun a x => min a x.2) (l.headD (0, 0)).2
        let i := (l.findIdx? (fun x => decide (x.2 = m))).getD 0
        (1, l.set i (row, 1))
  let s := { s with mem := { s.mem with rows := mput s.mem.rows bank l } }
  if c = atLeast (s.get Reg.MEM_WEAR_CFG_ROW_CE_THR) then s.raise EV_mem_row_wear bank [bank, row, c] else s

/-- Wear of a pseudo-channel (R383). -/
def State.wearPc (s : State) (st pc : Nat) : State :=
  let s := s.inc (Reg.MEM_PC_CE_COUNT st pc)
  let c := s.get (Reg.MEM_PC_CE_COUNT st pc)
  if c = atLeast (s.get Reg.MEM_WEAR_CFG_PC_CE_THR) then s.raise EV_mem_pc_wear st [st, pc, c] else s

/-- A word corrected: counted, logged, reported, and its wear followed (R382, R383). -/
def State.corrected (s : State) (a master symbol : Nat) : State :=
  let w := a / 32
  let s := { s with mem := { s.mem with errs := mdel s.mem.errs w } }
  let r := s.errRec a master 0 symbol
  if isHbm a then
    let (st, pc) := s.pcOf a
    (((s.bump (Reg.n_hbm_corrected st)).logErr r).corEvent a r).wearPc st pc
  else
    let (b, o) := sramWhere a
    let s := ((s.bump (Reg.n_sram_corrected (b / 4096))).logErr r).corEvent a r
    if b / 4096 = 7 then s else s.wearRow b (o / 128)

/-- The quire that holds a spill-tier word, by its head. -/
def State.quireAt (s : State) (p : Nat) : Option Nat :=
  (s.cell.quires.find? (fun e => (e.2.all e.1).contains p)).map (·.1)

/-- A quire is marked POISON when a word of one of its leaves is (R205). -/
def State.poisonLeaf (s : State) (p : Nat) : State :=
  match s.quireAt p with
  | none => s
  | some h => match s.quire h with
    | some q => s.setQuire h { q with poison := true }
    | none => s

/-- A word found uncorrectable is rewritten as poisoned, counted, logged and reported (R369, R381, R382). -/
def State.poisoned (s : State) (a master : Nat) : State :=
  let w := a / 32
  let s := { s with mem := { s.mem with errs := mdel s.mem.errs w, poison := if s.mem.poison.contains w then s.mem.poison else w :: s.mem.poison } }
  let s := if isHbm a then s.bump (Reg.n_hbm_uncorrectable (hbmWhere a).1)
    else s.bump (Reg.n_sram_uncorrectable ((sramWhere a).1 / 4096))
  let s := s.uncEvent a master 1
  if s.spillBase ≤ a ∧ a < s.cacheBase then s.poisonLeaf (mkPtr 1 ((a - s.spillBase) / 64)) else s

/-- What the decoder answers for a word with these bad symbols (R368): corrected at a symbol, or uncorrectable. Four or more
can be miscorrected: whether they are, and the data that results, is a free value. -/
def State.decodeWord (s : State) (w master : Nat) (bad : List Nat) : State :=
  let a := w * 32
  match bad with
  | [] => s
  | [p] => s.corrected a master p
  | _ =>
    if bad.length < 4 then s.poisoned a master
    else
      let (b, s) := s.free 1
      if b = 0 then s.poisoned a master
      else
        let (p, s) := s.free 8
        let v := Config.freeBytes s.freeCtr 32
        let s := { s with freeCtr := s.freeCtr + 1 }
        let s := { s with mem := { s.mem with bytes := (List.range 32).foldl (fun m i => mputD m (a + i) (v.getD i 0) 0) s.mem.bytes } }
        s.corrected a master (p % 36)

/-- A scrubber or a consumer reads a word (R380): stored errors are corrected or poisoned. -/
def State.touchWord (s : State) (w master : Nat) : State :=
  match mget s.mem.errs w with
  | none => s
  | some l => s.decodeWord w master l

/-! ## Reads and writes -/

/-- The bytes of memory at an address; a byte that is not listed is zero (R379). The direct view shows HBM[2]'s copy (R377). -/
def State.memGet (s : State) (a n : Nat) : List Byte :=
  let a := if coloDirect ≤ a ∧ isHbm a then a - 0x8000000 else a
  (List.range n).map (fun i => mgetD s.mem.bytes (a + i) 0)

/-- Bytes of memory written as they stand. -/
def State.memPut (s : State) (a : Nat) (l : List Byte) : State :=
  { s with mem := { s.mem with bytes := (l.zipIdx).foldl (fun m e => mputD m (a + e.2) e.1 0) s.mem.bytes } }

/-- The words that `n` bytes at `a` touch. -/
def wordsAt (a n : Nat) : Nat × Nat := if n = 0 then (1, 0) else (a / 32, (a + n - 1) / 32)

/-- Does a list of words name one in the range? -/
def inWords (r : Nat × Nat) (w : Nat) : Bool := decide (r.1 ≤ w) && decide (w ≤ r.2)

/-- A consumer meets a poisoned word (R29, R382). -/
def State.consumed (s : State) (w master : Nat) : State :=
  let a := w * 32
  let s := if isHbm a then s.bump (Reg.n_hbm_poison_consumed (hbmWhere a).1) else s
  s.uncEvent a master 2

/-- A read by a consumer: whether it met poison, the bytes, and the state after corrections (R380, R382). In the mirrored
view a bad word of HBM[0] is read from HBM[2] (R377). -/
def State.memRead (s : State) (master a n : Nat) : Bool × List Byte × State :=
  let r := wordsAt a n
  let mirrored := decide (coloBase ≤ a) && decide (a < coloDirect)
  let s := ((s.mem.errs.map (·.1)).filter (inWords r)).foldl (fun (s : State) (w : Nat) => s.touchWord w master) s
  let bad := s.mem.poison.filter (inWords r)
  let s := bad.foldl (fun (s : State) (w : Nat) => s.consumed w master) s
  let lost := if mirrored then bad.filter (fun w => s.mem.poison.contains (w + 0x400000)) else bad
  (!lost.isEmpty, s.memGet a n, s)

/-- The reservations of threads on the lines of a write end (R372). -/
def State.breakResv (s : State) (a n : Nat) : State :=
  if n = 0 then s
  else { s with core := { s.core with threads := s.core.threads.map (fun e =>
    match e.2.resv with
    | some g => if a / 64 ≤ g ∧ g ≤ (a + n - 1) / 64 then (e.1, { e.2 with resv := none }) else e
    | none => e) } }

/-- A fault armed by MEM_INJECT is stored with the first write that covers its address (R386). -/
def State.inject (s : State) (a n : Nat) : State :=
  if !s.on Reg.MEM_INJECT_HIGH_ARM then s
  else
    let lo := s.rd Reg.MEM_INJECT_LOW
    let hi := s.get Reg.MEM_INJECT_HIGH_ADDR_HIGH
    let at' := if s.on Reg.MEM_INJECT_HIGH_SRAM then sramAddr hi (lo % 2 ^ 16) else hi * 2 ^ 32 + lo
    if a ≤ at' ∧ at' < a + n then
      let k := if s.get Reg.MEM_INJECT_HIGH_SYMBOLS = 2 then [0, 1] else [0]
      { (s.set Reg.MEM_INJECT_HIGH_ARM 0) with mem := { s.mem with errs := mput s.mem.errs (at' / 32) k } }
    else s

/-- A write of bytes by a master: whether every word took it, and the state. A write of a whole word clears its errors and its
poison; a part of a poisoned word is refused (R369). -/
def State.memWrite (s : State) (master a : Nat) (l : List Byte) : Bool × State :=
  let n := l.length
  if n = 0 ∨ (coloDirect ≤ a ∧ isHbm a) then (true, s)
  else
    let (lo, hi) := wordsAt a n
    let whole := fun w => decide (a ≤ w * 32) && decide (w * 32 + 32 ≤ a + n)
    let ends := if lo = hi then [lo] else [lo, hi]
    let part := ends.filter (fun w => !whole w)
    let s := part.foldl (fun (s : State) (w : Nat) => s.touchWord w master) s
    let bad := part.filter (fun w => s.mem.poison.contains w)
    let s := bad.foldl (fun (s : State) (w : Nat) => (s.bump Reg.n_write_poisoned).uncEvent (w * 32) master 3) s
    let cleared := fun w => inWords (lo, hi) w && whole w
    let mirror := fun w => decide (0x400000 ≤ w) && decide (coloDirect / 32 ≤ w) && decide (w < 0x1800000000 / 32) && cleared (w - 0x400000)
    let s := { s with mem := { s.mem with errs := s.mem.errs.filter (fun e => !cleared e.1 && !mirror e.1),
                                          poison := s.mem.poison.filter (fun w => !cleared w && !mirror w) } }
    let keep := (l.zipIdx).filter (fun e => !bad.contains ((a + e.2) / 32))
    let s := { s with mem := { s.mem with bytes := keep.foldl (fun (m : SMap Byte) (e : Byte × Nat) => mputD m (a + e.2) e.1 0) s.mem.bytes } }
    (bad.isEmpty, (s.inject a n).breakResv a n)

/-- An atomic set or clear of bits by an alias store (R371, R372). -/
def aliasWord (old new : List Byte) (set : Bool) : List Byte :=
  (old.zip new).map (fun e => if set then e.1 ||| e.2 else e.1 &&& ~~~ e.2)

/-! ## Fences (R94, R100) -/

/-- A refusal at a target is counted and reported (R100): selector, master, address, and 0 read, 1 write, 2 fetch. -/
def State.denied (s : State) (target master a kind : Nat) : State :=
  let s := s.bump Reg.n_fence_denied_total
  let s := if isDrMaster master then s.bump (Reg.n_fence_denied (master % 4096)) else s
  let due := match mget s.drw.denied master with
    | none => true
    | some t => decide (1000000 ≤ s.now - t)
  if due then
    let t := s.now
    let s := s.raise EV_drw_fence_denied 0xFFFF [target, master, a % 2 ^ 48, kind]
    { s with drw := { s.drw with denied := mput s.drw.denied master t } }
  else s

/-- Pieces of an HBM access, each within one 256-byte unit (R376). -/
def hbmPieces : Nat → Nat → Nat → List (Nat × Nat)
  | 0, _, _ => []
  | fuel + 1, a, n =>
    if n = 0 then []
    else
      let k := min n (256 - a % 256)
      (a, k) :: hbmPieces fuel (a + k) (n - k)

/-- The fixed rule of a master class at HBM and scratchpads (R94): some answer, or the fence entries'. -/
def State.fixedRule (s : State) (m : Nat) : Option Bool :=
  match m / 4096 with
  | 0 => some true
  | 3 => some true
  | 4 => some (s.on Reg.DBG_STATUS_UNLOCKED)
  | 1 => none
  | 2 => none
  | _ => some false

/-- The first piece of an HBM access that no fence admits. -/
def State.hbmRefused (s : State) (m a n perm : Nat) : Option (Nat × Nat) :=
  match s.fixedRule m with
  | some true => none
  | some false => some (a, n)
  | none => (hbmPieces (n / 256 + 2) a n).find? (fun p => !s.fenceAdmits 1 (hbmWhere p.1).1 m p.1 p.2 perm)

/-- An engine's access to device memory for a master: BAD_POINTER outside HBM, HBM_NOT_READY, FENCE_DENIED, or 0 (R340, R378). -/
def State.devAccess (s : State) (m a n perm : Nat) : Nat × State :=
  if 0x1800000000 < a + n then (ST_BAD_POINTER, s)
  else if !s.hbmReady then (ST_HBM_NOT_READY, s)
  else match s.hbmRefused m a n perm with
    | some (b, _) => (ST_FENCE_DENIED, s.denied (0x1000 + (hbmWhere b).1) m b perm)
    | none => (0, s)

end Sys2Proof.Machine
end

