-- ==== Sys2Proof/Machine/Prs.lean ====
section
/-! DEFINITION. The parser's banks, action records and edit profiles (R154–R171). -/

namespace Sys2Proof.Machine

/-- The bank in force, and the other. -/
def State.activeBank (s : State) : Nat := s.get Reg.PRS_STATUS_ACTIVE_BANK

/-- Is the entry in error (R168)? Kind 0 node, 1 template, 2 action record, 3 edit profile; bank 0 where there is none. -/
def State.prsBad (s : State) (kind bank index : Nat) : Bool := s.prs.bad.contains (kind, bank, index)

/-- An entry rewritten is no longer in error. -/
def State.prsMend (s : State) (kind bank index : Nat) : State :=
  { s with prs := { s.prs with bad := s.prs.bad.filter (fun b => !decide (b = (kind, bank, index))) } }

/-- prs.bank_refused with the fields of PRS_STATUS (R170). -/
def State.bankRefused (s : State) : State :=
  s.raise EV_prs_bank_refused 0xFFFF
    [s.get Reg.PRS_STATUS_FAIL_REASON, s.get Reg.PRS_STATUS_BAD_KIND, s.get Reg.PRS_STATUS_BAD_INDEX, s.get Reg.PRS_STATUS_BAD_RULE]

/-- A write of SWITCH (R155): validation of the inactive bank starts, or the write is refused as BUSY. -/
def State.bankSwitch (s : State) : State :=
  if s.on Reg.PRS_STATUS_SWITCH_BUSY then (s.set Reg.PRS_STATUS_FAIL_REASON 2).bankRefused
  else { ((s.set Reg.PRS_STATUS_SWITCH_BUSY 1).set Reg.PRS_BANK_CTRL_SWITCH 1) with prs := { s.prs with phase := .validating } }

/-! ## Validation (R156) -/

/-- Is a NEXT code reserved, or the name of a template that is not VALID (rule 2)? -/
def State.nextBad (s : State) (b n : Nat) : Bool :=
  if n < 1024 ∨ n = 0x1FFF then false
  else if 0x1000 ≤ n ∧ n ≤ 0x10FF then !s.on (Reg.PRS_TMPL_HDR_VALID b (n - 0x1000))
  else true

/-- Valid arms of a node. -/
def State.arms (s : State) (b n : Nat) : List Nat :=
  ((List.range 8).map (fun a => s.rd (Reg.PRS_NODE_ARM b n a))).filter (fun w => bit w 31)

/-- Valid extractions of a template. -/
def State.exts (s : State) (b t : Nat) : List Nat :=
  ((List.range 32).map (fun i => s.rd (Reg.PRS_TMPL_EXT b t i))).filter (fun w => bit w 0)

/-- Does node `n` of bank `b` break a rule? -/
def State.nodeBad (s : State) (b rule n : Nat) : Bool :=
  let m := s.rd (Reg.PRS_NODE_MATCH b n)
  let d := s.rd (Reg.PRS_NODE_DEFAULT b n)
  match rule with
  | 1 => if bit m 31 then decide (14 < bits m 23 16) else decide (254 < bits m 23 16)
  | 2 => s.nextBad b (bits d 12 0) || (s.arms b n).any (fun w => s.nextBad b (bits w 28 16))
  | 6 => !decide (bits m 30 24 = 0) || !decide (bits d 31 13 = 0) || (s.arms b n).any (fun w => !decide (bits w 30 29 = 0))
  | 7 => s.prsBad 0 b n
  | _ => false

/-- Does an extraction word reach past its source or the key (rule 3)? -/
def extBad (w : Nat) : Bool :=
  let wid := bits w 19 13 + 1
  decide ((if bit w 31 then 128 else 2048) < 8 * bits w 30 23 + bits w 22 20 + wid) || decide (512 < bits w 12 4 + wid)

/-- Does a lookup slot break rule 4? -/
def slotBad (i w : Nat) : Bool :=
  let k := bits w 25 24
  let n := bits w 12 8
  !decide (k = 0) && (decide (n = 0) || decide (16 < bits w 3 0 + n) || (decide (k = 3) && decide (5 < n)) || (decide (i = 2) && decide (k = 3)))

/-- Does template `t` of bank `b` break a rule? A template that is not VALID breaks none but rule 7. -/
def State.tmplBad (s : State) (b rule t : Nat) : Bool :=
  let h := s.rd (Reg.PRS_TMPL_HDR b t)
  let c := s.rd (Reg.PRS_TMPL_CHECK b t)
  let a := s.rd (Reg.PRS_TMPL_ACTIONS b t)
  let l := fun i => s.rd (Reg.PRS_TMPL_LOOKUP b t i)
  match rule with
  | 7 => s.prsBad 1 b t
  | r =>
    bit h 31 && (match r with
      | 3 => (s.exts b t).any extBad
      | 4 => slotBad 0 (l 0) || slotBad 1 (l 1) || slotBad 2 (l 2)
      | 5 => (bit h 30 && decide (254 < bits c 7 0)) ||
          (bit h 29 && (decide (256 < bits h 15 8 + 4 * bits h 19 16) || decide (bits h 19 16 < 5)))
      | 6 => !decide (bits h 28 20 = 0) || !decide (bits c 23 18 = 0) || !decide (bits c 15 8 = 0) || !decide (bits a 31 28 = 0) ||
          !decide (bits a 15 12 = 0) ||
          (List.range 3).any (fun i => !decide (bits (l i) 31 26 = 0) || !decide (bits (l i) 15 13 = 0) || !decide (bits (l i) 7 4 = 0)) ||
          (s.exts b t).any (fun w => !decide (bits w 3 1 = 0))
      | _ => false)

/-- The first failure of a bank: kind, index and rule, rules in order, nodes before templates. -/
def State.bankFail (s : State) (b : Nat) : Option (Nat × Nat × Nat) :=
  [1, 2, 3, 4, 5, 6, 7].findSome? (fun r =>
    match (List.range 1024).find? (s.nodeBad b r) with
    | some n => some (0, n, r)
    | none => ((List.range 256).find? (s.tmplBad b r)).map (fun t => (1, t, r)))

/-- Validation ends (R155 steps 2 and 3). -/
def State.validateDone (s : State) : State :=
  if s.prs.phase = .validating then
    match s.bankFail (1 - s.activeBank) with
    | some (k, i, r) =>
      let s := { ((s.set Reg.PRS_STATUS_SWITCH_BUSY 0).set Reg.PRS_BANK_CTRL_SWITCH 0) with prs := { s.prs with phase := .idle } }
      let s := (s.set Reg.PRS_STATUS_FAIL_REASON 1).set Reg.PRS_STATUS_BAD_KIND k
      ((s.set Reg.PRS_STATUS_BAD_INDEX i).set Reg.PRS_STATUS_BAD_RULE r).bankRefused
    | none => { s with prs := { s.prs with phase := .changing } }
  else s

/-- Every pipeline has changed banks (R155 step 4). -/
def State.switchDone (s : State) : State :=
  if s.prs.phase = .changing then
    let b := 1 - s.activeBank
    let s := { ((s.set Reg.PRS_STATUS_SWITCH_BUSY 0).set Reg.PRS_BANK_CTRL_SWITCH 0) with prs := { s.prs with phase := .idle } }
    ((s.set Reg.PRS_STATUS_ACTIVE_BANK b).set Reg.PRS_STATUS_PROGRAMMED 1).raise EV_prs_bank_switched 0xFFFF [b]
  else s

/-- A write of FORCE_ISOLATE: a running switch is abandoned (R155). -/
def State.forceIsolate (s : State) : State :=
  let s := s.set Reg.PRS_CFG_FORCE_ISOLATE 1
  if s.on Reg.PRS_STATUS_SWITCH_BUSY then
    let s := { ((s.set Reg.PRS_STATUS_SWITCH_BUSY 0).set Reg.PRS_BANK_CTRL_SWITCH 0) with prs := { s.prs with phase := .idle } }
    (s.set Reg.PRS_STATUS_FAIL_REASON 3).bankRefused
  else s

/-- Every pipeline has entered isolate mode (R155, R170). -/
def State.isolateDone (s : State) : State :=
  if s.on Reg.PRS_CFG_FORCE_ISOLATE then
    ((s.set Reg.PRS_CFG_FORCE_ISOLATE 0).set Reg.PRS_STATUS_PROGRAMMED 0).raise EV_prs_isolate 0xFFFF []
  else s

/-- BANK_SWITCH (R155). -/
def execBankSwitch (s : State) : Host.Outcome State Fault Refusal := s.write s.bankSwitch

/-- BANK_VALIDATE_DONE (R155). -/
def execBankValidateDone (s : State) : Host.Outcome State Fault Refusal := s.run s.validateDone

/-- BANK_SWITCH_DONE (R155). -/
def execBankSwitchDone (s : State) : Host.Outcome State Fault Refusal := s.run s.switchDone

/-- FORCE_ISOLATE (R155). -/
def execForceIsolate (s : State) : Host.Outcome State Fault Refusal := s.write s.forceIsolate

/-- FORCE_ISOLATE_DONE (R155). -/
def execForceIsolateDone (s : State) : Host.Outcome State Fault Refusal := s.run s.isolateDone

/-- The bank, kind and index of the entry that a bank word belongs to; none where the offset is no bank word (R171). -/
def bankEntry (a : Nat) : Option (Nat × Nat × Nat) :=
  if a < Reg.PRS_TMPL_HDR 0 0 ∨ Reg.PRS_ACTION 0 0 ≤ a then none
  else
    let o := a - Reg.PRS_TMPL_HDR 0 0
    let b := o / 0x20000
    if o % 0x20000 < 0x10000 then some (b, 1, o % 0x20000 / 0x100) else some (b, 0, (o % 0x20000 - 0x10000) / 0x40)

/-- A write to a bank word is stored, or dropped and counted in bank_write_refused (R155). -/
def State.bankWrite (s : State) (a v : Nat) : State :=
  match bankEntry a with
  | none => s
  | some (b, k, i) =>
    if (s.on Reg.PRS_STATUS_PROGRAMMED && decide (b = s.activeBank)) || (s.on Reg.PRS_STATUS_SWITCH_BUSY && !decide (b = s.activeBank)) then
      s.bump Reg.n_bank_write_refused
    else match rowAt a with
      | none => s
      | some _ => (s.wr a v).prsMend k b i

/-- PRS_BANK_WRITE (R155). -/
def execPrsBankWrite (addr v : Nat) (s : State) : Host.Outcome State Fault Refusal := s.write (s.bankWrite addr v)

/-- A commit of the staged action record (R165). -/
def State.actCommit (s : State) (i : Nat) : State :=
  let i := i % 4096
  let s := (s.set Reg.PRS_ACT_COMMIT_INDEX i).set Reg.PRS_ACT_COMMIT_GO 0
  let w := (List.range 4).map (fun j => s.rd (Reg.PRS_ACT_STAGE j))
  if i = 0 || !actionOk ((w.map (leBytes 4)).flatten) then s.set Reg.PRS_ACT_COMMIT_REFUSED 1
  else ((List.range 4).foldl (fun (s : State) (j : Nat) => s.wr (Reg.PRS_ACTION i j) (w.getD j 0)) s).prsMend 2 0 i

/-- PRS_ACT_COMMIT_GO (R165). -/
def execPrsActCommitGo (index : Nat) (s : State) : Host.Outcome State Fault Refusal := s.write (s.actCommit index)

/-- Is a staged edit profile refused (R166)? -/
def editBad (w : List Nat) : Bool :=
  let a := w.getD 0 0
  decide (128 < bits a 23 16) || decide (64 < bits a 15 8) || decide (128 < bits a 7 0) || !decide (bits a 31 24 = 0) ||
  !decide (bits (w.getD 1 0) 30 28 = 0) || ((w.drop 2).take 14).any (fun x => !decide (x = 0))

/-- A commit of the staged edit profile (R166). -/
def State.editCommit (s : State) (i : Nat) : State :=
  let i := i % 256
  let s := (s.set Reg.PRS_EDIT_COMMIT_INDEX i).set Reg.PRS_EDIT_COMMIT_GO 0
  let w := (List.range 32).map (fun j => s.rd (Reg.PRS_EDIT_STAGE j))
  if i = 0 || editBad w then s.set Reg.PRS_EDIT_COMMIT_REFUSED 1
  else ((List.range 32).foldl (fun (s : State) (j : Nat) => s.wr (Reg.PRS_EDIT i j) (w.getD j 0)) s).prsMend 3 0 i

/-- PRS_EDIT_COMMIT_GO (R166). -/
def execPrsEditCommitGo (index : Nat) (s : State) : Host.Outcome State Fault Refusal := s.write (s.editCommit index)

/-- The background scan reads every entry: `bad` are those found in error (R168). -/
def State.parityScan (s : State) (bad : List (Nat × Nat × Nat)) : State :=
  bad.foldl (fun (s : State) (b : Nat × Nat × Nat) =>
    if s.prs.bad.contains b then s
    else ({ s with prs := { s.prs with bad := s.prs.bad ++ [b] } }).raise EV_prs_parity 0xFFFF [b.1, b.2.1, b.2.2]) s

/-- PRS_PARITY_SCAN (R168). -/
def execPrsParityScan (bad : List (Nat × Nat × Nat)) (s : State) : Host.Outcome State Fault Refusal := s.run (s.parityScan bad)

/-! ## Classification (R151–R166) -/

/-- The bytes of the inspection window (R151). -/
def inspWindow (data : List Byte) (off len : Nat) : List Byte := slice (data.take 256) off len

/-- The 16-byte metadata block of a frame (R153). -/
def State.metadata (s : State) (f : Frame) (len tmpl : Nat) : List Byte :=
  let pi := if f.kind = 1 then 512 + f.port else f.port
  let cls := bits (s.rd (Reg.PRS_PORT_CLASS (pi / 8))) (4 * (pi % 8) + 3) (4 * (pi % 8))
  let dr := if f.kind = 1 then (f.drawer - 1) % 4096 else 0xFFFF
  let src := if f.kind = 2 then f.src else s.get Reg.CAS_DEV_ID_ID
  beBytes 2 f.port ++ beBytes 1 f.kind ++ beBytes 1 cls ++ beBytes 2 dr ++ beBytes 2 src ++ beBytes 2 len ++ beBytes 1 tmpl ++
  List.replicate 5 0

/-- Where a walk over the nodes ends (R158). -/
inductive Walk where
  | template (t : Nat)
  | noArm
  | depth
  | parity (n : Nat)
deriving DecidableEq, Repr

/-- A walk from node `n` of bank `b` (R157, R158). -/
def State.walk (s : State) (b : Nat) (data md : List Byte) : Nat → Nat → Walk
  | 0, _ => .depth
  | fuel + 1, n =>
    if s.prsBad 0 b n then .parity n
    else
      let m := s.rd (Reg.PRS_NODE_MATCH b n)
      let v := beNat (if bit m 31 then slice md (bits m 23 16) 2 else inspWindow data (bits m 23 16) 2)
      let v := Nat.land v (bits m 15 0)
      let next := match (s.arms b n).find? (fun w => decide (bits w 15 0 = v)) with
        | some w => bits w 28 16
        | none => bits (s.rd (Reg.PRS_NODE_DEFAULT b n)) 12 0
      if next < 1024 then s.walk b data md fuel next
      else if 0x1000 ≤ next ∧ next ≤ 0x10FF then .template (next - 0x1000)
      else .noArm

/-- The ones'-complement sum of 16-bit words. -/
def onesSum : List Byte → Nat → Nat
  | a :: b :: t, acc => let x := acc + a.toNat * 256 + b.toNat; onesSum t (x % 65536 + x / 65536)
  | [a], acc => let x := acc + a.toNat * 256; x % 65536 + x / 65536
  | [], acc => acc

/-- The reason a frame is malformed: 1 length floor, 2 length field, 3 checksum; 0 when it passes (R159). -/
def State.checkFrame (s : State) (b t len : Nat) (data : List Byte) : Nat :=
  let h := s.rd (Reg.PRS_TMPL_HDR b t)
  let c := s.rd (Reg.PRS_TMPL_CHECK b t)
  if len < bits h 7 0 then 1
  else if bit h 30 && decide (len < beNat (inspWindow data (bits c 7 0) 2) * 2 ^ bits c 17 16 + bits c 31 24) then 2
  else if bit h 29 && !decide (onesSum (inspWindow data (bits h 15 8) (4 * bits h 19 16)) 0 = 0xFFFF) then 3
  else 0

/-- A field in network bit order: `w` bits from bit `bitOff` of a byte string. -/
def bitField (l : List Byte) (bitOff w : Nat) : Nat :=
  let n := (bitOff % 8 + w + 7) / 8
  beNat (slice l (bitOff / 8) n) / 2 ^ (8 * n - bitOff % 8 - w) % 2 ^ w

/-- The 512-bit key of a frame (R161). -/
def State.buildKey (s : State) (b t : Nat) (data md : List Byte) : Nat :=
  (s.exts b t).foldl (fun k w =>
    let wid := bits w 19 13 + 1
    let v := bitField (if bit w 31 then md else data.take 256) (8 * bits w 30 23 + bits w 22 20) wid
    putBits k (bits w 12 4 + wid - 1) (bits w 12 4) v) 0

/-- Key words `i` to `i + n - 1`. -/
def keyWords (k i n : Nat) : List Nat := (List.range n).map (fun j => k / 2 ^ (32 * (i + j)) % 2 ^ 32)

/-- The action record of an index of the PRS action table, or none where it is in error. -/
def State.actionRec (s : State) (i : Nat) : Option (List Byte) :=
  if s.prsBad 2 0 i then none else some (((List.range 4).map (fun j => leBytes 4 (s.rd (Reg.PRS_ACTION i j)))).flatten)

/-- A lookup slot's result (R162, R163). -/
def State.slotLookup (s : State) (b t i key : Nat) : Option Found × State :=
  let w := s.rd (Reg.PRS_TMPL_LOOKUP b t i)
  if bits w 25 24 = 0 then (none, s) else s.lookup (bits w 25 24) (bits w 23 16) (keyWords key (bits w 3 0) (bits w 12 8))

/-- An incremental IPv4 header checksum update after a 16-bit word changes (RFC 1624). -/
def csumUpdate (old oldW newW : Nat) : Nat :=
  let x := (65535 - old) + (65535 - oldW) + newW
  let x := x % 65536 + x / 65536
  65535 - (x % 65536 + x / 65536)

/-- The front of a frame after an edit (R166): the bytes that replace the first ones and how many they replace. -/
def editFront (keep push strip : Nat) (img data : List Byte) (ttl : Option (Nat × Option Nat)) : List Byte × Nat :=
  let data := match ttl with
    | none => data
    | some (off, cs) =>
      let old := (data.getD off 0).toNat
      let d := overlay data off [BitVec.ofNat 8 (old - 1)]
      match cs with
      | none => d
      | some c =>
        let oldW := if (off + c) % 2 = 0 then old * 256 else old
        let newW := if (off + c) % 2 = 0 then (old - 1) * 256 else old - 1
        overlay d c (beBytes 2 (csumUpdate (beAt d c 2) oldW newW))
  let far := match ttl with
    | none => keep + strip
    | some (off, cs) => max (keep + strip) (max (off + 1) (match cs with
      | some c => c + 2
      | none => 0))
  (data.take keep ++ img.take push ++ (data.take far).drop (keep + strip), min far data.length)

end Sys2Proof.Machine
end

