-- ==== Sys2Proof/Machine/SealOps.lean ====
section
/-! DEFINITION. The key table and seal streams (R343–R354). -/

namespace Sys2Proof.Machine

/-- The key-table range of an owner: drawer `some d`, firmware `none` (R343, R364). -/
def State.ktRange (s : State) (o : Option Nat) : Nat × Nat :=
  match o with
  | some d => (s.get (Reg.ACC_DRW_KT_LOW_BASE d), s.get (Reg.ACC_DRW_KT_HIGH_COUNT d))
  | none => (s.get Reg.ACC_FW_KT_LOW_BASE, s.get Reg.ACC_FW_KT_HIGH_COUNT)

/-- The global index of an owner's local key index, if its range holds it and the table is there. -/
def State.ktIndex (s : State) (o : Option Nat) (i : Nat) : Option Nat :=
  let (b, n) := s.ktRange o
  if i < n ∧ b + i < 1024 * s.get Reg.ACC_CFG_KT_COUNT then some (b + i) else none

/-- An entry; a FREE one is not listed. -/
def State.ktEntry (s : State) (g : Nat) : KtEntry := mgetD s.acc.keys g { type := 0, users := 0, secret := [] }

/-- An entry written. -/
def State.setKt (s : State) (g : Nat) (e : KtEntry) : State :=
  { s with acc := { s.acc with keys := if e.type = 0 then mdel s.acc.keys g else mput s.acc.keys g e } }

/-- USERS of an entry moved. -/
def State.ktUsers (s : State) (g : Nat) (up : Bool) : State :=
  let e := s.ktEntry g
  if e.type = 0 then s else s.setKt g { e with users := if up then e.users + 1 else e.users - 1 }

/-- A seal stream. -/
def State.stream (s : State) (g : Nat) : Option SealStream := mget s.acc.streams g

/-- A seal stream written. -/
def State.setStream (s : State) (g : Nat) (x : SealStream) : State :=
  { s with acc := { s.acc with streams := mput s.acc.streams g x } }

/-- A message of a bound connection ended without a record (R349). -/
def State.sealGap (s : State) (g : Option Nat) : State :=
  match g with
  | none => s
  | some g => match s.stream g with
    | none => s
    | some x => s.setStream g { x with gap := true }

/-- A seal-ring credit reserved for a record, if one is free (R351). -/
def State.sealCredit (s : State) (g : Nat) : Option State :=
  match s.stream g with
  | none => some s
  | some x =>
    let r := s.ring x.ring
    if r.credits = 0 then none else some (s.setRing x.ring { r with reserved := r.reserved + 1 })

/-- A reserved seal-ring credit returns. -/
def State.sealReturn (s : State) (g : Option Nat) : State :=
  match g with
  | none => s
  | some g => match s.stream g with
    | none => s
    | some x => s.setRing x.ring { s.ring x.ring with reserved := (s.ring x.ring).reserved - 1 }

/-- The header RH_n of a record (R349). -/
def recordHead (n source seq time len : Nat) (gap readback : Bool) : List Byte :=
  beBytes 8 n ++ beBytes 4 source ++ beBytes 4 seq ++ beBytes 8 time ++ beBytes 8 len ++
  [BitVec.ofNat 8 (b2n gap + 2 * b2n readback)] ++ List.replicate 31 0

/-- A record is appended to a stream and its entry written to the seal ring (R349, R351). `ring` is the ring key shown. -/
def State.sealRecord (s : State) (g ring source seq : Nat) (data : List Byte) (readback : Bool) : State :=
  match s.stream g with
  | none => s
  | some x =>
    let n := x.next
    let t := s.now
    let link := sha256 (x.link ++ recordHead n source seq t data.length x.gap readback ++ sha256 data)
    let s := s.setStream g { x with next := n + 1, link := link, gap := false }
    let s := s.bump Reg.n_seal_records
    let s := if readback then s.bump Reg.n_seal_readback else s
    let r := s.ring x.ring
    let s := s.setRing x.ring { (r.wrote t) with reserved := r.reserved - 1 }
    (s.emit (.completion ring r.dev ST_OK seq n [t, leAt link 0 8])).signal x.ring

/-! ## NVM Express completions and failed targets (R358–R360) -/

/-- The completion entry of an NVM Express command is written to the queue bound to its submission queue (R91, R146). -/
def State.nvDone (s : State) (k cid status dw0 : Nat) : State :=
  if s.halted then s
  else
    let l := (s.ring k).link
    let c := s.ring l
    if c.st = .absent then s
    else
      let s := s.setRing l { (c.wrote s.now) with reserved := c.reserved - 1 }
      let s := s.setRing k { s.ring k with items := (s.ring k).items.filter (fun i => !decide (i.tag = cid)) }
      (s.emit (.nvme l (c.dev % c.nv) k ((s.ring k).dev % (s.ring k).nv) cid status dw0)).signal l

/-- SCT and SC of a Write Fault (R360). -/
def NV_WRITE_FAULT : Nat := 0x280

/-- A volume, by drawer × 32 + NSID. -/
def State.vol (s : State) (v : Nat) : Option Vol := mget s.acc.vols v

/-- A volume written. -/
def State.setVol (s : State) (v : Nat) (x : Vol) : State := { s with acc := { s.acc with vols := mput s.acc.vols v x } }

/-- Flushes of a volume whose targets have all answered, or failed, complete (R358, R360). -/
def State.flushesDone (s : State) (v : Nat) : State :=
  match s.vol v with
  | none => s
  | some x =>
    let (go, stay) := x.flushes.partition (fun f => f.waiting.isEmpty)
    let s := s.setVol v { x with flushes := stay }
    go.foldl (fun (s : State) (f : VolFlush) => s.nvDone f.ring f.tag (if f.good = 0 then NV_WRITE_FAULT else 0) 0) s

/-- A target becomes FAILED (R359): cause 1 its connection, 2 a refused access, 3 its commit answer. -/
def State.targetFail (s : State) (v t cause : Nat) : State :=
  match s.vol v with
  | none => s
  | some x => match mget x.targets t with
    | none => s
    | some y =>
      if y.failed then s
      else
        let fl := x.flushes.map (fun f => { f with waiting := f.waiting.filter (fun j => !decide (j = t)) })
        let s := s.setVol v { x with targets := mput x.targets t { y with failed := true, cursor := none }, flushes := fl }
        (s.raise EV_acc_target_failed (v / 32) [v % 32, t, cause]).flushesDone v

/-- The connection of a target has entered ERROR (R359). -/
def State.volConnFailed (s : State) (c : Nat) : State :=
  match (s.acc.vols.flatMap (fun e => (e.2.targets.filter (fun t => decide (t.2.conn = c))).map (fun t => (e.1, t.1)))).head? with
  | some (v, t) => s.targetFail v t 1
  | none => s

end Sys2Proof.Machine
end

