-- ==== Sys2Proof/Machine/XptOps.lean ====
section
/-! DEFINITION. Connections, packets, keys and loss recovery of the Spline transport (R247–R302). -/

namespace Sys2Proof.Machine

/-! ## Connections (R247–R250) -/

/-- A connection. -/
def State.conn (s : State) (c : Nat) : Conn := mgetD s.xpt.conns c Conn.unused

/-- Does a state count in CONNECTED of XPT_STATUS? -/
def liveConn (st : Nat) : Bool := decide (st = 2) || decide (st = 3)

/-- Trackers reserved to sealed drawers: 512 for each CONN granule (R250). -/
def State.trackReserved (s : State) : Nat :=
  s.drw.shares.foldl (fun a e => if s.sealed e.1 then
    (e.2.filter (fun h => decide (h.pool = 9))).foldl (fun b h => b + 512 * h.reserve) a else a) 0

/-- Free trackers outside the sealed reservations. -/
def State.trackCommon (s : State) : Nat :=
  262144 - s.trackReserved -
    s.xpt.conns.foldl (fun a e => a + (e.2.tracks.length - (if s.sealed e.2.drawer then 8 else 0))) 0

/-- XPT_TRACKERS follows the trackers, and xpt.tracker_low is raised or re-armed (R273). -/
def State.trackSync (s : State) : State :=
  let open' := s.xpt.conns.foldl (fun a e => a + e.2.tracks.length) 0
  let s := (s.set Reg.XPT_TRACKERS_FREE_K ((262144 - open') / 8)).set Reg.XPT_TRACKERS_RESERVED_K (s.trackReserved / 8)
  let f := s.trackCommon
  if f < 8192 ∧ !s.xpt.lowUp then
    ({ s with xpt := { s.xpt with lowUp := true } }).raise EV_xpt_tracker_low 0xFFFF [f]
  else if 16384 < f ∧ s.xpt.lowUp then { s with xpt := { s.xpt with lowUp := false } }
  else s

/-- A connection written; XPT_STATUS and the trackers follow it. -/
def State.setConn (s : State) (c : Nat) (x : Conn) : State :=
  let o := s.conn c
  let s := { s with xpt := { s.xpt with conns := mputD s.xpt.conns c x Conn.unused } }
  let s := if liveConn o.st && !liveConn x.st then s.dec Reg.XPT_STATUS_CONNECTED
    else if !liveConn o.st && liveConn x.st then s.inc Reg.XPT_STATUS_CONNECTED else s
  if o.tracks.length = x.tracks.length then s else s.trackSync

/-- The global number of the connection a transport ring belongs to (R116, R247). -/
def State.ringConn (s : State) (k : Nat) : Option Nat :=
  if isCtl k || !decide (ringNum k / 2 ^ 22 = 2) then none
  else nthIndex (s.extents (ringDrawer k) 9 64) (bits (ringNum k) 20 1)

/-- The local index of a connection within its drawer's grant. -/
def State.connLocal (s : State) (c : Nat) : Nat := (indexPos (s.extents (s.conn c).drawer 9 64) c 0).getD 0

/-- Key of a connection's send ring; its receive ring follows it. -/
def State.sendRing (s : State) (c : Nat) : Nat := ringKey (s.conn c).drawer (2 ^ 23 + 2 * s.connLocal c)

/-- A new LOCAL_TOKEN: never 0 and never the previous one (R248). -/
def State.drawToken (s : State) (prev : Nat) : Nat × State :=
  let (v, s) := s.free 32
  if prev = 0 then (1 + v % (2 ^ 32 - 1), s)
  else
    let t := 1 + v % (2 ^ 32 - 2)
    (if prev ≤ t then t + 1 else t, s)

/-- On-die context slots that a connection may use: its sealed drawer's reservation, or the rest (R250). -/
def State.cacheSlots (s : State) (c : Nat) : Nat × (Nat → Bool) :=
  let d := (s.conn c).drawer
  let own := fun (d : Nat) => if s.sealed d then ((s.share d 0xD 0xFFFF).map (·.reserve)).getD 0 * 64 else 0
  if 0 < own d then (own d, fun e => decide ((s.conn e).drawer = d))
  else (32768 - s.drw.shares.foldl (fun a e => a + own e.1) 0, fun e => decide (own (s.conn e).drawer = 0))

/-- A context enters the cache; the least recently used one of its division leaves it when there is no slot (R250). -/
def State.cacheIn (s : State) (c : Nat) : State :=
  let (n, same) := s.cacheSlots c
  let l := s.xpt.cache.filter (fun e => !decide (e = c))
  let mine := l.filter same
  let out := if mine.length < n then none else mine.getLast?
  let s := { s with xpt := { s.xpt with fetching := s.xpt.fetching.filter (fun e => !decide (e = c)),
                                        cache := c :: l.filter (fun e => !decide (some e = out)) } }
  if out.isSome then s.bump Reg.n_conn_cache_writeback else s

/-- Is a connection's context at hand? A hit moves it to the front; a miss begins its read (R250). -/
def State.context (s : State) (c : Nat) : Bool × State :=
  if s.xpt.cache.contains c then (true, (s.bump Reg.n_conn_cache_hit).cacheIn c)
  else if s.xpt.fetching.contains c then (false, s)
  else (false, ({ s with xpt := { s.xpt with fetching := s.xpt.fetching ++ [c] } }).bump Reg.n_conn_cache_miss)

/-- The local address of an index, as a 128-bit number in network order. -/
def State.localAddr (s : State) (i : Nat) : Nat :=
  ((List.range 4).map (fun w => s.get (Reg.XPT_LOCAL_ADDR_ADDR i w))).foldl (fun a w => a * 2 ^ 32 + w) 0

/-- WEIGHT of a path. -/
def Conn.weight (x : Conn) (i : Nat) : Nat := mgetD x.weights i 8

/-- PAYLOAD in bytes. -/
def Conn.mtu (x : Conn) : Nat := 256 * 2 ^ x.payload

/-- The paths that are up. -/
def Conn.upPaths (x : Conn) : List Nat := (List.range x.paths).filter (fun i => !bit x.down i)

/-- Registers with a floor of 1. -/
def State.atLeast1 (s : State) (f : Fld) : Nat := max 1 (s.get f)

/-- Largest window in bytes. -/
def State.cwndMax (s : State) : Nat := 1024 * max 4 (min 1024 (s.get Reg.XPT_CC_MAX_CWND_MAX))

/-- First window in bytes. -/
def State.cwndInit (s : State) : Nat := min s.cwndMax (1024 * max 4 (s.get Reg.XPT_CC_CFG_CWND_INIT))

/-- RTO_MAX in µs, at least RTO_MIN. -/
def State.rtoMax (s : State) : Nat := max (s.atLeast1 Reg.XPT_RTO_CFG_RTO_MIN) (s.get Reg.XPT_RTO_MAX_RTO_MAX)

/-! ## Ends of operations and connections (R248, R265, R269) -/

/-- An operation's completion (R265). -/
def State.opEnd (s : State) (o : XOp) (st count : Nat) : State := s.complete o.ref st count [o.seq, o.opcode]

/-- Quires a connection holds for packets and its retransmit list are released. -/
def State.dropPackets (s : State) (x : Conn) : State :=
  let s := x.unacks.foldl (fun (s : State) (u : XUnack) => s.release u.ptr) s
  let s := x.tracks.foldl (fun (s : State) (t : XTrack) => t.held.foldl (fun (s : State) h => s.release h.2.2) s) s
  match x.list with
  | some p => s.release p
  | none => s

/-- The receive of an open tracker, or of a withheld completion, ends with a status. -/
def State.recvEnd (s : State) (r : Ref) (st count seq opcode : Nat) (imm : Option Nat) : State :=
  s.complete r st count [seq, opcode, b2n imm.isSome, imm.getD 0]

/-- Every started and waiting operation except `but`, every open tracker's receive and every posted receive ends with FLUSHED. -/
def State.flushConn (s : State) (x : Conn) (but : Option Nat) : State :=
  let s := ((x.ops ++ x.wait).filter (fun o => !decide (some o.ref.index = but))).foldl
    (fun (s : State) (o : XOp) => s.opEnd o ST_FLUSHED o.acked) s
  let s := x.tracks.foldl (fun (s : State) (t : XTrack) =>
    let s := if t.sealed then s.sealReturn x.sealTo else s
    match t.recv with
    | some r => if t.short then s else (s.sealGap x.sealTo).recvEnd r.ref ST_FLUSHED t.got t.seq t.opcode t.imm
    | none => s) s
  let s := x.heldCpl.foldl (fun (s : State) (h : XHeld) => s.complete h.ref ST_FLUSHED h.count h.detail) s
  x.recvs.foldl (fun (s : State) (r : XRecv) => s.complete r.ref ST_FLUSHED 0 [r.seq, 0, 0, 0]) s

/-- A connection with its work gone and a state: the lists empty, the context kept. -/
def Conn.cleared (x : Conn) (st : Nat) : Conn :=
  { x with st := st, ops := [], wait := [], ctl := [], unacks := [], rtx := [], tracks := [], recvs := [], recvNext := 0,
           results := [], list := none, closeRef := none, heldCpl := [], heldReq := [], ackCnt := 0, ackCe := 0,
           ackPaths := 0, rNak := false, rGot := 0, rTotal := 0 }

/-- USERS of the security association falls when a connected connection becomes READY or UNUSED (R347). -/
def State.dropSa (s : State) (x : Conn) : State :=
  if x.enc then match s.ktIndex (some x.drawer) x.sa with
    | some g => s.ktUsers g false
    | none => s
  else s

/-- A connection returns to READY: its work ends with FLUSHED, a new token is drawn, and a waiting CONN_CLOSE completes (R248). -/
def State.toReady (s : State) (c : Nat) : State :=
  let x := s.conn c
  let s := (s.flushConn x none).dropPackets x
  let s := s.dropSa x
  let (t, s) := s.drawToken x.ltoken
  let s := s.setConn c { (x.cleared 1) with ltoken := t, enc := false, msn := 0, onum := 0 }
  match x.closeRef with
  | some r => s.complete r ST_OK 0 []
  | none => s

/-- A connection fails (R269): causes 1 retries, 2 receiver not ready, 3 notice, 4 poison, 5 ring stopped. -/
def State.connFail (s : State) (c cause st : Nat) (by' : Option Nat) : State :=
  let x := s.conn c
  if !liveConn x.st then s
  else
    let s := match (x.ops ++ x.wait).find? (fun o => decide (some o.ref.index = by')) with
      | some o => s.opEnd o st o.acked
      | none => s
    let s := (s.flushConn x by').dropPackets x
    let s := s.setConn c (x.cleared 4)
    let s := match x.closeRef with
      | some r => s.complete r ST_FLUSHED 0 []
      | none => s
    let s := (s.bump Reg.n_conn_error_count).bump (Reg.n_conn_errors x.drawer)
    let s := s.raiseTo x.drawer EV_xpt_conn_error x.drawer [s.connLocal c, cause, st]
    if x.vol then s.volConnFailed c else s

/-- The second transport ring of a connection has been created: it is READY (R248). -/
def State.connRings (s : State) (k : Nat) : State :=
  match s.ringConn k with
  | none => s
  | some c =>
    let base := k / 2 * 2
    if (s.ring base).st = .absent ∨ (s.ring (base + 1)).st = .absent then s
    else
      let (t, s) := s.drawToken (s.conn c).ltoken
      (s.setConn c { Conn.unused with st := 1, ltoken := t, drawer := ringDrawer k }).cacheIn c

/-- A transport ring is disabled: its connection fails (R248). -/
def State.connStop (s : State) (k : Nat) : State :=
  match s.ringConn k with
  | none => s
  | some c => s.connFail c 5 ST_FLUSHED none

/-- A connection becomes UNUSED; its LOCAL_TOKEN stays known to the draw of the next one, its context is zeroed (R248). -/
def State.connUnused (s : State) (c : Nat) (flush : Bool) : State :=
  let x := s.conn c
  let s := if flush then s.flushConn x none else (if x.tracks.isEmpty then s else s.sealGap x.sealTo)
  let s := (s.dropPackets x).dropSa x
  let s := s.setConn c Conn.unused
  { s with xpt := { s.xpt with cache := s.xpt.cache.filter (fun e => !decide (e = c)),
                               fetching := s.xpt.fetching.filter (fun e => !decide (e = c)) } }

/-- A transport ring is destroyed (R248). -/
def State.connGone (s : State) (k : Nat) : State :=
  match s.ringConn k with
  | none => s
  | some c => s.connUnused c true

/-! ## Packets on the wire (R275–R277, R296) -/

/-- The ones'-complement checksum field of a byte string. -/
def ipSum (l : List Byte) : Nat := 65535 - onesSum l 0

/-- Is a 128-bit address IPv4-mapped? -/
def isV4 (a : Nat) : Bool := decide (a / 2 ^ 32 = 0xFFFF)

/-- IP and UDP headers around a payload (R275). -/
def ipUdp (src dst sport dport dscp ecn : Nat) (pl : List Byte) : List Byte :=
  let ulen := 8 + pl.length
  let tos := dscp % 64 * 4 + ecn % 4
  let udp0 := beBytes 2 sport ++ beBytes 2 dport ++ beBytes 2 ulen
  let v4 := isV4 dst
  let pseudo := if v4 then beBytes 4 (src % 2 ^ 32) ++ beBytes 4 (dst % 2 ^ 32) ++ [0, 17] ++ beBytes 2 ulen
    else beBytes 16 src ++ beBytes 16 dst ++ beBytes 4 ulen ++ [0, 0, 0, 17]
  let c := ipSum (pseudo ++ udp0 ++ [0, 0] ++ pl)
  let udp := udp0 ++ beBytes 2 (if c = 0 then 0xFFFF else c) ++ pl
  if v4 then
    let h := fun (sum : Nat) => [0x45, BitVec.ofNat 8 tos] ++ beBytes 2 (20 + ulen) ++ [0, 0, 0x40, 0, 64, 17] ++ beBytes 2 sum ++
      beBytes 4 (src % 2 ^ 32) ++ beBytes 4 (dst % 2 ^ 32)
    h (ipSum (h 0)) ++ udp
  else beBytes 4 (6 * 2 ^ 28 + tos * 2 ^ 20) ++ beBytes 2 ulen ++ [17, 64] ++ beBytes 16 src ++ beBytes 16 dst ++ udp

/-- The Ethernet header of a packet the transport engine sends: the spec gives it no addresses, so they are free. -/
def State.ethHead (s : State) (v4 : Bool) : List Byte × State :=
  let a := slice (Config.freeBytes s.freeCtr 12) 0 12
  (a ++ (if v4 then [0x08, 0x00] else [0x86, 0xDD]), { s with freeCtr := s.freeCtr + 1 })

/-- The 32-byte Spline header (R276). -/
def splHead (wire flags transit dst src token psn seq off total : Nat) : List Byte :=
  [0x10, BitVec.ofNat 8 wire, BitVec.ofNat 8 flags, BitVec.ofNat 8 transit] ++ beBytes 4 dst ++ beBytes 4 src ++
  beBytes 4 token ++ beBytes 4 psn ++ beBytes 4 seq ++ beBytes 4 off ++ beBytes 4 total

/-- A whole frame toward a connection's peer on a path. -/
def State.xframe (s : State) (x : Conn) (path ecn : Nat) (pl : List Byte) : List Byte × State :=
  let dst := x.raddr
  let (e, s) := s.ethHead (isV4 dst)
  (e ++ ipUdp (s.localAddr x.laddr) dst (x.udpSrc + path) (if x.roce then 4791 else s.get Reg.XPT_CFG_UDP_PORT) x.dscp ecn pl, s)

/-- A payload as it goes on the wire: with ENC its ciphertext and ICV, which are free values. -/
def State.cipherOut (s : State) (enc : Bool) (pl : List Byte) : List Byte × State :=
  if enc then (slice (Config.freeBytes s.freeCtr (pl.length + 16)) 0 (pl.length + 16), { s with freeCtr := s.freeCtr + 1 })
  else (pl, s)

/-- The frame record of a packet in quire `p`. -/
def xptFrame (d gen p : Nat) (pre : List Byte) (skip : Nat) : Frame :=
  { quire := p, kind := 1, port := 0, drawer := d + 1, gen := gen, src := 0, rxTime := none, ref := none, tsReq := false,
    tmpl := 0, casc := none, pre := pre, skip := skip }

/-- A packet that is not kept (an acknowledgement or a notice) goes to the queue of its path; none where it gets no leaves. -/
def State.xtry (s : State) (x : Conn) (path : Nat) (pl : List Byte) : Option State :=
  let (b, s) := s.xframe x path 0 pl
  (s.allocDie (drMaster x.drawer) s.now b).map (fun e =>
    e.2.admitFrame (xptFrame x.drawer (e.2.drGen x.drawer) e.1 [] 0) (x.txq + path % x.qcount) none)

/-- A notice is sent and counted in `cnt`; without leaves it is not sent (R216, R288; DEDUCED, log entry 81). -/
def State.xsend (s : State) (x : Conn) (path : Nat) (pl : List Byte) (cnt : Nat) : State :=
  match s.xtry x path pl with
  | none => s.noLeaf (drMaster x.drawer)
  | some s => s.bump cnt

/-- An ACK is sent, and what it reports starts anew (R285). Without leaves it stays owed (R288). -/
def State.sendAck (s : State) (c : Nat) : State :=
  let x := s.conn c
  let path := x.ackPath % x.paths
  let ext := beBytes 4 x.rcvBase ++ beBytes 2 x.ackCnt ++ beBytes 2 x.ackCe ++ beBytes 8 x.ackPaths ++ beBytes 32 x.rcvMap
  let h := splHead 0x10 (32 * b2n x.enc) path x.rconn c x.rtoken x.ackSeq 0 0 0
  let (icv, s) := s.cipherOut x.enc []
  match s.xtry x path (h ++ ext ++ icv) with
  | none => s.noLeaf (drMaster x.drawer)
  | some s => (s.setConn c { x with ackSeq := (x.ackSeq + 1) % 2 ^ 32, ackCnt := 0, ackCe := 0, ackPaths := 0 }).bump Reg.n_acks_sent

/-- A NAK is sent (R287): reasons 1 RNR, 2 KEY_INVALID, 3 KEY_REVOKED, 4 REMOTE_ACCESS. -/
def State.sendNak (s : State) (c path psn reason : Nat) : State :=
  let x := s.conn c
  let path := path % x.paths
  let ext := beBytes 4 psn ++ beBytes 1 reason ++ [0, 0, 0] ++ beBytes 4 x.rcvBase ++ [0, 0, 0, 0]
  let h := splHead 0x11 (32 * b2n x.enc) path x.rconn c x.rtoken x.ackSeq 0 0 0
  let (icv, s) := s.cipherOut x.enc []
  match s.xtry x path (h ++ ext ++ icv) with
  | none => s.noLeaf (drMaster x.drawer)
  | some s => (s.setConn c { x with ackSeq := (x.ackSeq + 1) % 2 ^ 32 }).bump Reg.n_naks_sent

/-! ## Arriving packets (R268, R275–R283) -/

/-- A packet taken from a frame: addresses, whether it is marked CE, whether its UDP checksum holds, its UDP payload. -/
structure XPkt where
  src : Nat
  dst : Nat
  ce  : Bool
  ok  : Bool
  pl  : List Byte
deriving DecidableEq, Repr

/-- The UDP packet in an Ethernet frame, untagged or with one 802.1Q tag (R275). -/
def parseUdp (f : List Byte) : Option XPkt :=
  let o := if beAt f 12 2 = 0x8100 then 18 else 14
  let t := beAt f (o - 2) 2
  if t = 0x0800 then
    let ihl := 4 * (beAt f o 1 % 16)
    let u := o + ihl
    let ulen := beAt f (u + 4) 2
    if beAt f o 1 / 16 = 4 ∧ 20 ≤ ihl ∧ beAt f (o + 9) 1 = 17 ∧ 8 ≤ ulen ∧ u + ulen ≤ f.length then
      let pseudo := slice f (o + 12) 8 ++ [0, 17] ++ beBytes 2 ulen
      some { src := 0xFFFF * 2 ^ 32 + beAt f (o + 12) 4, dst := 0xFFFF * 2 ^ 32 + beAt f (o + 16) 4,
             ce := decide (beAt f (o + 1) 1 % 4 = 3),
             ok := decide (beAt f (u + 6) 2 = 0) || decide (onesSum (pseudo ++ slice f u ulen) 0 = 0xFFFF),
             pl := slice f (u + 8) (ulen - 8) }
    else none
  else if t = 0x86DD then
    let u := o + 40
    let ulen := beAt f (u + 4) 2
    if beAt f o 1 / 16 = 6 ∧ beAt f (o + 6) 1 = 17 ∧ 8 ≤ ulen ∧ u + ulen ≤ f.length then
      let pseudo := slice f (o + 8) 32 ++ beBytes 4 ulen ++ [0, 0, 0, 17]
      some { src := beAt f (o + 8) 16, dst := beAt f (o + 24) 16, ce := decide (beAt f o 4 / 2 ^ 20 % 4 = 3),
             ok := !decide (beAt f (u + 6) 2 = 0) && decide (onesSum (pseudo ++ slice f u ulen) 0 = 0xFFFF),
             pl := slice f (u + 8) (ulen - 8) }
    else none
  else none

/-- The extension length of a wire opcode (R277); none where the opcode is not listed. -/
def extLen (wire : Nat) (imm : Bool) : Option Nat :=
  match wire with
  | 0x01 => some (if imm then 8 else 0)
  | 0x02 => some (if imm then 24 else 16)
  | 0x03 => some 16
  | 0x04 => some 0
  | 0x05 | 0x06 => some 32
  | 0x07 => some 0
  | 0x0E | 0x0F => some 0
  | 0x10 => some 48
  | 0x11 => some 16
  | 0x12 => some 0
  | _ => none

/-- Is a Spline header well formed (R276, R277)? -/
def splOk (l : List Byte) : Bool :=
  let wire := beAt l 1 1
  match extLen wire (bit (beAt l 2 1) 6) with
  | none => false
  | some n =>
    decide (32 + n ≤ l.length) && decide (beAt l 0 1 = 0x10) && decide (beAt l 2 1 % 32 = 0) &&
    decide (beAt l 4 4 < 2 ^ 20) && decide (beAt l 8 4 < 2 ^ 20) &&
    (match wire with
      | 0x01 => !bit (beAt l 2 1) 6 || decide (beAt l 36 4 = 0)
      | 0x02 => decide (beAt l 36 4 = 0) && (!bit (beAt l 2 1) 6 || decide (beAt l 52 4 = 0))
      | 0x03 | 0x05 | 0x06 => decide (beAt l 36 4 = 0)
      | 0x11 => decide (beAt l 37 3 = 0) && decide (beAt l 44 4 = 0)
      | _ => true)

/-- A reset notice answers a packet that names an existing connection with the wrong token or in READY or ERROR (R268). -/
def State.sendNotice (s : State) (c : Nat) (l : List Byte) : State :=
  let x := s.conn c
  s.xsend x 0 (splHead 0x12 0 0 (beAt l 8 4) c (beAt l 12 4) 0 0 0 0) Reg.n_reset_notice_sent

/-- A PSN marked received: its bit is set, or RCV_BASE advances past it and the set bits that follow (R282). -/
def advance : Nat → Nat → Nat → Nat × Nat
  | 0, b, m => (b, m)
  | n + 1, b, m => if m % 2 = 1 then advance n ((b + 1) % 2 ^ 32) (m / 2) else (b, m)

/-- RCV_BASE and RCV_MAP after marking distance `d`. -/
def Conn.mark (x : Conn) (d : Nat) : Conn :=
  if d = 0 then
    let (b, m) := advance 257 ((x.rcvBase + 1) % 2 ^ 32) x.rcvMap
    -- bit 0 of RCV_MAP stands for RCV_BASE + 1, so after one step it stands for the new RCV_BASE
    { x with rcvBase := b, rcvMap := m / 2, rxEpoch := if b < x.rcvBase then x.rxEpoch + 1 else x.rxEpoch }
  else { x with rcvMap := x.rcvMap ||| 2 ^ (d - 1) }

/-- xpt.auth_fail at most once per millisecond per connection: 0 a packet, 1 an acknowledgement (R297). -/
def State.authFailed (s : State) (c what : Nat) : State :=
  let x := s.conn c
  let s := s.bump Reg.n_auth_fail
  let due := match x.authAt with
    | none => true
    | some t => decide (1000000 ≤ s.now - t)
  if due then (s.setConn c { x with authAt := some s.now }).raiseTo x.drawer EV_xpt_auth_fail x.drawer [s.connLocal c, what] else s

/-! ## Region keys (R262–R264) -/

/-- A key. -/
def State.key (s : State) (i : Nat) : XKey := mgetD s.xpt.keys i XKey.free

/-- A key written. -/
def State.setKey (s : State) (i : Nat) (k : XKey) : State :=
  { s with xpt := { s.xpt with keys := mputD s.xpt.keys i k XKey.free } }

/-- The local index of a key in its owner's grant. -/
def State.keyLocal (s : State) (i : Nat) : Nat := (indexPos (s.extents (s.key i).drawer 0xA 256) i 0).getD 0

/-- The refusal of an access to a region, or 0 (R263): bytes [roff, roff + n), access 0 read, 1 write, 2 atomic. -/
def State.keyCheck (s : State) (c rkey roff n access : Nat) : Nat :=
  let i := rkey % 2 ^ 22
  let k := s.key i
  let x := s.conn c
  if k.st = 0 ∨ k.tag ≠ bits rkey 31 22 then ST_KEY_INVALID
  else if k.drawer ≠ x.drawer ∨ (k.scopeEn ∧ k.scope ≠ c) then ST_KEY_INVALID
  else if k.st = 2 then ST_KEY_REVOKED
  else if !bit k.perm access then ST_KEY_INVALID
  else if k.len < roff + n ∨ (access = 2 ∧ (k.base + roff) % 8 ≠ 0) then ST_KEY_INVALID
  else 0

/-- A refusal is counted against the key owner's drawer and reported (R263, R273). -/
def State.keyRefused (s : State) (c rkey st src : Nat) : State :=
  let i := rkey % 2 ^ 22
  let k := s.key i
  let d := if k.st = 0 then (s.conn c).drawer else k.drawer
  let s := s.bump (Reg.n_key_refused d)
  let due := match k.evAt with
    | none => true
    | some t => decide (1000000 ≤ s.now - t)
  if due then
    let t := s.now
    (s.setKey i { k with evAt := some t }).raiseTo d EV_xpt_key_refused d [s.keyLocal i, st, src % 2 ^ 32]
  else s

/-- INFLIGHT of a key raised. -/
def State.keyUp (s : State) (i : Nat) : State := s.setKey i { s.key i with inflight := (s.key i).inflight + 1 }

/-- INFLIGHT of a key lowered. -/
def State.keyDown (s : State) (i : Nat) : State := s.setKey i { s.key i with inflight := (s.key i).inflight - 1 }

/-! ## Placement (R284) -/

/-- The pieces of a byte string laid over segments from an offset on. -/
def placeSegs : List (Nat × Nat) → Nat → List Byte → List (Nat × List Byte)
  | [], _, _ => []
  | (a, n) :: t, off, b =>
    if n ≤ off then placeSegs t (off - n) b
    else
      let h := b.take (n - off)
      (if h.isEmpty then [] else [(a + off, h)]) ++ placeSegs t 0 (b.drop (n - off))

/-- DMA writes toward a drawer's port. -/
def State.dmaWrite (s : State) (d : Nat) (l : List (Nat × List Byte)) : State :=
  match s.drPort d with
  | none => s
  | some q => l.foldl (fun (s : State) w => s.hostWrite q w.1 w.2) s

/-- Signed order of PSNs: `a` comes before `b`. -/
def psnLt (a b : Nat) : Bool := decide (0 < idxSub b a) && decide (idxSub b a < 2 ^ 31)

/-- A receive completion is written, or withheld while FENCE asks for it (R265, R267). -/
def State.recvDone (s : State) (c : Nat) (t : XTrack) (r : XRecv) : State :=
  let x := s.conn c
  let s := match x.sealTo with
    | some g =>
      if t.sealed then
        let data := t.parts.foldl (fun (l : List Byte) (p : Nat × List Byte) => overlay l p.1 p.2) (List.replicate t.total 0)
        s.sealRecord g r.ref.ring (s.connLocal c) t.seq data t.readback
      else s
    | none => s
  let d := [t.seq, t.opcode, b2n t.imm.isSome, t.imm.getD 0]
  let x := s.conn c
  if t.fence && psnLt x.rcvBase t.low then
    let h : XHeld := { low := t.low, seq := t.seq, ref := r.ref, count := t.total, detail := d }
    s.setConn c { x with heldCpl := x.heldCpl ++ [h] }
  else s.complete r.ref ST_OK t.total d

end Sys2Proof.Machine
end

