-- ==== Sys2Proof/Machine/Rings.lean ====
section
/-! DEFINITION. Commands of the ring engine: doorbells, slips, the admin ring pair, fetching, timers, frames on general rings and
the control slots (R114–R149). -/

namespace Sys2Proof.Machine

/-! ## Doorbells and slips -/

/-- A doorbell word counts on the port it arrives at. -/
def State.bellRx (s : State) (who : Nat) : State :=
  match s.whoPort who with
  | some q => s.bump (Reg.n_doorbells_rx q)
  | none => s

/-- A slip counts on the port it arrives at: among those honoured whole, or as one split across writes (R64, R78). -/
def State.slipRx (s : State) (who : Nat) (whole : Bool) : State :=
  match s.whoPort who with
  | some q => s.bump (if whole then Reg.n_slips_rx q else Reg.n_slip_split q)
  | none => s

/-- An attach slip is refused: reason 0 state, 1 whole, 2 field (R124, R148). -/
def State.attachRefuse (s : State) (d why : Nat) : State :=
  (s.bump (Reg.n_attach_refused d)).raiseTo d EV_ring_attach_refused d [why]

/-- Is every field of an attach slip in range (R124)? -/
def attachFields (b : List Byte) : Bool :=
  decide (leAt b 0 8 = 2 ^ 63) && decide (leAt b 8 8 % 4096 = 0) && decide (leAt b 16 8 % 4096 = 0) &&
  decide (6 ≤ leAt b 24 1) && decide (leAt b 24 1 ≤ 16) && decide (6 ≤ leAt b 25 1) && decide (leAt b 25 1 ≤ 16) &&
  (decide (leAt b 26 2 < 128) || decide (leAt b 26 2 = 0xFFFF)) && zeroBut b [(0, 28)]

/-- A ring as its creation leaves it (R118, R137). -/
def Ring.fresh (kind : RingKind) (log2 base link : Nat) (vec : Option Nat) (gen : Nat) : Ring :=
  { Ring.absent with st := .active, kind := kind, log2 := log2, base := base, link := link, vec := vec, gen := gen }

/-- A vector field: 0xFFFF names none. -/
def vecOf (v : Nat) : Option Nat := if v = 0xFFFF then none else some v

/-- ATTACH_SLIP (R124). -/
def State.opAttach (s : State) (d page : Nat) (whole : Bool) (b : List Byte) : State :=
  if !decide (page = 0) then s.bellDropped d
  else if !decide (s.drState d = 3) || !decide (s.get (Reg.DRW_DRAWER_STATUS_PERSONALITY d) = 0) ||
      !decide ((s.ring (ringKey d 0)).st = .absent) then s.attachRefuse d 0
  else if !whole || !decide (b.length = 64) then s.attachRefuse d 1
  else if !attachFields b then s.attachRefuse d 2
  else
    let c := ringKey d (2 ^ 22)
    let s := s.setRing (ringKey d 0) (Ring.fresh .sub (leAt b 24 1) (leAt b 8 8) c none (s.drGen d))
    s.setRing c (Ring.fresh .cpl (leAt b 25 1) (leAt b 16 8) 0 (vecOf (leAt b 26 2)) (s.drGen d))

/-- DOORBELL: an 8-byte write (R121). ATTACH outside an attach slip finds no whole slip. -/
def State.opDoorbell (s : State) (who w : Nat) : State :=
  let s := s.bellRx who
  if bit w 63 && decide (who < 4096) then s.attachRefuse who 1 else (s.doorbell who w).2

/-- Descriptors that a slip carries are used or discarded (R123). -/
def State.slipDescs (s : State) (who w first : Nat) (zero accepted : Bool) (descs : List (List Byte)) : State :=
  let k := bellKey who w
  let r := s.ring k
  let n := descs.length
  let ok := accepted && zero && !isCtl k && decide (r.kind = .sub) && idxLe ((first + n) % 2 ^ 32) r.peer &&
    (descs.zipIdx).all (fun e => decide (entryMark e.1 = ownerMark r.log2 ((first + e.2) % 2 ^ 32)))
  if ok then
    let l := (descs.zipIdx).filter (fun e => !idxLe (first + e.2 + 1) r.dev)
    s.setRing k { r with slips := l.foldl (fun m e => mput m ((first + e.2) % 2 ^ 32) e.1) r.slips }
  else if n = 0 ∨ 4096 ≤ who then s
  else s.bump (Reg.n_slip_rejected who)

/-- SLIP: a write of a header and up to seven descriptors (R64, R123). -/
def State.opSlip (s : State) (who off : Nat) (whole : Bool) (b : List Byte) : State :=
  let n := b.length / 64 - 1
  if !decide (off = 0) || b.isEmpty || !decide (b.length % 64 = 0) || decide (8 < b.length / 64) then
    if who < 4096 then s.bump (Reg.n_slip_malformed who) else s
  else
    let s := s.slipRx who whole
    let w := leAt b 0 8
    if bit w 63 && decide (who < 4096) then s.opAttach who 0 whole b
    else
      let (acc, s) := s.doorbell who w
      if !whole then s
      else s.slipDescs who w (leAt b 8 4) (zeroBut (b.take 64) [(0, 12)]) acc ((List.range n).map (fun j => slice b (64 * (j + 1)) 64))

def execDoorbell (who w : Nat) (s : State) : Host.Outcome State Fault Refusal := s.run (s.opDoorbell who w)

def execSlip (who off : Nat) (whole : Bool) (data : List Byte) (s : State) : Host.Outcome State Fault Refusal :=
  s.run (s.opSlip who off whole data)

def execAttachSlip (d page : Nat) (whole : Bool) (data : List Byte) (s : State) : Host.Outcome State Fault Refusal :=
  s.run ((s.slipRx d whole).opAttach d page whole data)

/-! ## The admin ring pair (R125) -/

/-- Indices of a drawer's grant in the pool that a local ring number draws on (R116). -/
def State.ringGranted (s : State) (d num : Nat) : Bool :=
  let j := num % 2 ^ 17
  match num / 2 ^ 22 with
  | 0 => decide (bits num 21 17 = 0) && decide (j < extentsLen (s.extents d 0xB 1))
  | 1 => decide (bits num 21 17 = 0) && decide (j < extentsLen (s.extents d 0xC 1))
  | 2 => decide (bits num 21 21 = 0) && decide (bits num 20 1 < extentsLen (s.extents d 9 64))
  | _ => false

/-- NOP. -/
def State.opNop (s : State) (r : Ref) (e : List Byte) : State :=
  if !zeroBut e [(0, 8)] then s.fail r ST_BAD_FLAGS else s.complete r ST_OK 0 []

/-- RING_CREATE. -/
def State.opRingCreate (s : State) (r : Ref) (e : List Byte) : State :=
  let d := ringDrawer r.ring
  let num := leAt e 8 4
  let c := ringKey d (2 ^ 22 + leAt e 14 2)
  let mir := bit (leAt e 13 1) 1
  if leAt e 12 1 < 6 ∨ 16 < leAt e 12 1 then s.fail r ST_BAD_LENGTH
  else if leAt e 16 8 % 4096 ≠ 0 ∨ (mir ∧ leAt e 24 8 % 8 ≠ 0) then s.fail r ST_BAD_POINTER
  else if !zeroBut e [(0, 32)] || !decide (num / 2 ^ 24 = 0) || !decide (leAt e 13 1 = 0 ∨ leAt e 13 1 = 2) then
    s.fail r ST_BAD_FLAGS
  else if decide (num / 2 ^ 22 = 1) || !s.ringGranted d num || decide (num = 0) ||
      !decide ((s.ring (ringKey d num)).st = .absent) || !decide ((s.ring c).st = .active) ||
      !decide ((s.ring c).kind = .cpl) then s.fail r ST_BAD_RING_REF
  else
    let x := Ring.fresh .sub (leAt e 12 1) (leAt e 16 8) c none (s.drGen d)
    let s := s.setRing (ringKey d num) { x with mirror := if mir then some (leAt e 24 8) else none }
    (s.connRings (ringKey d num)).complete r ST_OK 0 []

/-- CPL_CREATE. -/
def State.opCplCreate (s : State) (r : Ref) (e : List Byte) : State :=
  let d := ringDrawer r.ring
  let num := leAt e 8 4
  let ev := bit (leAt e 13 1) 0
  if leAt e 12 1 < 6 ∨ 16 < leAt e 12 1 then s.fail r ST_BAD_LENGTH
  else if leAt e 16 8 % 4096 ≠ 0 then s.fail r ST_BAD_POINTER
  else if !zeroBut e [(0, 24), (32, 4)] || !decide (num / 2 ^ 24 = 0) || !decide (leAt e 13 1 ≤ 1) ||
      !(decide (leAt e 14 2 < 128) || decide (leAt e 14 2 = 0xFFFF)) then s.fail r ST_BAD_FLAGS
  else if !decide (num / 2 ^ 22 = 1) || !s.ringGranted d num || !decide ((s.ring (ringKey d num)).st = .absent) ||
      (ev && (s.eventRing d).isSome) then s.fail r ST_BAD_RING_REF
  else
    let x := Ring.fresh (if ev then .evt else .cpl) (leAt e 12 1) (leAt e 16 8) 0 (vecOf (leAt e 14 2)) (s.drGen d)
    (s.setRing (ringKey d num) { x with modCount := leAt e 32 2, modUsec := leAt e 34 2 }).complete r ST_OK 0 []

/-- RING_DISABLE (R126): the ring flushes; the command completes when its last item has ended. -/
def State.opRingDisable (s : State) (r : Ref) (e : List Byte) : State :=
  let k := ringKey (ringDrawer r.ring) (leAt e 8 4)
  let x := s.ring k
  if !zeroBut e [(0, 12)] || !decide (leAt e 8 4 / 2 ^ 24 = 0) then s.fail r ST_BAD_FLAGS
  else if decide (leAt e 8 4 = 0) || !decide (x.kind = .sub) || !decide (x.st = .active) then s.fail r ST_BAD_RING_REF
  else
    let i : Item := { index := r.index, opcode := 0x04, tag := r.tag, cplReq := r.cplReq, order := false, flags := 0, chain := 0,
                      started := true, posted := false, segs := [], body := [] }
    let s := s.setRing k { x with st := .flushing, slips := [], waitQuit := some i }
    (s.connStop k).flushItems k

/-- RING_DESTROY. -/
def State.opRingDestroy (s : State) (r : Ref) (e : List Byte) : State :=
  let d := ringDrawer r.ring
  let k := ringKey d (leAt e 8 4)
  let x := s.ring k
  let bound := s.rings.any (fun y => decide (ringDrawer y.1 = d) && decide (y.2.kind = .sub) && decide (y.2.link = k))
  if !zeroBut e [(0, 12)] || !decide (leAt e 8 4 / 2 ^ 24 = 0) then s.fail r ST_BAD_FLAGS
  else if decide (leAt e 8 4 = 0) || decide (x.st = .absent) ||
      (if x.kind = .sub then !decide (x.st = .stopped) else bound) then s.fail r ST_BAD_RING_REF
  else ((s.connGone k).setRing k Ring.absent).complete r ST_OK 0 []

/-- CPL_MODERATE. -/
def State.opCplModerate (s : State) (r : Ref) (e : List Byte) : State :=
  let k := ringKey (ringDrawer r.ring) (leAt e 8 4)
  let x := s.ring k
  if !zeroBut e [(0, 12), (32, 4)] || !decide (leAt e 8 4 / 2 ^ 24 = 0) then s.fail r ST_BAD_FLAGS
  else if decide (x.st = .absent) || decide (x.kind = .sub) then s.fail r ST_BAD_RING_REF
  else ((s.setRing k { x with modCount := leAt e 32 2, modUsec := leAt e 34 2 }).signal k).complete r ST_OK 0 []

def execNop (r : Ref) (e : List Byte) (s : State) : Host.Outcome State Fault Refusal := s.run (s.work r (·.opNop r e))
def execRingCreate (r : Ref) (e : List Byte) (s : State) : Host.Outcome State Fault Refusal :=
  s.run (s.work r (·.opRingCreate r e))
def execCplCreate (r : Ref) (e : List Byte) (s : State) : Host.Outcome State Fault Refusal :=
  s.run (s.work r (·.opCplCreate r e))
def execRingDisable (r : Ref) (e : List Byte) (s : State) : Host.Outcome State Fault Refusal :=
  s.run (s.work r (·.opRingDisable r e))
def execRingDestroy (r : Ref) (e : List Byte) (s : State) : Host.Outcome State Fault Refusal :=
  s.run (s.work r (·.opRingDestroy r e))
def execCplModerate (r : Ref) (e : List Byte) (s : State) : Host.Outcome State Fault Refusal :=
  s.run (s.work r (·.opCplModerate r e))

/-! ## Fetching and timers -/

/-- RING_FETCH: entries read from the ring's consumer index on, or a read that failed with a status (R68, R132, R141). -/
def State.opRingFetch (s : State) (k stat : Nat) (entries : List (List Byte)) : State :=
  if !s.fetches k then s
  else if stat ≠ 0 then
    if (s.ring k).waiting = 0 then s
    else if (s.ring (s.ring k).link).credits = 0 then s.starve k
    else s.fetchFailed k stat
  else actLoop k (s.ring k).dev entries (entries.length + 8) s

def execRingFetch (k stat : Nat) (entries : List (List Byte)) (s : State) : Host.Outcome State Fault Refusal :=
  s.run (s.opRingFetch k stat entries)

def execRingStopped (k : Nat) (s : State) : Host.Outcome State Fault Refusal := s.run (s.stopIfDone k)

/-- OWNER_STALE_RETRY: the `tries`-th re-read of an entry within the producer index finds its mark stale; after 100 of them the
producer index ends before the entry (R133). -/
def State.opOwnerStale (s : State) (k tries : Nat) : State :=
  let r := s.ring k
  if !s.fetches k || decide (r.waiting = 0) || decide (tries < 100) then s
  else
    let s := s.setRing k { r with limit := r.dev }
    let s := if isCtl k then s else s.bump (Reg.n_owner_stale (ringDrawer k))
    s.raiseRing k EV_ring_owner_stale [r.dev]

def execOwnerStaleRetry (k tries : Nat) (s : State) : Host.Outcome State Fault Refusal := s.run (s.opOwnerStale k tries)

/-- HEAD_MIRROR_TIMER (R127). -/
def State.opMirrorTimer (s : State) (k : Nat) : State :=
  if (s.ring k).mirrorAt = (s.ring k).dev then s else s.mirrorNow k

def execHeadMirrorTimer (k : Nat) (s : State) : Host.Outcome State Fault Refusal := s.run (s.opMirrorTimer k)

/-- CQ_STARVE_TIMER: a ring has been starved for CQ_STARVE_US without a break (R136). -/
def State.opCqStarve (s : State) (k : Nat) : State :=
  let r := s.ring k
  let c := s.ring r.link
  if !r.starved || c.starveUp || decide (r.waiting = 0) then s
  else
    let s := s.setRing r.link { c with starveUp := true }
    let s := if isCtl k then s else s.bump (Reg.n_cq_starved_count (ringDrawer k))
    s.raiseRing r.link EV_ring_cq_starved [ringNum k, r.waiting]

def execCqStarveTimer (k : Nat) (s : State) : Host.Outcome State Fault Refusal := s.run (s.opCqStarve k)

/-- MSIX_MOD_TIMER (R137). -/
def State.opModTimer (s : State) (k : Nat) : State :=
  if (s.ring k).armed && decide (0 < (s.ring k).unsig) then s.sendSignal k else s

def execMsixModTimer (k : Nat) (s : State) : Host.Outcome State Fault Refusal := s.run (s.opModTimer k)

/-! ## Frames on general rings (R128–R131) -/

/-- The segments of a FRAME_SEND or FRAME_RECV, or the status it fails with (R129). -/
def frameSegs (e : List Byte) (conts : List (List Byte)) : Except Nat (List (Nat × Nat)) :=
  if leAt e 16 4 < 14 ∨ 9212 < leAt e 16 4 then .error ST_BAD_LENGTH
  else match segList (leAt e 8 8) (leAt e 20 4) (leAt e 16 4) conts with
    | .error st => .error st
    | .ok l => if zeroBut e [(0, 24)] then .ok l else .error ST_BAD_FLAGS

/-- FRAME_SEND: the frame is read by DMA under the drawer's master ID (R130). -/
def State.opFrameSend (s : State) (r : Ref) (e : List Byte) (conts : List (List Byte)) : State :=
  match frameSegs e conts with
  | .error st => s.fail r st
  | .ok l =>
    let d := ringDrawer r.ring
    match s.drPort d with
    | none => s
    | some q => s.queueReads q d r .frame l

def execFrameSend (r : Ref) (e : List Byte) (conts : List (List Byte)) (s : State) : Host.Outcome State Fault Refusal :=
  s.run (s.work r (·.opFrameSend r e conts))

/-- A receive buffer posted on a ring, the item created where the ring does not list it. -/
def State.postItem (s : State) (r : Ref) (op : Nat) (segs : List (Nat × Nat)) : State :=
  let x := s.ring r.ring
  if x.items.any (fun i => decide (i.index = r.index)) then
    s.setRing r.ring { x with items := x.items.map (fun i => if i.index = r.index then { i with posted := true, segs := segs } else i) }
  else
    let i : Item := { index := r.index, opcode := op, tag := r.tag, cplReq := r.cplReq, order := false, flags := 0, chain := 0,
                      started := true, posted := true, segs := segs, body := [] }
    s.setRing r.ring { x with items := x.items ++ [i] }

/-- FRAME_RECV posts one buffer (R131). -/
def State.opFrameRecv (s : State) (r : Ref) (e : List Byte) (conts : List (List Byte)) : State :=
  match frameSegs e conts with
  | .error st => s.fail r st
  | .ok l => s.postItem r 0x11 l

def execFrameRecv (r : Ref) (e : List Byte) (conts : List (List Byte)) (s : State) : Host.Outcome State Fault Refusal :=
  s.run (s.work r (·.opFrameRecv r e conts))

/-! ## Control slots (R149) -/

/-- The doorbell word of its two halves. -/
def bellWord (hi lo : Nat) : Nat := 2 ^ 32 * hi + lo

/-- A write to RING_DOORBELL_HIGH delivers the word formed with RING_DOORBELL_LOW (R149). -/
def State.opCtlDoorbell (s : State) (v : Nat) : State :=
  let s := s.wr (Reg.RING_DOORBELL + 4) v
  (s.bell 4096 (bellWord v (s.rd Reg.RING_DOORBELL))).2

def execControlDoorbellReg (v : Nat) (s : State) : Host.Outcome State Fault Refusal := s.write (s.opCtlDoorbell v)

/-- May slot `c` be enabled with this configuration word and base (R116, R149)? -/
def slotOk (c v base : Nat) : Bool :=
  let kind := bits v 29 28
  (if c ≤ 5 then decide (kind = 0) else if c = 6 then decide (kind = 1) else if c = 7 then decide (kind = 2)
   else decide (kind ≤ 1)) &&
  decide (6 ≤ bits v 20 16) && decide (bits v 20 16 ≤ 16) && decide (base % 4096 = 0)

/-- Events held before slot 7 opened are written, and err.colophon is raised after a halt (R485, R501). -/
def State.slotSeven (s : State) : State :=
  let l := s.err.holdEv
  let s := { s with err := { s.err with holdEv := [] } }
  let s := l.foldl (fun (s : State) (e : Event) => s.record (ctlKey 7) Reg.n_mgr_event_lost e) s
  let s := match s.boot.failEv with
    | some (k, why) => { (s.raise EV_boot_proof_failed 0xFFFF [k, why]) with boot := { s.boot with failEv := none } }
    | none => s
  if s.err.coloEvent then
    let s := { s with err := { s.err with coloEvent := false } }
    let full := (mget s.err.dumps s.err.half).filter (fun d => decide (d.seq = s.err.dumpSeq))
    match full.or s.err.short with
    | some d => s.raise EV_err_colophon 0xFFFF [s.err.half, d.seq, d.cause, b2n d.complete + 2 * b2n d.truncated + 4 * b2n d.oneStack + 8 * b2n d.secLost]
    | none => s
  else s

/-- ENABLE set in RING_CTL_CFG (R149). A slot that is still flushing is not opened. -/
def State.opSlotEnable (s : State) (c v : Nat) : State :=
  let k := ctlKey c
  if s.on (Reg.RING_CTL_CFG_ENABLE c) || decide ((s.ring k).st = .flushing) then s
  else
    let keep := putBits v 31 31 0 % 2 ^ 32
    let base := s.get (Reg.RING_CTL_BASE_BASE c)
    if !slotOk c v base then
      (s.wr (Reg.RING_CTL_CFG c) (Nat.land keep 0x391F3FFF)).setRing k { s.ring k with lastStat := ST_BAD_FLAGS }
    else
      let s := s.wr (Reg.RING_CTL_CFG c) (Nat.land v 0xB91F3FFF)
      let kind := match bits v 29 28 with
        | 0 => RingKind.sub
        | 1 => RingKind.cpl
        | _ => RingKind.evt
      let x := Ring.fresh kind (bits v 20 16) base (ctlKey (bits v 13 8)) (if bit v 24 then some (bits v 7 0) else none) 0
      let s := s.setRing k { x with inDev := bit v 27, modCount := s.get (Reg.RING_CTL_MOD_MOD_COUNT c),
                                    modUsec := s.get (Reg.RING_CTL_MOD_MOD_USEC c) }
      if c = 7 then s.slotSeven else s

/-- ENABLE cleared: the slot stops under R126. -/
def State.opSlotDisable (s : State) (c : Nat) : State :=
  let k := ctlKey c
  if !s.on (Reg.RING_CTL_CFG_ENABLE c) then s
  else
    let s := s.set (Reg.RING_CTL_CFG_ENABLE c) 0
    let r := s.ring k
    match r.st, r.kind with
    | .active, .sub => ((s.setRing k { r with st := .flushing, slips := [] }).flushItems k)
    | .active, _ => s.setRing k { r with st := .stopped }
    | _, _ => s

/-- The handover: control slots 0 to 7 stop under R126 and return to ABSENT (R475). -/
def State.handover (s : State) : State :=
  let s := (List.range 8).foldl (fun (s : State) c => (s.opSlotDisable c).setRing (ctlKey c) Ring.absent) s
  (s.set Reg.BOOT_CTRL_HANDOFF 1).set Reg.BOOT_STATUS_HANDOFF 1

/-- A write of the manager to a slot's RING_CTL_CFG is the handover, where it has not happened yet (R475). -/
def State.slotTaken (s : State) (c : Nat) : State :=
  if decide (c < 8) && decide (s.get Reg.BOOT_STATUS_MODE = 1) && !s.on Reg.BOOT_STATUS_HANDOFF then s.handover else s

def execControlSlotEnable (c v : Nat) (s : State) : Host.Outcome State Fault Refusal := s.write ((s.slotTaken c).opSlotEnable c v)

/-- A write of RING_CTL_CFG with ENABLE clear: while the slot is enabled no other field changes. -/
def State.opSlotOff (s : State) (c v : Nat) : State :=
  if s.on (Reg.RING_CTL_CFG_ENABLE c) then s.opSlotDisable c else s.wr (Reg.RING_CTL_CFG c) (Nat.land v 0x391F3FFF)

def execControlSlotDisable (c v : Nat) (s : State) : Host.Outcome State Fault Refusal := s.write ((s.slotTaken c).opSlotOff c v)

end Sys2Proof.Machine
end

