-- ==== Sys2Proof/Machine/XptRx.lean ====
section
/-! DEFINITION. The receiving side of the Spline transport: windows, trackers, key checks and answers (R259–R268, R282–R287). -/

namespace Sys2Proof.Machine

/-- One arriving packet's fields (R276), and the quire it lies in. -/
structure XIn where
  psn   : Nat
  wire  : Nat
  fence : Bool
  imm   : Option Nat
  seq   : Nat
  off   : Nat
  total : Nat
  rkey  : Nat
  roff  : Nat
  op1   : Nat
  op2   : Nat
  data  : List Byte
  path  : Nat
  ack   : Bool
  ce    : Bool
  src   : Nat
  ptr   : Nat
deriving DecidableEq, Repr

/-- The fields of a Spline packet in a UDP payload; `data` is its plain payload. -/
def splIn (k : XPkt) (ptr : Nat) (data : List Byte) : XIn :=
  let l := k.pl
  let wire := beAt l 1 1
  let imm := bit (beAt l 2 1) 6
  { psn := beAt l 16 4, wire := wire, fence := bit (beAt l 2 1) 7,
    imm := if imm then some (beAt l (if wire = 2 then 48 else 32) 4) else none,
    seq := beAt l 20 4, off := beAt l 24 4, total := beAt l 28 4, rkey := beAt l 32 4, roff := beAt l 40 8,
    op1 := beAt l 48 8, op2 := beAt l 56 8, data := data, path := beAt l 3 1 % 64, ack := bit (beAt l 3 1) 7, ce := k.ce,
    src := k.src, ptr := ptr }

/-- The reason a NAK gives for a refusal status (R287). -/
def nakReason (st : Nat) : Nat := if st = ST_KEY_INVALID then 2 else if st = ST_KEY_REVOKED then 3 else 4

/-- A tracker replaced, or removed when `t` is none. -/
def Conn.putTrack (x : Conn) (read : Bool) (seq : Nat) (t : Option XTrack) : Conn :=
  let l := x.tracks.filter (fun e => !(decide (e.read = read) && decide (e.seq = seq)))
  { x with tracks := match t with
      | some t => l ++ [t]
      | none => l }

/-- A tracker of a connection. -/
def Conn.track (x : Conn) (read : Bool) (seq : Nat) : Option XTrack :=
  x.tracks.find? (fun e => decide (e.read = read) && decide (e.seq = seq))

/-- Is a tracker free for a connection (R250, R259)? -/
def State.trackFree (s : State) (c : Nat) : Bool :=
  let x := s.conn c
  decide (x.tracks.length < 64) && ((s.sealed x.drawer && decide (x.tracks.length < 8)) || decide (0 < s.trackCommon))

/-- A receiver-not-ready answer (R259). -/
def State.rnr (s : State) (c : Nat) (p : XIn) : State := (s.sendNak c p.path p.psn 1).bump Reg.n_rnr_sent

/-- A refusal of an access: counted, reported and answered (R263, R287). -/
def State.refuse (s : State) (c : Nat) (p : XIn) (st : Nat) : State :=
  (s.keyRefused c p.rkey st p.src).sendNak c p.path p.psn (nakReason st)

/-- How far the bytes at hand reach without a gap from a cursor. -/
def contEnd (parts : List (Nat × List Byte)) : Nat → Nat → Nat
  | 0, cur => cur
  | n + 1, cur =>
    match parts.find? (fun e => decide (e.1 = cur) && !e.2.isEmpty) with
    | some e => contEnd parts n (cur + e.2.length)
    | none => cur

/-- The seal engine's view of a placed packet: hashed at the cursor, or its quire held beyond it (R350). -/
def State.sealPart (s : State) (c : Nat) (t : XTrack) (p : XIn) : XTrack × State :=
  if !t.sealed || p.data.isEmpty then (t, s)
  else
    let parts := t.parts ++ [(p.off, p.data)]
    let (hd, rb, s) :=
      if p.off ≤ t.cursor then (t.held, t.readback, s)
      else match s.hold p.ptr (drMaster (s.conn c).drawer) with
        | (true, s) => (t.held ++ [(p.off, p.data.length, p.ptr)], t.readback, s)
        | (false, s) => (t.held, true, s)
    let cur := contEnd parts (parts.length + 1) t.cursor
    let s := (hd.filter (fun h => decide (h.1 < cur))).foldl (fun (s : State) (h : Nat × Nat × Nat) => s.release h.2.2) s
    ({ t with parts := parts, cursor := cur, held := hd.filter (fun h => !decide (h.1 < cur)), readback := rb }, s)

/-- A packet of a message with a tracker (R259, R284): whether it is marked received. -/
def State.placeRecv (s : State) (c : Nat) (p : XIn) (t : XTrack) (base : Option Nat) : Bool × State :=
  if p.total ≠ t.total ∨ t.total < p.off + p.data.length then (false, s.bump Reg.n_place_mismatch)
  else
    let d := (s.conn c).drawer
    let got := t.got + p.data.length
    let low := if psnLt p.psn t.low then p.psn else t.low
    if t.short then
      let s := s.sendNak c p.path p.psn 4
      let x := s.conn c
      (true, s.setConn c (x.putTrack false t.seq (if got = t.total then none else some { t with got := got })))
    else
      let s := match base, t.recv with
        | some a, _ => s.dmaWrite d [(a + p.off, p.data)]
        | none, some r => s.dmaWrite d (placeSegs r.segs p.off p.data)
        | none, none => s
      let (t, s) := s.sealPart c { t with got := got, low := low } p
      let x := s.conn c
      if got = t.total then
        let s := s.setConn c (x.putTrack false t.seq none)
        match t.recv with
        | some r => (true, s.recvDone c t r)
        | none => (true, s)
      else (true, s.setConn c (x.putTrack false t.seq (some t)))

/-- The first packet of a message creates its tracker, or draws a receiver-not-ready answer (R259, R351). -/
def State.openTrack (s : State) (c : Nat) (p : XIn) (opcode : Nat) : Option XTrack × State :=
  let x := s.conn c
  match x.recvs.find? (fun r => decide (r.seq = p.seq)) with
  | none => (none, s.rnr c p)
  | some r =>
    if !s.trackFree c then (none, (s.rnr c p).bump Reg.n_tracker_full)
    else
      let bound := x.sealTo.isSome && !x.unbind
      match (if bound then (match x.sealTo with
          | some g => s.sealCredit g
          | none => some s) else some s) with
      | none => (none, (s.rnr c p).bump Reg.n_seal_rnr)
      | some s =>
        let short := decide (opcode = 0x30) && decide (r.cap < p.total)
        let t : XTrack := { read := false, seq := p.seq, total := p.total, got := 0, short := short, opcode := opcode, imm := p.imm,
                            fence := p.fence, low := p.psn, recv := some r, sealed := bound && !short, parts := [],
                            held := [], cursor := 0, readback := false }
        let s := s.setConn c ({ x with recvs := x.recvs.filter (fun e => !decide (e.seq = p.seq)) }.putTrack false p.seq (some t))
        if short then
          let s := if bound then (s.sealReturn x.sealTo).sealGap x.sealTo else s
          let s := s.bump Reg.n_recv_too_short
          (some t, s.recvEnd r.ref ST_RECV_TOO_SHORT 0 p.seq opcode p.imm)
        else (some t, s)

/-- A packet of a message that consumes a posted receive. -/
def State.recvIn (s : State) (c : Nat) (p : XIn) (opcode : Nat) (base : Option Nat) : Bool × State :=
  match (s.conn c).track false p.seq with
  | some t => s.placeRecv c p { t with fence := t.fence || p.fence, imm := if t.imm.isSome then t.imm else p.imm } base
  | none =>
    match s.openTrack c p opcode with
    | (some t, s) => s.placeRecv c p t base
    | (none, s) => (false, s)

/-- WRITE_DATA (R260, R263). -/
def State.writeIn (s : State) (c : Nat) (p : XIn) : Bool × State :=
  match s.keyCheck c p.rkey (p.roff + p.off) p.data.length 1 with
  | 0 =>
    let a := (s.key (p.rkey % 2 ^ 22)).base + p.roff
    if p.imm.isSome then s.recvIn c p 0x31 (some a)
    else (true, s.dmaWrite (s.conn c).drawer [(a + p.off, p.data)])
  | st => (true, s.refuse c p st)

/-- Answers of a READ are queued, one packet for each PAYLOAD bytes (R277, R278). -/
def readAnswers (onum mtu : Nat) (data : List Byte) : List XCtl :=
  let n := max 1 ((data.length + mtu - 1) / mtu)
  (List.range n).map (fun k => { wire := 4, fence := false, seq := onum, off := k * mtu, total := data.length, ext := [],
                                 data := (data.drop (k * mtu)).take mtu, item := none })

/-- The item a responder's reads belong to: they have none. -/
def noRef : Ref := { ring := 2 ^ 40 + 63, index := 0, tag := 0, cplReq := false }

/-- A validated READ request or atomic is executed: its DMA read waits to be issued (R260, R261, R263). -/
def State.execReq (s : State) (c : Nat) (r : XReq) : State :=
  let x := s.conn c
  let i := r.rkey % 2 ^ 22
  let a := (s.key i).base + r.roff
  match s.drPort x.drawer with
  | none => s
  | some q =>
    let s := s.keyUp i
    if r.wire = 3 then
      if r.total = 0 then (s.keyDown i).setConn c { x with ctl := x.ctl ++ readAnswers r.seq x.mtu [] }
      else s.queueReads q x.drawer noRef (.readResp c (r.seq + 2 ^ 32 * i + 2 ^ 64 * r.psn)) [(a, r.total)]
    else s.queueReads q x.drawer noRef (.atomic c r.seq r.wire r.op1 r.op2 i r.psn) [(a, 8)]

/-- READ_REQ and the atomic requests (R261, R263, R267). -/
def State.reqIn (s : State) (c : Nat) (p : XIn) : Bool × State :=
  let x := s.conn c
  let n := if p.wire = 3 then p.total else 8
  let kept := if p.wire = 3 then none else mget x.results p.seq
  match kept with
  | some (v, _) =>
    let k : XCtl := { wire := 7, fence := false, seq := p.seq, off := 0, total := 8, ext := [], data := beBytes 8 v, item := none }
    (true, (s.setConn c { x with ctl := x.ctl ++ [k] }).bump Reg.n_atomic_replayed)
  | none =>
    match s.keyCheck c p.rkey p.roff n (if p.wire = 3 then 0 else 2) with
    | 0 =>
      let r : XReq := { psn := p.psn, wire := p.wire, seq := p.seq, total := n, rkey := p.rkey, roff := p.roff, op1 := p.op1, op2 := p.op2 }
      if p.fence && psnLt x.rcvBase p.psn then (true, s.setConn c { x with heldReq := x.heldReq ++ [r] })
      else (true, s.execReq c r)
    | st => (true, s.refuse c p st)

/-- READ_RESP: bytes are placed into the READ's own segments (R284). -/
def State.readIn (s : State) (c : Nat) (p : XIn) : Bool × State :=
  let x := s.conn c
  match x.ops.find? (fun o => decide (o.opcode = 0x32) && decide (o.seq = p.seq)) with
  | none => (false, s.bump Reg.n_place_mismatch)
  | some o =>
    let fresh : XTrack := { read := true, seq := p.seq, total := p.total, got := 0, short := false, opcode := 0x32, imm := none,
                            fence := false, low := p.psn, recv := none, sealed := false, parts := [], held := [], cursor := 0,
                            readback := false }
    let t := x.track true p.seq
    if t.isNone && !s.trackFree c then (false, (s.rnr c p).bump Reg.n_tracker_full)
    else
      let t := t.getD fresh
      if p.total ≠ t.total ∨ p.total ≠ o.len ∨ t.total < p.off + p.data.length then (false, s.bump Reg.n_place_mismatch)
      else
        let s := s.dmaWrite x.drawer (placeSegs o.segs p.off p.data)
        let got := t.got + p.data.length
        if got = t.total then
          let s := s.setConn c { (x.putTrack true p.seq none) with ops := x.ops.filter (fun e => !decide (e.ref.index = o.ref.index)) }
          (true, s.opEnd o ST_OK o.len)
        else
          let os := x.ops.map (fun e => if e.ref.index = o.ref.index then { e with got := got } else e)
          (true, s.setConn c { (x.putTrack true p.seq (some { t with got := got })) with ops := os })

/-- ATOMIC_RESP (R261, R265). -/
def State.atomicIn (s : State) (c : Nat) (p : XIn) : Bool × State :=
  let x := s.conn c
  match x.ops.find? (fun o => (decide (o.opcode = 0x33) || decide (o.opcode = 0x34)) && decide (o.seq = p.seq)) with
  | none => (false, s.bump Reg.n_place_mismatch)
  | some o =>
    if p.data.length ≠ 8 then (false, s.bump Reg.n_place_mismatch)
    else
      let s := s.setConn c { x with ops := x.ops.filter (fun e => !decide (e.ref.index = o.ref.index)) }
      (true, s.opEnd o ST_OK (beNat p.data))

/-- ABANDON closes an open tracker (R283). -/
def State.abandonIn (s : State) (c : Nat) (p : XIn) : Bool × State :=
  let x := s.conn c
  match x.track false p.seq with
  | none => (true, s)
  | some t =>
    let s := t.held.foldl (fun (s : State) h => s.release h.2.2) s
    let s := s.setConn c (x.putTrack false p.seq none)
    if t.short then (true, s)
    else
      let s := if t.sealed then (s.sealReturn x.sealTo).sealGap x.sealTo else s
      match t.recv with
      | some r => (true, s.recvEnd r.ref ST_REMOTE_ACCESS t.got t.seq t.opcode t.imm)
      | none => (true, s)

/-- Completions and requests that FENCE withheld go on once everything before them has been received (R267). -/
def State.fenceGo (s : State) (c : Nat) : State :=
  let x := s.conn c
  let goC := x.heldCpl.filter (fun h => !psnLt x.rcvBase h.low)
  let goR := x.heldReq.filter (fun r => !psnLt x.rcvBase r.psn)
  if goC.isEmpty && goR.isEmpty then s
  else
    let s := s.setConn c { x with heldCpl := x.heldCpl.filter (fun h => psnLt x.rcvBase h.low),
                                  heldReq := x.heldReq.filter (fun r => psnLt x.rcvBase r.psn) }
    let s := goC.foldl (fun (s : State) (h : XHeld) => s.complete h.ref ST_OK h.count h.detail) s
    goR.foldl (fun (s : State) (r : XReq) => s.execReq c r) s

/-- A packet is marked received, and an ACK is sent when R285 asks for one. -/
def State.marked (s : State) (c : Nat) (p : XIn) (d : Nat) : State :=
  let x := s.conn c
  let y := { x.mark d with ackCnt := x.ackCnt + 1, ackCe := x.ackCe + b2n p.ce, ackPath := p.path,
                           ackPaths := if p.ce then x.ackPaths ||| 2 ^ p.path else x.ackPaths }
  let s := (s.setConn c y).fenceGo c
  if p.ack || decide (s.atLeast1 Reg.XPT_ACK_CFG_ACK_COALESCE ≤ (s.conn c).ackCnt) then s.sendAck c else s

/-- A packet with a PSN meets the receiver's window (R282) and is processed by opcode (R283). -/
def State.dataIn (s : State) (c : Nat) (p : XIn) (auth : Bool) : State :=
  let x := s.conn c
  let d := idxSub p.psn x.rcvBase
  if 2 ^ 31 ≤ d ∨ (0 < d ∧ bit x.rcvMap (d - 1)) then
    ((s.setConn c { x with ackPath := p.path }).sendAck c).bump Reg.n_dup_drop
  else if 256 ≤ d then s.bump Reg.n_window_drop
  else if x.enc && !auth then s.authFailed c 0
  else
    let s := s.bump Reg.n_rx_data_pkts
    let s := if p.ce then s.bump Reg.n_ce_received else s
    let r := match p.wire with
      | 0x01 => s.recvIn c p 0x30 none
      | 0x02 => s.writeIn c p
      | 0x03 | 0x05 | 0x06 => s.reqIn c p
      | 0x04 => s.readIn c p
      | 0x07 => s.atomicIn c p
      | 0x0E => s.abandonIn c p
      | _ => (true, s)
    if r.1 then r.2.marked c p d else r.2

/-- The first packet of XPT[p] whose connection's context is at hand, or that names no connection; contexts that are missing
begin to be read (R226, R250). -/
def State.xptPick : List (Frame × Nat) → List (Frame × Nat) → State → Option (Frame × Nat × List (Frame × Nat)) × State
  | [], _, s => (none, s)
  | (f, k) :: t, skipped, s =>
    let c := match parseUdp (s.frameBytes f) with
      | some u => if k = 0 then beAt u.pl 4 4 else beAt u.pl 5 3
      | none => 2 ^ 32
    if (s.conn c).st = 0 then (some (f, k, skipped ++ t), s)
    else match s.context c with
      | (true, s) => (some (f, k, skipped ++ t), s)
      | (false, s) => State.xptPick t (skipped ++ [(f, k)]) s

/-- Is a packet accepted by its connection (R268)? -/
def State.xptAccepts (s : State) (c token : Nat) (u : XPkt) : Bool :=
  let x := s.conn c
  liveConn x.st && decide (token = x.ltoken) && decide (u.src = x.raddr) && decide (u.dst = s.localAddr x.laddr)

/-- A packet dropped under R268, with the reset notice it may draw. -/
def State.xptMismatch (s : State) (c : Nat) (l : List Byte) : State :=
  let x := s.conn c
  let s := s.bump Reg.n_rx_conn_mismatch
  if beAt l 1 1 ≠ 0x12 ∧ x.st ≠ 0 ∧ (beAt l 12 4 ≠ x.ltoken ∨ x.st = 1 ∨ x.st = 4) then s.sendNotice c l else s

/-- Does a packet answer an operation of the connection: READ_RESP, ATOMIC_RESP, ACK or NAK? -/
def isAnswer (wire : Nat) : Bool := [4, 7, 0x10, 0x11].contains wire

/-- A packet that arrives for a drawer in its quiesce sequence is dropped and counted (R104). Answers to work that the drain
still lets end are not dropped, and an answer to work already ended is a stale result (R103; DEDUCED, log entry 20). -/
def State.quiesceDrop (s : State) (d : Nat) (answer : Bool) : State :=
  if answer then s.bump Reg.n_stale_result_discard else s.bump (Reg.n_rx_quiesce_drop d)

/-- A Spline packet at the transport engine, handled by `go` once its connection accepts it (R268, R275, R277). -/
def State.splPacket (s : State) (f : Frame) (go : Nat → XIn → State → State) : State :=
  match parseUdp (s.frameBytes f) with
  | none => s.bump Reg.n_rx_conn_mismatch
  | some u =>
    let l := u.pl
    let c := beAt l 4 4
    let x := s.conn c
    if !s.on Reg.XPT_CFG_ENABLE then s
    else if !u.ok then s.bump Reg.n_udp_csum_error
    else if !splOk l then s.bump Reg.n_hdr_error
    else if x.st = 0 then s.bump Reg.n_rx_conn_mismatch
    else if s.quiescing x.drawer && !(s.draining x.drawer && isAnswer (beAt l 1 1)) then s.quiesceDrop x.drawer (isAnswer (beAt l 1 1))
    else if !s.xptAccepts c (beAt l 12 4) u || x.roce then s.xptMismatch c l
    else if !decide (bit (beAt l 2 1) 5 = x.enc) && !decide (beAt l 1 1 = 0x12) then s.bump Reg.n_hdr_error
    else
      let off := 32 + (extLen (beAt l 1 1) (bit (beAt l 2 1) 6)).getD 0
      let n := l.length - off
      if x.enc then
        let data := slice (Config.freeBytes s.freeCtr (n - 16)) 0 (n - 16)
        go c (splIn u f.quire data) { s with freeCtr := s.freeCtr + 1 }
      else go c (splIn u f.quire (l.drop off)) s

/-- The next packet of XPT[p] is taken when it has one of the wire opcodes asked for, or no proper header. -/
def State.splTake (s : State) (p : Nat) (wires : List Nat) (go : Nat → XIn → State → State) : State :=
  match State.xptPick (mgetD s.tm.xptQ p []) [] s with
  | (none, s) => s
  | (some (f, k, rest), s) =>
    let w := match parseUdp (s.frameBytes f) with
      | some u => if splOk u.pl then some (beAt u.pl 1 1) else none
      | none => none
    if k ≠ 0 ∨ (w.isSome ∧ !wires.contains (w.getD 0)) then s
    else
      let s := { s with tm := { s.tm with xptQ := mputD s.tm.xptQ p rest [] } }
      (s.splPacket f go).release f.quire

end Sys2Proof.Machine
end

