-- ==== Sys2Proof/Machine/XptTx.lean ====
section
/-! DEFINITION. The sending side of the Spline transport: starting operations, spraying, acknowledgements, loss recovery and
congestion (R257, R280, R281, R286–R295). -/

namespace Sys2Proof.Machine

/-! ## Starting operations (R257, R258) -/

/-- Does an operation consume a posted receive at the far end? -/
def XOp.takesRecv (o : XOp) : Bool := decide (o.opcode = 0x30) || (decide (o.opcode = 0x31) && o.imm.isSome)

/-- Do the limits of R257 admit one more operation? -/
def Conn.mayStart (x : Conn) (o : XOp) : Bool :=
  decide (x.ops.length < 256) &&
  (!decide (o.opcode = 0x32) || decide ((x.ops.filter (fun e => decide (e.opcode = 0x32))).length < 16)) &&
  (!(decide (o.opcode = 0x33) || decide (o.opcode = 0x34)) ||
    decide ((x.ops.filter (fun e => decide (e.opcode = 0x33) || decide (e.opcode = 0x34))).length < 16))

/-- The first waiting operation starts when the limits admit it: it takes its MSN or ONUM. -/
def State.startOp (s : State) (c : Nat) : State :=
  let x := s.conn c
  match x.wait with
  | [] => s
  | o :: t =>
    if x.st = 2 ∧ x.mayStart o then
      if o.takesRecv then s.setConn c { x with wait := t, ops := x.ops ++ [{ o with seq := x.msn }], msn := (x.msn + 1) % 2 ^ 32 }
      else s.setConn c { x with wait := t, ops := x.ops ++ [{ o with seq := x.onum }], onum := (x.onum + 1) % 2 ^ 32 }
    else s

/-! ## Paths (R280, R281) -/

/-- The next path in interleaved weighted round robin (R280). -/
def nextPath (adapt : Bool) : Nat → Conn → Nat × Conn
  | 0, x => (x.spPath, x)
  | n + 1, x =>
    let p := x.spPath + 1
    let (p, r) := if p ≥ x.paths then (0, x.spRound + 1) else (p, x.spRound)
    let w := fun i => if adapt then x.weight i else 8
    let top := x.upPaths.foldl (fun a i => max a (w i)) 0
    let r := if top < r then 1 else r
    let x := { x with spPath := p, spRound := r }
    if !bit x.down p && decide (r ≤ w p) then (p, x) else nextPath adapt n x

/-- The next up path after a path, in index order (R290). -/
def Conn.pathAfter (x : Conn) (p : Nat) : Nat :=
  match x.upPaths.find? (fun i => decide (p < i)) with
  | some i => i
  | none => x.upPaths.headD p

/-- A loss blamed on a path (R281). -/
def State.blame (s : State) (c path : Nat) : State :=
  let x := s.conn c
  let run := if path = x.failPath ∧ 0 < x.failRun then x.failRun + 1 else 1
  let x := { x with failPath := path, failRun := run % 256 }
  if s.atLeast1 Reg.XPT_PATH_CFG_PATH_FAIL ≤ run ∧ !bit x.down path ∧ 1 < x.upPaths.length then
    let hold := s.atLeast1 Reg.XPT_PATH_CFG_PATH_HOLD * 1000000
    let s := s.setConn c { x with down := x.down ||| 2 ^ path, downEnd := s.now + hold }
    (s.bump Reg.n_path_down_count).raiseTo x.drawer EV_xpt_path_down x.drawer [s.connLocal c, path, run]
  else s.setConn c x

/-- Down paths come up again after PATH_HOLD (R281). -/
def State.pathsUp (s : State) (c : Nat) : State :=
  let x := s.conn c
  if x.down = 0 then s
  else
    let w := if s.on Reg.XPT_CC_CFG_JIG_SPRAY then 1 else 8
    let ws := (List.range x.paths).foldl (fun (m : SMap Nat) i => if bit x.down i then mputD m i w 8 else m) x.weights
    let s := s.setConn c { x with down := 0, weights := ws }
    s.raiseTo x.drawer EV_xpt_path_up x.drawer [s.connLocal c, x.down]

/-! ## Sending packets (R278–R280, R288–R290) -/

/-- Payload bytes that no ACK has covered. -/
def Conn.unackedBytes (x : Conn) : Nat := x.unacks.foldl (fun a u => a + u.len) 0

/-- RoCEv2: the BTH opcode of a chunk of a SEND (base 0) or WRITE (base 6). -/
def roceOp (base : Nat) (first last imm : Bool) : Nat :=
  base + (match first, last with
    | true, true => if imm then 5 else 4
    | true, false => 0
    | false, false => 1
    | false, true => if imm then 3 else 2)

/-- A RoCEv2 base transport header (R298). -/
def bth (op pad qp psn : Nat) (ack : Bool) : List Byte :=
  [BitVec.ofNat 8 op, BitVec.ofNat 8 (pad * 16), 0xFF, 0xFF, 0] ++ beBytes 3 qp ++ [if ack then 0x80 else 0] ++ beBytes 3 psn

/-- A RoCEv2 packet: padded to four bytes, and ended by an ICRC whose value the spec leaves to its standard (a free value). -/
def State.rocePkt (s : State) (x : Conn) (op psn : Nat) (ack : Bool) (ext data : List Byte) : List Byte × State :=
  let pad := (4 - data.length % 4) % 4
  (bth op pad x.rconn psn ack ++ ext ++ data ++ List.replicate pad 0 ++ slice (Config.freeBytes s.freeCtr 4) 0 4,
   { s with freeCtr := s.freeCtr + 1 })

/-- A packet of an operation: wire opcode, extension, payload, its offset, and whether it is the last (R277, R278). -/
def opPacket (o : XOp) (data : List Byte) : Nat × List Byte :=
  let imm := match o.imm with
    | some v => beBytes 4 v ++ [0, 0, 0, 0]
    | none => []
  let key := beBytes 4 o.rkey ++ [0, 0, 0, 0] ++ beBytes 8 o.roff
  match o.opcode with
  | 0x30 => (1, imm ++ data)
  | 0x31 => (2, key ++ imm ++ data)
  | 0x32 => (3, key)
  | 0x33 => (5, key ++ beBytes 8 o.op1 ++ beBytes 8 o.op2)
  | _ => (6, key ++ beBytes 8 o.op1 ++ beBytes 8 o.op2)

/-- The retransmit list is allocated when the connection first sends (R288). -/
def State.retxList (s : State) (c : Nat) : Option State :=
  let x := s.conn c
  match x.list with
  | some _ => some s
  | none => match s.allocDie (drMaster x.drawer) s.now (List.replicate 2048 0) with
    | none => none
    | some (p, s) => some (s.setConn c { x with list := some p })

/-- A new packet with a PSN is sent on the next path and kept until acknowledged; without leaves it waits (R279, R280, R288).
`npsn` PSNs are taken. -/
def State.sendNew (s : State) (c wire flags : Nat) (ext : List Byte) (seq off total len npsn : Nat) (last : Bool)
    (item : Option Nat) (roce : Option (Nat × List Byte × List Byte)) : Bool × State :=
  match s.retxList c with
  | none => (false, s.noLeaf (drMaster (s.conn c).drawer))
  | some s1 =>
    let x := s1.conn c
    let (path, x) := if x.roce then (0, x) else nextPath (s1.on Reg.XPT_CC_CFG_JIG_SPRAY) (64 * 17) x
    let h := splHead wire (flags + 32 * b2n x.enc) (128 * b2n last + path) x.rconn c x.rtoken x.sndNxt seq off total
    let hdr := ext.take (ext.length - len)
    let (body, s2) := s1.cipherOut (x.enc && roce.isNone) (ext.drop (ext.length - len))
    let (pl, s2) := match roce with
      | some (op, e, d) => s2.rocePkt x op (x.sndNxt % 2 ^ 24) last e d
      | none => (h ++ hdr ++ body, s2)
    let (b, s2) := s2.xframe x path (if s2.on Reg.XPT_CC_CFG_ECN_EN then 2 else 0) pl
    match s2.allocDie (drMaster x.drawer) s2.now b with
    | none => (false, s.noLeaf (drMaster x.drawer))
    | some (p, s2) =>
      let u : XUnack := { psn := x.sndNxt, wire := wire, ptr := p, path := path, time := s2.now, order := x.order, passed := 0,
                          once := true, len := len, item := item, fill := false, total := total, seq := seq }
      let nx := (x.sndNxt + npsn) % 2 ^ 32
      let x := { x with sndNxt := nx, txEpoch := if nx < x.sndNxt then x.txEpoch + 1 else x.txEpoch, order := x.order + 1,
                        unacks := x.unacks ++ [u], pathSent := x.pathSent ||| 2 ^ path }
      let s2 := (s2.setConn c x).bump Reg.n_tx_data_pkts
      match s2.hold p (drMaster x.drawer) with
      | (false, s2) => (true, s2)
      | (true, s2) => (true, s2.admitFrame (xptFrame x.drawer (s.drGen x.drawer) p [] 0) (x.txq + path % x.qcount) none)

/-- A packet is sent again with its PSN on the next up path, RETX and ACK_REQ set (R287, R290). -/
def State.resend (s : State) (c : Nat) (u : XUnack) : State :=
  let x := s.conn c
  let path := if x.roce then 0 else x.pathAfter u.path
  let old := s.quireData u.ptr
  let ip := if isV4 x.raddr then 20 else 40
  let ecn := if s.on Reg.XPT_CC_CFG_ECN_EN ∧ !u.fill then 2 else 0
  let transit := 128 + 64 + path
  let pl := if u.fill then splHead 0x0F (32 * b2n x.enc) transit x.rconn c x.rtoken u.psn 0 0 0
    else overlay (old.drop (22 + ip)) 3 [BitVec.ofNat 8 transit]
  let (icv, s) := s.cipherOut (x.enc && u.fill) []
  let pl := if x.roce then old.drop (22 + ip) else pl ++ icv
  let new := old.take 14 ++ ipUdp (s.localAddr x.laddr) x.raddr (x.udpSrc + path)
    (if x.roce then 4791 else s.get Reg.XPT_CFG_UDP_PORT) x.dscp ecn pl
  let (pre, skip) := if u.fill then (new, old.length) else (new.take (26 + ip), 26 + ip)
  match s.hold u.ptr (drMaster x.drawer) with
  | (false, s) => s
  | (true, s) =>
    let x := s.conn c
    let v := { u with path := path, time := s.now, order := x.order, passed := 0, once := false }
    let us := x.unacks.map (fun e => if e.psn = u.psn then v else e)
    let s := s.setConn c { x with unacks := us, order := x.order + 1, rtx := x.rtx.filter (fun e => !decide (e = u.psn)),
                                  pathSent := x.pathSent ||| 2 ^ path }
    (s.bump Reg.n_tx_retx_pkts).admitFrame (xptFrame x.drawer (s.drGen x.drawer) u.ptr pre skip) (x.txq + path % x.qcount) none

/-- The lowest PSN that waits to be sent again, counted from SND_UNA (R289). -/
def Conn.nextRtx (x : Conn) : Option XUnack :=
  x.unacks.find? (fun u => x.rtx.contains u.psn && x.rtx.all (fun e => decide (idxSub u.psn x.sndUna ≤ idxSub e x.sndUna)))

/-- An operation whose local read failed, or that met its first refusal, ends; what it had in flight becomes FILL, and an
ABANDON follows when it consumes a posted receive (R68, R287). -/
def State.opRefused (s : State) (c : Nat) (o : XOp) (st : Nat) : State :=
  let x := s.conn c
  let us := x.unacks.map (fun u => if u.item = some o.ref.index then { u with fill := true, item := none } else u)
  let a : XCtl := { wire := 0x0E, fence := false, seq := o.seq, off := 0, total := 0, ext := [], data := [], item := none }
  let s := s.setConn c { x with unacks := us, ops := x.ops.filter (fun e => !decide (e.ref.index = o.ref.index)),
                                tracks := x.tracks.filter (fun t => !(t.read && decide (o.opcode = 0x32) && decide (t.seq = o.seq))),
                                ctl := if o.takesRecv && !x.roce then x.ctl ++ [a] else x.ctl }
  s.opEnd o st o.acked

/-- A chunk of an operation goes out. -/
def State.sendChunk (s : State) (c : Nat) (o : XOp) (data : List Byte) : State :=
  let x := s.conn c
  let n := if o.opcode ≤ 0x31 then min x.mtu (o.len - o.next) else 0
  let d := slice data 0 n
  let last := decide (0x32 ≤ o.opcode) || decide (o.len ≤ o.next + n)
  let (wire, ext) := opPacket o d
  let first := decide (o.next = 0)
  let immB := match o.imm with
    | some v => if last then beBytes 4 v else []
    | none => []
  let reth := beBytes 8 o.roff ++ beBytes 4 o.rkey ++ beBytes 4 o.len
  let roce := if x.roce then some (match o.opcode with
      | 0x30 => (roceOp 0 first last o.imm.isSome, immB, d)
      | 0x31 => (roceOp 6 first last o.imm.isSome, (if first then reth else []) ++ immB, d)
      | _ => (0x0C, reth, [])) else none
  let npsn := if x.roce ∧ o.opcode = 0x32 then max 1 ((o.len + x.mtu - 1) / x.mtu) else 1
  let flags := 128 * b2n o.fence + 64 * b2n o.imm.isSome
  match s.sendNew c wire flags ext o.seq (if o.opcode ≤ 0x31 then o.next else 0) o.len n npsn last (some o.ref.index) roce with
  | (false, s) => s
  | (true, s) =>
    let x := s.conn c
    s.setConn c { x with ops := x.ops.map (fun e =>
      if e.ref.index = o.ref.index then { e with next := e.next + n, sent := last, out := e.out + 1 } else e) }

/-- PACKET_SEND: a retransmission or a new packet leaves when the window and CWND allow (R289). `data` is what the DMA read of a new
chunk brought in, or `stat` the status it failed with (R68). -/
def State.opPacketSend (s : State) (c : Nat) (data : List Byte) (stat : Nat) : State :=
  let x := s.conn c
  if !liveConn x.st || x.vol then s
  else match x.nextRtx with
  | some u => s.resend c u
  | none =>
    if 256 ≤ idxSub x.sndNxt x.sndUna then s
    else match x.ctl with
    | k :: t =>
      if x.cwnd < x.unackedBytes + k.data.length then s
      else
        let last := decide (k.total ≤ k.off + k.data.length)
        if x.roce then
          -- answers of a RoCEv2 responder carry PSNs of the request (R298)
          let op := if k.off = 0 then (if last then 0x10 else 0x0D) else if last then 0x0F else 0x0E
          let aeth := if op = 0x0E then [] else beBytes 1 0x1F ++ beBytes 3 x.rMsn
          let (pl, s) := s.rocePkt x op (k.seq % 2 ^ 24) false aeth k.data
          match s.xtry x 0 pl with
          | none => s.noLeaf (drMaster x.drawer)
          | some s => s.setConn c { s.conn c with ctl := t }
        else match s.sendNew c k.wire (128 * b2n k.fence) (k.ext ++ k.data) k.seq k.off k.total k.data.length 1 last k.item none with
          | (false, s) => s
          | (true, s) =>
            let x := s.conn c
            let rs := if k.wire = 7 then (match mget x.results k.seq with
                | some (v, _) => mput x.results k.seq (v, some ((x.sndNxt + 2 ^ 32 - 1) % 2 ^ 32))
                | none => x.results) else x.results
            s.setConn c { x with ctl := t, results := rs }
    | [] =>
      match x.ops.find? (fun o => !o.sent && !o.stopped) with
      | none => s
      | some o =>
        let n := if o.opcode ≤ 0x31 then min x.mtu (o.len - o.next) else 0
        if x.cwnd < x.unackedBytes + n then s
        else if stat ≠ 0 then s.opRefused c o stat
        else s.sendChunk c o data

/-! ## Acknowledgements (R286, R291, R294) -/

/-- A loss found under R291: the packet is sent again, its path blamed, and CWND halved once per window. -/
def State.lost (s : State) (c : Nat) (u : XUnack) : State :=
  let x := s.conn c
  let us := x.unacks.map (fun e => if e.psn = u.psn then { e with passed := 0 } else e)
  let cw := if x.cutWin then x.cwnd else max x.mtu (x.cwnd / 2)
  let s := s.setConn c { x with unacks := us, rtx := x.rtx ++ [u.psn], cwnd := cw, lossWin := true, cutWin := true }
  (s.bump Reg.n_retx_sack).blame c u.path

/-- An RTT sample (R286). -/
def State.rtt (s : State) (x : Conn) (sample : Nat) : Conn :=
  let srtt : Int := x.srtt + ((sample : Int) - x.srtt) / 8
  let dev : Int := if srtt < sample then sample - srtt else srtt - sample
  let var : Int := x.rttvar + (dev - x.rttvar) / 4
  let us := (srtt.toNat + 4 * var.toNat + 999) / 1000
  { x with srtt := srtt.toNat, rttvar := var.toNat, rto := min s.rtoMax (max (s.atLeast1 Reg.XPT_RTO_CFG_RTO_MIN) us) }

/-- The end of an observation window (R294); `forced` is a CNP's, with F = 1. -/
def State.windowEnd (s : State) (c : Nat) (forced : Bool) : State :=
  let x := s.conn c
  let (f, s) := if forced then (32768, s) else if x.winAcked = 0 then
      (let (v, s) := s.free 32; (v % 32769, s)) else (min 32768 (x.winCe * 32768 / x.winAcked), s)
  let alpha := ((x.alpha : Int) + Int.tdiv ((f : Int) - x.alpha) 16).toNat
  let cut := forced || decide (0 < x.winCe)
  let cw := if cut then max x.mtu (x.cwnd - x.cwnd * alpha / 65536)
    else if x.lossWin then x.cwnd else min s.cwndMax (x.cwnd + 256 * s.get Reg.XPT_CC_CFG_AI_BYTES)
  let wmax := s.atLeast1 Reg.XPT_CC_CFG_WEIGHT_MAX
  let ws := if s.on Reg.XPT_CC_CFG_JIG_SPRAY then
      ((List.range x.paths).filter (fun i => bit x.pathSent i)).foldl (fun (m : SMap Nat) i =>
        let w := mgetD m i 8
        mputD m i (if bit x.pathCe i then max 1 (w - 1) else min wmax (w + 1)) 8) x.weights
    else x.weights
  let s := s.setConn c { x with alpha := alpha, cwnd := cw, weights := ws, winEnd := x.sndNxt, winAcked := 0, winCe := 0,
                                pathCe := 0, pathSent := 0, lossWin := false, cutWin := false }
  if cut then s.bump Reg.n_cwnd_cuts else s

/-- Operations whose every packet has been acknowledged complete (R266, R286). -/
def State.opsDone (s : State) (c : Nat) : State :=
  let x := s.conn c
  let fin := x.ops.filter (fun o => decide (o.opcode ≤ 0x31) && o.sent && decide (o.out = 0))
  let s := s.setConn c { x with ops := x.ops.filter (fun o => !(decide (o.opcode ≤ 0x31) && o.sent && decide (o.out = 0))) }
  fin.foldl (fun (s : State) (o : XOp) => s.opEnd o ST_OK o.acked) s

/-- PSNs acknowledged: quires are released, RTT sampled, losses found and operations completed (R286, R291). -/
def State.acked (s : State) (c : Nat) (hit : Nat → Bool) (byAck : Bool) : State :=
  let x := s.conn c
  let new := x.unacks.filter (fun u => hit u.psn)
  let s := new.foldl (fun (s : State) (u : XUnack) => s.release u.ptr) s
  let rest := (x.unacks.filter (fun u => !hit u.psn)).map (fun u =>
    { u with passed := u.passed + (new.filter (fun a => decide (a.path = u.path) && decide (u.order < a.order))).length })
  let una := match rest with
    | [] => x.sndNxt
    | u :: t => t.foldl (fun a v => if psnLt v.psn a then v.psn else a) u.psn
  let ops := x.ops.map (fun o =>
    let mine := new.filter (fun u => decide (u.item = some o.ref.index))
    { o with out := o.out - mine.length, acked := if byAck then o.acked + mine.foldl (fun a u => a + u.len) 0 else o.acked })
  let res := x.results.filter (fun e => match e.2.2 with
    | some p => !hit p
    | none => true)
  let once := new.filter (fun u => u.once)
  let y := { x with unacks := rest, rtx := x.rtx.filter (fun p => !hit p), sndUna := una, ops := ops, results := res,
                    retries := if una = x.sndUna then x.retries else 0,
                    rnrs := if byAck && new.any (fun u => x.ops.any (fun o => decide (u.item = some o.ref.index) && o.takesRecv))
                      then 0 else x.rnrs }
  let y := match once with
    | [] => y
    | u :: t => if byAck then s.rtt y (s.now - t.foldl (fun a v => max a v.time) u.time) else y
  let s := s.setConn c y
  let bad := y.unacks.filter (fun u => decide (s.atLeast1 Reg.XPT_PATH_CFG_REORDER ≤ u.passed) && !y.rtx.contains u.psn && !y.roce)
  let s := bad.foldl (fun (s : State) (u : XUnack) => s.lost c u) s
  s.opsDone c

/-- An ACK (R286, R294). -/
def State.ackIn (s : State) (c cum rx ce paths sack : Nat) : State :=
  let x := s.conn c
  if psnLt x.sndNxt cum then s.bump Reg.n_hdr_error
  else
    let s := s.setConn c { x with winAcked := (x.winAcked + rx) % 2 ^ 16, winCe := (x.winCe + ce) % 2 ^ 16, pathCe := x.pathCe ||| paths }
    let hit := fun p => psnLt p cum || (let d := idxSub p cum; decide (1 ≤ d) && decide (d ≤ 256) && bit sack (d - 1))
    let s := s.acked c hit true
    if psnLt (s.conn c).sndUna (s.conn c).winEnd then s else s.windowEnd c false

/-- A NAK (R287, R293). -/
def State.nakIn (s : State) (c psn reason : Nat) : State :=
  let x := s.conn c
  match x.unacks.find? (fun u => decide (u.psn = psn)) with
  | none => s
  | some u =>
    let op := x.ops.find? (fun o => decide (u.item = some o.ref.index))
    if reason = 1 then
      match op with
      | some o => s.setConn c { x with ops := x.ops.map (fun e => if e.ref.index = o.ref.index then { e with stopped := true } else e) }
      | none => s
    else
      let s := s.acked c (fun p => decide (p = psn)) false
      match op with
      | some o =>
        match (s.conn c).ops.find? (fun e => decide (e.ref.index = o.ref.index)) with
        | some o => s.opRefused c o (if reason = 2 then ST_KEY_INVALID else if reason = 3 then ST_KEY_REVOKED else ST_REMOTE_ACCESS)
        | none => s
      | none => s

/-- An RTO fires (R292). -/
def State.rtoFire (s : State) (c : Nat) : State :=
  let x := s.conn c
  if !liveConn x.st || x.unacks.isEmpty then s
  else
    let n := x.retries + 1
    let lim := if x.roce then min 7 x.retryLim else x.retryLim
    let una := x.unacks.find? (fun u => decide (u.psn = x.sndUna))
    let s := s.setConn c { x with rtx := x.unacks.map (fun u => u.psn), rto := min s.rtoMax (2 * x.rto), cwnd := x.mtu, retries := n }
    let s := s.bump Reg.n_retx_timeout
    if lim < n then s.connFail c 1 ST_RETRY_EXHAUSTED ((una.bind (·.item)))
    else match una with
      | some u => if x.roce then s else s.blame c u.path
      | none => s

/-- RNR_WAIT has passed for a stopped message (R293). -/
def State.rnrFire (s : State) (c seq : Nat) : State :=
  let x := s.conn c
  match x.ops.find? (fun o => o.stopped && o.takesRecv && decide (o.seq = seq)) with
  | none => s
  | some o =>
    let n := x.rnrs + 1
    let mine := (x.unacks.filter (fun u => decide (u.item = some o.ref.index))).map (fun u => u.psn)
    let s := s.setConn c { x with rnrs := n, rtx := x.rtx.filter (fun p => !mine.contains p) ++ mine,
                                  ops := x.ops.map (fun e => if e.ref.index = o.ref.index then { e with stopped := false } else e) }
    if x.rnrLim ≠ 7 ∧ x.rnrLim < n then s.connFail c 2 ST_RNR_EXHAUSTED (some o.ref.index) else s

end Sys2Proof.Machine
end

