-- ==== Sys2Proof/Machine/Xpt.lean ====
section
/-! DEFINITION. Commands of the transport engine: connections, operations, region keys, arriving packets, timers and snapshots
(R247–R302). -/

namespace Sys2Proof.Machine

/-! ## Connection commands (R251–R253) -/

/-- An item of a transport ring runs against its connection once the context is at hand; one of an UNUSED connection has none. -/
def State.onConn (s : State) (r : Ref) (go : Nat → State → State) : State :=
  match s.ringConn r.ring with
  | none => s.fail r ST_CONN_STATE
  | some c =>
    if !s.on Reg.XPT_CFG_ENABLE then s
    else if (s.conn c).st = 0 then s.fail r ST_CONN_STATE
    else match s.context c with
      | (true, s) => go c s
      | (false, s) => s

/-- Does a CONN_CONNECT body break a rule of R252 or R298? -/
def State.connectBad (s : State) (e : List Byte) : Bool :=
  let mode := leAt e 35 1
  !zeroBut e [(0, 46), (48, 4)] || !decide (leAt e 24 4 < 2 ^ 20) || !decide (leAt e 32 1 < 64) ||
  decide (leAt e 33 1 = 0) || decide (64 < leAt e 33 1) || decide (4 < leAt e 34 1) || !decide (mode < 4) ||
  !decide (leAt e 38 1 < 64) || decide (leAt e 39 1 = 0) || decide (4 < leAt e 39 1) || !decide (leAt e 40 4 < 2 ^ 20) ||
  decide (leAt e 44 1 = 0) || !decide (leAt e 45 1 < 8) || (!bit mode 1 && !decide (leAt e 48 4 = 0)) ||
  (bit mode 0 && (bit mode 1 || !decide (leAt e 33 1 = 1) || !s.on Reg.XPT_CFG_ROCE_EN))

/-- Is a connect denied: its local address, an egress queue or its security association (R252, R347)? -/
def State.connectDenied (s : State) (d : Nat) (e : List Byte) : Bool :=
  let i := leAt e 32 1
  let ctrl := s.rd (Reg.XPT_LOCAL_CTRL i)
  let queues := (List.range (leAt e 39 1)).map (fun j => leAt e 40 4 + j)
  !bit ctrl 31 || (bit ctrl 30 && !decide (bits ctrl 11 0 = d)) ||
  queues.any (fun q => !decide (s.queueOwner q = some d) && !bit (s.tmWord 0 q 0) 28) ||
  (bit (leAt e 35 1) 1 && (match s.ktIndex (some d) (leAt e 48 4) with
    | some g => !decide ((s.ktEntry g).type = 5 ∨ (s.ktEntry g).type = 6)
    | none => true))

/-- A connection takes the fields of a connect body and its sending state starts anew (R252, R299). -/
def State.connected (s : State) (c : Nat) (e : List Byte) : State :=
  let x := s.conn c
  let recvs := (x.recvs.zipIdx).map (fun y => { y.1 with seq := y.2 })
  let base := match x.recvs with
    | r :: _ => r.ref.index
    | [] => (s.ring (s.sendRing c + 1)).dev
  let mode := leAt e 35 1
  s.setConn c { (x.cleared 2) with
    roce := bit mode 0, enc := bit mode 1, payload := leAt e 34 1, paths := leAt e 33 1, qcount := leAt e 39 1,
    laddr := leAt e 32 1, dscp := leAt e 38 1, gen := s.drGen x.drawer, rtoken := leAt e 28 4, raddr := beAt e 8 16,
    rconn := leAt e 24 4, txq := leAt e 40 4, udpSrc := leAt e 36 2, retryLim := leAt e 44 1, rnrLim := leAt e 45 1,
    sa := leAt e 48 4, msn := 0, onum := 0, rbase := base, sndNxt := 0, sndUna := 0, rcvBase := 0, rcvMap := 0,
    cwnd := s.cwndInit, alpha := 0, retries := 0, rnrs := 0, srtt := 0, rttvar := 0,
    rto := s.atLeast1 Reg.XPT_RTO_CFG_RTO_INIT, txEpoch := 0, rxEpoch := 0, spPath := 0, spRound := 0, ackSeq := 0,
    winEnd := 0, winAcked := 0, winCe := 0, down := 0, weights := [], pathCe := 0, pathSent := 0, failPath := 0, failRun := 0,
    downEnd := 0, order := 0, rMsn := 0, recvs := recvs, recvNext := recvs.length, lossWin := false, cutWin := false }

/-- CONN_CONNECT (R252). -/
def State.opConnect (s : State) (r : Ref) (e : List Byte) (c : Nat) : State :=
  let x := s.conn c
  if x.st = 4 then s.complete r ST_FLUSHED 0 []
  else if s.connectBad e then s.fail r ST_BAD_FLAGS
  else if x.st ≠ 1 then s.fail r ST_CONN_STATE
  else if s.connectDenied x.drawer e then s.complete r ST_CONN_DENIED 0 []
  else
    let s := s.connected c e
    let s := if bit (leAt e 35 1) 1 then (match s.ktIndex (some x.drawer) (leAt e 48 4) with
      | some g => s.ktUsers g true
      | none => s) else s
    s.complete r ST_OK 0 []

/-- CONN_CLOSE (R248, R253). -/
def State.opClose (s : State) (r : Ref) (e : List Byte) (c : Nat) : State :=
  let x := s.conn c
  if x.st = 4 then s.complete r ST_FLUSHED 0 []
  else if !zeroBut e [(0, 8)] then s.fail r ST_BAD_FLAGS
  else if x.st ≠ 2 then s.complete r ST_CONN_STATE 0 []
  else s.setConn c { x with st := 3, closeRef := some r }

/-- CONN_RESET (R248). -/
def State.opReset (s : State) (r : Ref) (e : List Byte) (c : Nat) : State :=
  let x := s.conn c
  if !zeroBut e [(0, 8)] then s.fail r ST_BAD_FLAGS
  else if x.st ≠ 1 ∧ x.st ≠ 4 then s.complete r ST_CONN_STATE 0 []
  else (s.toReady c).complete r ST_OK 0 []

/-- CONN_QUERY (R253): COUNT and the detail words of bytes 16 to 29. -/
def State.opQuery (s : State) (r : Ref) (e : List Byte) (c : Nat) : State :=
  let x := s.conn c
  if !zeroBut e [(0, 8)] then s.fail r ST_BAD_FLAGS
  else s.complete r ST_OK (c + x.st * 2 ^ 32) [x.ltoken, x.msn, x.recvs.length, x.tracks.length]

/-! ## Operations (R254–R258) -/

/-- Unused bytes of an operation's body by its opcode (R254). -/
def opZero (op flags : Nat) (e : List Byte) : Bool :=
  match op with
  | 0x30 => zeroBut e [(0, 12), (if bit flags 0 then 12 else 8, 4), (32, 12)]
  | 0x31 => zeroBut e [(0, 12), (if bit flags 0 then 12 else 8, 4), (16, 4), (24, 8), (32, 12)]
  | 0x32 => zeroBut e [(0, 12), (16, 4), (24, 8), (32, 12)]
  | 0x33 => zeroBut e [(0, 12), (16, 4), (24, 8), (48, 8)]
  | _ => zeroBut e [(0, 12), (16, 4), (24, 8), (48, 16)]

/-- An accepted operation, with its segments (R256). -/
def xopOf (r : Ref) (op : Nat) (e : List Byte) (l : List (Nat × Nat)) : XOp :=
  { ref := r, opcode := op, seq := 0, len := leAt e 8 4, imm := if bit (leAt e 1 1 % 32) 0 ∧ op ≤ 0x31 then some (leAt e 12 4) else none,
    rkey := leAt e 16 4, roff := leAt e 24 8, op1 := leAt e 48 8, op2 := leAt e 56 8, fence := bit (leAt e 1 1 % 32) 1,
    segs := l, next := 0, sent := false, out := 0, acked := 0, got := 0, stopped := false }

/-- An operation of a send ring (R256, R257). -/
def State.opXfer (s : State) (r : Ref) (op : Nat) (e : List Byte) (conts : List (List Byte)) (c : Nat) : State :=
  let x := s.conn c
  let flags := leAt e 1 1 % 32
  let len := leAt e 8 4
  let atomic := decide (0x33 ≤ op)
  let segs := if atomic then .ok [] else segList (leAt e 32 8) (leAt e 40 4) len conts
  if x.st = 4 then s.complete r ST_FLUSHED 0 []
  else if !opZero op flags e then s.fail r ST_BAD_FLAGS
  else if x.roce && atomic then s.fail r ST_BAD_OPCODE
  else if x.st ≠ 2 then s.complete r ST_CONN_STATE 0 []
  else if 2147483648 < len ∨ (atomic ∧ len ≠ 8) then s.fail r ST_BAD_LENGTH
  else match segs with
  | .error st => s.fail r st
  | .ok l =>
    if (op = 0x31 ∧ bit flags 1 ∧ !bit flags 0) ∨ (atomic ∧ leAt e 24 8 % 8 ≠ 0) then s.fail r ST_BAD_FLAGS
    else
      let o := xopOf r op e l
      let s := s.setConn c { x with wait := x.wait ++ [o] }
      if x.wait.isEmpty then s.startOp c else s

/-- RECV posts a receive buffer (R256, R258). -/
def State.opRecv (s : State) (r : Ref) (e : List Byte) (conts : List (List Byte)) (c : Nat) : State :=
  let x := s.conn c
  let cap := leAt e 20 4
  if x.st = 4 then s.complete r ST_FLUSHED 0 []
  else if !zeroBut e [(0, 24)] then s.fail r ST_BAD_FLAGS
  else if x.st = 3 then s.complete r ST_CONN_STATE 0 []
  else if 2147483648 < cap then s.fail r ST_BAD_LENGTH
  else match segList (leAt e 8 8) (leAt e 16 4) cap conts with
    | .error st => s.fail r st
    | .ok l =>
      let n : XRecv := { seq := x.recvNext, ref := r, cap := cap, segs := l }
      (s.setConn c { x with recvs := x.recvs ++ [n], recvNext := x.recvNext + 1 }).postItem r 0x40 l

def execSend (r : Ref) (e : List Byte) (conts : List (List Byte)) (s : State) : Host.Outcome State Fault Refusal :=
  s.run (s.work r (fun s => s.onConn r (fun c s => s.opXfer r 0x30 e conts c)))
def execWrite (r : Ref) (e : List Byte) (conts : List (List Byte)) (s : State) : Host.Outcome State Fault Refusal :=
  s.run (s.work r (fun s => s.onConn r (fun c s => s.opXfer r 0x31 e conts c)))
def execRead (r : Ref) (e : List Byte) (conts : List (List Byte)) (s : State) : Host.Outcome State Fault Refusal :=
  s.run (s.work r (fun s => s.onConn r (fun c s => s.opXfer r 0x32 e conts c)))
def execFetchAdd (r : Ref) (e : List Byte) (s : State) : Host.Outcome State Fault Refusal :=
  s.run (s.work r (fun s => s.onConn r (fun c s => s.opXfer r 0x33 e [] c)))
def execCompSwap (r : Ref) (e : List Byte) (s : State) : Host.Outcome State Fault Refusal :=
  s.run (s.work r (fun s => s.onConn r (fun c s => s.opXfer r 0x34 e [] c)))
def execConnConnect (r : Ref) (e : List Byte) (s : State) : Host.Outcome State Fault Refusal :=
  s.run (s.work r (fun s => s.onConn r (fun c s => s.opConnect r e c)))
def execConnClose (r : Ref) (e : List Byte) (s : State) : Host.Outcome State Fault Refusal :=
  s.run (s.work r (fun s => s.onConn r (fun c s => s.opClose r e c)))
def execConnReset (r : Ref) (e : List Byte) (s : State) : Host.Outcome State Fault Refusal :=
  s.run (s.work r (fun s => s.onConn r (fun c s => s.opReset r e c)))
def execConnQuery (r : Ref) (e : List Byte) (s : State) : Host.Outcome State Fault Refusal :=
  s.run (s.work r (fun s => s.onConn r (fun c s => s.opQuery r e c)))
def execRecv (r : Ref) (e : List Byte) (conts : List (List Byte)) (s : State) : Host.Outcome State Fault Refusal :=
  s.run (s.work r (fun s => s.onConn r (fun c s => s.opRecv r e conts c)))

/-! ## Region keys (R262–R264) -/

/-- The global index of a drawer's local key, if its grant holds it. -/
def State.keyIndex (s : State) (d j : Nat) : Option Nat := nthIndex (s.extents d 0xA 256) j

/-- KEY_REGISTER. -/
def State.opKeyRegister (s : State) (r : Ref) (e : List Byte) : State :=
  let d := ringDrawer r.ring
  let scopeOn := bit (leAt e 13 1) 0
  if !zeroBut e [(0, 14), (16, 4), (24, 16)] || !decide (leAt e 8 4 < 2 ^ 22) || !decide (leAt e 12 1 < 8) ||
     !decide (leAt e 13 1 < 2) || !decide (leAt e 16 4 < 2 ^ 20) then s.fail r ST_BAD_FLAGS
  else match s.keyIndex d (leAt e 8 4), nthIndex (s.extents d 9 64) (leAt e 16 4) with
  | none, _ => s.complete r ST_KEY_INVALID 0 []
  | some i, sc =>
    if scopeOn && sc.isNone then s.complete r ST_KEY_INVALID 0 []
    else if (s.key i).st ≠ 0 then s.complete r ST_KEY_STATE 0 []
    else if leAt e 32 8 = 0 ∨ 2 ^ 48 < leAt e 32 8 then s.fail r ST_BAD_LENGTH
    else
      let k := s.key i
      let tag := (k.tag + 1) % 1024
      let s := s.setKey i { k with st := 1, tag := tag, base := leAt e 24 8, len := leAt e 32 8, perm := leAt e 12 1, drawer := d,
                                   scopeEn := scopeOn, scope := if scopeOn then sc.getD 0 else 0, inflight := 0, ref := none, slow := false }
      s.complete r ST_OK (tag * 2 ^ 22 + i) []

/-- A revoke ends once nothing of the key is in flight (R264). -/
def State.revokeDone (s : State) (i : Nat) : State :=
  let k := s.key i
  if k.st = 2 ∧ k.inflight = 0 then
    let s := s.setKey i { k with st := 0, ref := none, slow := false }
    match k.ref with
    | some r => s.complete r ST_OK 0 []
    | none => s
  else s

/-- KEY_REVOKE: the key becomes REVOKING. -/
def State.opKeyRevoke (s : State) (r : Ref) (e : List Byte) : State :=
  let d := ringDrawer r.ring
  if !zeroBut e [(0, 12)] || !decide (leAt e 8 4 < 2 ^ 22) then s.fail r ST_BAD_FLAGS
  else match s.keyIndex d (leAt e 8 4) with
  | none => s.complete r ST_KEY_INVALID 0 []
  | some i =>
    if (s.key i).st ≠ 1 then s.complete r ST_KEY_STATE 0 []
    else s.setKey i { s.key i with st := 2, ref := some r }

/-- REVOKE_SLOW_TIMER. -/
def State.opRevokeSlow (s : State) (i : Nat) : State :=
  let k := s.key i
  if decide (k.st = 2) && !k.slow then
    (s.setKey i { k with slow := true }).raiseTo k.drawer EV_xpt_revoke_slow k.drawer [s.keyLocal i, k.inflight]
  else s

def execKeyRegister (r : Ref) (e : List Byte) (s : State) : Host.Outcome State Fault Refusal :=
  s.run (s.work r (·.opKeyRegister r e))
def execKeyRevoke (r : Ref) (e : List Byte) (s : State) : Host.Outcome State Fault Refusal :=
  s.run (s.work r (·.opKeyRevoke r e))
def execKeyRevokeDone (key : Nat) (s : State) : Host.Outcome State Fault Refusal := s.run (s.revokeDone key)
def execRevokeSlowTimer (key : Nat) (s : State) : Host.Outcome State Fault Refusal := s.run (s.opRevokeSlow key)

/-! ## Ends of draining, started operations and contexts (R248, R250, R257) -/

/-- Every started operation and open tracker of a DRAINING connection has ended. -/
def State.opDrainEnd (s : State) (c : Nat) : State :=
  let x := s.conn c
  if decide (x.st = 3) && x.ops.isEmpty && x.tracks.isEmpty then s.toReady c else s

/-- CLOSE_MS has passed in DRAINING. -/
def State.opCloseMs (s : State) (c : Nat) : State := if (s.conn c).st = 3 then s.toReady c else s

/-- CONTEXT_FETCH_DONE: the context read from HBM arrives; a poisoned one ends its connection (R250, R269). -/
def State.opContext (s : State) (c : Nat) (bad : Bool) : State :=
  if !s.xpt.fetching.contains c then s
  else
    let s := s.cacheIn c
    if bad then
      let s := s.raise EV_xpt_context_poison 0xFFFF [c, (s.conn c).drawer]
      s.connFail c 4 ST_MEM_UNCORRECTABLE (((s.conn c).ops.head?).map (·.ref.index))
    else s

def execConnDrainEnd (c : Nat) (s : State) : Host.Outcome State Fault Refusal := s.run (s.opDrainEnd c)
def execCloseMsExpire (c : Nat) (s : State) : Host.Outcome State Fault Refusal := s.run (s.opCloseMs c)
def execXptOpStart (c : Nat) (s : State) : Host.Outcome State Fault Refusal := s.run (s.startOp c)
def execContextFetchDone (c : Nat) (bad : Bool) (s : State) : Host.Outcome State Fault Refusal := s.run (s.opContext c bad)
def execPacketSend (c : Nat) (data : List Byte) (stat : Nat) (s : State) : Host.Outcome State Fault Refusal :=
  s.run (s.opPacketSend c data stat)

/-! ## Arriving packets -/

def execSendData (p : Nat) (auth : Bool) (s : State) : Host.Outcome State Fault Refusal :=
  s.run (s.splTake p [1] (fun c i s => s.dataIn c i auth))
def execWriteData (p : Nat) (auth : Bool) (s : State) : Host.Outcome State Fault Refusal :=
  s.run (s.splTake p [2] (fun c i s => s.dataIn c i auth))
def execReadReq (p : Nat) (auth : Bool) (s : State) : Host.Outcome State Fault Refusal :=
  s.run (s.splTake p [3] (fun c i s => s.dataIn c i auth))
def execReadResp (p : Nat) (auth : Bool) (s : State) : Host.Outcome State Fault Refusal :=
  s.run (s.splTake p [4] (fun c i s => s.dataIn c i auth))
def execFetchAddReq (p : Nat) (auth : Bool) (s : State) : Host.Outcome State Fault Refusal :=
  s.run (s.splTake p [5] (fun c i s => s.dataIn c i auth))
def execCompSwapReq (p : Nat) (auth : Bool) (s : State) : Host.Outcome State Fault Refusal :=
  s.run (s.splTake p [6] (fun c i s => s.dataIn c i auth))
def execAtomicResp (p : Nat) (auth : Bool) (s : State) : Host.Outcome State Fault Refusal :=
  s.run (s.splTake p [7] (fun c i s => s.dataIn c i auth))
def execAbandon (p : Nat) (auth : Bool) (s : State) : Host.Outcome State Fault Refusal :=
  s.run (s.splTake p [0x0E] (fun c i s => s.dataIn c i auth))
def execFill (p : Nat) (auth : Bool) (s : State) : Host.Outcome State Fault Refusal :=
  s.run (s.splTake p [0x0F] (fun c i s => s.dataIn c i auth))

/-- The UDP payload of the frame at hand, for the extensions of acknowledgements. -/
def State.udpOf (s : State) (p : Nat) : List Byte := ((parseUdp (s.quireData p)).map (·.pl)).getD []

/-- ACK (R286): CUM_PSN, RX_COUNT, CE_COUNT, CE_PATHS, SACK. -/
def State.opAck (s : State) (c : Nat) (i : XIn) (auth : Bool) : State :=
  let l := s.udpOf i.ptr
  if (s.conn c).enc && !auth then s.authFailed c 1
  else s.ackIn c (beAt l 32 4) (beAt l 36 2) (beAt l 38 2) (beAt l 40 8) (beAt l 48 32)

/-- NAK (R287): NAK_PSN, REASON. -/
def State.opNak (s : State) (c : Nat) (i : XIn) (auth : Bool) : State :=
  let l := s.udpOf i.ptr
  if (s.conn c).enc && !auth then s.authFailed c 1
  else s.nakIn c (beAt l 32 4) (beAt l 36 1)

/-- RESET_NOTICE (R269, R297). -/
def State.opNotice (s : State) (c : Nat) : State :=
  if (s.conn c).enc then s.bump Reg.n_notice_ignored
  else s.connFail c 3 ST_CONN_BROKEN (((s.conn c).ops.head?).map (·.ref.index))

def execAck (p : Nat) (auth : Bool) (s : State) : Host.Outcome State Fault Refusal :=
  s.run (s.splTake p [0x10] (fun c i s => s.opAck c i auth))
def execNak (p : Nat) (auth : Bool) (s : State) : Host.Outcome State Fault Refusal :=
  s.run (s.splTake p [0x11] (fun c i s => s.opNak c i auth))
def execResetNotice (p : Nat) (s : State) : Host.Outcome State Fault Refusal :=
  s.run (s.splTake p [0x12] (fun c _ s => s.opNotice c))

/-! ## Timers -/

/-- ACK_DELAY_EXPIRE (R285). -/
def State.opAckDelay (s : State) (c : Nat) : State :=
  if decide (0 < (s.conn c).ackCnt) && liveConn (s.conn c).st then s.sendAck c else s

/-- PATH_HOLD_EXPIRE (R281). -/
def State.opPathHold (s : State) (c : Nat) : State := if liveConn (s.conn c).st then s.pathsUp c else s

def execAckDelayExpire (c : Nat) (s : State) : Host.Outcome State Fault Refusal := s.run (s.opAckDelay c)
def execRtoExpire (c : Nat) (s : State) : Host.Outcome State Fault Refusal := s.run (s.rtoFire c)
def execRnrWaitExpire (c seq : Nat) (s : State) : Host.Outcome State Fault Refusal := s.run (s.rnrFire c seq)
def execPathHoldExpire (c : Nat) (s : State) : Host.Outcome State Fault Refusal := s.run (s.opPathHold c)

/-! ## The RoCEv2 subset (R298) -/

/-- An acknowledgement with its AETH: syndrome and MSN. -/
def State.roceAck (s : State) (c psn syn : Nat) : State :=
  let x := s.conn c
  let (pl, s) := s.rocePkt x 0x11 (psn % 2 ^ 24) false (beBytes 1 syn ++ beBytes 3 x.rMsn) []
  s.xsend x 0 pl (if syn < 32 then Reg.n_acks_sent else Reg.n_naks_sent)

/-- The next PSN expected. -/
def State.roceNext (s : State) (c n : Nat) : State :=
  s.setConn c { s.conn c with rcvBase := ((s.conn c).rcvBase + n) % 2 ^ 32, rNak := false }

/-- A message byte run in order: placed at the receive or the region, and completed at its last packet. -/
def State.roceData (s : State) (c op psn : Nat) (write first last imm ackReq : Bool) (reth l : List Byte) (src : Nat) : State :=
  let x := s.conn c
  let immV := if imm then some (beAt l 0 4) else none
  let data := if imm then l.drop 4 else l
  let got := if first then 0 else x.rGot
  let (key, off, total) := if write && first then (beAt reth 8 4, beAt reth 0 8, beAt reth 12 4) else (x.rKey, x.rOff, x.rTotal)
  let takes := !write || imm
  let recv := x.recvs.find? (fun r => decide (r.seq = x.rMsn))
  let nak := fun (s : State) => s.roceAck c psn 0x62
  if takes && recv.isNone then (s.roceAck c psn (32 + s.get Reg.XPT_ROCE_CFG_RNR_TIMER)).bump Reg.n_rnr_sent
  else
    let bad := if write then s.keyCheck c key (off + got) data.length 1 else 0
    if bad ≠ 0 then nak ((s.keyRefused c key bad src).roceNext c 1)
    else
      let cap := (recv.map (·.cap)).getD 0
      if !write && decide (cap < got + data.length) then
        match recv with
        | some r =>
          let s := s.setConn c { x with recvs := x.recvs.filter (fun e => !decide (e.seq = r.seq)), rMsn := x.rMsn + 1, rGot := 0 }
          nak (((s.bump Reg.n_recv_too_short).recvEnd r.ref ST_RECV_TOO_SHORT 0 r.seq 0x30 immV).roceNext c 1)
        | none => s
      else
        let s := if write then s.dmaWrite x.drawer [((s.key (key % 2 ^ 22)).base + off + got, data)]
          else s.dmaWrite x.drawer (placeSegs ((recv.map (·.segs)).getD []) got data)
        let y := { x with rGot := got + data.length, rKey := key, rOff := off, rTotal := total }
        let s := s.roceNext c 1 |>.setConn c { y with rcvBase := (x.rcvBase + 1) % 2 ^ 32, rNak := false }
        let s := if last then
            let z := s.conn c
            let s := s.setConn c { z with rGot := 0, rMsn := if takes then z.rMsn + 1 else z.rMsn,
                                          recvs := if takes then z.recvs.filter (fun e => !decide (e.seq = x.rMsn)) else z.recvs }
            if takes then match recv with
              | some r => s.recvEnd r.ref ST_OK (got + data.length) r.seq (if write then 0x31 else 0x30) immV
              | none => s
            else s
          else s
        let _ := op
        if ackReq || last then s.roceAck c psn 0x1F else s

/-- A READ response of the subset: its PSN follows the request's, which it acknowledges. -/
def State.roceResp (s : State) (c full : Nat) (data : List Byte) : State :=
  let x := s.conn c
  match x.unacks.find? (fun u => decide (u.wire = 3) && decide (idxSub full u.psn < max 1 ((u.total + x.mtu - 1) / x.mtu))) with
  | none => s
  | some u =>
    match x.ops.find? (fun o => decide (u.item = some o.ref.index)) with
    | none => s
    | some o =>
      let off := idxSub full u.psn * x.mtu
      if off ≠ o.got ∨ o.len < off + data.length then s
      else
        let s := s.dmaWrite x.drawer (placeSegs o.segs off data)
        let got := off + data.length
        let s := s.setConn c { x with ops := x.ops.map (fun e => if e.ref.index = o.ref.index then { e with got := got } else e) }
        if got = o.len then
          let s := s.acked c (fun p => decide (p = u.psn) || psnLt p u.psn) true
          let z := s.conn c
          (s.setConn c { z with ops := z.ops.filter (fun e => !decide (e.ref.index = o.ref.index)) }).opEnd o ST_OK o.len
        else s

/-- An acknowledgement of the subset: ACK, RNR NAK, or a NAK with its code. -/
def State.roceAckIn (s : State) (c full syn : Nat) : State :=
  let x := s.conn c
  match bits syn 6 5 with
  | 0 => s.acked c (fun p => (psnLt p full || decide (p = full)) &&
      !(x.unacks.any (fun u => decide (u.psn = p) && decide (u.wire = 3)))) true
  | 1 => s.nakIn c full 1
  | _ =>
    let s := s.acked c (fun p => psnLt p full) true
    if syn % 32 = 0 then
      let y := s.conn c
      s.setConn c { y with rtx := y.unacks.map (fun u => u.psn) }
    else s.nakIn c full 4

/-- One RoCEv2 packet of an accepting connection. -/
def State.roceIn (s : State) (c : Nat) (u : XPkt) : State :=
  let l := u.pl
  let x := s.conn c
  let op := beAt l 0 1
  let pad := bits (beAt l 1 1) 5 4
  let body := (l.take (l.length - 4 - pad)).drop 12
  let psn := beAt l 9 3
  let due := match x.cnpAt with
    | none => true
    | some t => decide (s.get Reg.XPT_ROCE_CFG_CNP_GAP * 1000 ≤ s.now - t)
  let s := if u.ce && s.on Reg.XPT_ROCE_CFG_CNP_EN && due then
      let (pl, s) := s.rocePkt x 0x81 0 false (List.replicate 16 0) []
      match s.xtry x 0 pl with
      | none => s.noLeaf (drMaster x.drawer)
      | some s => (s.setConn c { x with cnpAt := some s.now }).bump Reg.n_cnp_sent
    else s
  let x := s.conn c
  let unaFull := (x.sndUna + (psn + 2 ^ 24 - x.sndUna % 2 ^ 24) % 2 ^ 24) % 2 ^ 32
  if op = 0x11 then s.roceAckIn c unaFull (beAt body 0 1)
  else if 0x0D ≤ op ∧ op ≤ 0x10 then s.roceResp c unaFull (if op = 0x0E then body else body.drop 4)
  else
    let d := (psn + 2 ^ 24 - x.rcvBase % 2 ^ 24) % 2 ^ 24
    if d = 0 then
      let s := s.bump Reg.n_rx_data_pkts
      let s := if u.ce then s.bump Reg.n_ce_received else s
      let ackReq := bit (beAt l 8 1) 7
      let reth := slice body 0 16
      match op with
      | 0x00 => s.roceData c op psn false true false false ackReq reth body u.src
      | 0x01 => s.roceData c op psn false false false false ackReq reth body u.src
      | 0x02 => s.roceData c op psn false false true false ackReq reth body u.src
      | 0x03 => s.roceData c op psn false false true true ackReq reth body u.src
      | 0x04 => s.roceData c op psn false true true false ackReq reth body u.src
      | 0x05 => s.roceData c op psn false true true true ackReq reth body u.src
      | 0x06 => s.roceData c op psn true true false false ackReq reth (body.drop 16) u.src
      | 0x07 => s.roceData c op psn true false false false ackReq reth body u.src
      | 0x08 => s.roceData c op psn true false true false ackReq reth body u.src
      | 0x09 => s.roceData c op psn true false true true ackReq reth body u.src
      | 0x0A => s.roceData c op psn true true true false ackReq reth (body.drop 16) u.src
      | 0x0B => s.roceData c op psn true true true true ackReq reth (body.drop 16) u.src
      | 0x0C =>
        let n := beAt reth 12 4
        match s.keyCheck c (beAt reth 8 4) (beAt reth 0 8) n 0 with
        | 0 =>
          let r : XReq := { psn := x.rcvBase, wire := 3, seq := psn, total := n, rkey := beAt reth 8 4, roff := beAt reth 0 8, op1 := 0, op2 := 0 }
          (s.roceNext c (max 1 ((n + x.mtu - 1) / x.mtu))).execReq c r
        | st => ((s.keyRefused c (beAt reth 8 4) st u.src).roceNext c 1).roceAck c psn 0x62
      | _ => s.bump Reg.n_hdr_error
    else if d < 2 ^ 23 then
      if x.rNak then s
      else ((s.setConn c { x with rNak := true }).roceAck c (x.rcvBase % 2 ^ 24) 0x60).bump Reg.n_roce_seq_nak
    else (s.roceAck c ((x.rcvBase + 2 ^ 32 - 1) % 2 ^ 24) 0x1F).bump Reg.n_dup_drop

/-- Does a RoCEv2 opcode answer an operation of the connection? -/
def roceAnswer (op : Nat) : Bool := (decide (0x0D ≤ op) && decide (op ≤ 0x11)) || decide (op = 0x81)

/-- A RoCEv2 packet at the transport engine: the checks of R268 and R298, then a notification or its opcode's handling. -/
def State.roceOne (s : State) (cnp crc : Bool) (u : XPkt) : State :=
  let c := beAt u.pl 5 3
  let x := s.conn c
  if !s.on Reg.XPT_CFG_ENABLE then s
  else if !u.ok then s.bump Reg.n_udp_csum_error
  else if u.pl.length < 16 ∨ beAt u.pl 2 2 ≠ 0xFFFF then s.bump Reg.n_hdr_error
  else if !crc then s.bump Reg.n_icrc_error
  else if !liveConn x.st || !x.roce || !decide (u.src = x.raddr) || !decide (u.dst = s.localAddr x.laddr) then
    s.bump Reg.n_rx_conn_mismatch
  else if s.quiescing x.drawer && !(s.draining x.drawer && roceAnswer (beAt u.pl 0 1)) then
    s.quiesceDrop x.drawer (roceAnswer (beAt u.pl 0 1))
  else if cnp then s.windowEnd c true
  else s.roceIn c u

/-- The next frame of XPT[p] with RoCEv2 packets is taken when it is a CNP, or when it is none, as asked (R268, R298). -/
def State.roceTake (s : State) (p : Nat) (cnp crc : Bool) : State :=
  match State.xptPick (mgetD s.tm.xptQ p []) [] s with
  | (none, s) => s
  | (some (f, k, rest), s) =>
    let u := parseUdp (s.frameBytes f)
    let isCnp := match u with
      | some u => decide (beAt u.pl 0 1 = 0x81)
      | none => false
    if k ≠ 1 ∨ (isCnp ≠ cnp ∧ u.isSome) then s
    else
      let s := { s with tm := { s.tm with xptQ := mputD s.tm.xptQ p rest [] } }
      let s := match u with
        | none => s.bump Reg.n_rx_conn_mismatch
        | some u => s.roceOne cnp crc u
      s.release f.quire

def execRocePacket (p : Nat) (crc : Bool) (s : State) : Host.Outcome State Fault Refusal := s.run (s.roceTake p false crc)
def execCnp (p : Nat) (crc : Bool) (s : State) : Host.Outcome State Fault Refusal := s.run (s.roceTake p true crc)

/-! ## Snapshots (R249, R274, R299) -/

/-- The head of a connection's context: what it was opened with. -/
def Conn.bytesOpen (x : Conn) : List Byte :=
  leBytes 1 (x.st + 8 * b2n x.roce + 16 * b2n x.enc + 32 * x.payload) ++ leBytes 1 (x.paths - 1 + 64 * (x.qcount - 1)) ++
  leBytes 1 x.laddr ++ leBytes 1 x.dscp ++ leBytes 2 x.drawer ++ leBytes 2 x.gen ++ leBytes 4 x.ltoken ++ leBytes 4 x.rtoken ++
  beBytes 16 x.raddr ++ leBytes 4 x.rconn ++ leBytes 4 x.txq ++ leBytes 2 x.udpSrc ++ leBytes 1 x.retryLim ++ leBytes 1 x.rnrLim

/-- Where its operations stand. -/
def Conn.bytesOps (x : Conn) : List Byte :=
  leBytes 4 x.sa ++ leBytes 4 x.msn ++ leBytes 4 x.onum ++ leBytes 4 x.rbase ++ leBytes 2 x.tracks.length ++ leBytes 2 x.ops.length

/-- Its packet windows. -/
def Conn.bytesWindow (x : Conn) : List Byte :=
  let sack := x.unacks.foldl (fun (m : Nat) u => let d := idxSub u.psn x.sndUna
    if d = 0 ∨ 256 < d then m else putBits m (d - 1) (d - 1) 0)
    ((List.range (min 256 (idxSub x.sndNxt x.sndUna - 1))).foldl (fun a j => a + 2 ^ j) 0)
  leBytes 4 x.sndNxt ++ leBytes 4 x.sndUna ++ leBytes 32 sack ++ leBytes 4 x.rcvBase ++ leBytes 32 x.rcvMap

/-- Its congestion and retransmission state. -/
def Conn.bytesPace (x : Conn) : List Byte :=
  leBytes 4 x.cwnd ++ leBytes 2 x.alpha ++ leBytes 1 x.retries ++ leBytes 1 x.rnrs ++ leBytes 4 x.srtt ++ leBytes 4 x.rttvar ++
  leBytes 4 x.rto ++ leBytes 4 x.txEpoch ++ leBytes 4 x.rxEpoch ++ leBytes 4 (x.list.getD 0) ++ leBytes 1 x.spPath ++
  leBytes 1 x.spRound ++ leBytes 2 0 ++ leBytes 4 x.ackSeq ++ leBytes 4 x.winEnd ++ leBytes 2 x.winAcked ++ leBytes 2 x.winCe

/-- Its paths. -/
def Conn.bytesPaths (x : Conn) : List Byte :=
  let w := (List.range 64).foldl (fun a i => a + x.weight i % 16 * 2 ^ (4 * i)) 0
  leBytes 4 0 ++ leBytes 8 x.down ++ leBytes 32 w ++ leBytes 8 x.pathCe ++ leBytes 8 x.pathSent ++ leBytes 1 x.failPath ++
  leBytes 1 x.failRun ++ leBytes 2 0 ++ leBytes 4 (bits x.downEnd 41 10)

/-- The 256 bytes of a connection's context. -/
def State.connBytes (s : State) (c : Nat) : List Byte :=
  (s.conn c).bytesOpen ++ (s.conn c).bytesOps ++ (s.conn c).bytesWindow ++ (s.conn c).bytesPace ++ (s.conn c).bytesPaths

/-- The 64 bytes of a key record (R274). -/
def XKey.bytes (k : XKey) : List Byte :=
  leBytes 8 k.base ++ leBytes 8 k.len ++ leBytes 1 k.perm ++ leBytes 1 k.st ++ leBytes 2 k.tag ++ leBytes 2 k.drawer ++
  leBytes 1 (b2n k.scopeEn) ++ leBytes 1 0 ++ leBytes 4 k.scope ++ leBytes 4 k.inflight ++ List.replicate 32 0

/-- Words copied into consecutive registers. -/
def State.copyWords (s : State) (addr : Nat) (l : List Byte) : State :=
  (List.range (l.length / 4)).foldl (fun (s : State) w => s.wr (addr + 4 * w) (leAt l (4 * w) 4)) s

/-- A write of XPT_CONN_SEL; GO copies the context. -/
def State.opConnSnapshot (s : State) (v : Nat) : State :=
  let s := s.set Reg.XPT_CONN_SEL_CONN (v % 2 ^ 20)
  if bit v 31 then s.copyWords (Reg.XPT_CONN_DATA 0) (s.connBytes (v % 2 ^ 20)) else s

/-- A write of XPT_KEY_SEL; GO copies the record. -/
def State.opKeySnapshot (s : State) (v : Nat) : State :=
  let s := s.set Reg.XPT_KEY_SEL_KEY (v % 2 ^ 22)
  if bit v 31 then s.copyWords (Reg.XPT_KEY_DATA 0) (s.key (v % 2 ^ 22)).bytes else s

def execXptConnSnapshot (v : Nat) (s : State) : Host.Outcome State Fault Refusal := s.write (s.opConnSnapshot v)
def execXptKeySnapshot (v : Nat) (s : State) : Host.Outcome State Fault Refusal := s.write (s.opKeySnapshot v)

end Sys2Proof.Machine
end

