-- ==== Sys2Proof/Machine/AccOps.lean ====
section
/-! DEFINITION. The accelerators' operations: buffers, body checks, keys and the jobs themselves (R339–R354). -/

namespace Sys2Proof.Machine

/-! ## Buffers (R340) -/

/-- A buffer descriptor. -/
structure Buf where
  addr  : Nat
  len   : Nat
  space : Nat
deriving DecidableEq, Repr

/-- The descriptor at a position of an entry. -/
def bufAt (e : List Byte) (off : Nat) : Buf := { addr := leAt e off 8, len := leAt e (off + 8) 4, space := leAt e (off + 12) 1 }

/-- The status of a descriptor that breaks R340, or 0. -/
def bufBad (e : List Byte) (off : Nat) : Nat :=
  let b := bufAt e off
  if 3 < b.space ∨ leAt e (off + 13) 3 ≠ 0 ∨ (b.space = 2 ∧ b.addr / 2 ^ 48 ≠ 0) ∨ (b.space = 3 ∧ (b.addr ≠ 0 ∨ b.len ≠ 0)) then ST_BAD_FLAGS
  else if 16777216 < b.len then ST_BAD_LENGTH
  else 0

/-- The first status that is not 0. -/
def firstBad : List Nat → Nat
  | [] => 0
  | 0 :: t => firstBad t
  | c :: _ => c

/-- A status when a condition fails. -/
def need (ok : Bool) (st : Nat) : Nat := if ok then 0 else st

/-- The master of a ring's jobs. The spec names none for the firmware rings: they act as a device-internal unit (DEDUCED, log entry 12). -/
def ringMaster (k : Nat) : Nat := if isCtl k then 0x3000 else drMaster (ringDrawer k)

/-- The environment of a ring's job. -/
def envOf (r : Ref) : JobEnv :=
  { owner := if isCtl r.ring then none else some (ringDrawer r.ring), master := ringMaster r.ring, ref := r, thread := none }

/-- The host port that a job's host addresses name. -/
def State.envPort (s : State) (v : JobEnv) : Option Nat :=
  match v.owner with
  | some d => s.drPort d
  | none => none

/-- Check of a quire that a job names (R212, R340): a status, or 0. -/
def State.bufQuire (s : State) (v : JobEnv) (b : Buf) : Nat × State :=
  let p := b.addr % 2 ^ 32
  let c := s.ptrCheck v.master p
  if c ≠ 0 then (checkStatus c, s.badPointer v.master p c) else (0, s)

/-- The bytes of a source buffer: a status or 0, and the bytes. -/
def State.bufRead (s : State) (v : JobEnv) (b : Buf) (h : HostIn) : Nat × List Byte × State :=
  if b.len = 0 ∨ b.space = 3 then (0, [], s)
  else match b.space with
  | 0 =>
    if (s.envPort v).isNone then (ST_FENCE_DENIED, [], s)
    else if h.st ≠ 0 then (h.st, [], s) else (0, slice h.data 0 b.len, s)
  | 1 =>
    match s.devAccess v.master b.addr b.len 0 with
    | (0, s) =>
      let (bad, l, s) := s.memRead v.master b.addr b.len
      (if bad then ST_MEM_UNCORRECTABLE else 0, l, s)
    | (st, s) => (st, [], s)
  | _ =>
    match s.bufQuire v b with
    | (0, s) =>
      match s.quire (b.addr % 2 ^ 32) with
      | none => (ST_BAD_POINTER, [], s)
      | some q =>
        let off := bits b.addr 47 32
        if q.data.length < off + b.len then (ST_BAD_LENGTH, [], s)
        else if q.poison then (ST_MEM_UNCORRECTABLE, [], s)
        else (0, slice q.data off b.len, s)
    | (st, s) => (st, [], s)

/-- Bytes written to a destination buffer: a status, or 0. -/
def State.bufWrite (s : State) (v : JobEnv) (b : Buf) (l : List Byte) : Nat × State :=
  if l.isEmpty ∨ b.space = 3 then (0, s)
  else match b.space with
  | 0 =>
    match s.envPort v with
    | none => (ST_FENCE_DENIED, s)
    | some q => (0, s.hostWrite q b.addr l)
  | 1 =>
    match s.devAccess v.master b.addr l.length 1 with
    | (0, s) =>
      let (ok, s) := s.memWrite v.master b.addr l
      (if ok then 0 else ST_MEM_UNCORRECTABLE, s)
    | (st, s) => (st, s)
  | _ =>
    match s.bufQuire v b with
    | (0, s) =>
      let p := b.addr % 2 ^ 32
      match s.quire p with
      | none => (ST_BAD_POINTER, s)
      | some q =>
        let off := bits b.addr 47 32
        if q.data.length < off + l.length then (ST_BAD_LENGTH, s)
        else if 1 < q.refcnt then (ST_QUIRE_SHARED, s.bump Reg.n_shared_write_refused)
        else (0, s.setQuire p { q with data := overlay q.data off l })
    | (st, s) => (st, s)

/-- What a destination holds is undefined after some failures (R341): free bytes. -/
def State.spoil (s : State) (v : JobEnv) (b : Buf) (n : Nat) : State :=
  let l := slice (Config.freeBytes s.freeCtr n) 0 n
  (({ s with freeCtr := s.freeCtr + 1 }).bufWrite v b l).2

/-- A result is written to DST: status and COUNT (R341). -/
def State.jobOut (s : State) (v : JobEnv) (b : Buf) (l : List Byte) : Option (Nat × Nat) × State :=
  if b.len < l.length then (some (ST_OUTPUT_SHORT, l.length), s.spoil v b b.len)
  else match s.bufWrite v b l with
    | (0, s) => (some (ST_OK, l.length), s)
    | (st, s) => (some (st, 0), s)

/-! ## Body checks (R339–R354) -/

/-- SRC of a body. -/
def srcOf (e : List Byte) : Buf := bufAt e 8
/-- DST of a body. -/
def dstOf (e : List Byte) : Buf := bufAt e 24
/-- KEY of a body. -/
def keyOf (e : List Byte) : Nat := leAt e 40 4

/-- Checks of SRC and DST of a data job. -/
def srcDst (e : List Byte) : List Nat := [bufBad e 8, bufBad e 24]

/-- The chunk buffers of an erasure-code job, in order: entry and position. -/
def ecSlots (e : List Byte) (conts : List (List Byte)) : List (List Byte × Nat) :=
  [(e, 8), (e, 24)] ++ conts.flatMap (fun c => [(c, 8), (c, 24), (c, 40)])

/-- The body check of an erasure-code job. -/
def ecBad (decode : Bool) (e : List Byte) (conts : List (List Byte)) : Nat :=
  let k := leAt e 44 1
  let m := leAt e 45 1
  let c := leAt e 48 4
  let slots := ecSlots e conts
  let present := if decode then leAt e 52 4 else 2 ^ k - 1
  let want := if decode then leAt e 56 4 else 2 ^ (k + m) - 2 ^ k
  let used := fun j => bit present j || bit want j
  firstBad [
    need (zeroBut e [(0, 40), (44, 2), (48, 4), (if decode then 52 else 48, if decode then 8 else 4)]) ST_BAD_FLAGS,
    need (conts.all (fun x => decide (leAt x 56 8 = 0))) ST_BAD_FLAGS,
    need (decide (1 ≤ k) && decide (k ≤ 16) && decide (m ≤ 4)) ST_BAD_FLAGS,
    need (decide (64 ≤ c) && decide (c ≤ 1048576) && decide (c % 64 = 0)) ST_BAD_LENGTH,
    need (decide (k + m ≤ slots.length)) ST_BAD_CHAIN,
    need (decide (present < 2 ^ (k + m)) && decide (want < 2 ^ (k + m))) ST_BAD_FLAGS,
    firstBad ((slots.zipIdx).map (fun x =>
      let b := bufAt x.1.1 x.1.2
      if k + m ≤ x.2 then need (decide (b = ⟨0, 0, 0⟩) || decide (b = ⟨0, 0, 3⟩)) ST_BAD_FLAGS
      else if !used x.2 then need (decide (b.space = 3)) ST_BAD_FLAGS
      else firstBad [bufBad x.1.1 x.1.2, need (!decide (b.space = 3)) ST_BAD_FLAGS,
                     need (!bit present x.2 || decide (b.len = c)) ST_BAD_LENGTH]))]

/-- Bytes of a public encoding by type (R345). -/
def pubLen (type : Nat) : Nat :=
  match type with
  | 7 => 65
  | 8 => 97
  | 9 => 1952
  | 10 => 2592
  | _ => 1184

/-- Bytes of a signature by type (R346, R353, FIPS 204). -/
def sigLen (type : Nat) : Nat :=
  match type with
  | 7 => 64
  | 8 => 96
  | 9 => 3309
  | _ => 4627

/-- The status of a body that breaks its opcode's rule, or 0. -/
def jobBad (op : Nat) (e : List Byte) (conts : List (List Byte)) : Nat :=
  let alg := leAt e 44 1
  let mode := leAt e 45 1
  let key := need (decide (keyOf e < 2 ^ 20)) ST_BAD_FLAGS
  let src := srcOf e
  match op with
  | 0x48 => firstBad [need (zeroBut e [(0, 8), (40, 4), (48, 4)]) ST_BAD_FLAGS, key]
  | 0x50 => firstBad ([need (zeroBut e [(0, 46), (48, 16)]) ST_BAD_FLAGS] ++ srcDst e ++
      [key, need (decide (alg ≤ 1) && decide (mode ≤ 1)) ST_BAD_FLAGS,
       need (decide (leAt e 60 4 + 16 * mode ≤ src.len)) ST_BAD_LENGTH])
  | 0x51 => firstBad ([need (zeroBut e ((0, 40) :: (44, 1) :: (if 3 ≤ alg then [(40, 4)] else []))) ST_BAD_FLAGS] ++ srcDst e ++
      [key, need (decide (alg ≤ 4)) ST_BAD_FLAGS])
  | 0x52 => firstBad ([need (zeroBut e [(0, 40), (44, 2)]) ST_BAD_FLAGS] ++ srcDst e ++
      [need (decide (alg ≤ 1) && decide (1 ≤ mode) && decide (mode ≤ (if alg = 0 then 9 else 3))) ST_BAD_FLAGS])
  | 0x53 => firstBad ([need (zeroBut e [(0, 40), (44, 1)]) ST_BAD_FLAGS] ++ srcDst e ++ [need (decide (alg ≤ 1)) ST_BAD_FLAGS])
  | 0x54 => ecBad false e conts
  | 0x55 => ecBad true e conts
  | 0x56 => firstBad [need (zeroBut e [(0, 8), (40, 5), (48, 16)]) ST_BAD_FLAGS, key,
      need (decide (1 ≤ alg) && decide (alg ≤ 6)) ST_BAD_FLAGS, need (conts.all (fun x => decide (leAt x 56 8 = 0))) ST_BAD_FLAGS]
  | 0x57 => firstBad [need (zeroBut e [(0, 8), (24, 21)]) ST_BAD_FLAGS, bufBad e 24, key,
      need (decide (7 ≤ alg) && decide (alg ≤ 11)) ST_BAD_FLAGS]
  | 0x58 => firstBad [need (zeroBut e [(0, 8), (40, 4)]) ST_BAD_FLAGS, key]
  | 0x59 => firstBad ([need (zeroBut e [(0, 45)]) ST_BAD_FLAGS] ++ srcDst e ++
      [key, need (decide (7 ≤ alg) && decide (alg ≤ 10)) ST_BAD_FLAGS])
  | 0x5A => firstBad ([need (zeroBut e [(0, 40), (44, 1), (48, 16)]) ST_BAD_FLAGS] ++ srcDst e ++
      [bufBad e 48, need (decide (7 ≤ alg) && decide (alg ≤ 10)) ST_BAD_FLAGS,
       need (decide ((bufAt e 48).space = 1) || decide ((bufAt e 48).space = 2)) ST_BAD_FLAGS,
       need (decide ((dstOf e).len = pubLen alg)) ST_BAD_LENGTH])
  | 0x5B => firstBad ([need (zeroBut e ((0, 40) :: (44, 2) :: (if mode = 1 then [(40, 4)] else []))) ST_BAD_FLAGS] ++ srcDst e ++
      [key, need (decide (alg = 0) || decide (alg = 11)) ST_BAD_FLAGS, need (decide (mode ≤ 1)) ST_BAD_FLAGS])
  | 0x5C => firstBad [need (zeroBut e [(0, 12), (20, 1), (36, 1), (40, 4), (48, 15)]) ST_BAD_FLAGS, key,
      need (decide (leAt e 20 1 = 3) && decide (leAt e 36 1 = 3) && decide (leAt e 62 1 ≤ 1)) ST_BAD_FLAGS,
      need (bit (leAt e 62 1) 0 || decide (leAt e 8 4 = 0)) ST_BAD_FLAGS]
  | 0x5D => firstBad [need (zeroBut e [(0, 24), (40, 4)]) ST_BAD_FLAGS, bufBad e 8, key]
  | _ => firstBad [need (zeroBut e [(0, 8), (24, 20)]) ST_BAD_FLAGS, bufBad e 24, key]

/-! ## Keys (R345) -/

/-- The global index of a job's key whose type suits it. -/
def State.jobKey (s : State) (v : JobEnv) (i : Nat) (types : List Nat) : Option Nat :=
  match s.ktIndex v.owner i with
  | some g => if types.contains (s.ktEntry g).type then some g else none
  | none => none

/-- The secret's first bytes. -/
def KtEntry.key (e : KtEntry) (n : Nat) : List Byte := slice e.secret 0 n

/-- Key length of a symmetric type. -/
def keyLen (type : Nat) : Nat := if type = 1 ∨ type = 5 then 16 else 32

/-- An ended job: no output. -/
def ended (st : Nat) (s : State) : Option (Nat × Nat) × State := (some (st, 0), s)

/-- Is a connection bound to a stream, or does it still have a message that makes a record (R354)? -/
def State.streamBound (s : State) (g : Nat) : Bool :=
  s.xpt.conns.any (fun e => decide (e.2.sealTo = some g) && (!e.2.unbind || e.2.tracks.any (·.sealed)))

/-- The owner of a stream, by its seal ring. -/
def SealStream.owner (x : SealStream) : Option Nat := if isCtl x.ring then none else some (ringDrawer x.ring)

/-- USERS of a stream's signing entries move. -/
def State.streamUsers (s : State) (x : SealStream) (up : Bool) : State :=
  let s := match s.ktIndex x.owner x.sign with
    | some g => s.ktUsers g up
    | none => s
  match x.hybrid with
  | none => s
  | some h => match s.ktIndex x.owner h with
    | some g => s.ktUsers g up
    | none => s

/-- A job ends: its counters (R362), and its completion or its answer to a thread (R361). -/
def State.jobEnd (s : State) (v : JobEnv) (st count : Nat) : State :=
  let s := s.bump Reg.n_acc_jobs
  let s := if st = ST_OK then s else s.bump Reg.n_acc_errors
  let s := if st = ST_AUTH_FAIL then s.bump Reg.n_auth_fail_jobs else s
  let detail := if 1 ≤ st ∧ st ≤ 6 then [v.ref.index] else []
  match v.thread with
  | none => (s.countBad v.ref st).complete v.ref st count detail
  | some (t, rep) =>
    s.engineReply t 0x4300 rep [st, v.ref.tag, count % 2 ^ 32, count / 2 ^ 32, 0, 0, 0, 0]

/-- The stream of an entry ends: its entry is FREE, bindings end, and checkpoints that wait find no stream (R353, R345). -/
def State.closeStream (s : State) (g : Nat) : State :=
  match s.stream g with
  | none => s
  | some x =>
    let s := s.streamUsers x false
    let s := s.xpt.conns.foldl (fun (s : State) (e : Nat × Conn) =>
      if e.2.sealTo = some g then
        let s := e.2.tracks.foldl (fun (s : State) (t : XTrack) => if t.sealed then s.sealReturn (some g) else s) s
        s.setConn e.1 { e.2 with sealTo := none, unbind := false, tracks := e.2.tracks.map (fun t => { t with sealed := false }) }
      else s) s
    let s := { s with acc := { s.acc with streams := mdel s.acc.streams g, keys := mdel s.acc.keys g } }
    x.wait.foldl (fun (s : State) (w : SealWait) => s.jobEnd w.env ST_KEY_ABSENT 0) s

/-! ## Sealing (R348–R353) -/

/-- Public encoding of the entry of a global index. -/
def State.pubOf (s : State) (g : Nat) : List Byte :=
  let e := s.ktEntry g
  slice (Config.pubKey e.type e.secret) 0 (pubLen e.type)

/-- A signature with an entry, its random draw a fresh one. -/
def State.signWith (s : State) (g : Nat) (msg : List Byte) : List Byte × State :=
  let e := s.ktEntry g
  (slice (Config.signature e.type e.secret msg s.freeCtr) 0 (sigLen e.type), { s with freeCtr := s.freeCtr + 1 })

/-- The seal ring that a local index names, if it is an ACTIVE completion ring. -/
def State.sealRing (s : State) (v : JobEnv) (i : Nat) : Option Nat :=
  let k := match v.owner with
    | some d => ringKey d (2 ^ 22 + i)
    | none => ctlKey i
  if decide ((s.ring k).kind = .cpl) && decide ((s.ring k).st = .active) then some k else none

/-- The first link of a stream (R348). -/
def State.firstLink (s : State) (g sg : Nat) : List Byte :=
  sha256 ([0x53, 0x4B, 0x53, 0x45, 0x41, 0x4C, 0x30, 0x31] ++ beBytes 4 g ++ beBytes 4 0 ++ beBytes 8 s.now ++ sha256 (s.pubOf sg))

/-- SEAL_OPEN. -/
def State.jobSealOpen (s : State) (v : JobEnv) (e : List Byte) : Option (Nat × Nat) × State :=
  let hyb := bit (leAt e 62 1) 0
  match s.ktIndex v.owner (keyOf e) with
  | none => ended ST_KEY_ABSENT s
  | some g =>
    if (s.ktEntry g).type ≠ 0 then ended ST_KEY_IN_USE s
    else match s.jobKey v (leAt e 48 4) (if hyb then [7] else [7, 9]) with
      | none => ended ST_KEY_ABSENT s
      | some sg =>
        if hyb && (s.jobKey v (leAt e 8 4) [9]).isNone then ended ST_KEY_ABSENT s
        else match s.sealRing v (leAt e 60 2) with
          | none => ended ST_BAD_RING_REF s
          | some k =>
            let x : SealStream := {
              next := 0, last := 0, lastTime := s.now, link := s.firstLink g sg, sign := leAt e 48 4,
              hybrid := (if hyb then some (leAt e 8 4) else none), records := leAt e 52 4, millis := leAt e 56 4,
              ring := k, gap := false, overdue := false, wait := [] }
            let s := (s.setKt g { type := 12, users := 0, secret := [] }).setStream g x
            ended ST_OK (s.streamUsers x true)

/-- The ring shown in the records that an owner appends. -/
def ownerRing : Option Nat → Nat
  | some d => ringKey d 0
  | none => ctlKey 0

/-- SEAL_APPEND; without a credit on the seal ring it waits (R351). -/
def State.jobSealAppend (s : State) (v : JobEnv) (e : List Byte) (h : HostIn) : Option (Nat × Nat) × State :=
  match s.jobKey v (keyOf e) [12] with
  | none => ended ST_KEY_ABSENT s
  | some g => match s.bufRead v (srcOf e) h with
    | (0, data, s) => match s.sealCredit g with
      | none => (none, s)
      | some s =>
        ended ST_OK (s.sealRecord g (ownerRing v.owner) 0xFFFFFFFF v.ref.tag data false)
    | (st, _, s) => ended st s

/-- The body CB of a checkpoint (R353). -/
def SealStream.body (x : SealStream) (g time : Nat) : List Byte :=
  [0x53, 0x4B, 0x43, 0x48, 0x4B, 0x50, 0x54, 0x31] ++ beBytes 4 g ++ beBytes 4 0 ++ beBytes 8 x.next ++ beBytes 8 time ++
  slice x.link 0 32 ++ beBytes 8 x.last ++ List.replicate 24 0

/-- A checkpoint is signed and written to its destination; a FINAL one closes the stream (R353). -/
def State.checkpoint (s : State) (v : JobEnv) (g : Nat) (dst : Buf) (fin : Bool) : Option (Nat × Nat) × State :=
  match s.stream g with
  | none => ended ST_KEY_ABSENT s
  | some x => match s.ktIndex x.owner x.sign with
    | none => ended ST_KEY_ABSENT s
    | some sg =>
      let cb := x.body g s.now
      let (a, s) := s.signWith sg cb
      let (b, s) := match x.hybrid.bind (s.ktIndex x.owner) with
        | some hg => s.signWith hg cb
        | none => ([], s)
      let out := cb ++ a ++ b
      let (r, s) := s.jobOut v dst out
      match r with
      | some (0, n) =>
        let s := s.setStream g { x with last := x.next, lastTime := s.now, overdue := false }
        (some (0, n), if fin then s.closeStream g else s)
      | r => (r, s)

/-- SEAL_CHECKPOINT: CLASS_FLAGS bit 0 WAIT, bit 1 FINAL. -/
def State.jobCheckpoint (s : State) (v : JobEnv) (e : List Byte) : Option (Nat × Nat) × State :=
  let wait := bit (leAt e 1 1) 0
  let fin := bit (leAt e 1 1) 1
  match s.jobKey v (keyOf e) [12] with
  | none => ended ST_KEY_ABSENT s
  | some g => match s.stream g with
    | none => ended ST_KEY_ABSENT s
    | some x =>
      if wait && !x.overdue then
        let d := dstOf e
        let w : SealWait := { env := v, addr := d.addr, len := d.len, space := d.space, fin := fin }
        (none, s.setStream g { x with wait := x.wait ++ [w] })
      else s.checkpoint v g (dstOf e) fin

/-- SEAL_BIND, and with CLASS_FLAGS bit 0 unbind (R354). -/
def State.jobBind (s : State) (v : JobEnv) (e : List Byte) (undo : Bool) : Option (Nat × Nat) × State :=
  match s.jobKey v (keyOf e) [12] with
  | none => ended ST_KEY_ABSENT s
  | some g =>
    match v.owner.bind (fun d => nthIndex (s.extents d 9 64) (leAt e 48 4)) with
    | none => ended ST_SEAL_STATE s
    | some c =>
      let x := s.conn c
      let bound := x.sealTo.isSome && (!x.unbind || x.tracks.any (·.sealed))
      if x.st = 0 then ended ST_SEAL_STATE s
      else if undo then
        if bound && decide (x.sealTo = some g) then ended ST_OK (s.setConn c { x with unbind := true }) else ended ST_SEAL_STATE s
      else if bound then ended ST_SEAL_STATE s
      else ended ST_OK (s.setConn c { x with sealTo := some g, unbind := false })

/-! ## Data jobs (R341, R342) -/

/-- A job over SRC whose result is a function of its bytes. -/
def State.jobMap (s : State) (v : JobEnv) (e : List Byte) (h : HostIn) (f : List Byte → List Byte) : Option (Nat × Nat) × State :=
  match s.bufRead v (srcOf e) h with
  | (0, data, s) => s.jobOut v (dstOf e) (f data)
  | (st, _, s) => ended st s

/-- CIPHER. -/
def State.jobCipher (s : State) (v : JobEnv) (e : List Byte) (h : HostIn) : Option (Nat × Nat) × State :=
  let alg := leAt e 44 1
  match s.jobKey v (keyOf e) (if alg = 0 then [1, 2] else [3]) with
  | none => ended ST_KEY_ABSENT s
  | some g =>
    let k := (s.ktEntry g).key (keyLen (s.ktEntry g).type)
    let iv := slice e 48 12
    let n := leAt e 60 4
    match s.bufRead v (srcOf e) h with
    | (0, data, s) =>
      let aad := data.take n
      let text := data.drop n
      if bit (leAt e 45 1) 0 then
        match Config.aeadOpen alg k iv aad text with
        | some p => s.jobOut v (dstOf e) (slice p 0 (text.length - 16))
        | none => ended ST_AUTH_FAIL (s.spoil v (dstOf e) (min (dstOf e).len (text.length - 16)))
      else s.jobOut v (dstOf e) (slice (Config.aeadSeal alg k iv aad text) 0 (text.length + 16))
    | (st, _, s) => ended st s

/-- DIGEST. -/
def State.jobDigest (s : State) (v : JobEnv) (e : List Byte) (h : HostIn) : Option (Nat × Nat) × State :=
  let alg := leAt e 44 1
  if alg < 3 then s.jobMap v e h (fun l => if alg = 0 then sha256 l else if alg = 1 then sha384 l else sha3 l)
  else match s.jobKey v (keyOf e) [4] with
    | none => ended ST_KEY_ABSENT s
    | some g =>
      let k := (s.ktEntry g).key 64
      s.jobMap v e h (fun l => if alg = 3 then hmac sha256 64 k l else hmac sha384 128 k l)

/-- DECOMPRESS. -/
def State.jobDecompress (s : State) (v : JobEnv) (e : List Byte) (h : HostIn) : Option (Nat × Nat) × State :=
  match s.bufRead v (srcOf e) h with
  | (0, data, s) => match Config.decompress (leAt e 44 1) data with
    | some l => s.jobOut v (dstOf e) l
    | none => ended ST_ACC_DATA_ERROR s
  | (st, _, s) => ended st s

/-- Chunks read, in order: the first failing status, and their bytes. -/
def State.readChunks (s : State) (v : JobEnv) (host : List HostIn) : List (Nat × Buf) → Nat × List (Nat × List Byte) × State
  | [] => (0, [], s)
  | (j, b) :: t =>
    match s.bufRead v b (host.getD j ⟨0, []⟩) with
    | (0, l, s) =>
      let (st, r, s) := State.readChunks s v host t
      (st, (j, l) :: r, s)
    | (st, _, s) => (st, [], s)

/-- Chunks written, in order: the first failing status, and how many bytes. -/
def State.writeChunks (s : State) (v : JobEnv) : List (Buf × List Byte) → Nat → Option (Nat × Nat) × State
  | [], n => (some (ST_OK, n), s)
  | (b, l) :: t, n =>
    match s.jobOut v b l with
    | (some (0, k), s) => State.writeChunks s v t (n + k)
    | r => r

/-- EC_ENCODE and EC_DECODE. -/
def State.jobEc (s : State) (v : JobEnv) (e : List Byte) (conts : List (List Byte)) (host : List HostIn) (decode : Bool) :
    Option (Nat × Nat) × State :=
  let k := leAt e 44 1
  let m := leAt e 45 1
  let bufs := (((ecSlots e conts).map (fun x => bufAt x.1 x.2)).zipIdx).map (fun x => (x.2, x.1))
  let present := if decode then leAt e 52 4 else 2 ^ k - 1
  let want := if decode then leAt e 56 4 else 2 ^ (k + m) - 2 ^ k
  let src := bufs.filter (fun x => decide (x.1 < k + m) && bit present x.1)
  let dst := bufs.filter (fun x => decide (x.1 < k + m) && bit want x.1)
  if src.length < k then ended ST_EC_UNRECOVERABLE s
  else match s.readChunks v host src with
    | (0, have', s) => s.writeChunks v (dst.map (fun x => (x.2, ecChunk k m have' x.1))) 0
    | (st, _, s) => ended st s

/-- KEY_LOAD. -/
def State.jobKeyLoad (s : State) (v : JobEnv) (e : List Byte) (conts : List (List Byte)) : Option (Nat × Nat) × State :=
  match s.ktIndex v.owner (keyOf e) with
  | none => ended ST_KEY_ABSENT s
  | some g =>
    if (s.ktEntry g).type ≠ 0 then ended ST_KEY_IN_USE s
    else ended ST_OK (s.setKt g { type := leAt e 44 1, users := 0, secret := slice e 48 16 ++ slice (conts.headD []) 8 48 })

/-- A drawn key stays when its public encoding has been written, and else leaves its entry FREE. -/
def keyDrawn (g : Nat) : Option (Nat × Nat) × State → Option (Nat × Nat) × State
  | (some (0, n), s) => (some (ST_OK, n), s)
  | (r, s) => (r, s.setKt g { type := 0, users := 0, secret := [] })

/-- KEY_GEN: the secret comes from the random source. -/
def State.jobKeyGen (s : State) (v : JobEnv) (e : List Byte) : Option (Nat × Nat) × State :=
  match s.ktIndex v.owner (keyOf e) with
  | none => ended ST_KEY_ABSENT s
  | some g =>
    if (s.ktEntry g).type ≠ 0 then ended ST_KEY_IN_USE s
    else if (dstOf e).len < pubLen (leAt e 44 1) then
      (some (ST_OUTPUT_SHORT, pubLen (leAt e 44 1)), s.spoil v (dstOf e) (dstOf e).len)
    else
      let sec := slice (Config.freeBytes s.freeCtr 64) 0 64
      let s := ({ s with freeCtr := s.freeCtr + 1 }).setKt g { type := leAt e 44 1, users := 0, secret := sec }
      keyDrawn g (s.jobOut v (dstOf e) (s.pubOf g))

/-- KEY_CLEAR. -/
def State.jobKeyClear (s : State) (v : JobEnv) (e : List Byte) : Option (Nat × Nat) × State :=
  match s.ktIndex v.owner (keyOf e) with
  | none => ended ST_KEY_ABSENT s
  | some g =>
    let k := s.ktEntry g
    if k.type = 0 then ended ST_KEY_ABSENT s
    else if 0 < k.users ∨ (k.type = 12 ∧ s.streamBound g) then ended ST_KEY_IN_USE s
    else if k.type = 12 then ended ST_OK (s.closeStream g)
    else ended ST_OK (s.setKt g { type := 0, users := 0, secret := [] })

/-- SIGN. -/
def State.jobSign (s : State) (v : JobEnv) (e : List Byte) (h : HostIn) : Option (Nat × Nat) × State :=
  match s.jobKey v (keyOf e) [leAt e 44 1] with
  | none => ended ST_KEY_ABSENT s
  | some g => match s.bufRead v (srcOf e) h with
    | (0, msg, s) =>
      let (l, s) := s.signWith g msg
      s.jobOut v (dstOf e) l
    | (st, _, s) => ended st s

/-- VERIFY: the public key stands in DST. -/
def State.jobVerify (s : State) (v : JobEnv) (e : List Byte) (host : List HostIn) : Option (Nat × Nat) × State :=
  match s.bufRead v (srcOf e) (host.getD 0 ⟨0, []⟩) with
  | (0, msg, s) => match s.bufRead v (dstOf e) (host.getD 1 ⟨0, []⟩) with
    | (0, pub, s) => match s.bufRead v (bufAt e 48) ⟨0, []⟩ with
      | (0, sig, s) => ended (if Config.verifies (leAt e 44 1) pub msg sig then ST_OK else ST_AUTH_FAIL) s
      | (st, _, s) => ended st s
    | (st, _, s) => ended st s
  | (st, _, s) => ended st s

/-- KEM: a ciphertext of 1,088 bytes and a shared secret of 32 (R346, FIPS 203). -/
def State.jobKem (s : State) (v : JobEnv) (e : List Byte) (h : HostIn) (open' : Bool) : Option (Nat × Nat) × State :=
  if open' then
    match s.jobKey v (keyOf e) [11] with
    | none => ended ST_KEY_ABSENT s
    | some g =>
      let sec := (s.ktEntry g).secret
      s.jobMap v e h (fun l => slice (Config.kemOpen sec l) 0 32)
  else
    let n := s.freeCtr
    ({ s with freeCtr := n + 1 }).jobMap v e h (fun l => slice (Config.kemSeal l n) 0 1120)

/-- The effect of a job whose body is well formed: status and COUNT, or none while it waits. -/
def State.jobRun (s : State) (v : JobEnv) (op : Nat) (e : List Byte) (conts : List (List Byte)) (host : List HostIn) :
    Option (Nat × Nat) × State :=
  let h := host.getD 0 ⟨0, []⟩
  match op with
  | 0x48 => s.jobBind v e (bit (leAt e 1 1) 0)
  | 0x50 => s.jobCipher v e h
  | 0x51 => s.jobDigest v e h
  | 0x52 => s.jobMap v e h (Config.compress (leAt e 44 1) (leAt e 45 1))
  | 0x53 => s.jobDecompress v e h
  | 0x54 => s.jobEc v e conts host false
  | 0x55 => s.jobEc v e conts host true
  | 0x56 => s.jobKeyLoad v e conts
  | 0x57 => s.jobKeyGen v e
  | 0x58 => s.jobKeyClear v e
  | 0x59 => s.jobSign v e h
  | 0x5A => s.jobVerify v e host
  | 0x5B => s.jobKem v e h (bit (leAt e 45 1) 0)
  | 0x5C => s.jobSealOpen v e
  | 0x5D => s.jobSealAppend v e h
  | _ => s.jobCheckpoint v e

/-- A job of a ring: a body that breaks its rule is malformed on a firmware ring and fails on a drawer's (R142, R143). While
ACD sleeps the job waits and wakes it (R23). -/
def State.job (s : State) (r : Ref) (op : Nat) (e : List Byte) (conts : List (List Byte)) (host : List HostIn) : State :=
  let v := envOf r
  if 2 ≤ s.domState 5 then s.domWake 5
  else if s.inReset 11 0 then (s.resetHit 11 0).jobEnd v ST_TARGET_RESET 0
  else match jobBad op e conts with
  | 0 => match s.jobRun v op e conts host with
    | (some (st, n), s) => s.jobEnd v st n
    | (none, s) => s
  | st => if isCtl r.ring then s.malformed r 4 op else s.jobEnd v st 0

end Sys2Proof.Machine
end

