-- ==== Sys2Proof/Machine/StdOps.lean ====
section
/-! DEFINITION. The queues and controller registers of NVM Express and virtio-net drawers (R91–R93, R146). What the spec leaves to
those standards follows them (PRESUMED, log entry 25). -/

namespace Sys2Proof.Machine

/-- Is a drawer of the NVM Express personality? -/
def State.isNvme (s : State) (d : Nat) : Bool :=
  !decide (s.drState d = 0) && decide (s.get (Reg.DRW_DRAWER_STATUS_PERSONALITY d) = 1)

/-- Is a drawer of the virtio-net personality? -/
def State.isVirtio (s : State) (d : Nat) : Bool :=
  !decide (s.drState d = 0) && decide (s.get (Reg.DRW_DRAWER_STATUS_PERSONALITY d) = 2)

/-- The controller registers of a drawer. -/
def State.person (s : State) (d : Nat) : Person := mgetD s.drw.person d Person.reset

/-- Those registers written. -/
def State.setPerson (s : State) (d : Nat) (x : Person) : State :=
  { s with drw := { s.drw with person := mputD s.drw.person d x Person.reset } }

/-- Key of submission queue or virtqueue `y` of a drawer, and of completion queue `y`. -/
def sqKey (d y : Nat) : Nat := ringKey d y
/-- Key of a completion queue. -/
def cqKey (d y : Nat) : Nat := ringKey d (2 ^ 22 + y)

/-- A queue of a standard personality as its creation leaves it. -/
def Ring.stdQueue (kind : RingKind) (base link nv : Nat) (vec : Option Nat) (gen : Nat) : Ring :=
  { Ring.absent with st := .active, kind := kind, base := base, link := link, vec := vec, gen := gen, nv := nv }

/-- I/O queue pairs, or virtqueues, that the ring ceilings of a drawer allow beside `n` of its rings (R91, R93). -/
def State.queuesAllowed (s : State) (d n : Nat) : Nat := min (s.ceiling d 0xB) (s.ceiling d 0xC) - n

/-! ## NVM Express queues -/

/-- How far a queue index moves round a queue: from the device's index `at'` to the written value. -/
def nvStep (r : Ring) (at' v : Nat) : Nat := (v + r.nv - at' % r.nv) % r.nv

/-- A doorbell of submission queue or completion queue `y` (R91, R146): the tail names the entries that wait, the head returns
credits. A value beyond the queue is dropped. -/
def State.nvBell (s : State) (d y : Nat) (cq : Bool) (v : Nat) : State :=
  let k := if cq then cqKey d y else sqKey d y
  let r := s.ring k
  if !decide (r.st = .active) || decide (r.nv ≤ v) then s.bellDropped d
  else
    let new := (r.peer + nvStep r r.peer v) % 2 ^ 32
    if cq then
      if idxSub new r.peer ≤ idxSub r.dev r.peer then s.setRing k { r with peer := new } else s.bellDropped d
    else s.setRing k { r with peer := new, limit := new }

/-- May the controller fetch from a submission queue: enabled, not shut down, not quiesced, its function in D0 (R71, R91, R104)? -/
def State.nvFetches (s : State) (d : Nat) : Bool :=
  s.isNvme d && bit (s.person d).cc 0 && (s.person d).rdy && decide ((s.person d).shst = 0) && decide (s.drState d = 3) && !s.pwr.closed &&
    (match s.drPort d with
     | some q => !(s.hport q).stopped && !(s.hport q).d3.contains (s.drFunc d)
     | none => false)

/-- The entry at the head of submission queue `y` is fetched with a credit of its completion queue, and `go` executes it; without
a credit the queue starves (R135, R136, R146). -/
def State.nvTake (s : State) (d y cid : Nat) (go : State → State) : State :=
  let k := sqKey d y
  let r := s.ring k
  if !s.nvFetches d || !decide (r.st = .active) || decide (r.waiting = 0) then s
  else if (s.ring r.link).credits = 0 then
    if r.starved then s else s.setRing k { r with starved := true, oldest := s.now }
  else
    let i : Item := { index := r.dev, opcode := 0, tag := cid, cplReq := true, order := false, flags := 0, chain := 0,
                      started := true, posted := false, segs := [], body := [] }
    let s := s.setRing k { r with dev := (r.dev + 1) % 2 ^ 32, items := r.items ++ [i], starved := false }
    let l := s.ring r.link
    go (s.setRing r.link { l with reserved := l.reserved + 1, lastRR := k, starveUp := false })

/-- The doorbells recorded during a quiesce, each acted on as its personality has it. -/
def State.bellStd (s : State) (d w : Nat) : State :=
  if s.isNvme d then s.nvBell d (w / 2 % 2 ^ 16) (bit w 0) (w / 2 ^ 32) else (s.bell d w).2

/-- A bound vector field of the standards: 0xFFFF names none. -/
def stdVec (v : Nat) : Option Nat := if v = 0xFFFF then none else some v

/-- CC.EN written from 0 to 1: the admin queues are there and the controller is ready (R91). -/
def State.nvEnable (s : State) (d : Nat) : State :=
  let p := s.person d
  if s.isNvme d && decide (s.drState d = 3) then
    let c := Ring.stdQueue .cpl p.acq 0 (bits p.aqa 27 16 + 1) (some 0) (s.drGen d)
    let q := Ring.stdQueue .sub p.asq (cqKey d 0) (bits p.aqa 11 0 + 1) none (s.drGen d)
    ((s.setRing (cqKey d 0) c).setRing (sqKey d 0) q).setPerson d { p with rdy := true, shst := 0 }
  else s

end Sys2Proof.Machine
end

