-- ==== Sys2Proof/Machine/Acc.lean ====
section
/-! DEFINITION. Commands of the accelerators and the block service's volumes (R337–R364). -/

namespace Sys2Proof.Machine

/-! ## Jobs -/

/-- CIPHER (R341). -/
def execCipher (r : Ref) (e : List Byte) (host : List HostIn) (s : State) : Host.Outcome State Fault Refusal :=
  s.run (s.work r (·.job r 0x50 e [] host))

/-- DIGEST (R341). -/
def execDigest (r : Ref) (e : List Byte) (host : List HostIn) (s : State) : Host.Outcome State Fault Refusal :=
  s.run (s.work r (·.job r 0x51 e [] host))

/-- COMPRESS (R341). -/
def execCompress (r : Ref) (e : List Byte) (host : List HostIn) (s : State) : Host.Outcome State Fault Refusal :=
  s.run (s.work r (·.job r 0x52 e [] host))

/-- DECOMPRESS (R341). -/
def execDecompress (r : Ref) (e : List Byte) (host : List HostIn) (s : State) : Host.Outcome State Fault Refusal :=
  s.run (s.work r (·.job r 0x53 e [] host))

/-- EC_ENCODE (R342). -/
def execEcEncode (r : Ref) (e : List Byte) (conts : List (List Byte)) (host : List HostIn) (s : State) : Host.Outcome State Fault Refusal :=
  s.run (s.work r (·.job r 0x54 e conts host))

/-- EC_DECODE (R342). -/
def execEcDecode (r : Ref) (e : List Byte) (conts : List (List Byte)) (host : List HostIn) (s : State) : Host.Outcome State Fault Refusal :=
  s.run (s.work r (·.job r 0x55 e conts host))

/-- KEY_LOAD (R345). -/
def execKeyLoad (r : Ref) (e : List Byte) (conts : List (List Byte)) (s : State) : Host.Outcome State Fault Refusal :=
  s.run (s.work r (·.job r 0x56 e conts []))

/-- KEY_GEN (R345). -/
def execKeyGen (r : Ref) (e : List Byte) (s : State) : Host.Outcome State Fault Refusal :=
  s.run (s.work r (·.job r 0x57 e [] []))

/-- KEY_CLEAR (R345). -/
def execKeyClear (r : Ref) (e : List Byte) (s : State) : Host.Outcome State Fault Refusal :=
  s.run (s.work r (·.job r 0x58 e [] []))

/-- SIGN (R346). -/
def execSign (r : Ref) (e : List Byte) (host : List HostIn) (s : State) : Host.Outcome State Fault Refusal :=
  s.run (s.work r (·.job r 0x59 e [] host))

/-- VERIFY (R346). -/
def execVerify (r : Ref) (e : List Byte) (host : List HostIn) (s : State) : Host.Outcome State Fault Refusal :=
  s.run (s.work r (·.job r 0x5A e [] host))

/-- SEAL_OPEN (R348). -/
def execSealOpen (r : Ref) (e : List Byte) (s : State) : Host.Outcome State Fault Refusal :=
  s.run (s.work r (·.job r 0x5C e [] []))

/-- SEAL_APPEND (R349). -/
def execSealAppend (r : Ref) (e : List Byte) (host : List HostIn) (s : State) : Host.Outcome State Fault Refusal :=
  s.run (s.work r (·.job r 0x5D e [] host))

/-- SEAL_CHECKPOINT (R353). -/
def execSealCheckpoint (r : Ref) (e : List Byte) (s : State) : Host.Outcome State Fault Refusal :=
  s.run (s.work r (·.job r 0x5E e [] []))

/-- A body whose byte at `i` has bit 0 cleared or set: the two commands of one opcode differ in it. -/
def withBit (e : List Byte) (i : Nat) (b : Bool) : List Byte := overlay e i (leBytes 1 (putBits (leAt e i 1) 0 0 (b2n b)))

/-- SEAL_BIND (R354). -/
def execSealBind (r : Ref) (e : List Byte) (s : State) : Host.Outcome State Fault Refusal :=
  s.run (s.work r (·.job r 0x48 (withBit e 1 false) [] []))

/-- SEAL_UNBIND (R354). -/
def execSealUnbind (r : Ref) (e : List Byte) (s : State) : Host.Outcome State Fault Refusal :=
  s.run (s.work r (·.job r 0x48 (withBit e 1 true) [] []))

/-- KEM_ENCAPSULATE (R346). -/
def execKemEncapsulate (r : Ref) (e : List Byte) (host : List HostIn) (s : State) : Host.Outcome State Fault Refusal :=
  s.run (s.work r (·.job r 0x5B (withBit e 45 false) [] host))

/-- KEM_DECAPSULATE (R346). -/
def execKemDecapsulate (r : Ref) (e : List Byte) (host : List HostIn) (s : State) : Host.Outcome State Fault Refusal :=
  s.run (s.work r (·.job r 0x5B (withBit e 45 true) [] host))

/-- A stream reaches a boundary (R353): the checkpoint that waits signs, or the boundary is overdue. -/
def State.opBoundary (s : State) (g : Nat) : State :=
  match s.stream g with
  | none => s
  | some x =>
    if !(decide (x.records ≤ x.next - x.last) || decide (x.millis * 1000000 ≤ s.now - x.lastTime)) then s
    else match x.wait with
      | w :: t =>
        let s := s.setStream g { x with wait := t }
        (match s.checkpoint w.env g ⟨w.addr, w.len, w.space⟩ w.fin with
          | (some (st, n), s) => s.jobEnd w.env st n
          | (none, s) => s)
      | [] =>
        if x.overdue then s
        else
          let s := (s.setStream g { x with overdue := true }).bump Reg.n_seal_overdue
          match x.owner with
          | some d => s.raiseTo d EV_acc_seal_overdue d [g, x.next - x.last]
          | none => s.raise EV_acc_seal_overdue 0xFFFF [g, x.next - x.last]

/-- SEAL_INTERVAL_BOUNDARY (R353). -/
def execSealIntervalBoundary (g : Nat) (s : State) : Host.Outcome State Fault Refusal := s.run (s.opBoundary g)

/-- The first ring that waits for a slot and may have the one that is free (R338). -/
def State.slotNext (s : State) : Option Nat :=
  s.acc.waiting.find? (fun k => match slotHolder k 0x50 with
      | some h => s.jobSlotFree h
      | none => false)

/-- That ring gets the slot. -/
def State.opSlotFreed (s : State) : State :=
  match s.slotNext with
  | none => s
  | some k =>
    let s := s.slotGot k
    { s with acc := { s.acc with granted := s.acc.granted ++ [k] } }

/-- JOB_SLOT_FREED (R338). -/
def execJobSlotFreed (s : State) : Host.Outcome State Fault Refusal := s.run s.opSlotFreed

/-- A ring has waited 1 ms for a slot (R363). -/
def State.opSlotStarve (s : State) (k : Nat) : State :=
  if !s.acc.waiting.contains k || s.acc.starved.contains k then s
  else
    let s := { s with acc := { s.acc with starved := s.acc.starved ++ [k] } }
    s.raise EV_acc_slot_starved (if isCtl k then 0xFFFF else ringDrawer k) [ringNum k]

/-- SLOT_STARVE_TIMER (R363). -/
def execSlotStarveTimer (ring : Nat) (s : State) : Host.Outcome State Fault Refusal := s.run (s.opSlotStarve ring)

/-! ## Volumes (R355–R359) -/

/-- Key of a volume. -/
def volKey (d nsid : Nat) : Nat := d * 32 + nsid

/-- DRAWER and NSID of a volume command are within their bounds. -/
def volHead (e : List Byte) : Bool := decide (leAt e 8 2 < 4096) && decide (1 ≤ leAt e 10 1) && decide (leAt e 10 1 ≤ 16)

/-- VOL_CREATE. -/
def State.opVolCreate (s : State) (r : Ref) (e : List Byte) : State :=
  let d := leAt e 8 2
  let k := leAt e 11 1
  let m := leAt e 12 1
  let c := leAt e 13 1
  if !zeroBut e [(0, 14), (16, 8)] || !volHead e || !decide (1 ≤ k) || decide (16 < k) || decide (4 < m) || decide (c < 14) ||
      decide (20 < c) || decide (leAt e 16 8 = 0) then s.malformed r 4 0xA0
  else if !s.isNvme d then s.complete r ST_DRAWER_STATE 0 []
  else if (s.vol (volKey d (leAt e 10 1))).isSome then s.complete r ST_VOL_STATE 0 []
  else
    let x : Vol := { k := k, m := m, clog := c, blocks := leAt e 16 8, targets := [], cache := [], flushes := [], seq := 1 }
    (s.setVol (volKey d (leAt e 10 1)) x).complete r ST_OK 0 []

/-- Does some drawer's grant hold a connection? -/
def State.connGranted (s : State) (c : Nat) : Bool := s.drw.shares.any (fun e => s.holdsIndex e.1 9 64 c)

/-- A target's connection is released. -/
def State.volRelease (s : State) (c : Nat) : State := s.connUnused c false

/-- A target is set on a connection (R355, R359). -/
def State.setTarget (s : State) (v t c : Nat) (x : Vol) (e : List Byte) : State :=
  let rebuild := bit (leAt e 12 1) 0
  let was := mget x.targets t
  let s := match was with
    | some y => s.volRelease y.conn
    | none => s
  let failed := match was with
    | some y => y.failed && !rebuild
    | none => false
  let y : VolTarget := {
    conn := c, rkey := leAt e 20 4, roff := leAt e 24 8, failed := failed, cursor := (if rebuild then some 0 else none) }
  s.setVol v { x with targets := mput x.targets t y }

/-- VOL_TARGET. -/
def State.opVolTarget (s : State) (r : Ref) (e : List Byte) (conts : List (List Byte)) : State :=
  let d := leAt e 8 2
  let v := volKey d (leAt e 10 1)
  let t := leAt e 11 1
  let c := leAt e 16 4
  let b := conts.headD []
  if !zeroBut e [(0, 13), (16, 16)] || !volHead e || decide (1 < leAt e 12 1) || !decide (c < 1048576) || s.connectBad b ||
      bit (leAt b 35 1) 1 then s.malformed r 4 0xA1
  else if !s.isNvme d then s.complete r ST_DRAWER_STATE 0 []
  else match s.vol v with
    | none => s.complete r ST_VOL_STATE 0 []
    | some x =>
      if x.k + x.m ≤ t then s.complete r ST_VOL_STATE 0 []
      else if s.connGranted c || !decide ((s.conn c).st = 0) then s.complete r ST_POOL_EXHAUSTED 0 []
      else if s.connectDenied d b then s.complete r ST_CONN_DENIED 0 []
      else
        let (tok, s) := s.drawToken 0
        let s := s.setConn c { Conn.unused with st := 1, drawer := d, ltoken := tok, vol := true }
        ((s.connected c b).cacheIn c |>.setTarget v t c x e).complete r ST_OK 0 []

/-- VOL_DESTROY: its connections are released, and flushes that wait end with Internal Error. -/
def State.opVolDestroy (s : State) (r : Ref) (e : List Byte) : State :=
  let d := leAt e 8 2
  let v := volKey d (leAt e 10 1)
  if !zeroBut e [(0, 11)] || !volHead e then s.malformed r 4 0xA2
  else if !s.isNvme d then s.complete r ST_DRAWER_STATE 0 []
  else match s.vol v with
    | none => s.complete r ST_VOL_STATE 0 []
    | some x =>
      let s := x.flushes.foldl (fun (s : State) (f : VolFlush) => s.nvDone f.ring f.tag 0x006 0) s
      let s := x.targets.foldl (fun (s : State) (t : Nat × VolTarget) => s.volRelease t.2.conn) s
      ({ s with acc := { s.acc with vols := mdel s.acc.vols v } }).complete r ST_OK 0 []

/-- VOL_CREATE (R355). -/
def execVolCreate (r : Ref) (e : List Byte) (s : State) : Host.Outcome State Fault Refusal := s.run (s.work r (·.opVolCreate r e))
/-- VOL_TARGET (R355). -/
def execVolTarget (r : Ref) (e : List Byte) (conts : List (List Byte)) (s : State) : Host.Outcome State Fault Refusal :=
  s.run (s.work r (·.opVolTarget r e conts))
/-- VOL_DESTROY (R355). -/
def execVolDestroy (r : Ref) (e : List Byte) (s : State) : Host.Outcome State Fault Refusal := s.run (s.work r (·.opVolDestroy r e))

/-- A store's answer to a commit (R358). -/
def State.opCommitAnswer (s : State) (v t seq status : Nat) : State :=
  match s.vol v with
  | none => s
  | some x =>
    if !x.flushes.any (fun f => decide (f.seq = seq) && f.waiting.contains t) then s
    else if status ≠ 0 then s.targetFail v t 3
    else
      let fl := x.flushes.map (fun f => if f.seq = seq then
        { f with waiting := f.waiting.filter (fun j => !decide (j = t)), good := f.good + 1 } else f)
      (s.setVol v { x with flushes := fl }).flushesDone v

/-- COMMIT_ANSWER (R358). -/
def execCommitAnswer (d nsid t seq status : Nat) (s : State) : Host.Outcome State Fault Refusal :=
  s.run (s.opCommitAnswer (volKey d nsid) t seq status)

/-- FLUSH_MS has passed without a target's answer (R358). -/
def State.opFlushExpire (s : State) (v t seq : Nat) : State :=
  match s.vol v with
  | none => s
  | some x => if x.flushes.any (fun f => decide (f.seq = seq) && f.waiting.contains t) then s.targetFail v t 3 else s

/-- FLUSH_MS_EXPIRE (R358). -/
def execFlushMsExpire (d nsid t seq : Nat) (s : State) : Host.Outcome State Fault Refusal :=
  s.run (s.opFlushExpire (volKey d nsid) t seq)

/-- Bytes of a chunk. -/
def Vol.chunk (x : Vol) : Nat := 2 ^ x.clog

/-- Stripes of a volume (R356). -/
def Vol.stripes (x : Vol) : Nat := (x.blocks * 4096 + x.k * x.chunk - 1) / (x.k * x.chunk)

/-- The target that chunk j' of a stripe lives on. -/
def Vol.targetOf (x : Vol) (stripe j : Nat) : Nat := (stripe + j) % (x.k + x.m)

/-- The chunk of a stripe that lives on a target. -/
def Vol.chunkOn (x : Vol) (stripe t : Nat) : Nat := (t + (x.k + x.m) - stripe % (x.k + x.m)) % (x.k + x.m)

/-- Is a target good for a stripe: set, not FAILED, and below its rebuild cursor (R359)? -/
def Vol.good (x : Vol) (stripe t : Nat) : Bool :=
  match mget x.targets t with
  | none => false
  | some y => !y.failed && (match y.cursor with
    | none => true
    | some c => decide (stripe < c))

/-- Spline READ or WRITE of part of a chunk at its target (R356, R357). -/
def State.chunkOp (s : State) (x : Vol) (opcode stripe j off len : Nat) (data : List Byte) : State :=
  match mget x.targets (x.targetOf stripe j) with
  | none => s
  | some y => s.emit (.spline y.conn opcode y.rkey (y.roff + stripe * x.chunk + off) len data)

/-- The chunks of a stripe that a rebuild of a target reads: the first K whose targets are good (R359). -/
def Vol.asked (x : Vol) (c t : Nat) : List Nat :=
  ((List.range (x.k + x.m)).filter (fun j => !decide (x.targetOf c j = t) && x.good c (x.targetOf c j))).take x.k

/-- A stripe whose chunks have been read is rebuilt: the missing chunk is written and the cursor moves (R359). -/
def State.rebuilt (s : State) (v t c : Nat) (x : Vol) (y : VolTarget) (chunks : List (List Byte)) : State :=
  let have' := (x.asked c t).map (fun j => (j, slice (chunks.getD j []) 0 x.chunk))
  let s := s.chunkOp x 0x31 c (x.chunkOn c t) 0 x.chunk (ecChunk x.k x.m have' (x.chunkOn c t))
  let done := decide (x.stripes ≤ c + 1)
  let s := s.setVol v { x with targets := mput x.targets t { y with cursor := if done then none else some (c + 1) } }
  if done then s.raise EV_acc_rebuild_done (v / 32) [v % 32, t, x.stripes] else s

/-- The next stripe of a target that is rebuilt: `chunks` holds what the other targets' reads brought, by j', empty where a read
was refused (R359). -/
def State.opRebuild (s : State) (v t : Nat) (chunks : List (List Byte)) : State :=
  match s.vol v with
  | none => s
  | some x => match mget x.targets t with
    | none => s
    | some y => match y.cursor with
      | none => s
      | some c =>
        let asked := x.asked c t
        let s := asked.foldl (fun (s : State) j => s.chunkOp x 0x32 c j 0 x.chunk []) s
        let refused := asked.filter (fun j => (chunks.getD j []).isEmpty)
        let s := refused.foldl (fun (s : State) j => s.targetFail v (x.targetOf c j) 2) s
        if asked.length < x.k ∨ !refused.isEmpty then s else s.rebuilt v t c x y chunks

/-- REBUILD_STRIPE (R359). -/
def execRebuildStripe (d nsid t : Nat) (chunks : List (List Byte)) (s : State) : Host.Outcome State Fault Refusal :=
  s.run (s.opRebuild (volKey d nsid) t chunks)

/-! ## The accelerator endpoint and the bank's registers (R361, R364) -/

/-- The check of a message's header: opcode, flags and chain, in the order of R141; a status, or 0. -/
def msgBad (e : List Byte) (conts : List (List Byte)) : Nat :=
  match jobRule (leAt e 0 1) with
  | none => ST_BAD_OPCODE
  | some r =>
    if !decide (Nat.land (leAt e 1 1 % 32) r.flags = leAt e 1 1 % 32) then ST_BAD_FLAGS
    else if entryChain e ≠ conts.length ∨ r.most < conts.length ∨ conts.any (fun c => !contOk r.cont c) then ST_BAD_CHAIN
    else 0

/-- A job that a thread sends to the accelerator endpoint (R361); it waits while no slot is free. -/
def State.opEndpointJob (s : State) (t rep : Nat) (words : List Nat) : State :=
  if 2 ≤ s.domState 5 then s.domWake 5
  else if !s.jobSlotFree 0 then s
  else
    let b := (words.map (leBytes 4)).flatten
    let e := slice b 0 64
    let conts := if 16 < words.length then [slice b 64 64] else []
    let op := leAt e 0 1
    let v : JobEnv := {
      owner := none, master := thrMaster t, ref := { ring := 0, index := 0, tag := leAt e 4 4, cplReq := true }, thread := some (t, rep) }
    if s.inReset 11 0 then (s.resetHit 11 0).jobEnd v ST_TARGET_RESET 0
    else match firstBad [msgBad e conts, jobBad op e conts] with
    | 0 => match s.jobRun v op e conts [] with
      | (some (st, n), s) => s.jobEnd v st n
      | (none, s) => s
    | st => s.jobEnd v st 0

/-- ACC_ENDPOINT_JOB (R361). -/
def execAccEndpointJob (t rep : Nat) (words : List Nat) (s : State) : Host.Outcome State Fault Refusal :=
  s.run (s.opEndpointJob t rep words)

/-- A write of ACC_CFG (R364): KT_COUNT only while ENABLE is clear; the first set of ENABLE clears the table. -/
def State.opAccCfg (s : State) (v : Nat) : State :=
  let s := if s.on Reg.ACC_CFG_ENABLE || decide (1024 < bits v 10 0) then s else s.set Reg.ACC_CFG_KT_COUNT (bits v 10 0)
  let s := s.set Reg.ACC_CFG_ENABLE (bits v 31 31)
  if bit v 31 && !s.acc.opened then { s with acc := { s.acc with opened := true, keys := [] } } else s

/-- ACC_ENABLE (R364). -/
def execAccEnable (v : Nat) (s : State) : Host.Outcome State Fault Refusal := s.write (s.opAccCfg v)

/-- The table is cleared. -/
def State.opKtCleared (s : State) : State := if s.acc.opened then s.set Reg.ACC_STATUS_KT_READY 1 else s

/-- KT_CLEAR_DONE (R364). -/
def execKtClearDone (s : State) : Host.Outcome State Fault Refusal := s.run s.opKtCleared

end Sys2Proof.Machine
end

