-- ==== Sys2Proof/Machine/LaneOps.lean ====
section
/-! DEFINITION. Octets, their roles and ports, and the links of network ports (R35–R43). -/

namespace Sys2Proof.Machine

/-- What is in force on an octet that no plan has been applied to. -/
def OctPlan.none : OctPlan := { mode := 0, split := false, sris := false }

/-- What is in force on an octet. -/
def State.octPlan (s : State) (n : Nat) : OctPlan := mgetD s.lane.plan n OctPlan.none

/-- May an octet take a role (R35)? -/
def rolePermitted (n role : Nat) : Bool :=
  match role with
  | 2 => decide (n < 32)
  | 3 => decide (56 ≤ n)
  | _ => true

/-- Lanes of a network port, none where the octet plan forms no port of this number (R38, R390). -/
def State.portLanes (s : State) (p : Nat) : Nat :=
  match s.octRole (p / 8) with
  | 1 => let w := 2 ^ (s.octPlan (p / 8)).mode
         if p % w = 0 then w else 0
  | 3 => if p % 8 = 0 then 8 else 0
  | _ => 0

/-- Is `p` a NET port of the octet plan? -/
def State.netPort (s : State) (p : Nat) : Bool := decide (s.octRole (p / 8) = 1) && decide (0 < s.portLanes p)

/-- Does host port `q` exist under the octet plan (R35, R55)? Port 2n is the octet's x8 port, or its first x4 port. -/
def State.hostExists (s : State) (q : Nat) : Bool :=
  decide (q < 64) && decide (s.octRole (q / 2) = 2) && (decide (q % 2 = 0) || (s.octPlan (q / 2)).split)

/-- Rate of a port in force, in Mb/s: a network port's, or at 512 + q a host port's RATE (R86, R240). -/
def State.portRate (s : State) (p : Nat) : Nat :=
  if p < 512 then 100000 * s.portLanes p
  else if s.hostExists (p - 512) then s.get (Reg.TM_PORT_CFG_RATE p) else 0

/-- Is a network port's link up? -/
def State.portUp (s : State) (p : Nat) : Bool := s.on (Reg.LANE_PORT_STATUS_LINK_UP p)

/-- LINK_UP of a network port, in its own status and in its octet's (R54). -/
def State.setPortUp (s : State) (p : Nat) (up : Bool) : State :=
  let s := s.set (Reg.LANE_PORT_STATUS_LINK_UP p) (b2n up)
  let f := Reg.LANE_OCT_STATUS_LINK_UP (p / 8)
  s.set f (putBits (s.get f) (p % 8) (p % 8) (b2n up))

/-- Drawers with a connection whose egress queues lie below a port, each with how many such connections it has (R270). -/
def State.egressDrawers (s : State) (p : Nat) : List (Nat × Nat) :=
  let l := (s.xpt.conns.filter (fun e => liveConn e.2.st &&
    (List.range e.2.qcount).any (fun i => decide (s.queuePort (e.2.txq + i) = some p)))).map (fun e => e.2.drawer)
  l.eraseDups.map (fun d => (d, l.count d))

/-- xpt.egress_down, or xpt.egress_up, to every drawer with a connection on the port (R270). -/
def State.egressEvent (s : State) (p : Nat) (up : Bool) : State :=
  (s.egressDrawers p).foldl (fun (s : State) (e : Nat × Nat) =>
    if up then s.raiseTo e.1 EV_xpt_egress_up e.1 [p] else s.raiseTo e.1 EV_xpt_egress_down e.1 [p, e.2]) s

/-- The bring-up step a NET port is in: 0 none, 2 auto-negotiation, 3 training, 4 alignment, 5 up (R42). -/
def State.portStep (s : State) (p : Nat) : Nat := mgetD s.lane.step p 0

/-- That step written. -/
def State.setPortStep (s : State) (p st : Nat) : State := { s with lane := { s.lane with step := mputD s.lane.step p st 0 } }

/-- The status bits of a bring-up cleared. -/
def State.portIdle (s : State) (p : Nat) : State :=
  ((s.set (Reg.LANE_PORT_STATUS_AN_DONE p) 0).set (Reg.LANE_PORT_STATUS_TRAINED p) 0).set (Reg.LANE_PORT_STATUS_FEC_LOCK p) 0

/-- A port leaves its bring-up, and a link that was up goes down; `cause` becomes LAST_FAIL where one is given (R43, R53). -/
def State.portDown (s : State) (p : Nat) (cause : Option Nat) : State :=
  let was := s.portUp p
  let s := (s.portIdle p).setPortStep p 0
  let s := match cause with
    | some c => s.set (Reg.LANE_PORT_STATUS_LAST_FAIL p) c
    | none => s
  if was then
    let s := (s.setPortUp p false).bump (Reg.n_lane_link_down_count p)
    (s.raise EV_lane_link_down (p / 8) [p, s.get (Reg.LANE_PORT_STATUS_LAST_FAIL p)]).egressEvent p false
  else s

/-- Step 2 of bring-up begins, or the first step that the port's settings do not skip, while ADMIN_UP is set and the octet is
ready (R42, R43). -/
def State.portBegin (s : State) (p : Nat) : State :=
  if s.netPort p && s.on (Reg.LANE_PORT_CTRL_ADMIN_UP p) && s.on (Reg.LANE_OCT_STATUS_PLL_LOCK (p / 8)) &&
      !s.on (Reg.LANE_OCT_STATUS_APPLY_BUSY (p / 8)) && !s.portUp p then
    (s.portIdle p).setPortStep p
      (if s.on (Reg.LANE_PORT_CTRL_AN_EN p) then 2 else if s.on (Reg.LANE_PORT_CTRL_TRAIN_EN p) then 3 else 4)
  else s

end Sys2Proof.Machine
end

