-- ==== Sys2Proof/Machine/DrwOps.lean ====
section
/-! DEFINITION. Pools and shares (R85, R86) and fence entries (R94–R99): what a list of shares asks for, whether it can be met,
and what it changes. -/

namespace Sys2Proof.Machine

/-! ## Entries of the drawer commands (R84, R85, R87) -/

/-- One share entry of a DRAWER_CREATE or DRAWER_RESIZE (R85). -/
structure ShareReq where
  pool    : Nat
  inst    : Nat
  reserve : Nat
  ceiling : Nat
deriving DecidableEq, Repr

/-- DRAWER of a drawer command. -/
def drOf (e : List Byte) : Nat := leAt e 8 2

/-- Bytes that each drawer command uses (R84). -/
def drKeep (op : Nat) : List (Nat × Nat) :=
  match op with
  | 0x60 => [(0, 12)]
  | 0x61 => [(0, 10), (12, 4)]
  | 0x63 => [(0, 10), (16, 1), (18, 2)]
  | _ => [(0, 10)]

/-- The three slots of a SHARES entry. -/
def shareSlots (c : List Byte) : List (List Byte) := [slice c 8 16, slice c 24 16, slice c 40 16]

/-- A share entry. -/
def shareOf (b : List Byte) : ShareReq :=
  { pool := leAt b 0 1, inst := leAt b 2 2, reserve := leAt b 4 4, ceiling := leAt b 8 4 }

/-- The share entries of a list, empty slots included. -/
def shareList (conts : List (List Byte)) : List ShareReq := (conts.flatMap shareSlots).map shareOf

/-- Instances of a pool: none, shards, clusters, or ports (R85). -/
def poolInsts (pool : Nat) : Option Nat :=
  match pool with
  | 3 => some 4
  | 0xE => some 24
  | 0x10 => some 576
  | _ => none

/-- Is the pool an index pool (R85)? -/
def indexPool (pool : Nat) : Bool := decide (6 ≤ pool) && decide (pool ≤ 0xC)

/-- Is the INSTANCE of a share one that its pool has? 0xFFFF leaves the choice to the device. -/
def instOk (q : ShareReq) : Bool :=
  match poolInsts q.pool with
  | some n => decide (q.inst < n) || decide (q.inst = 0xFFFF)
  | none => decide (q.inst = 0xFFFF)

/-- Is a list of shares well formed for a kind of drawer (R87)? -/
def sharesOk (sealed : Bool) (conts : List (List Byte)) : Bool :=
  let slots := conts.flatMap shareSlots
  let l := (shareList conts).filter (fun q => !decide (q.pool = 0))
  conts.all (fun c => decide (leAt c 56 8 = 0)) &&
  slots.all (fun b => decide (leAt b 1 1 = 0) && decide (leAt b 12 4 = 0) && decide (leAt b 0 1 ≤ 0x10)) &&
  l.all instOk &&
  (if sealed then l.all (fun q => decide (q.ceiling = 0) || decide (q.ceiling = q.reserve))
   else l.all (fun q => decide (q.pool ≤ 0xC) && decide (q.reserve = 0))) &&
  decide ((l.filter (fun q => decide (q.inst < 0xFFFF) || (poolInsts q.pool).isNone)).map (fun q => (q.pool, q.inst))
    = ((l.filter (fun q => decide (q.inst < 0xFFFF) || (poolInsts q.pool).isNone)).map (fun q => (q.pool, q.inst))).eraseDups)

/-- The parts of R87 that concern a drawer command's own fields; those of its list depend on the drawer's kind. -/
def drFields (op : Nat) (e : List Byte) : Bool :=
  zeroBut e (drKeep op) && decide (drOf e < 4096) &&
  (match op with
   | 0x60 => decide (leAt e 10 1 ≤ 1) && decide (leAt e 11 1 ≤ 2)
   | 0x61 => decide (leAt e 13 1 ≤ 2)
   | 0x63 => decide (leAt e 16 1 ≤ 3)
   | _ => true)

/-! ## Extents (R86) -/

/-- Free runs of `[pos, top)` between the busy extents, which are sorted. -/
def freeRuns (top : Nat) : Nat → List (Nat × Nat) → List (Nat × Nat)
  | pos, [] => if pos < top then [(pos, top - pos)] else []
  | pos, (b, n) :: t => (if pos < b then [(pos, b - pos)] else []) ++ freeRuns top (max pos (b + n)) t

/-- `need` granules from runs in turn, if they hold so many. -/
def takeRuns : List (Nat × Nat) → Nat → Option (List (Nat × Nat))
  | [], need => if need = 0 then some [] else none
  | (b, n) :: t, need =>
    let k := min need n
    (takeRuns t (need - k)).map (fun l => if k = 0 then l else (b, k) :: l)

/-- Adjacent extents joined; the list is sorted. -/
def mergeRuns : List (Nat × Nat) → List (Nat × Nat)
  | [] => []
  | (b, n) :: t =>
    match mergeRuns t with
    | (c, m) :: r => if b + n = c then (b, n + m) :: r else (b, n) :: (c, m) :: r
    | [] => [(b, n)]

/-- Extents in rising order. -/
def sortRuns (l : List (Nat × Nat)) : List (Nat × Nat) := sortBy (fun a b => decide (a.1 ≤ b.1)) l

/-- The lowest `n` granules of a grant: a resize that shrinks it releases the highest first (R86). -/
def keepRuns : Nat → List (Nat × Nat) → List (Nat × Nat)
  | _, [] => []
  | n, (b, k) :: t => if n = 0 then [] else (b, min n k) :: keepRuns (n - k) t

/-- What of a grant lies beyond its lowest `n` granules. -/
def dropRuns : Nat → List (Nat × Nat) → List (Nat × Nat)
  | _, [] => []
  | n, (b, k) :: t => if k ≤ n then dropRuns (n - k) t else (b + n, k - n) :: dropRuns 0 t

/-- Every granule of some extents. -/
def runGranules (l : List (Nat × Nat)) : List Nat := l.flatMap (fun e => (List.range e.2).map (fun j => e.1 + j))

/-- Granules of CONN that hold a connection of the block service, which no grant takes (R355). -/
def State.volRuns (s : State) : List (Nat × Nat) :=
  ((s.xpt.conns.filter (fun e => e.2.vol)).map (fun e => (e.1 / 64, 1))).eraseDups

/-- Free runs of an index pool beside a drawer's own grant `mine`. -/
def State.poolFree (s : State) (d pool : Nat) (mine : List (Nat × Nat)) : List (Nat × Nat) :=
  let others := (s.drw.shares.filter (fun e => !decide (e.1 = d))).flatMap (fun e =>
    (e.2.filter (fun h => decide (h.pool = pool))).flatMap (·.extents))
  freeRuns (s.get (Reg.DRW_POOL_TOTAL_GRANULES pool)) 0
    (sortRuns (others ++ mine ++ (if pool = 9 then s.volRuns else [])))

/-- A grant raised to `want` granules in at most 8 extents, or none (R86). The largest free runs are taken first, those above the
present grant before the others, so that the drawer's local indices keep their meaning (DESIGN CHOICE, log entry 21). -/
def State.growRuns (s : State) (d pool : Nat) (mine : List (Nat × Nat)) (want : Nat) : Option (List (Nat × Nat)) :=
  let free := s.poolFree d pool mine
  let top := mine.foldl (fun a e => max a (e.1 + e.2)) 0
  let big := fun (l : List (Nat × Nat)) => sortBy (fun a b => decide (b.2 ≤ a.2)) l
  let tries := [big (free.filter (fun e => decide (top ≤ e.1))), big free]
  tries.findSome? (fun runs =>
    match takeRuns runs (want - extentsLen mine) with
    | some l =>
      let r := mergeRuns (sortRuns (mine ++ l))
      if r.length ≤ 8 then some r else none
    | none => none)

/-! ## In use (R86) -/

/-- Does the ring with this key exist? -/
def State.ringThere (s : State) (k : Nat) : Bool := !decide ((s.ring k).st = .absent)

/-- Is index `i` of an index pool, the `pos`-th of the drawer's grant, in use (R86)? -/
def State.indexUsed (s : State) (d pool i pos : Nat) : Bool :=
  match pool with
  | 6 => s.tmOn 0 i
  | 7 => s.tmOn 3 i || !(s.shaperUsers i).isEmpty
  | 8 => s.tmOn 4 i
  | 9 => !decide ((s.conn i).st = 0) || s.ringThere (ringKey d (2 ^ 23 + 2 * pos)) || s.ringThere (ringKey d (2 ^ 23 + 2 * pos + 1))
  | 0xA => !decide ((s.key i).st = 0)
  | 0xB => s.ringThere (ringKey d pos)
  | _ => s.ringThere (ringKey d (2 ^ 22 + pos))

/-- Granule size of an index pool. -/
def poolGranule (pool : Nat) : Nat :=
  match pool with
  | 9 => 64
  | 0xA => 256
  | 0xB => 1
  | 0xC => 1
  | _ => 8

/-- Would a shrink to the lowest `n` granules of a grant release an index in use? -/
def State.shrinkUsed (s : State) (d pool n : Nat) (mine : List (Nat × Nat)) : Bool :=
  let g := poolGranule pool
  ((runGranules (dropRuns n mine)).zipIdx n).any (fun e =>
    (List.range g).any (fun j => s.indexUsed d pool (e.1 * g + j) (e.2 * g + j)))

/-- What a sealed drawer uses of a capacity pool, in the pool's units, and the units of one granule (R86). -/
def State.capacityUsed (s : State) (d pool : Nat) : Nat × Nat :=
  match pool with
  | 1 => (s.dieUse (drMaster d), 1024)
  | 2 => (s.hbmUse (drMaster d), 256)
  | 5 => (s.lpmUse d, 1024)
  | 0xD => ((s.xpt.cache.filter (fun c => decide ((s.conn c).drawer = d))).length, 64)
  | 0xF => (mgetD s.acc.slots (d + 1) 0, 16)
  | _ => (0, 1)

/-! ## Granting (R86) -/

/-- Granules that the sealed drawers other than `d` reserve in a pool and instance. -/
def State.sealedSum (s : State) (d pool inst : Nat) : Nat :=
  s.drw.shares.foldl (fun a e => if s.sealed e.1 && !decide (e.1 = d) then
    (e.2.filter (fun h => decide (h.pool = pool) && decide (h.inst = inst))).foldl (fun b h => b + h.reserve) a else a) 0

/-- Most granules that sealed drawers may hold of a capacity pool and instance in total (R85, R86, R215). -/
def State.poolLimit (s : State) (pool inst : Nat) : Nat :=
  match pool with
  | 1 => (2097152 - s.get Reg.CELL_HEADROOM_HEADROOM) / 1024
  | 3 => 128
  | 0xE => 12
  | 0x10 => s.portRate inst * 9 / 10000
  | _ => s.get (Reg.DRW_POOL_TOTAL_GRANULES pool)

/-- Table area, buckets and overflow entries of a granule, and buckets in all, for the pools with ranges (R174). -/
def emArea (pool inst : Nat) : Nat × Nat × Nat × Nat :=
  if pool = 3 then (inst, 1024, 32, 131072) else (4, 16384, 64, 16777216)

/-- First bucket of the sealed part of a table area. -/
def State.splitAt (s : State) (area : Nat) : Nat :=
  if area = 4 then s.get Reg.TBL_HBM_SPLIT_SPLIT * 16384 else s.get (Reg.TBL_SHARD_SPLIT_SPLIT area) * 1024

/-- A range of buckets for `n` granules in the sealed part of an area, beside the ranges `rs`: the lowest place it fits (R174). -/
def State.placeRange (s : State) (rs : List SealRange) (d area n bk ov top : Nat) : Option SealRange :=
  let busy := sortRuns ((rs.filter (fun r => decide (r.area = area))).map (fun r => (r.base, r.len)))
  ((freeRuns top (s.splitAt area) busy).find? (fun r => decide (n * bk ≤ r.2))).map (fun r =>
    { drawer := d, area := area, base := r.1, len := n * bk, ovf := n * ov })

/-- The shares and bucket ranges of a drawer while a list is worked through. -/
structure Grant where
  shares : List Share
  ranges : List SealRange
deriving DecidableEq, Repr

/-- A share put into a list, or removed when it holds nothing. -/
def putShare (l : List Share) (h : Share) : List Share :=
  let r := l.filter (fun x => !(decide (x.pool = h.pool) && decide (x.inst = h.inst)))
  if h.reserve = 0 ∧ h.ceiling = 0 then r else r ++ [h]

/-- One share entry granted to drawer `d`: a status, or what it holds then (R86). -/
def State.grantOne (s : State) (d : Nat) (sealed : Bool) (g : Grant) (q : ShareReq) : Except Nat Grant :=
  let old := (g.shares.find? (fun h => decide (h.pool = q.pool) && decide (h.inst = q.inst))).getD
    { pool := q.pool, inst := q.inst, reserve := 0, ceiling := 0, extents := [] }
  let h := { old with reserve := q.reserve, ceiling := q.ceiling }
  if indexPool q.pool then
    let want := if sealed then q.reserve else q.ceiling
    if want ≤ extentsLen old.extents then
      if s.shrinkUsed d q.pool want old.extents then .error ST_SHARE_IN_USE
      else .ok { g with shares := putShare g.shares { h with extents := keepRuns want old.extents } }
    else if sealed && decide (q.pool = 9) && decide (256 < s.sealedSum d 9 0xFFFF + want) then .error ST_POOL_EXHAUSTED
    else match s.growRuns d q.pool old.extents want with
      | some l => .ok { g with shares := putShare g.shares { h with extents := l } }
      | none => .error ST_POOL_EXHAUSTED
  else if !sealed then .ok { g with shares := putShare g.shares h }
  else
    let (used, unit) := s.capacityUsed d q.pool
    if q.reserve < old.reserve && decide (q.reserve * unit < used) then .error ST_SHARE_IN_USE
    else if decide (q.pool = 3) || decide (q.pool = 4) then
      if q.reserve = old.reserve then .ok { g with shares := putShare g.shares h }
      else
        let (area, bk, ov, top) := emArea q.pool q.inst
        let rs := g.ranges.filter (fun r => !(decide (r.drawer = d) && decide (r.area = area)))
        if 0 < s.emUse d area then .error ST_SHARE_IN_USE
        else if s.poolLimit q.pool q.inst < s.sealedSum d q.pool q.inst + q.reserve then .error ST_POOL_EXHAUSTED
        else if q.reserve = 0 then .ok { g with shares := putShare g.shares h, ranges := rs }
        else match s.placeRange rs d area q.reserve bk ov top with
          | some r => .ok { g with shares := putShare g.shares h, ranges := rs ++ [r] }
          | none => .error ST_POOL_EXHAUSTED
    else if old.reserve < q.reserve && decide (s.poolLimit q.pool q.inst < s.sealedSum d q.pool q.inst + q.reserve) then
      .error ST_POOL_EXHAUSTED
    else .ok { g with shares := putShare g.shares h }

/-- One share entry whose instance may be left to the device: a free choice among the instances that can be granted (R85). -/
def State.grantAny (s : State) (d : Nat) (sealed : Bool) (g : Grant) (q : ShareReq) : Except Nat Grant × State :=
  match (if q.inst = 0xFFFF then poolInsts q.pool else none) with
  | none => (s.grantOne d sealed g q, s)
  | some n =>
    let fit := (List.range n).filterMap (fun i =>
      match s.grantOne d sealed g { q with inst := i } with
      | .ok g => some g
      | .error _ => none)
    let (v, s) := s.free 16
    match fit[v % fit.length]? with
    | some g => (.ok g, s)
    | none => (.error ST_POOL_EXHAUSTED, s)

/-- A list of shares granted in turn: the failing status with its position and pool, or what the drawer holds then. -/
def grantList (d : Nat) (sealed : Bool) : Nat → Grant → List ShareReq → State → Except (Nat × Nat × Nat) Grant × State
  | _, g, [], s => (.ok g, s)
  | pos, g, q :: t, s =>
    if q.pool = 0 then grantList d sealed (pos + 1) g t s
    else match s.grantAny d sealed g q with
      | (.ok g, s) => grantList d sealed (pos + 1) g t s
      | (.error st, s) => (.error (st, pos, q.pool), s)

/-- Ways of the L2 of a cluster that sealed drawers hold, as RESERVED_WAYS shows them (R307). -/
def State.waySync (s : State) (n : Nat) : State :=
  s.set (Reg.CORE_CL_STATUS_RESERVED_WAYS n) (2 ^ (s.sealedSum 4096 0xE n) - 1)

/-- Everything that follows the shares, after a change of drawer `d`'s from `old` to `new`: table ranges are already placed. SCHED
shares granted on a FLAT port raise tm.sched_unserved (R239). -/
def State.shareSync (s : State) (d : Nat) (old new : List Share) : State :=
  let s := s.trackSync.slotSync.cellSync
  let ports := ((old ++ new).filter (fun h => decide (h.pool = 0x10))).map (·.inst)
  let s := ports.eraseDups.foldl (fun (s : State) p => s.tmPortSync p) s
  let fresh := (new.filter (fun h => decide (h.pool = 0x10) && decide (0 < h.reserve) && !old.contains h && s.flat h.inst))
  let s := fresh.foldl (fun (s : State) (h : Share) => s.raise EV_tm_sched_unserved d [h.inst, h.reserve]) s
  let cls := ((old ++ new).filter (fun h => decide (h.pool = 0xE))).map (·.inst)
  cls.eraseDups.foldl (fun (s : State) n => s.waySync n) s

/-- A drawer's shares written with the bucket ranges. -/
def State.setShares (s : State) (d : Nat) (g : Grant) : State :=
  let old := s.sharesOf d
  let s := { s with drw := { s.drw with shares := mputD s.drw.shares d g.shares [] }, tbl := { s.tbl with ranges := g.ranges } }
  s.shareSync d old g.shares

/-! ## Fence entries (R95–R99) -/

/-- Instances, entries, address space and alignment of a kind of target (R96). -/
def fenceKind (kind : Nat) : Option (Nat × Nat × Nat × Nat) :=
  match kind with
  | 1 => some (4, 1024, 96 * 2 ^ 30, 4096)
  | 2 => some (24, 128, 2 ^ 21, 64)
  | 3 => some (19, 32, 2 ^ 20, 4)
  | _ => none

/-- Is a fence command's entry well formed (R87, R95, R96)? -/
def fenceOk (e : List Byte) : Bool :=
  let t := leAt e 8 2
  match fenceKind (t / 4096) with
  | none => false
  | some (n, m, top, al) =>
    (decide (t % 4096 < n) || decide (t % 4096 = 0xFFF)) && decide (leAt e 10 2 < m) &&
    (if leAt e 0 1 = 0x71 then zeroBut e [(0, 12)]
     else zeroBut e [(0, 18), (24, 16)] && decide (leAt e 16 1 < 8) && decide (leAt e 17 1 < 2) &&
       decide (leAt e 24 8 ≤ leAt e 32 8) && decide (leAt e 32 8 < top) && decide (leAt e 24 8 % al = 0) &&
       decide ((leAt e 32 8 + 1) % al = 0))

/-- The entry of a FENCE_SET. -/
def fenceOf (e : List Byte) : Fence :=
  { master := leAt e 12 2, mask := leAt e 14 2, perm := leAt e 16 1, lock := bit (leAt e 17 1) 0, base := leAt e 24 8,
    limit := leAt e 32 8 }

/-- Keys of the entries that a command names: its position at every instance of its selector (R96). -/
def fenceKeys (e : List Byte) : List Nat :=
  let t := leAt e 8 2
  match fenceKind (t / 4096) with
  | none => []
  | some (n, _, _, _) =>
    if t % 4096 = 0xFFF then (List.range n).map (fun i => fenceKey (t / 4096) i (leAt e 10 2))
    else [fenceKey (t / 4096) (t % 4096) (leAt e 10 2)]

/-- The drawers an entry admits, as their fixed bits and the bits left open: none where it admits no drawer. -/
def Fence.drawers (f : Fence) : Option (Nat × Nat) :=
  if Nat.land (f.mask / 4096) 1 = Nat.land (f.mask / 4096) (f.master / 4096) then
    some (Nat.land f.master f.mask % 4096, 4095 - f.mask % 4096)
  else none

/-- Do the ranges of two entries meet? -/
def Fence.meets (a b : Fence) : Bool := decide (a.base ≤ b.limit) && decide (b.base ≤ a.limit)

/-- The drawer of `b` with whose window `a`, admitting a different drawer for write, clashes (R99). -/
def Fence.clash1 (a b : Fence) : Option Nat :=
  if a.meets b && bit a.perm 1 && decide (0 < b.perm % 4) then
    match a.drawers, b.drawers with
    | some (x, fx), some (y, fy) =>
      if fx = 0 ∧ x = y then (if fy = 0 then none else some (y + 2 ^ (((List.range 12).find? (fun i => bit fy i)).getD 0)))
      else some y
    | _, _ => none
  else none

/-- A clash between two entries, either way round; the drawer named is one of `b`'s. -/
def Fence.clash (a b : Fence) : Option Nat :=
  match a.clash1 b with
  | some d => some d
  | none => match b.clash1 a with
    | some d =>
      match b.drawers with
      | some (y, fy) => if y = d ∧ fy ≠ 0 then some (y + 2 ^ (((List.range 12).find? (fun i => bit fy i)).getD 0)) else some y
      | none => some d
    | none => none

/-- The drawer that an entry at the keys clashes with in the set in force; register blocks admit no drawer (R94, R99). -/
def State.fenceClash (s : State) (keys : List Nat) (f : Fence) : Option Nat :=
  keys.findSome? (fun k =>
    if k / 2 ^ 28 = 3 then none
    else match f.clash f with
      | some d => some d
      | none => s.drw.fences.findSome? (fun e =>
          if e.1 / 2 ^ 16 = k / 2 ^ 16 ∧ e.1 ≠ k then f.clash e.2 else none))

/-- DISJOINT follows the fence set (R99). -/
def State.fenceSync (s : State) : State :=
  let bad := s.drw.fences.any (fun a => !decide (a.1 / 2 ^ 28 = 3) && s.drw.fences.any (fun b =>
    decide (a.1 / 2 ^ 16 = b.1 / 2 ^ 16) && (a.2.clash1 b.2).isSome))
  s.set Reg.DRW_STATUS_DISJOINT (b2n !bad)

/-- Entries of the fence set that DRAWER_DESTROY invalidates: those of exactly the drawer's master (R89). -/
def State.exactFences (s : State) (d : Nat) : List (Nat × Fence) :=
  s.drw.fences.filter (fun e => decide (e.2.mask = 0xFFFF) && decide (e.2.master = drMaster d))

end Sys2Proof.Machine
end

