-- ==== Sys2Proof/Machine/HostLog.lean ====
section
/-! DEFINITION. Events of a host port and PF0's event log (R79, R531, R532). -/

namespace Sys2Proof.Machine

/-- Names PF0 of host port `q` as the sender of a message. -/
def pf0Key (q : Nat) : Nat := 2 ^ 42 + q

/-- Unread records of PF0's event log. -/
def HostPort.unread (h : HostPort) : Nat := (h.logProd + 2 ^ 32 - h.logCons) % 2 ^ 32

/-- A record is written into PF0's event log of a port; a log of 64 unread records loses its oldest (R532). -/
def State.logRecord (s : State) (q : Nat) (e : Event) : State :=
  let h := s.hport q
  let l := h.log ++ [e]
  let s' := s.setHport q { h with log := l.drop (l.length - 64), logProd := (h.logProd + 1) % 2 ^ 32,
                                  logLost := if 64 ≤ h.unread then (h.logLost + 1) % 2 ^ 32 else h.logLost }
  if h.unread = 0 then s'.sendVec (pf0Key q) q 0 0 else s'

/-- Events whose copy goes to PF0's log (R532). -/
def loggedEvents : List Nat :=
  [EV_host_link_up, EV_host_link_down, EV_host_surprise_down, EV_host_speed_floor, EV_host_flr, EV_host_retired]

/-- An event of a host port, at most one of its kind in a millisecond (R79), with its copy in PF0's log. -/
def State.hostEvent (s : State) (q code : Nat) (detail : List Nat) : State :=
  let h := s.hport q
  let due := match mget h.evAt code with
    | none => true
    | some t => decide (1000000 ≤ s.now - t)
  if due then
    let s := (s.setHport q { h with evAt := mput h.evAt code s.now }).raise code q detail
    if loggedEvents.contains code then
      s.logRecord q { code := code, source := q, time := s.now, dest := 0, detail := detail }
    else s
  else s

end Sys2Proof.Machine
end

