-- ==== Sys2Proof/Machine/QuiesceOps.lean ====
section
/-! DEFINITION. The quiesce and reset sequence of a drawer (R103–R107). -/

namespace Sys2Proof.Machine

/-- The submission rings of a drawer with their keys. -/
def State.subRings (s : State) (d : Nat) : List (Nat × Ring) :=
  s.rings.filter (fun e => decide (ringDrawer e.1 = d) && decide (e.2.kind = .sub))

/-- Work items of a drawer in the engines, by ring (R104). -/
def State.drItems (s : State) (d : Nat) : List (Nat × Item) := (s.subRings d).flatMap (fun e => e.2.items.map (fun i => (e.1, i)))

/-- Those that the drain waits for: a receive buffer that is posted and not filled waits for its peer, not for an engine
(DEDUCED, log entry 22). -/
def State.drainItems (s : State) (d : Nat) : List (Nat × Item) := (s.drItems d).filter (fun e => !e.2.posted)

/-- Is a drawer's VF one that exists and is enabled by its host (R82, R88)? -/
def State.vfLive (s : State) (d : Nat) : Bool :=
  match s.drPort d with
  | none => false
  | some q =>
    let f := s.get (Reg.DRW_DRAWER_BIND_PF d)
    let v := s.get (Reg.DRW_DRAWER_BIND_VF d)
    (s.hport q).vfEn.contains f && decide (v < s.get (Reg.HOST_PF_CFG_TOTAL_VFS q f)) && decide (v < mgetD (s.hport q).numVfs f 0)

/-- The state a bound drawer is in outside its sequences (R82). -/
def State.restState (s : State) (d : Nat) : Nat := if s.vfLive d then 3 else 2

/-- Is the link of a drawer's port up? -/
def State.drLink (s : State) (d : Nat) : Bool :=
  match s.drPort d with
  | none => false
  | some q => s.on (Reg.HOST_PORT_STATUS_LINK_UP q)

/-- A drawer's sequence written. -/
def State.setQuiesce (s : State) (d : Nat) (q : Quiesce) : State :=
  { s with drw := { s.drw with quiesce := mput s.drw.quiesce d q } }

/-- COUNT of a drawer command's completion: items aborted, JOINED and DRAIN_TIMED_OUT (R84). -/
def Quiesce.count (q : Quiesce) : Nat := q.aborted + (b2n q.joined + 2 * b2n q.timedOut) * 2 ^ 32

/-- The sequence is over: BUSY clears and the commands that wait complete. -/
def State.quiesceEnd (s : State) (d : Nat) (q : Quiesce) : State :=
  let s := { s with drw := { s.drw with quiesce := mdel s.drw.quiesce d } }
  let s := s.set (Reg.DRW_DRAWER_STATUS_BUSY d) 0
  let s := match mget s.drw.person d with
    | some x => if x.shst = 1 then { s with drw := { s.drw with person := mput s.drw.person d { x with shst := 2 } } } else s
    | none => s
  q.refs.foldl (fun (s : State) (r : Ref) => s.complete r ST_OK q.count [s.drGen d]) s

/-! ## Step 3 -/

/-- One item ends with ABORTED_RESET; its completion is written or the status stays internal and the credit returns (R104). -/
def State.abortItem (s : State) (write : Bool) (k : Nat) (i : Item) : State :=
  if write then
    if s.get (Reg.DRW_DRAWER_STATUS_PERSONALITY (ringDrawer k)) = 1 then s.nvDone k i.tag 0x006 0
    else s.endItem k i.index i.tag i.cplReq ST_ABORTED_RESET 0 []
  else
    let s := s.slotBack k i.index
    let s := s.setRing k ((s.ring k).drop i.index)
    let l := (s.ring k).link
    s.setRing l { s.ring l with reserved := (s.ring l).reserved - 1 }

/-- The transport engine's part: operations, receives, trackers and unacknowledged packets of the drawer's connections go, and
an open message of a bound connection leaves a gap (R104, R349). -/
def State.abortConns (s : State) (d : Nat) : State :=
  (s.xpt.conns.filter (fun e => decide (e.2.drawer = d) && !e.2.vol && !decide (e.2.st = 0))).foldl (fun (s : State) (e : Nat × Conn) =>
    let x := e.2
    let s := if x.tracks.isEmpty then s else s.sealGap x.sealTo
    let s := x.tracks.foldl (fun (s : State) (t : XTrack) => if t.sealed then s.sealReturn x.sealTo else s) s
    let s := s.dropPackets x
    s.setConn e.1 {
      x with ops := [], wait := [], ctl := [], unacks := [], rtx := [], tracks := [], recvs := [], list := none,
             closeRef := none, heldCpl := [], heldReq := [] }) s

/-- Accesses through the drawer's keys have ended, and a revoke that waited for them is no longer waited for (R264). -/
def State.abortKeys (s : State) (d : Nat) : State :=
  (s.xpt.keys.filter (fun e => decide (e.2.drawer = d))).foldl (fun (s : State) (e : Nat × XKey) =>
    (s.setKey e.1 { e.2 with inflight := 0, ref := none }).revokeDone e.1) s

/-- Outstanding reads and translations of the drawer end internally (R75, R104). -/
def State.abortHost (s : State) (d : Nat) : State :=
  match s.drPort d with
  | none => s
  | some q =>
    let h := s.hport q
    s.setHport q { h with reads := h.reads.filter (fun r => !decide (r.drawer = d)),
                          atsWait := h.atsWait.filter (fun r => !decide (r.drawer = d)) }

/-- The accelerators' part: jobs that wait at a stream, and flushes that wait for their targets. -/
def State.abortAcc (s : State) (d : Nat) : State :=
  let mine := fun (k : Nat) => !isCtl k && decide (ringDrawer k = d)
  { s with acc := { s.acc with
      streams := s.acc.streams.map (fun e => (e.1, { e.2 with wait := e.2.wait.filter (fun w => !mine w.env.ref.ring) })),
      vols := s.acc.vols.map (fun e => (e.1, { e.2 with flushes := e.2.flushes.filter (fun w => !mine w.ring) })),
      waiting := s.acc.waiting.filter (fun k => !mine k), granted := s.acc.granted.filter (fun k => !mine k),
      starved := s.acc.starved.filter (fun k => !mine k) } }

/-- Is the completion of an item aborted at step 3 written (R104)? -/
def State.abortWrites (s : State) (d : Nat) (q : Quiesce) : Bool :=
  (!q.refs.isEmpty || decide (q.trigger = 1)) && !q.hostTrig && s.drLink d &&
  (match s.drPort d with
   | some p => !(s.hport p).d3.contains (s.drFunc d) && s.vfLive d
   | none => false)

/-- Step 3: work still present ends with ABORTED_RESET, each item counted (R104). -/
def State.quiesceAbort (s : State) (d : Nat) (q : Quiesce) : State :=
  let items := s.drItems d
  let write := s.abortWrites d q
  let s := ((s.abortHost d).abortConns d).abortAcc d
  let s := items.foldl (fun (s : State) (e : Nat × Item) => s.abortItem write e.1 e.2) s
  let s := (s.subRings d).foldl (fun (s : State) (e : Nat × Ring) =>
    let r := s.ring e.1
    s.setRing e.1 { r with done := [], waitQuit := none, st := if r.st = .flushing then .stopped else r.st }) s
  let s := (s.abortKeys d).bump (Reg.n_aborted_work d) items.length
  s.setQuiesce d { q with step := .abort, aborted := q.aborted + items.length }

/-! ## Step 7 -/

/-- Rings disabled, their indices zeroed and their credits returned: they are ABSENT (R104, R149). -/
def State.ringsGone (s : State) (d : Nat) : State :=
  { s with rings := s.rings.filter (fun e => !decide (ringDrawer e.1 = d)), drw := { s.drw with bells := mdel s.drw.bells d } }

/-- The queues of a drawer are emptied; frames of its host-receive queues are counted at its port (R75, R242). -/
def State.queuesGone (s : State) (d : Nat) : State :=
  (s.tm.queues.filter (fun e => decide (s.queueOwner e.1 = some d))).foldl (fun (s : State) (e : Nat × TmQueue) =>
    let s := if s.qKind e.1 = 1 then match s.drPort d with
      | some q => s.bump (Reg.n_rx_flushed q) e.2.frames.length
      | none => s
      else s
    s.flushQueue e.1) s

/-- The drawer's shaper, policer and sealed buckets are full again (R242). -/
def State.bucketsFull (s : State) (d : Nat) : State :=
  let mine := fun (e : Nat × Bucket) =>
    if e.1 / 2 ^ 20 = 3 then decide (s.shaperOwner (e.1 % 2 ^ 20) = some d) else decide (s.policerOwner (e.1 % 2 ^ 20) = some d)
  { s with tm := { s.tm with buckets := s.tm.buckets.filter (fun e => !mine e),
                             sealedB := s.tm.sealedB.filter (fun e => !decide (s.groupOwner e.1 = some d)) } }

/-- Connections of a drawer return to UNUSED (R248). -/
def State.connsGone (s : State) (d : Nat) : State :=
  (s.xpt.conns.filter (fun e => decide (e.2.drawer = d) && !e.2.vol && !decide (e.2.st = 0))).foldl
    (fun (s : State) (e : Nat × Conn) => s.connUnused e.1 false) s

/-- Region keys of a drawer are FREE; their tags go on from where they are (R262, R264). -/
def State.keysGone (s : State) (d : Nat) : State :=
  (s.xpt.keys.filter (fun e => decide (e.2.drawer = d) && !decide (e.2.st = 0))).foldl
    (fun (s : State) (e : Nat × XKey) => s.setKey e.1 { XKey.free with tag := e.2.tag, drawer := d }) s

/-- Tables that a drawer owns. -/
def State.tablesOf (s : State) (d : Nat) : List Nat := (List.range 4096).filter (fun t => decide (s.tOwner t = some d))

/-- Step 7 begins: the reset itself (R104). The sweeps of its tables run on. -/
def State.resetBegin (s : State) (d : Nat) (q : Quiesce) : State :=
  let s := s.setDr d 6
  let s := (((s.connsGone d).keysGone d).queuesGone d).bucketsFull d
  let s := (s.tablesOf d).foldl (fun (s : State) t => s.sweep t false 0 []) s
  (s.ringsGone d).setQuiesce d { q with step := .reset }

/-! ## The steps in turn -/

/-- Step 6, and what follows it: QUIESCED, then the end, the ring part of step 7 (R71), or step 7. -/
def State.quiesced (s : State) (d : Nat) (q : Quiesce) : State :=
  let s := (s.setDr d 5).raise EV_drw_quiesced d [s.drGen d, q.aborted]
  if q.doReset then s.resetBegin d q
  else if q.ringOnly then
    let s := s.ringsGone d
    (s.setDr d (s.restState d)).quiesceEnd d q
  else s.quiesceEnd d q

/-- Step 4: the generation is incremented (R103). -/
def State.purgeBegin (s : State) (d : Nat) (q : Quiesce) : State :=
  (s.set (Reg.DRW_DRAWER_STATUS_GENERATION d) ((s.drGen d + 1) % 2 ^ 16)).setQuiesce d { q with step := .purge }

/-- A sequence begins on a drawer with step 1, or from QUIESCED with step 4 (R103, R104). -/
def State.quiesceBegin (s : State) (d : Nat) (q : Quiesce) : State :=
  let s := s.set (Reg.DRW_DRAWER_STATUS_BUSY d) 1
  if s.drState d = 5 then s.purgeBegin d { q with fromQ := true }
  else
    let s := s.setDr d 4
    let s := (s.subRings d).foldl (fun (s : State) (e : Nat × Ring) => s.setRing e.1 { s.ring e.1 with slips := [] }) s
    s.setQuiesce d q

/-- A sequence as a trigger begins it. -/
def Quiesce.fresh (trigger : Nat) (refs : List Ref) (doReset skipDrain hostTrig : Bool) (drainMs : Nat) : Quiesce :=
  { step := .fetch, doReset := doReset, skipDrain := skipDrain, ringOnly := false, hostTrig := hostTrig, joined := false,
    timedOut := false, aborted := 0, refs := refs, trigger := trigger, fromQ := false, drainMs := drainMs }

/-- A host-triggered reset of a drawer (R105), or its join to the sequence that runs (R107). -/
def State.hostReset (s : State) (d trigger : Nat) : State :=
  if s.drState d ≤ 1 then s
  else match mget s.drw.quiesce d with
  | none => s.quiesceBegin d (Quiesce.fresh trigger [] true true true 0)
  | some q =>
    let q' := { q with doReset := true, skipDrain := true, ringOnly := false, hostTrig := true, joined := q.joined || !q.refs.isEmpty }
    if q.step = .drain then s.quiesceAbort d q' else s.setQuiesce d q'

/-- D3hot written with rings enabled: the quiesce and abort path with the ring part of step 7 only (R71, R105). -/
def State.d3Reset (s : State) (d : Nat) : State :=
  if s.drState d = 3 ∧ s.rings.any (fun e => decide (ringDrawer e.1 = d)) ∧ (mget s.drw.quiesce d).isNone then
    s.quiesceBegin d { Quiesce.fresh 7 [] false true true 0 with ringOnly := true }
  else s

/-- The doorbells recorded during a quiesce are acted on (R104, R105). -/
def State.replayBells (s : State) (d : Nat) : State :=
  let l := mgetD s.drw.bells d []
  let s := { s with drw := { s.drw with bells := mdel s.drw.bells d } }
  l.foldl (fun (s : State) (b : Nat × Nat) => s.bellStd d b.2) s

/-- VFs of a function's FLR: the FLRs in progress that wait for a drawer are told of its step 8, and end with host.flr (R79). -/
def State.flrStep (s : State) (q d : Nat) : State :=
  let h := s.hport q
  let l := h.flrs.map (fun e => (e.1, e.2.1.filter (fun x => !decide (x = d)), e.2.2))
  let s := s.setHport q { h with flrs := l.filter (fun e => !e.2.1.isEmpty) }
  (l.filter (fun e => e.2.1.isEmpty)).foldl (fun (s : State) (e : Nat × List Nat × Nat) => s.hostEvent q EV_host_flr [e.1, e.2.2]) s

/-- Step 8: the drawer is BOUND or ACTIVE again (R104). -/
def State.resetEnd (s : State) (d : Nat) (q : Quiesce) : State :=
  let s := s.setDr d (s.restState d)
  let s := { s with drw := { s.drw with resetDone := if s.drw.resetDone.contains d then s.drw.resetDone else s.drw.resetDone ++ [d],
                                        bells := mdel s.drw.bells d, person := mdel s.drw.person d } }
  let s := s.raise EV_drw_reset_done d [q.trigger, b2n q.joined, s.drGen d]
  let s := s.quiesceEnd d q
  match s.drPort d with
  | some p => s.flrStep p d
  | none => s

end Sys2Proof.Machine
end

