-- ==== Sys2Proof/Machine/Drawers.lean ====
section
/-! DEFINITION. The manager's drawer and fence commands (R83–R99), and the check of an access at its target (R20). -/

namespace Sys2Proof.Machine

/-- A drawer command ends: its status, COUNT, and the drawer's generation (R84). -/
def State.drDone (s : State) (r : Ref) (d st count : Nat) : State := s.complete r st count [s.drGen d]

/-- A drawer command runs when its entry is well formed, no other command runs on its drawer, and its state accepts it
(R83, R87). -/
def State.drCmd (s : State) (r : Ref) (op : Nat) (e : List Byte) (ok : Bool) (accepted : List Nat) (f : Nat → State) : State :=
  let d := drOf e
  if !drFields op e || !ok then s.malformed r 4 op
  else if (mget s.drw.quiesce d).isSome then s.drDone r d ST_DRAWER_BUSY 0
  else if !accepted.contains (s.drState d) then s.drDone r d ST_DRAWER_STATE 0
  else f d

/-- A failed grant names the failing entry's position and pool (R84). -/
def State.grantFailed (s : State) (r : Ref) (d st pos pool : Nat) : State := s.drDone r d st (pos + pool * 2 ^ 32)

/-- DRAWER_CREATE (R83, R86). -/
def State.drCreate (s : State) (r : Ref) (e : List Byte) (conts : List (List Byte)) : State :=
  let sealed := decide (leAt e 10 1 = 1)
  s.drCmd r 0x60 e (sharesOk sealed conts) [0] (fun d =>
    match grantList d sealed 0 { shares := [], ranges := s.tbl.ranges } (shareList conts) s with
    | (.error (st, pos, pool), s) => s.grantFailed r d st pos pool
    | (.ok g, s) =>
      let s := (s.set (Reg.DRW_DRAWER_STATUS_KIND d) (leAt e 10 1)).set (Reg.DRW_DRAWER_STATUS_PERSONALITY d) (leAt e 11 1)
      ((s.setDr d 1).setShares d g).drDone r d ST_OK 0)

/-- DRAWER_RESIZE: a list that is malformed for the drawer's kind halts; while the drawer is FREE its kind reads pooled
(R86, R87). -/
def State.drResize (s : State) (r : Ref) (e : List Byte) (conts : List (List Byte)) : State :=
  let sealed := s.sealed (drOf e)
  s.drCmd r 0x66 e (sharesOk sealed conts || (decide (s.drState (drOf e) = 0) && sharesOk true conts)) [1, 5] (fun d =>
    match grantList d sealed 0 { shares := s.sharesOf d, ranges := s.tbl.ranges } (shareList conts) s with
    | (.error (st, pos, pool), s) => s.grantFailed r d st pos pool
    | (.ok g, s) => (s.setShares d g).drDone r d ST_OK 0)

/-- The drawer bound to a VF of a host port, if any. -/
def State.vfDrawer (s : State) (q f v : Nat) : Option Nat :=
  (List.range 4096).find? (fun d => s.on (Reg.DRW_DRAWER_BIND_BOUND d) && decide (s.get (Reg.DRW_DRAWER_BIND_PORT d) = q) &&
    decide (s.get (Reg.DRW_DRAWER_BIND_PF d) = f) && decide (s.get (Reg.DRW_DRAWER_BIND_VF d) = v))

/-- DRAWER_BIND (R88). -/
def State.drBind (s : State) (r : Ref) (e : List Byte) : State :=
  s.drCmd r 0x61 e true [1] (fun d =>
    let q := leAt e 12 1
    let f := leAt e 13 1
    let v := leAt e 14 2
    if s.hostExists q && decide (f = s.get (Reg.DRW_DRAWER_STATUS_PERSONALITY d)) && (s.hport q).pfEn.contains f &&
        decide (v < 256) && (s.vfDrawer q f v).isNone then
      let s := ((s.set (Reg.DRW_DRAWER_BIND_BOUND d) 1).set (Reg.DRW_DRAWER_BIND_PORT d) q).set (Reg.DRW_DRAWER_BIND_PF d) f
      let s := s.set (Reg.DRW_DRAWER_BIND_VF d) v
      (s.setDr d (s.restState d)).drDone r d ST_OK 0
    else s.drDone r d ST_BIND_CONFLICT 0)

/-- The binding is gone, and with it what belonged to its VF; the VF behaves as one with no drawer (R60, R88). -/
def State.unbind (s : State) (d : Nat) : State :=
  let s := s.wr (Reg.DRW_DRAWER_BIND d) 0
  { s with drw := { s.drw with bells := mdel s.drw.bells d, resetDone := s.drw.resetDone.filter (fun x => !decide (x = d)),
                               person := mdel s.drw.person d } }

/-- DRAWER_UNBIND (R83, R88): rings that a quiesce left in place go with the binding (DEDUCED, log entry 47). -/
def State.drUnbind (s : State) (r : Ref) (e : List Byte) : State :=
  s.drCmd r 0x62 e true [2, 5] (fun d => (((s.ringsGone d).unbind d).setDr d 1).drDone r d ST_OK 0)

/-- The running sequence that a DRAWER_QUIESCE or DRAWER_RESET joins: a host-triggered reset for which no command waits (R107). -/
def State.joinable (s : State) (d : Nat) : Option Quiesce :=
  match mget s.drw.quiesce d with
  | some q => if q.hostTrig && q.refs.isEmpty then some q else none
  | none => none

/-- A manager's command joins: it completes when the reset is done, with JOINED set (R107). -/
def State.mgrJoin (s : State) (r : Ref) (d : Nat) (q : Quiesce) : State :=
  s.setQuiesce d { q with refs := [r], joined := true, doReset := true, ringOnly := false }

/-- DRAWER_QUIESCE (R83, R104, R105). -/
def State.drQuiesce (s : State) (r : Ref) (e : List Byte) : State :=
  match (if drFields 0x63 e then s.joinable (drOf e) else none) with
  | some q => s.mgrJoin r (drOf e) q
  | none =>
    s.drCmd r 0x63 e true [2, 3] (fun d =>
      let ms := if leAt e 18 2 = 0 then max 1 (s.get Reg.DRW_CFG_DRAIN_TIMEOUT) else leAt e 18 2
      s.quiesceBegin d (Quiesce.fresh 0 [r] (bit (leAt e 16 1) 1) (bit (leAt e 16 1) 0) false ms))

/-- DRAWER_RESET (R83, R105). -/
def State.drReset (s : State) (r : Ref) (e : List Byte) : State :=
  match (if drFields 0x64 e then s.joinable (drOf e) else none) with
  | some q => s.mgrJoin r (drOf e) q
  | none =>
    s.drCmd r 0x64 e true [2, 3, 5] (fun d =>
      let s := if s.drState d = 5 then s else
        (s.bump Reg.n_reset_unquiesced).raise EV_drw_reset_unquiesced d [(s.drItems d).length]
      s.quiesceBegin d (Quiesce.fresh 1 [r] true true false 0))

/-- DRAWER_RESUME (R83, R105). -/
def State.drResume (s : State) (r : Ref) (e : List Byte) : State :=
  s.drCmd r 0x65 e true [5] (fun d => ((s.setDr d (s.restState d)).replayBells d).drDone r d ST_OK 0)

/-- Every table of a destroyed drawer is disabled and swept (R189, R194). -/
def State.tablesGone (s : State) (d : Nat) : State :=
  (s.tablesOf d).foldl (fun (s : State) t =>
    if s.on (Reg.TBL_TABLE_CFG_ENABLE t) || decide (0 < s.get (Reg.TBL_TABLE_ENTRIES_ENTRIES t)) then
      (s.set (Reg.TBL_TABLE_CFG_ENABLE t) 0).sweep t true 2 []
    else s) s

/-- What a destroyed drawer held goes: the fence entries of exactly its master, its connections, keys, queues, tables and rings, its
binding and its shares (R89). -/
def State.drGone (s : State) (d : Nat) : State :=
  let l := s.exactFences d
  let s := { s with drw := { s.drw with fences := s.drw.fences.filter (fun x => !l.contains x) } }
  let s := (((s.fenceSync.connsGone d).keysGone d).queuesGone d).tablesGone d
  let s := (s.ringsGone d).unbind d
  let s := s.setShares d { shares := [], ranges := s.tbl.ranges.filter (fun x => !decide (x.drawer = d)) }
  (s.set (Reg.DRW_DRAWER_STATUS_KIND d) 0).set (Reg.DRW_DRAWER_STATUS_PERSONALITY d) 0

/-- DRAWER_DESTROY (R83, R89): the drawer is FREE and holds nothing. -/
def State.drDestroy (s : State) (r : Ref) (e : List Byte) : State :=
  s.drCmd r 0x67 e true [1, 5] (fun d =>
    let l := s.exactFences d
    if l.any (fun e => e.2.lock) then s.complete r ST_FENCE_LOCKED 0 [s.drGen d, 0]
    else
      let s := s.drGone d
      (s.setDr d 0).complete r ST_OK 0 [s.drGen d, l.length])

/-- FENCE_SET (R95–R99). -/
def State.fenceSet (s : State) (r : Ref) (e : List Byte) : State :=
  if !fenceOk e then s.malformed r 4 0x70
  else
    let keys := fenceKeys e
    let f := fenceOf e
    if keys.any (fun k => ((mget s.drw.fences k).map (·.lock)).getD false) then s.complete r ST_FENCE_LOCKED 0 []
    else match (if s.on Reg.DRW_CFG_DISJOINT_ENFORCE then s.fenceClash keys f else none) with
      | some d =>
        ((s.bump Reg.n_fence_overlap_refused).raise EV_drw_fence_overlap 0xFFFF [leAt e 8 2, leAt e 10 2, d]).complete r ST_FENCE_OVERLAP 0 []
      | none =>
        let s := { s with drw := { s.drw with fences := keys.foldl (fun m k => mput m k f) s.drw.fences } }
        s.fenceSync.complete r ST_OK 0 []

/-- FENCE_CLEAR (R95, R98). -/
def State.fenceClear (s : State) (r : Ref) (e : List Byte) : State :=
  if !fenceOk e then s.malformed r 4 0x71
  else
    let keys := fenceKeys e
    if keys.any (fun k => ((mget s.drw.fences k).map (·.lock)).getD false) then s.complete r ST_FENCE_LOCKED 0 []
    else
      let s := { s with drw := { s.drw with fences := keys.foldl (fun m k => mdel m k) s.drw.fences } }
      s.fenceSync.complete r ST_OK 0 []

def execDrawerCreate (r : Ref) (e : List Byte) (conts : List (List Byte)) (s : State) : Host.Outcome State Fault Refusal :=
  s.run (s.work r (·.drCreate r e conts))
def execDrawerBind (r : Ref) (e : List Byte) (s : State) : Host.Outcome State Fault Refusal := s.run (s.work r (·.drBind r e))
def execDrawerUnbind (r : Ref) (e : List Byte) (s : State) : Host.Outcome State Fault Refusal := s.run (s.work r (·.drUnbind r e))
def execDrawerQuiesce (r : Ref) (e : List Byte) (s : State) : Host.Outcome State Fault Refusal := s.run (s.work r (·.drQuiesce r e))
def execDrawerReset (r : Ref) (e : List Byte) (s : State) : Host.Outcome State Fault Refusal := s.run (s.work r (·.drReset r e))
def execDrawerResume (r : Ref) (e : List Byte) (s : State) : Host.Outcome State Fault Refusal := s.run (s.work r (·.drResume r e))
def execDrawerResize (r : Ref) (e : List Byte) (conts : List (List Byte)) (s : State) : Host.Outcome State Fault Refusal :=
  s.run (s.work r (·.drResize r e conts))
def execDrawerDestroy (r : Ref) (e : List Byte) (s : State) : Host.Outcome State Fault Refusal := s.run (s.work r (·.drDestroy r e))
def execFenceSet (r : Ref) (e : List Byte) (s : State) : Host.Outcome State Fault Refusal := s.run (s.work r (·.fenceSet r e))
def execFenceClear (r : Ref) (e : List Byte) (s : State) : Host.Outcome State Fault Refusal := s.run (s.work r (·.fenceClear r e))

end Sys2Proof.Machine
end

