-- ==== Sys2Proof/Machine/HostOps.lean ====
section
/-! DEFINITION. The host complex: links of host ports, their resets, the ends of DMA reads, and address translation (R55–R80). -/

namespace Sys2Proof.Machine

/-- Drawers bound to a host port. -/
def State.portDrawers (s : State) (q : Nat) : List Nat := (List.range 4096).filter (fun d => decide (s.drPort d = some q))

/-- Drawers bound to VFs of a PF. -/
def State.pfDrawers (s : State) (q f : Nat) : List Nat :=
  (s.portDrawers q).filter (fun d => decide (s.get (Reg.DRW_DRAWER_BIND_PF d) = f))

/-- A function's number, counted from PF0's routing ID (R59). `fn` numbers functions as the model does: PF f is f, the manager
function 3, VF v of PF f is 4 + 256 f + v. -/
def State.fnNumber (s : State) (q fn : Nat) : Nat :=
  if fn < 4 then fn
  else
    let f := (fn - 4) / 256
    4 + ((List.range f).map (fun g => s.get (Reg.HOST_PF_CFG_TOTAL_VFS q g))).foldl (· + ·) 0 + (fn - 4) % 256

/-- Does a function exist on a port at present (R58, R60, R65)? -/
def State.fnThere (s : State) (q fn : Nat) : Bool :=
  let h := s.hport q
  if fn = 3 then decide (s.mgrPort = some q)
  else if fn < 3 then h.pfEn.contains fn
  else
    let f := (fn - 4) / 256
    h.pfEn.contains f && h.vfEn.contains f && decide ((fn - 4) % 256 < mgetD h.numVfs f 0) &&
      decide ((fn - 4) % 256 < s.get (Reg.HOST_PF_CFG_TOTAL_VFS q f))

/-- The speed, width and mode of a link shown. -/
def State.showLink (s : State) (q speed width : Nat) (flit : Bool) : State :=
  ((s.set (Reg.HOST_PORT_STATUS_SPEED q) speed).set (Reg.HOST_PORT_STATUS_WIDTH q) width).set (Reg.HOST_PORT_STATUS_FLIT q) (b2n flit)

/-- The manager's rings stop with its host port, and completions still owed to them are discarded (R65). -/
def State.mgrRingsStop (s : State) (q : Nat) : State :=
  if s.mgrPort = some q then
    (List.range 8).foldl (fun (s : State) c =>
      let r := s.ring (ctlKey c)
      if r.st = .active then s.setRing (ctlKey c) { r with st := .stopped, items := [], done := [], reserved := 0 } else s) s
  else s

/-- A function's own state as a reset of it leaves it. -/
def HostPort.clearFn (h : HostPort) (fn : Nat) : HostPort :=
  { h with d3 := h.d3.filter (fun x => !decide (x = fn)), mse := h.mse.filter (fun x => !decide (x = fn)),
           pmeEn := h.pmeEn.filter (fun x => !decide (x = fn)), ats := h.ats.filter (fun x => !decide (x = fn)),
           msix := h.msix.filter (fun e => !decide (e.1 / 256 = fn)), unmasked := h.unmasked.filter (fun x => !decide (x / 256 = fn)),
           pendVec := h.pendVec.filter (fun x => !decide (x / 256 = fn)), cache := h.cache.filter (fun e => !decide (e.fn = fn)),
           atsWait := h.atsWait.filter (fun e => !decide (e.fn = fn)) }

/-- The port's functions and its host-facing state after a host-port reset; PF_EN takes effect (R10, R75, R80). -/
def State.portFresh (s : State) (q : Nat) : State :=
  let h := s.hport q
  let pfs := (List.range 3).filter (fun f => decide (f = 0) || s.on (Reg.HOST_PF_CFG_PF_EN q f))
  let s := s.setHport q {
    HostPort.reset with attempts := h.attempts, gaveUp := h.gaveUp, disabled := h.disabled, flrs := h.flrs,
                        evAt := h.evAt, nextTag := h.nextTag, retiring := h.retiring, pfEn := pfs }
  let s := { s with host := { s.host with errFatalEn := s.host.errFatalEn.filter (fun x => !decide (x = q)) } }
  let s := (s.set (Reg.HOST_PORT_STATUS_PF_REFUSED q) 0).set (Reg.HOST_PORT_STATUS_ORDER_REFUSED q) 0
  (s.set (Reg.HOST_PORT_CTRL_RETRAIN q) 0).set (Reg.HOST_PORT_STATUS_L2 q) 0

/-- A host-port reset: every drawer of the port through the abort path, the manager's rings stopped, the port's own state fresh,
and a link that was up taken down for `cause` (R75). In a halt the drawers stay as the halt left them (R497). -/
def State.portReset (s : State) (q cause : Nat) : State :=
  let was := s.on (Reg.HOST_PORT_STATUS_LINK_UP q)
  let s := if s.running then (s.portDrawers q).foldl (fun (s : State) d => s.hostReset d 6) s else s
  let s := (s.mgrRingsStop q).portFresh q
  let s := (s.showLink q 0 0 false).set (Reg.HOST_PORT_STATUS_LINK_UP q) 0
  if was then
    let s := (s.set (Reg.HOST_PORT_STATUS_LAST_DOWN q) cause).bump (Reg.n_host_link_down_count q)
    s.hostEvent q EV_host_link_down [cause]
  else s

/-- Step 4 of R76: the port is retired; `how` is 0 acknowledged or 1 timed out. -/
def State.retired (s : State) (q how : Nat) : State :=
  let s := (s.set (Reg.HOST_PORT_STATUS_RETIRED q) 1).set (Reg.HOST_PORT_CTRL_RETIRE q) 0
  let s := s.setHport q { s.hport q with retiring := false, disabled := true }
  s.hostEvent q EV_host_retired [how]

/-- Surprise loss of a port's link (R75); during a retirement it completes it (R77). -/
def State.surprise (s : State) (q : Nat) : State :=
  if s.on (Reg.HOST_PORT_STATUS_LINK_UP q) then
    let n := ((s.portDrawers q).filter (fun d => decide (2 ≤ s.drState d))).length
    let s := (s.portReset q 4).bump (Reg.n_surprise_down_count q)
    let s := s.hostEvent q EV_host_surprise_down [n]
    if (s.hport q).retiring then s.retired q 1 else s
  else s

/-! ## Ends of DMA reads (R68) -/

/-- A frame sent by a drawer has its payload: it takes leaves and arrives at its port's ingress queue (R130, R152, R216). It waits
while no leaves are granted, which counts once, at its first try. Of the frames cut from one buffer of a virtqueue only the last carries its item. -/
def State.sendFrame (s : State) (q : Nat) (r : DmaRead) (data : List Byte) : Option State :=
  let k := s.ring r.ref.ring
  match s.allocDie (drMaster r.drawer) s.now data with
  | none => none
  | some (p, s) =>
    let ts := match k.items.find? (fun i => decide (i.index = r.ref.index)) with
      | some i => bit i.flags 0
      | none => false
    some (s.arrive (q / 2) { quire := p, kind := 1, port := q, drawer := r.drawer + 1, gen := r.gen, src := 0, rxTime := none,
                             ref := if r.ref.index < 2 ^ 32 then some r.ref else none, tsReq := ts, tmpl := 0, casc := none, pre := [], skip := 0 })

/-- The data of a served READ or atomic goes back to its requester (R260, R261). -/
def State.answerRead (s : State) (r : DmaRead) (data : List Byte) : State :=
  match r.use with
  | .readResp c o =>
    let x := s.conn c
    let s := s.keyDown (o / 2 ^ 32 % 2 ^ 32)
    s.setConn c { x with ctl := x.ctl ++ readAnswers (o % 2 ^ 32) x.mtu data }
  | .atomic c onum wire op1 op2 key psn =>
    let old := leNat data
    let new := if wire = 5 then (old + op1) % 2 ^ 64 else if old = op1 then op2 else old
    let s := (s.dmaWrite r.drawer [(r.addr, leBytes 8 new)]).keyDown key
    let x := s.conn c
    let a : XCtl := { wire := 7, fence := false, seq := onum, off := 0, total := 8, ext := [], data := beBytes 8 old, item := none }
    let s := s.setConn c { x with results := mput x.results onum (old, none), ctl := x.ctl ++ [a] }
    (fun _ => s) psn
  | _ => s

/-- All parts of a read are in: what it was for goes on. None where it must wait for leaves. -/
def State.readDone (s : State) (q : Nat) (r : DmaRead) : Option State :=
  let h := s.hport q
  let parts := sortBy (fun a b => decide (a.pos ≤ b.pos)) (h.reads.filter (sameRead r))
  let data := parts.flatMap (fun e => e.data.getD [])
  let gone := fun (s : State) => s.setHport q { s.hport q with reads := (s.hport q).reads.filter (fun e => !sameRead r e) }
  if s.stale r.drawer r.gen then some ((gone s).bump Reg.n_stale_result_discard)
  else match r.use with
    | .frame => (s.sendFrame q r data).map gone
    | .readResp .. => some ((gone s).answerRead r data)
    | .atomic .. => some ((gone s).answerRead r data)
    | _ => some (gone s)

/-- A read failed, or its translation did: its work ends with the status, and nothing of it is used (R68). -/
def State.readFail (s : State) (q : Nat) (r : DmaRead) (st : Nat) : State :=
  let s := s.setHport q { s.hport q with reads := (s.hport q).reads.filter (fun e => !sameRead r e) }
  match r.use with
  | .frame => s.complete r.ref st 0 []
  | .readResp c o => (s.keyDown (o / 2 ^ 32 % 2 ^ 32)).sendNak c 0 (o / 2 ^ 64) 4
  | .atomic c _ _ _ _ key psn => (s.keyDown key).sendNak c 0 psn 4
  | _ => s

/-- HOST_DMA_COMPLETION. -/
def State.dmaIn (s : State) (q tag : Nat) (good : Bool) (data : List Byte) : State :=
  match (s.hport q).reads.find? (fun r => decide (r.tag = tag) && r.issued && r.data.isNone) with
  | none => s.bump (Reg.n_late_cpl_discard q)
  | some r =>
    if good then
      let h := s.hport q
      let s := s.setHport q { h with reads := h.reads.map (fun e => if e.tag = tag then { e with data := some (slice data 0 r.len) } else e),
                                     dmaAt := some s.now }
      let s := s.bump (Reg.n_dma_read_bytes q) r.len
      let s := if s.readFull q r then (s.readDone q r).getD (s.noLeaf (drMaster r.drawer)) else s
      s.issueReads q
    else ((s.bump (Reg.n_host_abort q)).readFail q r ST_HOST_ABORT).issueReads q

/-- HOST_DMA_TIMEOUT. -/
def State.dmaTimeout (s : State) (q tag : Nat) : State :=
  match (s.hport q).reads.find? (fun r => decide (r.tag = tag) && r.issued && r.data.isNone) with
  | none => s
  | some r =>
    let s := (s.bump (Reg.n_cpl_timeout q)).hostEvent q EV_host_cpl_timeout [r.drawer, tag]
    (s.readFail q r ST_HOST_TIMEOUT).issueReads q

/-- Frames whose payload is in and which wait for leaves try again (R216). -/
def State.frameRetry (s : State) (q : Nat) : State :=
  (s.hport q).reads.foldl (fun (s : State) (r : DmaRead) =>
    if decide (r.use = .frame) && (s.hport q).reads.contains r && s.readFull q r then (s.readDone q r).getD s else s) s

/-! ## Address translation (R69) -/

/-- Does an invalidation that is pending cover a page? -/
def HostPort.invalid (h : HostPort) (fn page : Nat) : Bool :=
  h.invals.any (fun i => decide (i.fn = fn) && decide (i.page ≤ page) && decide (page < i.page + i.pages))

/-- ATS_TRANSLATION_REPLY: a reply without the permission ends the accesses that wait for it with HOST_NO_TRANSLATION; one that a
pending invalidation covers is not used, and the access asks again. -/
def State.atsReply (s : State) (q fn page xlat perm : Nat) : State :=
  let h := s.hport q
  let mine := h.atsWait.filter (fun w => decide (w.fn = fn) && decide (w.page = page))
  if mine.isEmpty then s
  else if h.invalid fn page then (s.emit (.pcie q (.translationRequest (page * 4096)))).bump (Reg.n_ats_translations q)
  else
    let rest := h.cache.filter (fun e => !(decide (e.fn = fn) && decide (e.page = page)))
    let kept := if 16384 ≤ rest.length then rest.drop 1 else rest
    let s := s.setHport q { h with atsWait := h.atsWait.filter (fun w => !(decide (w.fn = fn) && decide (w.page = page))),
                                   cache := kept ++ [{ fn := fn, page := page, xlat := xlat, perm := perm }] }
    let s := mine.foldl (fun (s : State) (w : AtsWait) =>
      if bit perm w.perm then s
      else
        let s := (s.bump (Reg.n_ats_no_translation q)).hostEvent q EV_host_ats_fault [w.drawer, page * 4096]
        match (s.hport q).reads.find? (fun r => decide (r.ref = w.ref) && decide (r.drawer = w.drawer) && !r.issued) with
        | some r => s.readFail q r ST_HOST_NO_TRANSLATION
        | none => s) s
    s.issueReads q

/-- ATS_INVALIDATION_REQUEST: new use of the matching entries stops at once. -/
def State.atsInval (s : State) (q tag fn page pages : Nat) : State :=
  let h := s.hport q
  s.setHport q { h with invals := h.invals ++ [{ tag := tag, fn := fn, page := page, pages := pages }],
                        cache := h.cache.filter (fun e => !(decide (e.fn = fn) && decide (page ≤ e.page) && decide (e.page < page + pages))) }

/-- ATS_INVALIDATION_COMPLETE: once every read that used the entries has ended, the Invalidation Completion is sent. -/
def State.atsInvalDone (s : State) (q tag : Nat) : State :=
  let h := s.hport q
  match h.invals.find? (fun i => decide (i.tag = tag)) with
  | none => s
  | some i =>
    if h.reads.any (fun r => r.issued && r.data.isNone && decide (s.drFunc r.drawer = i.fn) && decide (i.page * 4096 < r.addr + r.len) &&
        decide (r.addr < (i.page + i.pages) * 4096)) then s
    else
      let s := s.setHport q { h with invals := h.invals.filter (fun i => !decide (i.tag = tag)) }
      (s.emit (.pcie q (.invalidationCompletion tag))).bump (Reg.n_ats_invalidations q)

/-! ## Latency tolerance, power and wake (R70–R73) -/

/-- The tolerance a port reports, in ns: snoop, and no-snoop in units of 2^40 (R70). -/
def State.tolerance (s : State) (q : Nat) : Nat :=
  let moved := match (s.hport q).dmaAt with
    | some t => decide (s.now - t ≤ 1000000)
    | none => false
  let rings := s.rings.any (fun e => decide (e.2.st = .active) && !isCtl e.1 && decide (s.drPort (ringDrawer e.1) = some q))
  if s.on (Reg.HOST_PORT_CFG_LTR_OVR q) then
    s.get (Reg.HOST_LTR_SNOOP_VALUE q) * 2 ^ (5 * s.get (Reg.HOST_LTR_SNOOP_SCALE q)) +
      s.get (Reg.HOST_LTR_NS_VALUE q) * 2 ^ (5 * s.get (Reg.HOST_LTR_NS_SCALE q)) * 2 ^ 40
  else
    let v := if moved then 10000 else if rings then 100000 else 3000000
    v + v * 2 ^ 40

/-- LTR_CHANGE. -/
def State.ltr (s : State) (q : Nat) : State :=
  let h := s.hport q
  let v := s.tolerance q
  if h.ltrEn && s.on (Reg.HOST_PORT_STATUS_LINK_UP q) && !decide (v = h.ltrLast) && (decide (h.ltrLast = 0) || decide (100000 ≤ s.now - h.ltrAt)) then
    (s.setHport q { h with ltrLast := v, ltrAt := s.now }).emit (.pcie q (.ltr v))
  else s

/-- WAKE_N of a port driven low, with host.wake (R73). -/
def State.wakeOut (s : State) (q cond : Nat) : State :=
  if s.on (Reg.HOST_PORT_STATUS_WAKE_ASSERTED q) then s
  else
    let s := (s.set (Reg.HOST_PORT_STATUS_WAKE_ASSERTED q) 1).emit (.pin ("WAKE_N[" ++ toString q ++ "]") false)
    s.hostEvent q EV_host_wake [cond]

/-- WAKE_CONDITION_L2. -/
def State.wakeCond (s : State) (q fn cond : Nat) : State :=
  let h := s.hport q
  if s.on (Reg.HOST_PORT_CFG_WAKE_EN q) && h.pmeEn.contains fn then
    match h.phase with
    | .l2 => s.wakeOut q cond
    | .l2entry => s.setHport q { h with wakePend := some cond }
    | _ => s
  else s

/-- The manager function takes its place on the port that MGR_PORT names, if that port's octet is HOST (R65). -/
def State.mgrPlace (s : State) : State :=
  let v := s.get Reg.HOST_MGR_CFG_MGR_PORT
  let s := { s with host := { s.host with mgrWaits := false } }
  if s.get Reg.HOST_MGR_CFG_MGR_PORT_ACTIVE < 64 ∨ v = 0x7F then s
  else if s.hostExists v then (s.set Reg.HOST_MGR_CFG_MGR_PORT_ACTIVE v).set Reg.HOST_MGR_CFG_PENDING 0
  else s.raise EV_host_mgr_port_invalid v [v]

end Sys2Proof.Machine
end

