-- ==== Sys2Proof/Machine/Host.lean ====
section
/-! DEFINITION. Links, functions, resets, power and retirement of the host ports (R55–R80, R531). -/

namespace Sys2Proof.Machine

/-- Waiting DMA of a port is issued, unless the device is halted. -/
def State.linkReady (s : State) (q : Nat) : State := if s.running then s.issueReads q else s

/-- A port's phase written. -/
def State.setLinkPhase (s : State) (q : Nat) (p : LinkPhase) : State := s.setHport q { s.hport q with phase := p }

/-- Does a port's phase stand so? -/
def State.inPhase (s : State) (q : Nat) (p : LinkPhase) : Bool := decide ((s.hport q).phase = p)

/-- What R550 asks before a port begins to train. -/
def State.mayTrain (s : State) (q : Nat) : Bool :=
  s.hostExists q && !s.on (Reg.LANE_OCT_STATUS_APPLY_BUSY (q / 2)) && s.on (Reg.HOST_PORT_CFG_ENABLE q) &&
    !s.on (Reg.HOST_PORT_STATUS_PERST_ASSERTED q) && !(s.hport q).gaveUp && !(s.hport q).disabled && s.inPhase q .down &&
    decide (s.err.phase = .none) && decide (s.get Reg.PWR_STATUS_DEV_STATE ≤ 1)

/-- HOST_TRAINING_START (R550). -/
def State.trainStart (s : State) (q : Nat) : State := if s.mayTrain q then s.setLinkPhase q .training else s

/-- WAKE_N is released once the link is in L0 again, and PF0 sends a PME message (R73). -/
def State.wakeOff (s : State) (q : Nat) : State :=
  if s.on (Reg.HOST_PORT_STATUS_WAKE_ASSERTED q) then
    let s := (s.set (Reg.HOST_PORT_STATUS_WAKE_ASSERTED q) 0).emit (.pin ("WAKE_N[" ++ toString q ++ "]") true)
    (s.emit (.pcie q (.pme 0))).bump (Reg.n_pme_sent q)
  else s

/-- HOST_LINK_L0 (R550, R68): the link is up after training, or back from Recovery. -/
def State.linkL0 (s : State) (q speed width : Nat) (flit : Bool) : State :=
  match (s.hport q).phase with
  | .training =>
    let s := s.setHport q { s.hport q with phase := .l0, settled := false, stopped := false }
    let s := (s.set (Reg.HOST_PORT_STATUS_LINK_UP q) 1).showLink q speed width flit
    (s.wakeOff q).linkReady q
  | .recovery => (((s.setLinkPhase q .l0).set (Reg.HOST_PORT_CTRL_RETRAIN q) 0).showLink q speed width flit).linkReady q
  | _ => s

/-- HOST_RATE_CHANGE_END (R550): host.link_up is raised once each time the link comes up. -/
def State.rateEnd (s : State) (q speed width : Nat) (flit : Bool) : State :=
  if s.inPhase q .l0 && !(s.hport q).settled then
    let s := s.showLink q speed width flit
    (s.setHport q { s.hport q with settled := true, attempts := 0 }).hostEvent q EV_host_link_up [speed, width, b2n flit]
  else s

/-- HOST_LINK_SETTLED_LOW (R56): the link goes down and trains again, after three attempts no more. -/
def State.settledLow (s : State) (q speed : Nat) : State :=
  let h := s.hport q
  if (s.inPhase q .training || s.inPhase q .l0) && !h.settled then
    let s := (s.showLink q 0 0 false).set (Reg.HOST_PORT_STATUS_LINK_UP q) 0
    if h.attempts < 2 then s.setHport q { s.hport q with phase := .training, attempts := h.attempts + 1 }
    else
      let s := s.setHport q { s.hport q with phase := .down, attempts := 3, gaveUp := true }
      (s.set (Reg.HOST_PORT_STATUS_LAST_DOWN q) 6).hostEvent q EV_host_speed_floor [speed]
  else s

/-- A write of RETRAIN (R551). -/
def State.retrain (s : State) (q : Nat) : State :=
  if s.inPhase q .l0 then (s.set (Reg.HOST_PORT_CTRL_RETRAIN q) 1).setLinkPhase q .recovery else s

/-- HOST_RETRAIN_DONE (R551). -/
def State.retrainDone (s : State) (q speed width : Nat) (flit : Bool) (replayed : Nat) : State :=
  if s.inPhase q .recovery then
    let s := ((s.setLinkPhase q .l0).set (Reg.HOST_PORT_CTRL_RETRAIN q) 0).showLink q speed width flit
    (s.bump (Reg.n_flit_replay q) replayed).linkReady q
  else s

/-- HOST_LINK_RECOVERY (R68). -/
def State.linkRecovery (s : State) (q : Nat) : State := if s.inPhase q .l0 then s.setLinkPhase q .recovery else s

/-- ENABLE written 1 (R56, R75): the attempts count anew, and a port that was retired is enabled again. -/
def State.enableSet (s : State) (q : Nat) : State :=
  (s.set (Reg.HOST_PORT_CFG_ENABLE q) 1).setHport q { s.hport q with attempts := 0, gaveUp := false, disabled := false }

/-- ENABLE written 0 (R551). -/
def State.enableClear (s : State) (q : Nat) : State :=
  let s := s.set (Reg.HOST_PORT_CFG_ENABLE q) 0
  if s.on (Reg.HOST_PORT_STATUS_LINK_UP q) then s.portReset q 3
  else if s.inPhase q .training then s.setLinkPhase q .down else s

/-- The VFs of a port's other PFs. -/
def State.otherVfs (s : State) (q f : Nat) : Nat :=
  (((List.range 3).filter (fun g => !decide (g = f))).map (fun g => s.get (Reg.HOST_PF_CFG_TOTAL_VFS q g))).foldl (· + ·) 0

/-- A write of HOST_PF_CFG (R58). -/
def State.pfWrite (s : State) (q f w : Nat) : State :=
  let s := s.set (Reg.HOST_PF_CFG_PF_EN q f) (if f = 0 then 1 else bits w 24 24)
  let v := bits w 8 0
  if v = s.get (Reg.HOST_PF_CFG_TOTAL_VFS q f) then s
  else if 256 < v + s.otherVfs q f ∨ (s.hport q).vfEn.contains f then
    (s.set (Reg.HOST_PORT_STATUS_PF_REFUSED q) 1).hostEvent q EV_host_pf_refused [f, v]
  else s.set (Reg.HOST_PF_CFG_TOTAL_VFS q f) v

/-- Why a write of ORDER_MODE is refused, if it is (R67): 0 a PF has VF Enable set, 1 the manager function has rings enabled. -/
def State.orderRefusal (s : State) (q : Nat) : Option Nat :=
  if !(s.hport q).vfEn.isEmpty then some 0
  else if decide (s.mgrPort = some q) && (List.range 8).any (fun c => decide ((s.ring (ctlKey c)).st = .active)) then some 1
  else none

/-- A write of ORDER_MODE (R67). -/
def State.orderWrite (s : State) (q mode : Nat) : State :=
  if mode = s.get (Reg.HOST_PORT_CFG_ORDER_MODE q) then s
  else match s.orderRefusal q with
    | some why => (s.set (Reg.HOST_PORT_STATUS_ORDER_REFUSED q) 1).hostEvent q EV_host_order_refused [why]
    | none => s.set (Reg.HOST_PORT_CFG_ORDER_MODE q) mode

/-- A write of MGR_PORT (R65). -/
def State.mgrWrite (s : State) (v : Nat) : State :=
  let s := (s.set Reg.HOST_MGR_CFG_MGR_PORT v).mgrPlace
  s.set Reg.HOST_MGR_CFG_PENDING (b2n (!decide (s.get Reg.HOST_MGR_CFG_MGR_PORT = s.get Reg.HOST_MGR_CFG_MGR_PORT_ACTIVE)))

/-- MGR_PORT_PLACE: the named port's octet is HOST at last (R65). -/
def State.mgrAppear (s : State) : State :=
  if s.hostExists (s.get Reg.HOST_MGR_CFG_MGR_PORT) then s.mgrPlace else s

/-- Drawers of a PF that have a live VF and run no sequence go from BOUND to ACTIVE (R82). -/
def State.pfActive (s : State) (q f : Nat) : State :=
  (s.pfDrawers q f).foldl (fun (s : State) d =>
    if decide (s.drState d = 2) && s.vfLive d && (mget s.drw.quiesce d).isNone then s.setDr d 3 else s) s

/-- ACTIVE drawers of a PF whose VF is live no more are reset (R105). -/
def State.pfInactive (s : State) (q f : Nat) : State :=
  (s.pfDrawers q f).foldl (fun (s : State) d => if decide (s.drState d = 3) && !s.vfLive d then s.hostReset d 5 else s) s

/-- VF Enable set by the host with a count of VFs (R60, R82). -/
def State.vfEnable (s : State) (q f n : Nat) : State :=
  let h := s.hport q
  if h.pfEn.contains f then
    (s.setHport q { h with vfEn := if h.vfEn.contains f then h.vfEn else h.vfEn ++ [f], numVfs := mputD h.numVfs f n 0 }).pfActive q f
  else s

/-- VF Enable cleared by the host (R105). -/
def State.vfDisable (s : State) (q f : Nat) : State :=
  let h := s.hport q
  (s.setHport q { h with vfEn := h.vfEn.filter (fun x => !decide (x = f)) }).pfInactive q f

/-- The host writes a count of VFs (R82, R105). -/
def State.vfCount (s : State) (q f n : Nat) : State :=
  let h := s.hport q
  ((s.setHport q { h with numVfs := mputD h.numVfs f n 0 }).pfInactive q f).pfActive q f

/-- A number put into a list, or taken from it. -/
def setIn (l : List Nat) (x : Nat) (on : Bool) : List Nat :=
  if on then (if l.contains x then l else l ++ [x]) else l.filter (fun y => !decide (y = x))

/-- A configuration request applied to a function (R60, R69–R75). -/
def State.cfgApply (s : State) (q fn : Nat) : CfgOp → State
  | .read => s
  | .other => s
  | .memorySpace on => s.setHport q { s.hport q with mse := setIn (s.hport q).mse fn on }
  | .ats on =>
    let h := s.hport q
    s.setHport q { h with ats := setIn h.ats fn on, cache := if on then h.cache else h.cache.filter (fun e => !decide (e.fn = fn)) }
  | .pme on => s.setHport q { s.hport q with pmeEn := setIn (s.hport q).pmeEn fn on }
  | .ltr on => if fn = 0 then s.setHport q { s.hport q with ltrEn := on } else s
  | .fatalReport on => if fn = 0 then { s with host := { s.host with errFatalEn := setIn s.host.errFatalEn q on } } else s
  | .d0 => s.setHport q { s.hport q with d3 := setIn (s.hport q).d3 fn false }

/-- CONFIG_REQUEST (R74). -/
def State.config (s : State) (q fn : Nat) (op : CfgOp) : State :=
  if !s.on (Reg.HOST_PORT_STATUS_LINK_UP q) then s
  else if !s.on (Reg.HOST_PORT_STATUS_CFG_READY q) then s.emit (.pcie q .cfgRetry)
  else if !s.fnThere q fn then s.emit (.pcie q .unsupported)
  else (s.cfgApply q fn op).emit (.pcie q .cfgOk)

/-- The drawer of a function, if the function is a VF that has one. -/
def State.fnDrawer (s : State) (q fn : Nat) : Option Nat :=
  if fn < 4 then none else s.vfDrawer q ((fn - 4) / 256) ((fn - 4) % 256)

/-- D3HOT_ENTRY (R71). -/
def State.d3Entry (s : State) (q fn : Nat) : State :=
  if s.fnThere q fn then
    let s := s.setHport q { s.hport q with d3 := setIn (s.hport q).d3 fn true }
    match s.fnDrawer q fn with
    | some d => if s.running then s.d3Reset d else s
    | none => s
  else s

/-- PME_TURN_OFF (R72). -/
def State.pmeTurnOff (s : State) (q : Nat) : State :=
  if s.on (Reg.HOST_PORT_STATUS_LINK_UP q) then s.setHport q { s.hport q with stopped := true, phase := .l2entry } else s

/-- L2_ENTRY_DONE (R72, R73): once the outstanding reads have ended. -/
def State.l2Done (s : State) (q : Nat) : State :=
  let h := s.hport q
  if s.inPhase q .l2entry && !(h.reads.any (fun r => r.issued && r.data.isNone)) then
    let s := (s.emit (.pcie q .pmeToAck)).setHport q { h with phase := .l2, wakePend := none }
    let s := ((s.showLink q 0 0 false).set (Reg.HOST_PORT_STATUS_LINK_UP q) 0).set (Reg.HOST_PORT_STATUS_L2 q) 1
    match h.wakePend with
    | some c => s.wakeOut q c
    | none => s
  else s

/-- A host-port reset, with its part in the drawers left out during a halt (R75, R497). -/
def State.hostPortReset (s : State) (q cause : Nat) : State :=
  if s.hostExists q then s.portReset q cause else s

/-- PERST_ASSERT (R56, R75). PERST_N of the second port of an octet that runs one x8 port is ignored (R57). -/
def State.perstLow (s : State) (q : Nat) : State :=
  let s := (s.set (Reg.HOST_PORT_STATUS_PERST_ASSERTED q) 1).hostPortReset q 1
  let s := (s.set (Reg.HOST_PORT_STATUS_CFG_READY q) 0).setReady (192 + q) false
  s.setHport q { s.hport q with attempts := 0, gaveUp := false }

/-- SURPRISE_LOSS (R75): DL_Down with PERST_N released. -/
def State.dlDown (s : State) (q : Nat) : State :=
  if s.on (Reg.HOST_PORT_STATUS_PERST_ASSERTED q) then s else s.surprise q

/-- An FLR is begun on some drawers of a port; with none of them bound, host.flr is raised at once (R79). -/
def State.flrBegin (s : State) (q num : Nat) (ds : List Nat) : State :=
  if ds.isEmpty then s.hostEvent q EV_host_flr [num, 0]
  else
    let h := s.hport q
    let s := s.setHport q { h with flrs := h.flrs ++ [(num, ds, ds.length)] }
    ds.foldl (fun (s : State) d => s.hostReset d 3) s

/-- VF_FLR (R75). -/
def State.vfFlr (s : State) (q f v : Nat) : State :=
  let fn := 4 + 256 * f + v
  if s.fnThere q fn then
    let num := s.fnNumber q fn
    let ds := (s.vfDrawer q f v).toList
    (s.setHport q ((s.hport q).clearFn fn)).flrBegin q num ds
  else s

/-- PF_FLR (R75): a drawer reset of every VF under the PF; VF Enable is cleared. -/
def State.pfFlr (s : State) (q f : Nat) : State :=
  if s.fnThere q f then
    let ds := (s.pfDrawers q f).filter (fun d => decide (2 ≤ s.drState d))
    let h := (List.range 256).foldl (fun (h : HostPort) v => h.clearFn (4 + 256 * f + v)) ((s.hport q).clearFn f)
    let h := { h with vfEn := setIn h.vfEn f false, ltrEn := h.ltrEn && !decide (f = 0) }
    let s := (s.setHport q h).flrBegin q f ds
    if f = 0 then { s with host := { s.host with errFatalEn := setIn s.host.errFatalEn q false } } else s
  else s

/-- A write of RETIRE (R76): step 2. -/
def State.portRetire (s : State) (q : Nat) : State :=
  if s.hostExists q && !(s.hport q).retiring then
    let s := (s.set (Reg.HOST_PORT_CTRL_RETIRE q) 1).set (Reg.HOST_PORT_STATUS_RETIRED q) 0
    let s := s.setHport q { s.hport q with retiring := true }
    s.logRecord q { code := EV_host_retired, source := q, time := s.now, dest := 0, detail := [2] }
  else s

/-- Step 4 of R76, on RETIRE_ACK (0) or at RETIRE_TIMEOUT (1). -/
def State.retireEnd (s : State) (q how : Nat) : State :=
  if (s.hport q).retiring then (s.portReset q 3).retired q how else s

/-- A write of EVT_CONS (R531): one that passes EVT_PROD is dropped. -/
def State.evtCons (s : State) (q v : Nat) : State :=
  let h := s.hport q
  if (v + 2 ^ 32 - h.logCons) % 2 ^ 32 ≤ h.unread then s.setHport q { h with logCons := v } else s

/-- PCIE_REFCLK_RETURN (R544): the reference is there again, and training may begin. -/
def State.refReturn (s : State) (n : Nat) : State :=
  { s with lane := { s.lane with refLost := setIn s.lane.refLost (256 + n) false } }

/-- CFG_READY (R74, R487). -/
def State.cfgReady (s : State) (q : Nat) : State :=
  if s.hostExists q && !s.on (Reg.HOST_PORT_STATUS_PERST_ASSERTED q) then
    (s.set (Reg.HOST_PORT_STATUS_CFG_READY q) 1).setReady (192 + q) true
  else s

def execHostTrainingStart (q : Nat) (s : State) : Host.Outcome State Fault Refusal := s.always (s.trainStart q)
def execHostLinkL0 (q speed width : Nat) (flit : Bool) (s : State) : Host.Outcome State Fault Refusal := s.always (s.linkL0 q speed width flit)
def execHostRateChangeEnd (q speed width : Nat) (flit : Bool) (s : State) : Host.Outcome State Fault Refusal :=
  s.always (s.rateEnd q speed width flit)
def execHostLinkSettledLow (q speed : Nat) (s : State) : Host.Outcome State Fault Refusal := s.always (s.settledLow q speed)
def execHostRetrain (q : Nat) (s : State) : Host.Outcome State Fault Refusal := s.write (s.retrain q)
def execHostRetrainDone (q speed width : Nat) (flit : Bool) (replayed : Nat) (s : State) : Host.Outcome State Fault Refusal :=
  s.always (s.retrainDone q speed width flit replayed)
def execHostEnableSet (q : Nat) (s : State) : Host.Outcome State Fault Refusal := s.write (s.enableSet q)
def execHostEnableClear (q : Nat) (s : State) : Host.Outcome State Fault Refusal := s.write (s.enableClear q)
def execTotalVfsWrite (q f w : Nat) (s : State) : Host.Outcome State Fault Refusal := s.write (s.pfWrite q f w)
def execOrderModeWrite (q mode : Nat) (s : State) : Host.Outcome State Fault Refusal := s.write (s.orderWrite q mode)
def execMgrPortWrite (v : Nat) (s : State) : Host.Outcome State Fault Refusal := s.write (s.mgrWrite v)
def execMgrPortPlace (s : State) : Host.Outcome State Fault Refusal := s.always s.mgrAppear
def execVfEnableSet (q f n : Nat) (s : State) : Host.Outcome State Fault Refusal := s.run (s.vfEnable q f n)
def execVfEnableClear (q f : Nat) (s : State) : Host.Outcome State Fault Refusal := s.run (s.vfDisable q f)
def execHostTotalVfsWrite (q f n : Nat) (s : State) : Host.Outcome State Fault Refusal := s.run (s.vfCount q f n)
def execConfigRequest (q fn : Nat) (op : CfgOp) (s : State) : Host.Outcome State Fault Refusal := s.always (s.config q fn op)
def execHostDmaCompletion (q tag : Nat) (good : Bool) (data : List Byte) (s : State) : Host.Outcome State Fault Refusal :=
  s.run (s.dmaIn q tag good data)
def execHostDmaTimeout (q tag : Nat) (s : State) : Host.Outcome State Fault Refusal := s.run (s.dmaTimeout q tag)
def execAtsTranslationReply (q fn page xlat perm : Nat) (s : State) : Host.Outcome State Fault Refusal := s.run (s.atsReply q fn page xlat perm)
def execAtsInvalidationRequest (q tag fn page pages : Nat) (s : State) : Host.Outcome State Fault Refusal :=
  s.run (s.atsInval q tag fn page pages)
def execAtsInvalidationComplete (q tag : Nat) (s : State) : Host.Outcome State Fault Refusal := s.run (s.atsInvalDone q tag)
def execLtrChange (q : Nat) (s : State) : Host.Outcome State Fault Refusal := s.run (s.ltr q)
def execD3hotEntry (q fn : Nat) (s : State) : Host.Outcome State Fault Refusal := s.always (s.d3Entry q fn)
def execPmeTurnOff (q : Nat) (s : State) : Host.Outcome State Fault Refusal := s.always (s.pmeTurnOff q)
def execL2EntryDone (q : Nat) (s : State) : Host.Outcome State Fault Refusal := s.always (s.l2Done q)
def execWakeConditionL2 (q fn cond : Nat) (s : State) : Host.Outcome State Fault Refusal := s.run (s.wakeCond q fn cond)
def execPerstAssert (q : Nat) (s : State) : Host.Outcome State Fault Refusal := s.always (s.perstLow q)
def execHotResetRx (q : Nat) (s : State) : Host.Outcome State Fault Refusal := s.always (s.hostPortReset q 2)
def execLinkDisableRx (q : Nat) (s : State) : Host.Outcome State Fault Refusal := s.always (s.hostPortReset q 3)
def execSurpriseLoss (q : Nat) (s : State) : Host.Outcome State Fault Refusal := s.always (s.dlDown q)
def execVfFlr (q f v : Nat) (s : State) : Host.Outcome State Fault Refusal := s.run (s.vfFlr q f v)
def execPfFlr (q f : Nat) (s : State) : Host.Outcome State Fault Refusal := s.run (s.pfFlr q f)
def execPortRetire (q : Nat) (s : State) : Host.Outcome State Fault Refusal := s.write (s.portRetire q)
def execRetireAck (q : Nat) (s : State) : Host.Outcome State Fault Refusal := s.run (s.retireEnd q 0)
def execRetireTimeout (q : Nat) (s : State) : Host.Outcome State Fault Refusal := s.run (s.retireEnd q 1)
def execPf0EvtConsWrite (q v : Nat) (s : State) : Host.Outcome State Fault Refusal := s.run (s.evtCons q v)
def execPcieRefclkReturn (n : Nat) (s : State) : Host.Outcome State Fault Refusal := s.always (s.refReturn n)
def execHostLinkRecovery (q : Nat) (s : State) : Host.Outcome State Fault Refusal := s.always (s.linkRecovery q)
def execCfgReady (q : Nat) (s : State) : Host.Outcome State Fault Refusal := s.always (s.cfgReady q)

end Sys2Proof.Machine
end

