-- ==== Sys2Proof/Machine/Nvme.lean ====
section
/-! DEFINITION. NVM Express drawers: controller, admin commands, and I/O on the volumes of the block service (R91, R92,
R355–R360). -/

namespace Sys2Proof.Machine

/-! ## Status values of NVM Express, SCT × 256 + SC (PRESUMED, log entry 25) -/

def NV_OPCODE : Nat := 0x001
def NV_FIELD : Nat := 0x002
def NV_TRANSFER : Nat := 0x004
def NV_ABORTED : Nat := 0x007
def NV_NAMESPACE : Nat := 0x00B
def NV_PRP_OFFSET : Nat := 0x013
def NV_LBA_RANGE : Nat := 0x080
def NV_NOT_READY : Nat := 0x082
def NV_CQ_INVALID : Nat := 0x100
def NV_QID : Nat := 0x101
def NV_QSIZE : Nat := 0x102
def NV_AER_LIMIT : Nat := 0x105
def NV_VECTOR : Nat := 0x108
def NV_DELETION : Nat := 0x10C
def NV_UNRECOVERED : Nat := 0x281

/-! ## The controller (R91) -/

/-- CC.EN written from 1 to 0: a host-triggered drawer reset. -/
def State.nvDisable (s : State) (d : Nat) : State :=
  let p := s.person d
  if s.isNvme d && bit p.cc 0 then (s.setPerson d { p with cc := putBits p.cc 0 0 0 }).hostReset d 4 else s

def execNvmeCcEnClear (d : Nat) (s : State) : Host.Outcome State Fault Refusal := s.run (s.nvDisable d)

/-- A shutdown request in CC.SHN: the quiesce sequence in drain mode. A later request while one runs changes nothing. -/
def State.nvShutdown (s : State) (d mode : Nat) : State :=
  let p := s.person d
  if !s.isNvme d then s
  else
    let s := s.setPerson d { p with cc := putBits p.cc 15 14 mode }
    if mode = 0 ∨ p.shst ≠ 0 ∨ s.drState d ≠ 3 ∨ (mget s.drw.quiesce d).isSome then s
    else
      let s := s.setPerson d { s.person d with shst := 1 }
      s.quiesceBegin d (Quiesce.fresh 0 [] false false true (max 1 (s.get Reg.DRW_CFG_DRAIN_TIMEOUT)))

def execNvmeShutdown (d mode : Nat) (s : State) : Host.Outcome State Fault Refusal := s.run (s.nvShutdown d mode)

/-- The end of a fetched command. -/
def State.nvEnd (s : State) (d y cid st dw0 : Nat) : State := s.nvDone (sqKey d y) cid st dw0

/-- An entry whose opcode is not listed completes with Invalid Command Opcode (R92). -/
def State.nvAlien (s : State) (d y cid : Nat) : State := s.nvTake d y cid (fun s => s.nvEnd d y cid NV_OPCODE 0)

/-- NVME_DOORBELL (R104, R146): `bad` are the entries of unlisted opcodes that come next. -/
def State.opNvDoorbell (s : State) (d y : Nat) (cq : Bool) (v : Nat) (bad : List Nat) : State :=
  if !s.isNvme d then s
  else
    let s := match s.drPort d with
      | some q => s.bump (Reg.n_doorbells_rx q)
      | none => s
    if s.quiescing d then
      let l := mgetD s.drw.bells d []
      { s with drw := { s.drw with bells := mput s.drw.bells d (l ++ [(y, b2n cq + 2 * y + v * 2 ^ 32)]) } }
    else bad.foldl (fun (s : State) cid => s.nvAlien d y cid) (s.nvBell d y cq v)

def execNvmeDoorbell (d y : Nat) (cq : Bool) (v : Nat) (bad : List Nat) (s : State) : Host.Outcome State Fault Refusal :=
  s.run (s.opNvDoorbell d y cq v bad)

/-! ## Admin commands (R92) -/

/-- An admin command: fetched from the admin queue, it answers a status and dword 0. -/
def State.nvAdmin (s : State) (d cid : Nat) (f : State → Nat × Nat × State) : State :=
  s.nvTake d 0 cid (fun s => let r := f s
                             r.2.2.nvEnd d 0 cid r.1 r.2.1)

/-- I/O queue pairs of a controller. -/
def State.nvPairs (s : State) (d : Nat) : Nat := min 64 (s.queuesAllowed d 1)

/-- Does an I/O queue exist? -/
def State.nvHas (s : State) (k : Nat) (y : Nat) : Bool := decide (0 < y) && !decide ((s.ring k).st = .absent)

/-- Create I/O Completion Queue. -/
def State.nvCreateCq (s : State) (d base qid size : Nat) (pc ien : Bool) (iv : Nat) : Nat × Nat × State :=
  if qid = 0 ∨ s.nvPairs d < qid ∨ (s.ring (cqKey d qid)).st ≠ .absent then (NV_QID, 0, s)
  else if size = 0 then (NV_QSIZE, 0, s)
  else if !pc then (NV_FIELD, 0, s)
  else if base % 4096 ≠ 0 then (NV_PRP_OFFSET, 0, s)
  else if ien && decide (128 ≤ iv) then (NV_VECTOR, 0, s)
  else
    let p := s.person d
    let v := mgetD p.feats 8 0
    let r := Ring.stdQueue .cpl base 0 (size + 1) (if ien then some iv else none) (s.drGen d)
    (0, 0, s.setRing (cqKey d qid) { r with modCount := v % 256 + 1, modUsec := v / 256 % 256 * 100 })

/-- Create I/O Submission Queue. -/
def State.nvCreateSq (s : State) (d base qid size : Nat) (pc : Bool) (cqid : Nat) : Nat × Nat × State :=
  if cqid = 0 ∨ (s.ring (cqKey d cqid)).st = .absent then (NV_CQ_INVALID, 0, s)
  else if qid = 0 ∨ s.nvPairs d < qid ∨ (s.ring (sqKey d qid)).st ≠ .absent then (NV_QID, 0, s)
  else if size = 0 then (NV_QSIZE, 0, s)
  else if !pc then (NV_FIELD, 0, s)
  else if base % 4096 ≠ 0 then (NV_PRP_OFFSET, 0, s)
  else (0, 0, s.setRing (sqKey d qid) (Ring.stdQueue .sub base (cqKey d cqid) (size + 1) none (s.drGen d)))

/-- Delete I/O Submission Queue: what it still holds ends with Command Aborted. -/
def State.nvDeleteSq (s : State) (d qid : Nat) : Nat × Nat × State :=
  let k := sqKey d qid
  if !s.nvHas k qid then (NV_QID, 0, s)
  else
    let s := (s.ring k).items.foldl (fun (s : State) (i : Item) => s.nvDone k i.tag NV_ABORTED 0) s
    let s := { s with acc := { s.acc with vols := s.acc.vols.map (fun (e : Nat × Vol) => (e.1, { e.2 with
      flushes := e.2.flushes.filter (fun f => !decide (f.ring = k)) })) } }
    (0, 0, s.setRing k Ring.absent)

/-- Delete I/O Completion Queue: refused while a submission queue is bound to it. -/
def State.nvDeleteCq (s : State) (d qid : Nat) : Nat × Nat × State :=
  let k := cqKey d qid
  if !s.nvHas k qid then (NV_QID, 0, s)
  else if s.rings.any (fun e => decide (e.2.kind = .sub) && decide (e.2.link = k)) then (NV_DELETION, 0, s)
  else (0, 0, s.setRing k Ring.absent)

/-- A page of which the spec states some fields: every other byte is free. -/
def State.freePageWith (s : State) (n : Nat) (fields : List (Nat × List Byte)) : List Byte × State :=
  (fields.foldl (fun (l : List Byte) (f : Nat × List Byte) => overlay l f.1 f.2) (slice (Config.freeBytes s.freeCtr n) 0 n),
   { s with freeCtr := s.freeCtr + 1 })

/-- Data of an admin command written to the host. -/
def State.nvGive (s : State) (d : Nat) (segs : List (Nat × Nat)) (data : List Byte) : State := s.dmaWrite d (placeSegs segs 0 data)

/-- Get Log Page: Error Information and SMART / Health Information. -/
def State.nvLog (s : State) (d lid len : Nat) (segs : List (Nat × Nat)) : Nat × Nat × State :=
  if lid ≠ 1 ∧ lid ≠ 2 then (NV_FIELD, 0, s)
  else
    let (data, s) := s.freePageWith len []
    (0, 0, s.nvGive d segs data)

/-- Namespaces of a drawer. -/
def State.nvSpaces (s : State) (d : Nat) : List Nat := ((List.range 17).drop 1).filter (fun n => (s.vol (volKey d n)).isSome)

/-- Identify: a namespace, the controller, or the list of active namespaces (R91, R92, R357). -/
def State.nvIdentify (s : State) (d nsid cns : Nat) (segs : List (Nat × Nat)) : Nat × Nat × State :=
  if cns = 0 then
    if nsid = 0 ∨ 16 < nsid then (NV_NAMESPACE, 0, s)
    else match s.vol (volKey d nsid) with
      | none => (0, 0, s.nvGive d segs (List.replicate 4096 0))
      | some x =>
        let n := leBytes 8 x.blocks
        let (data, s) := s.freePageWith 4096 [(0, n ++ n ++ n), (25, [0, 0]), (33, [0]), (128, [0, 0, 12, 0])]
        (0, 0, s.nvGive d segs data)
  else if cns = 1 then
    let (data, s) := s.freePageWith 4096 [(80, leBytes 4 0x00020000), (259, [3]), (512, [0x66, 0x44]), (516, leBytes 4 16), (525, [1])]
    (0, 0, s.nvGive d segs data)
  else if cns = 2 then
    let l := (s.nvSpaces d).filter (fun n => decide (nsid < n))
    (0, 0, s.nvGive d segs (slice (l.flatMap (leBytes 4)) 0 4096))
  else (NV_FIELD, 0, s)

/-- Abort: dword 0 is 0 where the command was found and ended, else 1. -/
def State.nvAbort (s : State) (d sqid acid : Nat) : Nat × Nat × State :=
  let k := sqKey d sqid
  let p := s.person d
  if (s.ring k).items.any (fun i => decide (i.tag = acid)) && (decide (0 < sqid) || p.aers.contains acid) then
    let s := if sqid = 0 then s.setPerson d { p with aers := p.aers.filter (fun c => !decide (c = acid)) } else s
    let s := { s with acc := { s.acc with vols := s.acc.vols.map (fun (e : Nat × Vol) => (e.1, { e.2 with
      flushes := e.2.flushes.filter (fun f => !(decide (f.ring = k) && decide (f.tag = acid))) })) } }
    (0, 0, s.nvDone k acid NV_ABORTED 0)
  else (0, 1, s)

/-- Is a feature one that R92 names? -/
def nvFeature (fid : Nat) : Bool := decide (fid = 7) || decide (fid = 8) || decide (fid = 0xB)

/-- Set Features. Interrupt Coalescing sets MOD_COUNT and MOD_USEC of the I/O completion queues (R146). -/
def State.nvSetFeature (s : State) (d fid v : Nat) : Nat × Nat × State :=
  if !nvFeature fid then (NV_FIELD, 0, s)
  else if fid = 7 then
    let n := s.nvPairs d - 1
    (0, n + n * 2 ^ 16, s)
  else
    let p := s.person d
    let s := s.setPerson d { p with feats := mput p.feats fid v }
    if fid = 8 then
      let s := (List.range 64).foldl (fun (s : State) y =>
        let k := cqKey d (y + 1)
        let r := s.ring k
        if r.st = .absent then s else s.setRing k { r with modCount := v % 256 + 1, modUsec := v / 256 % 256 * 100 }) s
      (0, 0, s)
    else (0, 0, s)

/-- Get Features. -/
def State.nvGetFeature (s : State) (d fid : Nat) : Nat × Nat × State :=
  if !nvFeature fid then (NV_FIELD, 0, s)
  else if fid = 7 then
    let n := s.nvPairs d - 1
    (0, n + n * 2 ^ 16, s)
  else (0, mgetD (s.person d).feats fid 0, s)

/-- Asynchronous Event Request: up to 4 stay outstanding; a drain does not wait for them. -/
def State.nvAer (s : State) (d cid : Nat) : State :=
  s.nvTake d 0 cid (fun s =>
    let p := s.person d
    if 4 ≤ p.aers.length then s.nvEnd d 0 cid NV_AER_LIMIT 0
    else
      let k := s.ring (sqKey d 0)
      let s := s.setRing (sqKey d 0) { k with items := k.items.map (fun i => if i.tag = cid then { i with posted := true } else i) }
      s.setPerson d { p with aers := p.aers ++ [cid] })

def execNvmeDeleteIoSq (d cid qid : Nat) (s : State) : Host.Outcome State Fault Refusal := s.run (s.nvAdmin d cid (·.nvDeleteSq d qid))
def execNvmeDeleteIoCq (d cid qid : Nat) (s : State) : Host.Outcome State Fault Refusal := s.run (s.nvAdmin d cid (·.nvDeleteCq d qid))
def execNvmeCreateIoSq (d cid base qid size : Nat) (pc : Bool) (cqid : Nat) (s : State) : Host.Outcome State Fault Refusal :=
  s.run (s.nvAdmin d cid (·.nvCreateSq d base qid size pc cqid))
def execNvmeCreateIoCq (d cid base qid size : Nat) (pc ien : Bool) (iv : Nat) (s : State) : Host.Outcome State Fault Refusal :=
  s.run (s.nvAdmin d cid (·.nvCreateCq d base qid size pc ien iv))
def execNvmeGetLogPage (d cid lid len : Nat) (segs : List (Nat × Nat)) (s : State) : Host.Outcome State Fault Refusal :=
  s.run (s.nvAdmin d cid (·.nvLog d lid len segs))
def execNvmeIdentify (d cid nsid cns : Nat) (segs : List (Nat × Nat)) (s : State) : Host.Outcome State Fault Refusal :=
  s.run (s.nvAdmin d cid (·.nvIdentify d nsid cns segs))
def execNvmeAbort (d cid sqid acid : Nat) (s : State) : Host.Outcome State Fault Refusal := s.run (s.nvAdmin d cid (·.nvAbort d sqid acid))
def execNvmeSetFeatures (d cid fid v : Nat) (s : State) : Host.Outcome State Fault Refusal := s.run (s.nvAdmin d cid (·.nvSetFeature d fid v))
def execNvmeGetFeatures (d cid fid : Nat) (s : State) : Host.Outcome State Fault Refusal := s.run (s.nvAdmin d cid (·.nvGetFeature d fid))
def execNvmeAsyncEventRequest (d cid : Nat) (s : State) : Host.Outcome State Fault Refusal := s.run (s.nvAer d cid)

/-! ## I/O on a volume (R356–R360) -/

/-- The volume of a namespace, or the status that an I/O command ends with: a namespace that does not exist, or a target never set
(R360). -/
def State.nvVol (s : State) (d nsid : Nat) : Except Nat Vol :=
  match (if nsid = 0 ∨ 16 < nsid then none else s.vol (volKey d nsid)) with
  | none => .error NV_NAMESPACE
  | some x => if (List.range (x.k + x.m)).all (fun t => (mget x.targets t).isSome) then .ok x else .error NV_NOT_READY

/-- Targets of a volume that are FAILED. -/
def Vol.failed (x : Vol) : Nat := (x.targets.filter (fun e => e.2.failed)).length

/-- The run of one I/O command against the targets: what the READs bring is taken from `io` in the order in which they are issued,
an empty answer being a refused access; `dec` says that a part was decoded. -/
structure IoRun where
  st  : State
  io  : List (List Byte)
  dec : Bool := false

/-- One READ of part of a chunk; none where its target refuses and becomes FAILED (R359). -/
def IoRun.read (r : IoRun) (v : Nat) (x : Vol) (stripe j off len : Nat) : Option (List Byte) × IoRun :=
  let s := r.st.chunkOp x 0x32 stripe j off len []
  match r.io with
  | [] => (none, { r with st := s.targetFail v (x.targetOf stripe j) 2 })
  | b :: t => if b.isEmpty && decide (0 < len) then (none, { st := s.targetFail v (x.targetOf stripe j) 2, io := t })
    else (some (slice b 0 len), { st := s, io := t })

/-- READs of several chunks. -/
def IoRun.reads (r : IoRun) (v : Nat) (x : Vol) (stripe off len : Nat) : List Nat → Option (List (Nat × List Byte)) × IoRun
  | [] => (some [], r)
  | j :: t =>
    match r.read v x stripe j off len with
    | (none, r) => (none, r)
    | (some b, r) => match r.reads v x stripe off len t with
      | (none, r) => (none, r)
      | (some l, r) => (some ((j, b) :: l), r)

/-- Part of a chunk of a stripe: from its target while that is good, else decoded from any K others (R357, R359). A target that
refuses becomes FAILED, and the part is read anew. -/
def IoRun.part (v stripe j off len : Nat) : Nat → IoRun → Option (List Byte) × IoRun
  | 0, r => (none, r)
  | n + 1, r =>
    match r.st.vol v with
    | none => (none, r)
    | some x =>
      if x.good stripe (x.targetOf stripe j) then
        match r.read v x stripe j off len with
        | (some b, r) => (some b, r)
        | (none, r) => IoRun.part v stripe j off len n r
      else
        let js := ((List.range (x.k + x.m)).filter (fun i => !decide (i = j) && x.good stripe (x.targetOf stripe i))).take x.k
        if js.length < x.k then (none, r)
        else match r.reads v x stripe off len js with
          | (some l, r) => (some (ecChunk x.k x.m l j), { r with dec := true })
          | (none, r) => IoRun.part v stripe j off len n r

/-- The pieces of a byte range of a volume: stripe, chunk, offset in the chunk, length (R356). -/
def Vol.pieces (x : Vol) (start len : Nat) : List (Nat × Nat × Nat × Nat) :=
  if len = 0 then []
  else
    let c0 := start / x.chunk
    let c1 := (start + len - 1) / x.chunk
    (List.range (c1 - c0 + 1)).map (fun i =>
      let c := c0 + i
      let a := max start (c * x.chunk)
      let b := min (start + len) ((c + 1) * x.chunk)
      (c / x.k, c % x.k, a - c * x.chunk, b - a))

/-- Blocks of a volume's cache, written or dropped. -/
def State.cachePut (s : State) (v blk : Nat) (data : List Byte) : State :=
  match s.vol v with
  | none => s
  | some x =>
    s.setVol v { x with cache := (List.range (data.length / 4096)).foldl (fun m i => mput m (blk + i) (slice data (4096 * i) 4096)) x.cache }

/-- Blocks of the cache of a write that failed are not kept. -/
def State.cacheDrop (s : State) (v blk n : Nat) : State :=
  match s.vol v with
  | none => s
  | some x => s.setVol v { x with cache := x.cache.filter (fun e => !(decide (blk ≤ e.1) && decide (e.1 < blk + n))) }

/-- Pieces read in turn. -/
def IoRun.pieces (v : Nat) : List (Nat × Nat × Nat × Nat) → IoRun → Option (List Byte) × IoRun
  | [], r => (some [], r)
  | (st, j, off, len) :: t, r =>
    match IoRun.part v st j off len 21 r with
    | (none, r) => (none, r)
    | (some b, r) => match IoRun.pieces v t r with
      | (none, r) => (none, r)
      | (some l, r) => (some (b ++ l), r)

/-- I/O Read: status and the state (R357, R360). `hit`: the cache still holds what was put there. -/
def State.nvRead (s : State) (d nsid slba nlb : Nat) (hit poison : Bool) (io : List (List Byte)) (segs : List (Nat × Nat)) : Nat × State :=
  match s.nvVol d nsid with
  | .error st => (st, s)
  | .ok x =>
    let v := volKey d nsid
    let n := nlb + 1
    if x.blocks < slba + n then (NV_LBA_RANGE, s)
    else
      let blks := (List.range n).map (fun i => mget x.cache (slba + i))
      if hit && blks.all (·.isSome) then
        if poison then (NV_UNRECOVERED, s)
        else (0, (s.bump Reg.n_bs_cache_hits n).dmaWrite d (placeSegs segs 0 (blks.flatMap (·.getD []))))
      else match IoRun.pieces v (x.pieces (slba * 4096) (n * 4096)) { st := s, io := io } with
        | (none, r) => (NV_UNRECOVERED, r.st)
        | (some data, r) => (0, ((if r.dec then r.st.bump Reg.n_bs_decodes else r.st).cachePut v slba data).dmaWrite d (placeSegs segs 0 data))

/-- A chunk part written to its target, unless that is not good for the stripe; a target that refuses becomes FAILED. -/
def State.chunkWrite (s : State) (v stripe j off : Nat) (data : List Byte) (refuse : List Nat) : State :=
  match s.vol v with
  | none => s
  | some x =>
    let t := x.targetOf stripe j
    if x.good stripe t then
      let s := s.chunkOp x 0x31 stripe j off data.length data
      if refuse.contains t then s.targetFail v t 2 else s
    else s

/-- A whole stripe written: parity encoded, every chunk written (R357). -/
def State.stripeWrite (s : State) (v : Nat) (x : Vol) (stripe : Nat) (data : List Byte) (refuse : List Nat) : State :=
  let ds := (List.range x.k).map (fun j => slice data (j * x.chunk) x.chunk)
  ((ds ++ ecEncode x.m ds).zipIdx).foldl (fun (s : State) e => s.chunkWrite v stripe e.2 0 e.1 refuse) s

/-- Parity parts of a partial write: P_i XOR c[i][j] · (D_old XOR D_new) (R357). -/
def IoRun.parity (v stripe j off : Nat) (x : Vol) (delta : List Byte) (refuse : List Nat) : List Nat → IoRun → IoRun
  | [], r => r
  | i :: t, r =>
    let p := x.k + i
    let good := match r.st.vol v with
      | some x => x.good stripe (x.targetOf stripe p)
      | none => false
    if !good then IoRun.parity v stripe j off x delta refuse t r
    else match r.read v x stripe p off delta.length with
      | (none, r) => IoRun.parity v stripe j off x delta refuse t r
      | (some old, r) =>
        let new := gfAdd old (gfScale (ecCoef x.m i j) delta)
        IoRun.parity v stripe j off x delta refuse t { r with st := r.st.chunkWrite v stripe p off new refuse }

/-- A partial write of one piece (R357). -/
def IoRun.pieceWrite (v : Nat) (x : Vol) (pc : Nat × Nat × Nat × Nat) (new : List Byte) (refuse : List Nat) (r : IoRun) : IoRun :=
  let (stripe, j, off, len) := pc
  match IoRun.part v stripe j off len 21 r with
  | (none, r) => r
  | (some old, r) =>
    let r := IoRun.parity v stripe j off x (gfAdd old new) refuse (List.range x.m) r
    { r with st := r.st.chunkWrite v stripe j off new refuse }

/-- A volume's range written: whole stripes at once, the rest piece by piece. -/
def IoRun.writeAll (v : Nat) (x : Vol) (start : Nat) (data : List Byte) (refuse : List Nat) (r : IoRun) : IoRun :=
  let w := x.k * x.chunk
  let s0 := start / w
  let s1 := (start + data.length - 1) / w
  (List.range (s1 - s0 + 1)).foldl (fun (r : IoRun) i =>
    let st := s0 + i
    let a := max start (st * w)
    let b := min (start + data.length) ((st + 1) * w)
    if b - a = w then { r with st := r.st.stripeWrite v x st (slice data (a - start) w) refuse }
    else (x.pieces a (b - a)).foldl (fun (r : IoRun) pc =>
      IoRun.pieceWrite v x pc (slice data ((pc.1 * x.k + pc.2.1) * x.chunk + pc.2.2.1 - start) pc.2.2.2) refuse r) r) r

/-- I/O Write of given data: status and the state (R357, R360). -/
def State.nvWrite (s : State) (d nsid slba : Nat) (data : List Byte) (io : List (List Byte)) (refuse : List Nat) : Nat × State :=
  match s.nvVol d nsid with
  | .error st => (st, s)
  | .ok x =>
    let v := volKey d nsid
    let n := data.length / 4096
    if x.blocks < slba + n then (NV_LBA_RANGE, s)
    else if x.m < x.failed then (NV_WRITE_FAULT, s)
    else
      let r := IoRun.writeAll v x (slba * 4096) data refuse { st := s, io := io }
      match r.st.vol v with
      | none => (NV_WRITE_FAULT, r.st)
      | some y => if y.m < y.failed then (NV_WRITE_FAULT, r.st.cacheDrop v slba n) else (0, r.st.cachePut v slba data)

/-- I/O Write with the data that was read from the host. -/
def State.nvWriteHost (s : State) (d nsid slba nlb : Nat) (host : HostIn) (io : List (List Byte)) (refuse : List Nat) : Nat × State :=
  match s.nvVol d nsid with
  | .error st => (st, s)
  | .ok x =>
    if x.blocks < slba + (nlb + 1) then (NV_LBA_RANGE, s)
    else if host.st ≠ 0 then (NV_TRANSFER, s)
    else
      let n := (nlb + 1) * 4096
      let s := match s.drPort d with
        | some q => s.bump (Reg.n_dma_read_bytes q) n
        | none => s
      s.nvWrite d nsid slba (slice host.data 0 n) io refuse

/-- I/O Flush: a commit to every target that is not FAILED (R358). -/
def State.nvFlush (s : State) (d y cid nsid : Nat) : State :=
  match s.nvVol d nsid with
  | .error st => s.nvEnd d y cid st 0
  | .ok x =>
    let v := volKey d nsid
    let ts := x.targets.filter (fun e => !e.2.failed)
    if ts.isEmpty then s.nvEnd d y cid NV_WRITE_FAULT 0
    else
      let f : VolFlush := { seq := x.seq, waiting := ts.map (·.1), good := 0, ring := sqKey d y, tag := cid }
      let s := s.setVol v { x with seq := x.seq + 1, flushes := x.flushes ++ [f] }
      ts.foldl (fun (s : State) e => s.emit (.spline e.2.conn 0x30 0 0 16 (leBytes 8 x.seq ++ leBytes 8 0))) s

/-- An I/O command: fetched from its queue, it answers a status. -/
def State.nvIo (s : State) (d y cid : Nat) (f : State → Nat × State) : State :=
  if y = 0 then s
  else s.nvTake d y cid (fun s => let r := f s
                                  r.2.nvEnd d y cid r.1 0)

/-- A read or write that completes well is counted (R362). -/
def ioCount (c : Nat) (r : Nat × State) : Nat × State := if r.1 = 0 then (0, r.2.bump c) else r

def execNvmeFlush (d y cid nsid : Nat) (s : State) : Host.Outcome State Fault Refusal :=
  s.run (if y = 0 then s else s.nvTake d y cid (·.nvFlush d y cid nsid))
def execNvmeWrite (d y cid nsid slba nlb : Nat) (host : HostIn) (io : List (List Byte)) (refuse : List Nat) (s : State) :
    Host.Outcome State Fault Refusal := s.run (s.nvIo d y cid (fun s => ioCount Reg.n_bs_writes (s.nvWriteHost d nsid slba nlb host io refuse)))
def execNvmeRead (d y cid nsid slba nlb : Nat) (hit poison : Bool) (io : List (List Byte)) (segs : List (Nat × Nat)) (s : State) :
    Host.Outcome State Fault Refusal := s.run (s.nvIo d y cid (fun s => ioCount Reg.n_bs_reads (s.nvRead d nsid slba nlb hit poison io segs)))
def execNvmeWriteZeroes (d y cid nsid slba nlb : Nat) (io : List (List Byte)) (refuse : List Nat) (s : State) :
    Host.Outcome State Fault Refusal :=
  s.run (s.nvIo d y cid (fun s => ioCount Reg.n_bs_writes (s.nvWrite d nsid slba (List.replicate ((nlb + 1) * 4096) 0) io refuse)))
def execNvmeDatasetManagement (d y cid nsid : Nat) (s : State) : Host.Outcome State Fault Refusal :=
  s.run (s.nvIo d y cid (fun s => match s.nvVol d nsid with
    | .error st => (st, s)
    | .ok _ => (0, s)))

end Sys2Proof.Machine
end

