-- ==== Sys2Proof/Machine/CasOps.lean ====
section
/-! DEFINITION. Winak links: flits, retry, records, routes, stacks and time (R390–R410). -/

namespace Sys2Proof.Machine

/-- A Winak link beyond its registers. -/
def State.casLink (s : State) (l : Nat) : CasLink := mgetD s.cas.links l CasLink.reset

/-- A link written. -/
def State.setCasLink (s : State) (l : Nat) (x : CasLink) : State :=
  { s with cas := { s.cas with links := mputD s.cas.links l x CasLink.reset } }

/-- Is link `l` UP (R391)? -/
def State.casUp (s : State) (l : Nat) : Bool := decide (s.get (Reg.CAS_LINK_STATUS_STATE l) = 4)

/-- STATE as a step of R391 shows it. -/
def casState (step : Nat) : Nat := if step = 2 then 1 else if step = 3 ∨ step = 4 then 2 else if step = 5 then 3 else if step = 6 then 4 else 0

/-- The own device ID. -/
def State.devId (s : State) : Nat := s.get Reg.CAS_DEV_ID_ID

/-! ## Flits (R392, R393) -/

/-- A flit: header, body of 248 bytes, CRC. -/
def casFlit (kind fseq ack : Nat) (ackOk nak : Bool) (body : List Byte) : List Byte :=
  let h := beBytes 2 (kind * 2 ^ 12 + fseq % 2 ^ 12) ++ beBytes 2 (b2n ackOk * 2 ^ 15 + b2n nak * 2 ^ 14 + ack % 2 ^ 12)
  let f := h ++ slice body 0 248
  f ++ beBytes 4 (crc32c 0xFFFFFFFF f).toNat

/-- Last sequenced flit of a link received in order. -/
def CasLink.ack (x : CasLink) : Nat := (x.rxSeq + 4095) % 4096

/-- A flit goes out on a link with the acknowledgement of the other direction. -/
def State.flitOut (s : State) (l kind fseq : Nat) (nak : Bool) (body : List Byte) : State :=
  let x := s.casLink l
  s.emit (.flit l (casFlit kind fseq x.ack x.got nak body))

/-- Flits that wait go out while the replay buffer holds fewer than 512 (R393). -/
def casPump (l : Nat) : Nat → State → State
  | 0, s => s
  | n + 1, s =>
    let x := s.casLink l
    match x.waiting with
    | [] => s
    | f :: t =>
      if 512 ≤ x.replay.length then s
      else
        let f := { f with fseq := x.txSeq }
        let s := s.setCasLink l { x with waiting := t, replay := x.replay ++ [f], txSeq := (x.txSeq + 1) % 4096 }
        casPump l n ((s.flitOut l f.kind f.fseq false f.body).bump (Reg.n_flits_tx l))

/-- A sequenced flit is sent, or waits for room. -/
def State.casSend (s : State) (l kind : Nat) (body : List Byte) (ends : Nat) : State :=
  let x := s.casLink l
  let s := s.setCasLink l { x with waiting := x.waiting ++ [{ kind := kind, fseq := 0, body := body, tries := 0, ends := ends }] }
  casPump l (x.waiting.length + 1) s

/-! ## Stacks (R405) -/

/-- A candidate of the own stack: priority, ID and link. -/
structure Candidate where
  prio : Nat
  dev  : Nat
  link : Nat
deriving DecidableEq, Repr

/-- The candidate set: the device itself, and neighbours whose heartbeats carry the same STACK_ID. -/
def State.candidates (s : State) : List Candidate :=
  let sid := s.get Reg.CAS_STACK_CFG_STACK_ID
  let near := (List.range 8).filterMap (fun l => match (s.casLink l).peer with
    | some p => if s.casUp l && p.stack && p.valid && decide (p.sid = sid) then some { prio := p.prio, dev := p.dev, link := l } else none
    | none => none)
  let one := near.foldl (fun (a : List Candidate) c => if a.any (fun x => decide (x.dev = c.dev)) then a else a ++ [c]) []
  sortBy (fun (a b : Candidate) => decide (b.prio < a.prio) || (decide (a.prio = b.prio) && decide (a.dev ≤ b.dev)))
    ({ prio := s.get Reg.CAS_STACK_CFG_PRIORITY, dev := s.devId, link := 0 } :: one)

/-- STATUS of the remote access that is outstanding: it ends (R406). -/
def State.remoteEnd (s : State) (st : Nat) : State :=
  let s := { s with cas := { s.cas with remote := none } }
  (s.set Reg.CAS_REMOTE_CTRL_STATUS st).set Reg.CAS_REMOTE_CTRL_GO 0

/-- The same, where one is outstanding. -/
def State.remoteLost (s : State) : State := if s.cas.remote.isSome then s.remoteEnd ST_CASC_UNREACHABLE else s

/-- The member registers. -/
def State.showMembers (s : State) (l : List Candidate) : State :=
  (List.range 8).foldl (fun (s : State) i =>
    match l[i]? with
    | some c => ((s.set (Reg.CAS_STACK_MEMBER_VALID i) 1).set (Reg.CAS_STACK_MEMBER_LINK i) c.link).set (Reg.CAS_STACK_MEMBER_ID i) c.dev
    | none => s.wr (Reg.CAS_STACK_MEMBER i) 0) s

/-- The election, run anew whenever the candidate set may have changed. -/
def State.elect (s : State) : State :=
  let was := s.get Reg.CAS_STACK_STATUS_ROLE
  let old := s.get Reg.CAS_STACK_STATUS_HEAD_ID
  if s.on Reg.CAS_STACK_CFG_STACK_EN && s.on Reg.CAS_DEV_ID_ID_VALID then
    let all := s.candidates
    let ms := all.take 8
    if ms.any (fun c => decide (c.dev = s.devId)) then
      let h := ms.headD { prio := 0, dev := s.devId, link := 0 }
      let s := (s.set Reg.CAS_STACK_STATUS_ROLE (if h.dev = s.devId then 1 else 2)).set Reg.CAS_STACK_STATUS_HEAD_LINK h.link
      let s := ((s.set Reg.CAS_STACK_STATUS_MEMBERS ms.length).set Reg.CAS_STACK_STATUS_HEAD_ID h.dev).showMembers ms
      if decide (was = 0) || decide (was = 3) || !decide (h.dev = old) then
        (s.raise EV_cas_head_change 0xFFFF [old, h.dev, ms.length]).remoteLost
      else s
    else
      let s := ((s.wr Reg.CAS_STACK_STATUS 0).showMembers []).set Reg.CAS_STACK_STATUS_ROLE 3
      if was = 3 then s else (s.raise EV_cas_stack_full 0xFFFF [s.devId]).remoteLost
  else if was = 0 then s else ((s.wr Reg.CAS_STACK_STATUS 0).showMembers []).remoteLost

/-! ## Time (R408, R409) -/

/-- The link a follower takes its time from first. -/
def State.timeFirst (s : State) : Nat :=
  if s.on Reg.CAS_TIME_CFG_FOLLOW_HEAD && decide (s.get Reg.CAS_STACK_STATUS_ROLE = 2) then s.get Reg.CAS_STACK_STATUS_HEAD_LINK
  else s.get Reg.CAS_TIME_CFG_TIME_LINK

/-- Is a link's last heartbeat usable as a time source? -/
def State.timeUsable (s : State) (l : Nat) : Bool :=
  s.casUp l && (match (s.casLink l).peer with
    | some p => p.timeOk && decide (p.depth < 254)
    | none => false)

/-- Does the device follow a peer's time? -/
def State.follows (s : State) : Bool := s.on Reg.LANE_TOD_CTRL_SRC

/-- The time source is lost (R409). -/
def State.timeLost (s : State) : State :=
  let a := s.get Reg.CAS_TIME_CFG_ALT_LINK
  if s.on Reg.CAS_TIME_CFG_ALT_EN && !s.on Reg.CAS_TIME_STATUS_SOURCE_ALT && s.timeUsable a then s.set Reg.CAS_TIME_STATUS_SOURCE_ALT 1
  else if s.on Reg.CAS_TIME_STATUS_HOLDOVER then s
  else
    let s := ((s.set Reg.CAS_TIME_STATUS_HOLDOVER 1).set Reg.CAS_TIME_STATUS_LOCKED 0)
    let s := { s with cas := { s.cas with lockRun := 0 } }
    s.raise EV_cas_time_holdover 0xFFFF [s.get Reg.CAS_TIME_STATUS_OFFSET]

/-- An integer held within bounds. -/
def clampInt (x lo hi : Int) : Int := if x < lo then lo else if hi < x then hi else x

/-- Device time moved by a signed number of nanoseconds. -/
def State.timeMove (s : State) (d : Int) : State := s.wr64 Reg.GLB_TIME (ofSigned 64 ((s.now : Int) + d))

/-- A heartbeat of the source corrects device time: an offset beyond 1 µs is stepped, a smaller one slewed at up to 100 ppm of the
time since the last correction (R408). -/
def State.timeOffset (s : State) (l : Nat) (p : CasPeer) (echoTx echoRx t4 : Nat) : State :=
  let raw : Int := ((echoRx : Int) - echoTx) - ((t4 : Int) - p.tx)
  let off : Int := (raw * 8 + toSigned 16 (s.get (Reg.CAS_LINK_ASYM_ASYM l))) / 16
  let s := s.set Reg.CAS_TIME_STATUS_OFFSET (ofSigned 16 (clampInt off (-32768) 32767))
  let s := s.set Reg.CAS_TIME_STATUS_DEPTH (p.depth + 1)
  let most : Int := ((s.now - s.cas.adjAt : Nat) : Int) / 10000
  let big := decide (off < -1000) || decide (1000 < off)
  let s := s.timeMove (if big then off else clampInt off (-most) most)
  let lock : Int := (max 1 (s.get Reg.CAS_TIME_CFG_LOCK_NS) : Nat)
  let run := if decide (-lock ≤ off) && decide (off ≤ lock) then s.cas.lockRun + 1 else 0
  let s := { s with cas := { s.cas with lockRun := run, adjAt := s.now }, lane := { s.lane with todSet := s.lane.todSet || big } }
  if 1000 ≤ run ∧ !s.on Reg.CAS_TIME_STATUS_LOCKED then
    ((s.set Reg.CAS_TIME_STATUS_LOCKED 1).set Reg.CAS_TIME_STATUS_HOLDOVER 0).raise EV_cas_time_locked 0xFFFF [l, p.depth + 1]
  else s

/-- A heartbeat's part in following time. -/
def State.timeBeat (s : State) (l : Nat) (p : CasPeer) (echoTx echoRx t4 : Nat) : State :=
  if !s.follows then s
  else
    let first := s.timeFirst
    if l = first then
      if s.timeUsable l then (s.set Reg.CAS_TIME_STATUS_SOURCE_ALT 0).timeOffset l p echoTx echoRx t4
      else if s.on Reg.CAS_TIME_STATUS_SOURCE_ALT then s else s.timeLost
    else if s.on Reg.CAS_TIME_STATUS_SOURCE_ALT && decide (l = s.get Reg.CAS_TIME_CFG_ALT_LINK) then
      if s.timeUsable l then s.timeOffset l p echoTx echoRx t4 else s.timeLost
    else s

/-- Does the device send TIME_VALID: its time has been set under PTP, or is locked to a peer (R408, R409)? -/
def State.timeValid (s : State) : Bool := if s.follows then s.on Reg.CAS_TIME_STATUS_LOCKED else s.lane.todSet

/-! ## Link state (R391, R394) -/

/-- The step of a link's bring-up written, and STATE with it. -/
def State.casStep (s : State) (l step : Nat) : State :=
  (s.setCasLink l { s.casLink l with step := step }).set (Reg.CAS_LINK_STATUS_STATE l) (casState step)

/-- Bring-up begins at step 2, or at step 3 where training is off, while R391 lets it. -/
def State.casBegin (s : State) (l : Nat) : State :=
  let n := 56 + l
  if s.on Reg.CAS_CFG_ENABLE && s.on (Reg.CAS_LINK_CFG_ADMIN_UP l) && decide (s.octRole n = 3) && s.on (Reg.LANE_OCT_STATUS_PLL_LOCK n) &&
      !s.on (Reg.LANE_OCT_STATUS_APPLY_BUSY n) then
    (s.setCasLink l CasLink.reset).casStep l (if s.on (Reg.CAS_LINK_CFG_TRAIN_EN l) then 2 else 3)
  else (s.setCasLink l CasLink.reset).casStep l 0

/-- A step passed its bound: LAST_LOSS, and step 2 again. -/
def State.casStepFail (s : State) (l : Nat) : State :=
  let st := (s.casLink l).step
  if st < 2 ∨ st = 6 ∨ (st = 5 ∧ (s.casLink l).peer.isSome) then s
  else (s.set (Reg.CAS_LINK_STATUS_LAST_LOSS l) (if st = 5 then 2 else 1)).casBegin l

/-- A link that was UP is lost (R394): its replay buffer is discarded and bring-up starts again. -/
def State.casLost (s : State) (l cause : Nat) : State :=
  let x := s.casLink l
  if s.casUp l then
    let n := (x.replay ++ x.waiting).foldl (fun a f => a + f.ends) 0
    let peer := s.get (Reg.CAS_LINK_STATUS_PEER_ID l)
    let s := ((s.bump (Reg.n_link_lost_count l)).bump (Reg.n_frames_lost l) n).set (Reg.CAS_LINK_STATUS_LAST_LOSS l) cause
    let s := s.raise EV_cas_link_lost l [peer, cause, n]
    let f := Reg.CAS_STATUS_LINKS_UP
    let s := (((s.casBegin l).set f (putBits (s.get f) l l 0)).setPortUp (8 * (56 + l)) false).egressEvent (8 * (56 + l)) false
    let s := s.elect
    let target := s.get Reg.CAS_REMOTE_CTRL_TARGET
    let s := if peer = target ∧ !(List.range 8).any (fun j => s.casUp j && decide (s.get (Reg.CAS_LINK_STATUS_PEER_ID j) = target)) then s.remoteLost else s
    if s.follows && decide (l = (if s.on Reg.CAS_TIME_STATUS_SOURCE_ALT then s.get Reg.CAS_TIME_CFG_ALT_LINK else s.timeFirst)) then s.timeLost else s
  else if 2 ≤ x.step then (s.set (Reg.CAS_LINK_STATUS_LAST_LOSS l) cause).casBegin l
  else s

/-- Step 6 of R391: the link is UP. -/
def State.casHello (s : State) (l : Nat) : State :=
  let x := s.casLink l
  match x.peer with
  | none => s
  | some p =>
    if x.step = 5 ∧ s.on Reg.CAS_DEV_ID_ID_VALID ∧ p.valid ∧ p.dev ≠ s.devId then
      let s := ((s.casStep l 6).set (Reg.CAS_LINK_STATUS_PEER_ID l) p.dev).set (Reg.CAS_LINK_STATUS_PEER_LINK l) p.link
      let f := Reg.CAS_STATUS_LINKS_UP
      let s := ((s.set f (putBits (s.get f) l l 1)).setPortUp (8 * (56 + l)) true).raise EV_cas_link_up l [p.dev, p.link]
      ((s.egressEvent (8 * (56 + l)) true).elect)
    else s

/-! ## Heartbeats (R394) -/

/-- The body of the device's heartbeat on a link. -/
def State.beatBody (s : State) (l : Nat) : List Byte :=
  let p := (s.casLink l).peer
  let fl := b2n (s.on Reg.CAS_DEV_ID_ID_VALID) * 128 + b2n (s.on Reg.CAS_STACK_CFG_STACK_EN) * 64 + b2n s.timeValid * 32 +
    b2n (decide (s.get Reg.CAS_STACK_STATUS_ROLE = 1)) * 16
  let head := if s.get Reg.CAS_STACK_STATUS_ROLE = 2 then s.get Reg.CAS_STACK_STATUS_HEAD_ID else s.devId
  let depth := if s.follows then s.get Reg.CAS_TIME_STATUS_DEPTH else 0
  beBytes 2 s.devId ++ beBytes 1 fl ++ beBytes 1 (s.get Reg.CAS_STACK_CFG_PRIORITY) ++ beBytes 2 (s.get Reg.CAS_STACK_CFG_STACK_ID) ++
    beBytes 2 head ++ beBytes 1 l ++ beBytes 1 depth ++ [0, 0] ++ beBytes 8 s.now ++
    beBytes 8 ((p.map (·.tx)).getD 0) ++ beBytes 8 ((p.map (·.rx)).getD 0)

/-- HEARTBEAT_SEND. -/
def State.beatOut (s : State) (l : Nat) : State :=
  if (s.casLink l).step < 5 then s else s.flitOut l 2 0 false (s.beatBody l)

/-- A heartbeat's fields; `b` is the whole flit. -/
def peerOf (b : List Byte) (now : Nat) : CasPeer :=
  { dev := beAt b 4 2, valid := bit (beAt b 6 1) 7, stack := bit (beAt b 6 1) 6, timeOk := bit (beAt b 6 1) 5, prio := beAt b 7 1,
    sid := beAt b 8 2, head := beAt b 10 2, link := beAt b 12 1 % 8, depth := beAt b 13 1, tx := beAt b 16 8, rx := now }

/-- A valid heartbeat arrives (R391, R394, R405, R408). -/
def State.beatIn (s : State) (l : Nat) (b : List Byte) : State :=
  let x := s.casLink l
  if x.step < 5 then s
  else
    let t4 := s.now
    let p := peerOf b t4
    let s := s.setCasLink l { x with peer := some p }
    if x.step = 5 then
      if p.valid && s.on Reg.CAS_DEV_ID_ID_VALID && decide (p.dev = s.devId) && !x.clash then
        let s := s.setCasLink l { s.casLink l with clash := true }
        (s.set (Reg.CAS_LINK_STATUS_LAST_LOSS l) 4).raise EV_cas_id_conflict l [p.dev]
      else s
    else (s.elect).timeBeat l p (beAt b 24 8) (beAt b 32 8) t4

/-! ## Retry (R392, R393) -/

/-- Is every byte from `a` up to `b` of a flit zero? -/
def zeroSpan (f : List Byte) (a b : Nat) : Bool := ((f.drop a).take (b - a)).all (fun x => decide (x = 0))

/-- Are the bits of a flit that its type reserves zero? -/
def flitReserved (f : List Byte) : Bool :=
  let t := beAt f 0 2 / 2 ^ 12
  decide (beAt f 2 2 / 2 ^ 12 % 4 = 0) && (decide (t = 1) || decide (t = 3) || decide (t = 4) || decide (beAt f 0 2 % 2 ^ 12 = 0)) &&
  (match t with
   | 2 => decide (beAt f 6 1 % 16 = 0) && decide (beAt f 12 1 < 8) && zeroSpan f 14 16 && zeroSpan f 40 252
   | 3 => decide (beAt f 5 1 < 4) && zeroSpan f 12 16 && zeroSpan f 33 252
   | 4 => (decide (beAt f 4 1 = 4) || zeroSpan f 6 8) && decide (beAt f 6 2 < 4096) && zeroSpan f 8 252
   | _ => true)

/-- Is a flit whole: its CRC good, its TYPE known, its reserved bits zero (R392)? -/
def flitOk (f : List Byte) : Bool :=
  decide (f.length = 256) && decide (beAt f 252 4 = (crc32c 0xFFFFFFFF (f.take 252)).toNat) && decide (beAt f 0 2 / 2 ^ 12 ≤ 4) && flitReserved f

/-- NAK goes out once for a gap. -/
def State.nakOut (s : State) (l : Nat) : State :=
  let x := s.casLink l
  if x.nakSent then s else (s.setCasLink l { x with nakSent := true }).flitOut l 0 0 true []

/-- The acknowledgement a flit carries: flits up to ACK_SEQ leave the replay buffer, and NAK asks for the rest again. A flit that was
replayed 8 times loses the link (R393). -/
def State.casAckIn (s : State) (l : Nat) (f : List Byte) : State :=
  let w := beAt f 2 2
  let x := s.casLink l
  let s := if bit w 15 && x.replay.any (fun r => decide (r.fseq = w % 2 ^ 12)) then
      let rest := (x.replay.dropWhile (fun r => !decide (r.fseq = w % 2 ^ 12))).drop 1
      s.setCasLink l { x with replay := rest }
    else s
  let s := if bit w 14 then
      let y := s.casLink l
      if y.replay.isEmpty then s
      else if y.replay.any (fun r => decide (8 ≤ r.tries)) then s.casLost l 3
      else
        let s := (s.setCasLink l { y with replay := y.replay.map (fun r => { r with tries := r.tries + 1 }) }).bump (Reg.n_replay_count l)
        y.replay.foldl (fun (s : State) r => s.flitOut l r.kind r.fseq false r.body) s
    else s
  casPump l 512 s

/-- A flit arrives as `kind` says; `go` is what a sequenced one does once it is accepted in order. One that is not whole is
discarded and counted (R392, R393). -/
def State.flitIn (s : State) (l kind : Nat) (f : List Byte) (go : State → State) : State :=
  if (s.casLink l).step < 5 then s
  else if !flitOk f then (s.bump (Reg.n_crc_error l)).nakOut l
  else if !decide (beAt f 0 2 / 2 ^ 12 = kind) then s
  else
    let s := s.casAckIn l f
    if kind = 0 ∨ kind = 2 then go s
    else
      let x := s.casLink l
      if x.step < 5 then s
      else if beAt f 0 2 % 2 ^ 12 = x.rxSeq then
        go ((s.setCasLink l { x with rxSeq := (x.rxSeq + 1) % 4096, got := true, nakSent := false }).bump (Reg.n_flits_rx l))
      else s.nakOut l

/-! ## Routes (R397, R401, R402, R404) -/

/-- The choice of R402: the egress link, whether USE_ALT is learned, and whether REROUTED is set. -/
def State.casChoose (s : State) (x : Nat) (ingress : Option Nat) (rerouted : Bool) : Option Nat × Bool × Bool :=
  let p := s.get (Reg.CAS_ROUTE_PRIMARY x)
  let a := s.get (Reg.CAS_ROUTE_ALT x)
  let pUp := s.casUp p
  let aUp := s.on (Reg.CAS_ROUTE_ALT_EN x) && s.casUp a
  let use := s.on (Reg.CAS_ROUTE_USE_ALT x)
  let pIn := decide (ingress = some p)
  let aIn := decide (ingress = some a)
  if pUp && !use && !pIn then (some p, false, rerouted)
  else if pIn && aUp && !aIn then (some a, rerouted, rerouted)
  else if !pUp && aUp then (some a, false, rerouted || aIn)
  else if use && aUp && !aIn then (some a, false, rerouted)
  else if pUp && !pIn then (some p, false, rerouted)
  else (none, false, rerouted)

/-- A record header (R396). -/
def recHead (bcast rerouted : Bool) (hops dst src len : Nat) : List Byte :=
  beBytes 1 (16 + b2n bcast * 8 + b2n rerouted * 4) ++ beBytes 1 hops ++ beBytes 2 dst ++ beBytes 2 src ++ beBytes 2 len ++
    List.replicate 8 0

/-- Links of a mask, lowest first. -/
def maskLinks (m : Nat) : List Nat := (List.range 8).filter (fun l => bit m l)

/-- A frame of this device that is to leave on several links: a hold for each beyond the first. -/
def casCopies (f : Frame) (go : State → Frame → Nat → State) : List Nat → State → State
  | [], s => s.dropFrame f 3
  | [l], s => go s f l
  | l :: t, s =>
    match s.hold f.quire l with
    | (true, s) => casCopies f go t (go s { f with ref := none, tsReq := false } l)
    | (false, s) => casCopies f go t s

/-- A frame whose action is CASC and names device `x` (R397); `pol` is its policer. -/
def State.casOrigin (s : State) (f : Frame) (x : Nat) (pol : Option Nat) : State :=
  if s.on Reg.CAS_DEV_ID_ID_VALID && decide (x = s.devId) then (s.bump Reg.n_route_self).dropFrame f 3
  else if !s.on (Reg.CAS_ROUTE_VALID x) then
    let s := s.bump Reg.n_route_miss
    let due := match s.cas.missAt with
      | none => true
      | some t => decide (1000000 ≤ s.now - t)
    let s := if due then ({ s with cas := { s.cas with missAt := some s.now } }).raise EV_cas_route_miss 0xFFFF [x] else s
    s.dropFrame f 3
  else
    let head := fun (s : State) b r => recHead b r (s.get Reg.CAS_CFG_HOP_LIMIT) x s.devId (s.frameLen f)
    if s.on (Reg.CAS_ROUTE_BCAST x) then
      casCopies { f with casc := some (head s true false) } (fun s f l => s.admitFrame f (s.get (Reg.CAS_LINK_OQ_QUEUE l)) pol)
        (maskLinks (s.get Reg.CAS_BCAST_ORIGIN_FWD)) s
    else match s.casChoose x none false with
      | (none, _, _) => (s.bump Reg.n_route_drop).dropFrame f 3
      | (some l, _, r) => s.admitFrame { f with casc := some (head s false r) } (s.get (Reg.CAS_LINK_OQ_QUEUE l)) pol

/-! ## Records (R396, R398, R399) -/

/-- MAX_FRAME of a port, within its limits. -/
def State.maxFrame (s : State) (p : Nat) : Nat := max 1518 (min 9216 (s.get (Reg.LANE_PORT_CTRL_MAX_FRAME p)))

/-- A frame of link `l` on its way through the device. -/
def casFrame (l p src : Nat) (head : Option (List Byte)) : Frame :=
  { quire := p, kind := 2, port := 8 * (56 + l), drawer := 0, gen := 0, src := src, rxTime := none, ref := none, tsReq := false, tmpl := 0,
    casc := head, pre := [], skip := 0 }

/-- The frame of a record takes leaves of the ingress account, or is dropped for want of them (R214). -/
def State.casAlloc (s : State) (data : List Byte) (go : State → Nat → State) : State :=
  match s.allocDie ingressOwner s.now data with
  | none => s.bump Reg.n_ingress_no_leaf
  | some (p, s) => go s p

/-- A record delivered locally enters the octet's ingress queue (R399). -/
def State.casLocal (s : State) (l src : Nat) (data : List Byte) : State :=
  s.casAlloc data (fun s p => s.arrive (56 + l) (casFrame l p src none))

/-- A record passed on over link `e`, to its transit queue (R398). -/
def State.casTransit (s : State) (l e src : Nat) (head data : List Byte) : State :=
  s.casAlloc data (fun s p => (s.bump (Reg.n_transit_records l)).admitTransit (casFrame l p src (some head)) (s.get (Reg.CAS_LINK_TQ_QUEUE e)))

/-- Does a record's header keep to R396? -/
def recHeadOk (h : List Byte) : Bool :=
  decide (beAt h 0 1 / 16 = 1) && decide (beAt h 0 1 % 4 = 0) && decide (14 ≤ beAt h 6 2) && decide (beAt h 6 2 ≤ 9212) && zeroSpan h 8 16

/-- A record arrives on link `l` (R398). -/
def State.recordIn (s : State) (l : Nat) (h data : List Byte) : State :=
  let s := s.bump (Reg.n_records_rx l)
  let bcast := bit (beAt h 0 1) 3
  let hops := beAt h 1 1
  let dst := beAt h 2 2
  let src := beAt h 4 2
  if !recHeadOk h || decide (s.maxFrame (8 * (56 + l)) < beAt h 6 2 + 4) then s.bump (Reg.n_record_drop l)
  else if bcast && decide (src = s.devId) then (s.bump (Reg.n_record_drop l)).bump Reg.n_bcast_self
  else if decide (dst = s.devId) && !bcast then s.casLocal l src data
  else if bcast then
    let s := if s.on (Reg.CAS_BCAST_MASK_LOCAL l) then s.casLocal l src data else s
    let out := (maskLinks (s.get (Reg.CAS_BCAST_MASK_FWD l))).filter (fun e => !decide (e = l))
    if out.isEmpty then s
    else if hops = 0 then s.bump Reg.n_hop_expired
    else out.foldl (fun (s : State) e => s.casTransit l e src (recHead true (bit (beAt h 0 1) 2) (hops - 1) dst src (beAt h 6 2)) data) s
  else if hops = 0 then s.bump Reg.n_hop_expired
  else
    match s.casChoose dst (some l) (bit (beAt h 0 1) 2) with
    | (none, _, _) => s.bump Reg.n_route_drop
    | (some e, learn, r) =>
      let s := if learn then s.set (Reg.CAS_ROUTE_USE_ALT dst) 1 else s
      s.casTransit l e src (recHead false r (hops - 1) dst src (beAt h 6 2)) data

/-- Records of a stream, from a record's boundary on; what is left of a record that is not complete is kept. A header that breaks
R396 in its version or length is dropped with the rest of the body. -/
def casRecords (l : Nat) : Nat → List Byte → State → State
  | 0, _, s => s
  | n + 1, b, s =>
    let keep := fun (s : State) (b : List Byte) => s.setCasLink l { s.casLink l with part := b }
    let ver := beAt b 0 1 / 16
    if b.isEmpty || decide (ver = 0) then keep s []
    else if !decide (ver = 1) then keep ((s.bump (Reg.n_records_rx l)).bump (Reg.n_record_drop l)) []
    else if b.length < 16 then keep s b
    else
      let len := beAt b 6 2
      if len < 14 ∨ 9212 < len then keep ((s.bump (Reg.n_records_rx l)).bump (Reg.n_record_drop l)) []
      else
        let total := 16 + (len + 7) / 8 * 8
        if b.length < total then keep s b
        else casRecords l n (b.drop total) (s.recordIn l (b.take 16) (slice b 16 len))

/-- The body of a DATA flit. -/
def State.casData (s : State) (l : Nat) (f : List Byte) : State :=
  casRecords l 32 ((s.casLink l).part ++ slice f 4 248) s

/-- Byte string cut into bodies of 248 bytes. -/
def cutBodies : Nat → List Byte → List (List Byte)
  | 0, _ => []
  | n + 1, b => if b.isEmpty then [] else slice b 0 248 :: cutBodies n (b.drop 248)

/-- A frame leaves on link `l` as a record of its own DATA flits (R396). -/
def State.casRecordOut (s : State) (l : Nat) (h data : List Byte) : State :=
  let rec' := h ++ slice data 0 ((data.length + 7) / 8 * 8)
  let bs := cutBodies (rec'.length / 248 + 1) rec'
  let s := s.bump (Reg.n_records_tx l)
  (bs.zipIdx).foldl (fun (s : State) e => s.casSend l 1 e.1 (b2n (decide (e.2 + 1 = bs.length)))) s

end Sys2Proof.Machine
end

