-- ==== Sys2Proof/Machine/PwrOps.lean ====
section
/-! DEFINITION. Domain and device power states, and the wake sources (R23, R414–R426). -/

namespace Sys2Proof.Machine

/-- Domain of octet `n` (R436). -/
def octDom (n : Nat) : Nat := 64 + n

/-- Does a domain of this number exist (R436)? -/
def isDom (d : Nat) : Bool :=
  decide (d ≤ 6) || (decide (8 ≤ d) && decide (d ≤ 11)) || (decide (16 ≤ d) && decide (d ≤ 55)) || (decide (64 ≤ d) && decide (d ≤ 127))

/-- The domains beside SPN. -/
def domains : List Nat := (List.range 128).filter (fun d => isDom d && !decide (d = 0))

/-- Device state as PWR_STATUS reports it (R414). -/
def State.devState (s : State) : Nat := s.get Reg.PWR_STATUS_DEV_STATE

/-! ## Events (R435) -/

/-- Events of entries are written once the device is in RUN or IDLE. -/
def State.pwrFlush (s : State) : State :=
  let l := s.pwr.held
  l.foldl (fun (s : State) (e : Event) => s.raiseEvent e) (s.withPwr (fun p => { p with held := [] }))

/-- DEV_STATE changes: counted, with pwr.state, which an entry into SLEEP or DEEP holds back. -/
def State.devStateTo (s : State) (t : Trans) (tgt : Nat) : State :=
  let us := (s.now - t.start) / 1000
  let e : Event := { code := EV_pwr_state, source := 0xFFFF, time := s.now, dest := 0, detail := [t.src, tgt, b2n t.jig, us] }
  let s := (s.set Reg.PWR_STATUS_DEV_STATE tgt).bump Reg.n_state_changes
  if tgt ≤ 1 then (s.pwrFlush).raiseEvent e else s.withPwr (fun p => { p with held := p.held ++ [e] })

/-! ## Device state changes (R415, R416, R418) -/

/-- Is a host port in L0 (R416)? Recovery and the approach to L2 are not L2 or down. -/
def State.hostL0 (s : State) : Bool := (List.range 64).any (fun q => s.on (Reg.HOST_PORT_STATUS_LINK_UP q))

/-- Sources of R423 that work in a state, as a mask of PWR_WAKE_EN. -/
def wakeMask (target : Nat) : Nat := if target = 2 then 0x6F else if target = 3 then 0x7D else if target = 4 then 0x08 else 0x42

/-- Does a Lamisk session hold a thread HALTED (R330)? -/
def State.debugHolds (s : State) : Bool :=
  s.on Reg.DBG_STATUS_SESSION && s.core.threads.any (fun e => decide (s.thState e.1 = 3))

/-- Why a request is refused, as REASON of R416. -/
def State.pwrRefusal (s : State) (target : Nat) : Option Nat :=
  if s.pwr.trans.isSome then some 3
  else if target < 2 then none
  else if s.hostL0 then some 1
  else if s.halted then some 2
  else if Nat.land (s.get Reg.PWR_WAKE_EN_ENABLE) (wakeMask target) = 0 then some 4
  else if s.debugHolds then some 6
  else none

/-- A request is refused: REFUSED and REASON for the manager, and pwr.refused. -/
def State.pwrRefuse (s : State) (target reason : Nat) (jig : Bool) : State :=
  let s := if jig then s else
    ((s.set Reg.PWR_STATE_REQ_GO 0).set Reg.PWR_STATE_REQ_REFUSED 1).set Reg.PWR_STATE_REQ_REASON reason
  s.raise EV_pwr_refused 0xFFFF [target, reason, b2n jig]

/-- A step of the transition that runs. -/
def State.pwrStep (s : State) (t : Trans) (step : Nat) : State :=
  (s.withPwr (fun p => { p with trans := some { t with step := step } })).set Reg.PWR_STATUS_STEP step

/-- A transition begins with step 1. -/
def State.pwrBegin (s : State) (target : Nat) (jig : Bool) (named : Option Nat) : State :=
  let t : Trans := { src := s.devState, dst := target, step := 1, jig := jig, start := s.now, named := named }
  (s.set Reg.PWR_STATUS_BUSY 1).pwrStep t 1

/-- The transition ends. -/
def State.pwrEnd (s : State) : State :=
  let s := s.withPwr (fun p => { p with trans := none })
  ((s.set Reg.PWR_STATUS_BUSY 0).set Reg.PWR_STATUS_STEP 0).set Reg.PWR_STATE_REQ_GO 0

/-- A request for a device state by the manager or the jig (R415, R416). -/
def State.pwrRequest (s : State) (target : Nat) (jig : Bool) : State :=
  match s.pwrRefusal target with
  | some r => s.pwrRefuse target r jig
  | none =>
    if target = s.devState then s
    else (if jig then s else s.set Reg.PWR_STATE_REQ_GO 1).pwrBegin target jig none

/-! ## Wake (R423, R425) -/

/-- A source is accepted: recorded, LAST_WAKE being the first of a wake. -/
def State.wakeSeen (s : State) (src : Nat) (first : Bool) : State :=
  let s := s.set Reg.PWR_WAKE_STATUS_SEEN (putBits (s.get Reg.PWR_WAKE_STATUS_SEEN) src src 1)
  if first then s.set Reg.PWR_STATUS_LAST_WAKE src else s

/-- A wake condition of source `src` (R423, R425): exit begins from SLEEP or DEEP, an entry is followed by an exit at once, and during
an exit it is only recorded. -/
def State.pwrWake (s : State) (src : Nat) (named : Option Nat) : State :=
  let works := fun (st : Nat) => bit (wakeMask st) src
  if !bit (s.get Reg.PWR_WAKE_EN_ENABLE) src then s
  else match s.pwr.trans with
    | some t =>
      if 2 ≤ t.dst then
        if !works t.dst then s
        else
          let s := s.wakeSeen src (!s.on Reg.PWR_STATUS_WAKE_PENDING)
          let s := if s.on Reg.PWR_STATUS_WAKE_PENDING ∨ t.dst = 4 then s else s.bump Reg.n_wake_during_entry
          (s.set Reg.PWR_STATUS_WAKE_PENDING 1).set Reg.PWR_STATUS_LAST_DURING_ENTRY 1
      else s.wakeSeen src false
    | none =>
      if s.devState = 2 ∨ s.devState = 3 then
        if works s.devState then ((s.wakeSeen src true).set Reg.PWR_STATUS_LAST_DURING_ENTRY 0).pwrBegin 0 false named else s
      else if s.devState = 1 ∧ src = 6 then (s.wakeSeen src true).pwrBegin 0 false none
      else s

/-- An entry is complete: a wake that is pending starts the exit at once (R425). -/
def State.pwrEntered (s : State) : State :=
  if s.on Reg.PWR_STATUS_WAKE_PENDING then (s.set Reg.PWR_STATUS_WAKE_PENDING 0).pwrBegin 0 false none else s

/-! ## Single domains (R23, R25, R333, R415, R417) -/

/-- May a domain take a state on request (R25, R72, R333, R414, R415)? -/
def State.domAllowed (s : State) (d st : Nat) : Bool :=
  isDom d && !decide (d = 0) && !decide (d = 6) && s.pwr.trans.isNone && (mget s.pwr.doms d).isNone &&
  (if st = 3 then
     (decide (32 ≤ d) && decide (d ≤ 55) && decide (s.get (Reg.CORE_CL_LIVE_LIVE (d - 32)) = 0)) ||
       (decide (d = 5) && (s.acc.slots.all (fun e => decide (e.2 = 0))))
   else true) &&
  (if 64 ≤ d then !decide (s.octRole (d - 64) = 0) && !(decide (2 ≤ st) && decide (s.octRole (d - 64) = 2) &&
      (s.on (Reg.HOST_PORT_STATUS_LINK_UP (2 * (d - 64))) || s.on (Reg.HOST_PORT_STATUS_LINK_UP (2 * (d - 64) + 1))))
   else true) &&
  (if decide (32 ≤ d) && decide (d ≤ 55) && decide (st = 2) then
     (List.range 64).all (fun i =>
       let t := (d - 32) * 64 + i
       !decide (s.thState t = 1) && !decide (s.thState t = 3) &&
       !(decide (s.thState t = 2) && !decide ((((s.thread t).wait.map (·.timeout)).getD 0) = 0)))
   else true)

/-- Links of an octet whose transmitters are parked or powered down (R44, R418): peers see link loss. -/
def State.octPark (s : State) (n : Nat) : State :=
  if s.octRole n = 3 then (s.casLost (n - 56) 1).casStep (n - 56) 0
  else if s.octRole n = 1 then (List.range 8).foldl (fun (s : State) k => s.portDown (8 * n + k) (some 3)) s
  else s

/-- Bring-up of the links of an octet whose domain is in RUN again. -/
def State.octWake (s : State) (n : Nat) : State :=
  if s.octRole n = 3 then s.casBegin (n - 56)
  else if s.octRole n = 1 then (List.range 8).foldl (fun (s : State) k => s.portBegin (8 * n + k)) s
  else s

/-- A move of a domain is done: its state, the links of an octet, and the requests at its clamp go on. -/
def State.domDone (s : State) (d : Nat) : State :=
  match mget s.pwr.doms d with
  | none => s
  | some (st, by') =>
    let was := s.domState d
    let s := (s.withPwr (fun p => { p with doms := mdel p.doms d, clamp := if st ≤ 1 then mdel p.clamp d else p.clamp })).setDom d st
    let s := if by' = 0 then s.set (Reg.PWR_DOMAIN_GO d) 0 else s
    let s := if 64 ≤ d ∧ 2 ≤ st then s.octPark (d - 64) else s
    if 64 ≤ d ∧ st ≤ 1 ∧ 2 ≤ was then s.octWake (d - 64) else s

end Sys2Proof.Machine
end

