-- ==== Sys2Proof/Machine/Lane.lean ====
section
/-! DEFINITION. The lane array: octet roles, bring-up of network ports, received frames, ninth lanes and device time (R35–R54). -/

namespace Sys2Proof.Machine

/-! ## Ninth lanes (R45–R48, R395) -/

/-- STATE of an octet's ninth lane: 0 IDLE, 1 ARMING, 2 VERIFY, 3 STEERED. -/
def State.spareState (s : State) (n : Nat) : Nat := s.get (Reg.LANE_SPARE_STATUS_STATE n)

/-- The steering of an octet, in progress or in force. -/
def State.steer (s : State) (n : Nat) : Option Steer := mget s.lane.steer n

/-- A steering written. -/
def State.setSteer (s : State) (n : Nat) (x : Steer) : State := { s with lane := { s.lane with steer := mput s.lane.steer n x } }

/-- A ninth lane falls back to the state its map shows: STEERED where it is in use, else IDLE. -/
def State.spareIdle (s : State) (n : Nat) : State :=
  let s := { s with lane := { s.lane with steer := mdel s.lane.steer n } }
  let s := (s.set (Reg.LANE_SPARE_CTRL_GO n) 0).set (Reg.LANE_SPARE_CTRL_REVERT n) 0
  s.set (Reg.LANE_SPARE_STATUS_STATE n) (if s.on (Reg.LANE_SPARE_STATUS_IN_USE n) then 3 else 0)

/-- A steering that runs is abandoned; the map stays as it was (R36, R48). -/
def State.spareAbandon (s : State) (n : Nat) : State := if (s.steer n).isSome then s.spareIdle n else s

/-- The port that holds lane k of an octet. -/
def State.lanePort (s : State) (n k : Nat) : Nat :=
  if s.octRole n = 1 then 8 * n + k / 2 ^ (s.octPlan n).mode * 2 ^ (s.octPlan n).mode
  else 8 * n

/-- Does lane k of an octet carry traffic? -/
def State.laneBusy (s : State) (n k : Nat) : Bool :=
  match s.octRole n with
  | 1 => s.portUp (s.lanePort n k)
  | 2 => s.on (Reg.HOST_PORT_STATUS_LINK_UP (if (s.octPlan n).split && decide (4 ≤ k) then 2 * n + 1 else 2 * n))
  | 3 => s.casUp (n - 56)
  | _ => false

/-- The body of a SPARE flit: OP, lane and, of a GO, the flit it names. -/
def spareBody (op k fseq : Nat) : List Byte := beBytes 1 op ++ beBytes 1 k ++ beBytes 2 fseq

/-- A steering request by the manager or the jig (R46, R48): refused while another runs or slice 8 is in use, and as a pair replacement
where no Winak peer can answer. -/
def State.spareGo (s : State) (n k : Nat) (pair byJig : Bool) : Bool × State :=
  if !decide (s.spareState n = 0) || (pair && !(decide (s.octRole n = 3) && s.casUp (n - 56))) then
    (false, s.set (Reg.LANE_SPARE_STATUS_REFUSED n) 1)
  else
    let x : Steer := { lane := k, pair := pair, byJig := byJig, reverse := false, loaded := false, good := 0, answer := false, acked := false }
    let s := ((s.setSteer n x).set (Reg.LANE_SPARE_CTRL_GO n) 1).set (Reg.LANE_SPARE_STATUS_STATE n) 1
    (true, if pair then s.casSend (n - 56) 4 (spareBody 1 k 0) 0 else s)

/-- SPARE_STEER_GO: a write of LANE_SPARE_CTRL. -/
def State.opSpareCtrl (s : State) (n w : Nat) : State :=
  let s := ((s.set (Reg.LANE_SPARE_CTRL_JIG_ALLOW n) (bits w 16 16)).set (Reg.LANE_SPARE_CTRL_PAIR_MODE n) (bits w 4 4)).set
    (Reg.LANE_SPARE_CTRL_TARGET n) (bits w 2 0)
  if bit w 8 then (s.spareGo n (bits w 2 0) (bit w 4) false).2 else s

/-- Slice 8, or in reverse slice k, has converged and its coefficients are loaded. The initiator of a pair replacement then sends GO
once the peer has answered (R46, R395). -/
def State.spareConverged (s : State) (n : Nat) : State :=
  match s.steer n with
  | some x =>
    if s.spareState n = 1 ∧ (!x.pair ∨ x.answer ∨ x.acked) then
      let s := s.setSteer n { x with loaded := true }
      if x.pair && !x.answer && !x.reverse then s.casSend (n - 56) 4 (spareBody 4 x.lane (s.casLink (n - 56)).txSeq) 0 else s
    else s
  | none => s

/-- A steering is complete: the map shows it, or its reversal (R46, R48). -/
def State.spareDone (s : State) (n : Nat) (x : Steer) : State :=
  let s := (s.set (Reg.LANE_SPARE_STATUS_IN_USE n) (b2n (!x.reverse))).set (Reg.LANE_SPARE_STATUS_IN_USE_FOR n) (if x.reverse then 0 else x.lane)
  let s := if x.reverse then s else s.bump Reg.n_spares_substituted
  (s.spareIdle n).raise EV_lane_spare_steered n [x.lane, b2n x.pair, b2n x.byJig]

/-- SPARE_CHANGEOVER (R46 step 3, R47): at most 2 codewords are lost; on a lane without traffic the steering is complete. -/
def State.spareOver (s : State) (n unc : Nat) : State :=
  match s.steer n with
  | some x =>
    if s.spareState n = 1 ∧ x.loaded then
      if s.laneBusy n x.lane then
        let p := s.lanePort n x.lane
        let c := min 2 unc
        let s := if s.octRole n = 2 then s else (s.bump (Reg.n_fec_uncorrected_cw p) c).bump (Reg.n_spare_switch_loss p) c
        s.set (Reg.LANE_SPARE_STATUS_STATE n) 2
      else s.spareDone n x
    else s
  | none => s

/-- A steering whose verification failed is reversed; slice 8 powers off, or stays in use where a REVERT failed. -/
def State.spareFail (s : State) (n : Nat) (x : Steer) (symbols : Nat) : State :=
  (s.spareIdle n).raise EV_lane_spare_failed n [x.lane, symbols]

/-- SPARE_VERIFY_END (R46 steps 4 and 5). -/
def State.spareVerified (s : State) (n : Nat) (good : Bool) (symbols : Nat) : State :=
  match s.steer n with
  | some x => if s.spareState n = 2 then (if good then s.spareDone n x else s.spareFail n x symbols) else s
  | none => s

/-- SPARE_REVERT (R48). -/
def State.spareRevert (s : State) (n : Nat) : State :=
  let k := s.get (Reg.LANE_SPARE_STATUS_IN_USE_FOR n)
  if s.spareState n = 3 ∧ !bit (s.get (Reg.LANE_SPARE_STATUS_RETIRED n)) k then
    let x : Steer := { lane := k, pair := s.on (Reg.LANE_SPARE_CTRL_PAIR_MODE n), byJig := false, reverse := true, loaded := false, good := 0,
                       answer := false, acked := true }
    ((s.setSteer n x).set (Reg.LANE_SPARE_CTRL_REVERT n) 1).set (Reg.LANE_SPARE_STATUS_STATE n) 1
  else s.set (Reg.LANE_SPARE_STATUS_REFUSED n) 1

/-! ## Roles (R35, R36) -/

/-- Every port of an octet's role goes down (R36). -/
def State.rolePortsDown (s : State) (n : Nat) : State :=
  match s.octRole n with
  | 1 => (List.range 8).foldl (fun (s : State) k => s.portDown (8 * n + k) none) s
  | 2 => (s.surprise (2 * n)).surprise (2 * n + 1)
  | 3 => (s.casLost (n - 56) 1).casStep (n - 56) 0
  | _ => s

/-- An octet whose role has taken effect starts its ports. -/
def State.rolePortsUp (s : State) (n : Nat) : State := s.octWake n

/-- The fields of LANE_OCT_CFG as a write leaves them; APPLY reads 0 (R54). -/
def State.octCfg (s : State) (n w : Nat) : State :=
  (((s.set (Reg.LANE_OCT_CFG_REFCLK_SEL n) (bits w 8 8)).set (Reg.LANE_OCT_CFG_ETH_MODE n) (bits w 5 4)).set
    (Reg.LANE_OCT_CFG_HOST_SPLIT n) (bits w 2 2)).set (Reg.LANE_OCT_CFG_ROLE n) (bits w 1 0)

/-- A refused APPLY: the old role stays in force (R36). -/
def State.roleRefuse (s : State) (n role : Nat) (busy : Bool) : State :=
  (s.set (Reg.LANE_OCT_STATUS_ROLE_REFUSED n) 1).raise EV_lane_role_refused n [role, b2n (!busy)]

/-- An APPLY that is taken: the old role's ports go down, a steering is abandoned, and the octet is reinitialised for the new role (R36). -/
def State.roleTake (s : State) (n w : Nat) : State :=
  let role := bits w 1 0
  let old := s.octRole n
  let s := (s.rolePortsDown n).spareAbandon n
  let s := { s with lane := { s.lane with plan := mput s.lane.plan n { mode := bits w 5 4, split := bit w 2, sris := bit w 8 },
                                          apply := mput s.lane.apply n old } }
  let s := ((s.set (Reg.LANE_OCT_STATUS_ROLE_ACTIVE n) role).set (Reg.LANE_OCT_STATUS_PLL_LOCK n) 0).set (Reg.LANE_OCT_STATUS_APPLY_BUSY n) 1
  let s := (s.setReady (128 + n) false).setDom (octDom n) (if role = 0 then 3 else 0)
  if role = 2 then (s.portFresh (2 * n)).portFresh (2 * n + 1) else s

/-- A write of LANE_OCT_CFG (R36). -/
def State.roleApply (s : State) (n w : Nat) : State :=
  let s := s.octCfg n w
  if !bit w 31 then s
  else
    let busy := s.on (Reg.LANE_OCT_STATUS_APPLY_BUSY n)
    if busy || !rolePermitted n (bits w 1 0) then s.roleRefuse n (bits w 1 0) busy else s.roleTake n w

/-- ROLE_APPLY_DONE (R36). -/
def State.roleDone (s : State) (n : Nat) : State :=
  match mget s.lane.apply n with
  | none => s
  | some old =>
    let role := s.octRole n
    let s := { s with lane := { s.lane with apply := mdel s.lane.apply n } }
    let lost := (role = 1 ∨ role = 3) ∧ s.lane.refLost.contains (n / 4)
    let s := (s.set (Reg.LANE_OCT_STATUS_APPLY_BUSY n) 0).set (Reg.LANE_OCT_STATUS_PLL_LOCK n) (b2n (decide (role ≠ 0) && !decide lost))
    let s := (s.setReady (128 + n) true).raise EV_lane_role_applied n [old, role, (s.octPlan n).mode, b2n (s.octPlan n).split]
    s.rolePortsUp n

/-! ## Network ports (R42, R43) -/

/-- A write of LANE_PORT_CTRL. -/
def State.portCtrl (s : State) (p w : Nat) : State :=
  let was := s.on (Reg.LANE_PORT_CTRL_ADMIN_UP p)
  let s := (s.set (Reg.LANE_PORT_CTRL_MAX_FRAME p) (bits w 29 16)).set (Reg.LANE_PORT_CTRL_LOOPBACK p) (bits w 4 3)
  let s := ((s.set (Reg.LANE_PORT_CTRL_ADMIN_UP p) (bits w 2 2)).set (Reg.LANE_PORT_CTRL_TRAIN_EN p) (bits w 1 1)).set
    (Reg.LANE_PORT_CTRL_AN_EN p) (bits w 0 0)
  if !was && bit w 2 then s.portBegin p
  else if was && !bit w 2 && decide (s.octRole (p / 8) = 1) then s.portDown p none
  else s

/-- Step 2 is done. -/
def State.anDone (s : State) (p : Nat) : State :=
  if s.portStep p = 2 then (s.set (Reg.LANE_PORT_STATUS_AN_DONE p) 1).setPortStep p (if s.on (Reg.LANE_PORT_CTRL_TRAIN_EN p) then 3 else 4) else s

/-- Step 3 is done. -/
def State.trained (s : State) (p : Nat) : State :=
  if s.portStep p = 3 then (s.set (Reg.LANE_PORT_STATUS_TRAINED p) 1).setPortStep p 4 else s

/-- Steps 4 and 5 are done: the link is up. -/
def State.fecLock (s : State) (p : Nat) : State :=
  if s.portStep p = 4 then
    let s := ((s.set (Reg.LANE_PORT_STATUS_FEC_LOCK p) 1).setPortUp p true).setPortStep p 5
    (s.raise EV_lane_link_up (p / 8) [p]).egressEvent p true
  else s

/-- LAST_FAIL of a step that passed its bound (R42). -/
def failCode (step : Nat) : Nat := if step = 1 then 7 else if step = 2 then 1 else if step = 3 then 2 else 6

/-- The step a port waits in: step 1 while it is to come up and the octet's PLLs are not locked. -/
def State.stepNow (s : State) (p : Nat) : Nat :=
  if s.portStep p = 0 ∧ s.netPort p ∧ s.on (Reg.LANE_PORT_CTRL_ADMIN_UP p) ∧ !s.on (Reg.LANE_OCT_STATUS_PLL_LOCK (p / 8)) then 1 else s.portStep p

/-- BRINGUP_STEP_TIMEOUT: the failure is recorded, and bring-up starts again at step 2. -/
def State.stepTimeout (s : State) (p : Nat) : State :=
  let st := s.stepNow p
  if st = 0 ∨ st = 5 then s
  else
    let s := (s.set (Reg.LANE_PORT_STATUS_LAST_FAIL p) (failCode st)).raise EV_lane_train_fail (p / 8) [p, st]
    if st = 1 then s else (s.setPortStep p 0).portBegin p

/-- LINK_ALIGNMENT_LOSS: alignment lost, or a remote fault of 1 ms (R43). -/
def State.alignLoss (s : State) (p : Nat) (remote : Bool) : State :=
  if s.netPort p && s.portUp p then (s.portDown p (some (if remote then 4 else 3))).portBegin p else s

/-- SIGNAL_DETECT_CHANGE (R44, R423). -/
def State.signalDetect (s : State) (n k : Nat) (up : Bool) : State :=
  if s.octRole n = 0 then s
  else
    let f := Reg.LANE_OCT_STATUS_SIGNAL_DETECT n
    let s := s.set f (putBits (s.get f) k k (b2n up))
    if up && bit (s.get Reg.LANE_WAKE_MASK_OCT_WAKE) n && (!decide (s.devState = 3) || decide (k = 0)) then s.pwrWake 0 none else s

/-! ## Received frames (R40, R49) -/

/-- EtherType of a frame, behind one tag where it carries one. -/
def etherType (f : List Byte) : Nat := if beAt f 12 2 = 0x8100 then beAt f 16 2 else beAt f 12 2

/-- A timestamp of now with a port's correction; the sixteenths it drops are free (R49). -/
def State.stamp (s : State) (p : Nat) : Nat × State :=
  let (f, s) := s.free 4
  (ofSigned 64 ((s.now : Int) + (toSigned 16 (s.get (Reg.LANE_PTP_CTRL_ASYM p)) + f) / 16), s)

/-- The receive timestamp of a frame, where the port takes one (R49). -/
def State.rxStamp (s : State) (p : Nat) : Option Nat × State :=
  if s.on (Reg.LANE_PTP_CTRL_RX_TS_EN p) then (some (s.stamp p).1, (s.stamp p).2.bump (Reg.n_ptp_rx_ts p)) else (none, s)

/-- A frame passed on from a port, with its timestamp: leaves, and its octet's ingress queue. -/
def State.rxQueue (s : State) (p : Nat) (ts : Option Nat) (f : List Byte) : State :=
  match s.allocDie ingressOwner s.now (f.take (f.length - 4)) with
  | none => s.bump Reg.n_ingress_no_leaf
  | some (q, s) =>
    s.arrive (p / 8) { quire := q, kind := 0, port := p, drawer := 0, gen := 0, src := 0, rxTime := ts, ref := none, tsReq := false, tmpl := 0,
                       casc := none, pre := [], skip := 0 }

/-- A frame passed on from a port. -/
def State.rxPass (s : State) (p : Nat) (f : List Byte) : State :=
  let x := ((s.bump (Reg.n_rx_frames p)).bump (Reg.n_rx_bytes p) f.length).rxStamp p
  x.2.rxQueue p x.1 f

/-- Does a frame end with its own FCS (R39)? -/
def fcsOk (f : List Byte) : Bool :=
  decide (4 ≤ f.length) && decide (leNat (f.drop (f.length - 4)) = (crc32 (f.take (f.length - 4))).toNat)

/-- NET_FRAME_RX: `f` holds the frame with its FCS, `bad` says that a codeword under it could not be corrected (R41). -/
def State.netRx (s : State) (p : Nat) (f : List Byte) (bad : Bool) : State :=
  if !s.netPort p || !s.portUp p then s
  else if s.pwr.closed then s.bump Reg.n_deep_ingress_drop
  else if bad || !fcsOk f then s.bump (Reg.n_rx_fcs_error p)
  else if f.length < 64 then s.bump (Reg.n_rx_runt p)
  else if s.maxFrame p < f.length then s.bump (Reg.n_rx_oversize p)
  else if etherType f = 0x8808 then s.bump (Reg.n_rx_mac_control p)
  else if etherType f = 0x88B5 then { s with lane := { s.lane with spineRx := s.lane.spineRx ++ [f.take (f.length - 4)] } }
  else s.rxPass p f

/-! ## FEC (R41) -/

/-- A lane's declaration as degraded set or cleared. -/
def State.degrade (s : State) (n k symbols : Nat) (on : Bool) : State :=
  let p := s.lanePort n k
  let f := Reg.LANE_PORT_STATUS_DEGRADED_LANES p
  let s := s.set f (putBits (s.get f) k k (b2n on))
  let s := s.set (Reg.LANE_PORT_STATUS_FEC_DEGRADED p) (b2n (!decide (s.get f = 0)))
  let s := s.raise EV_lane_fec_degrade n [k, symbols, b2n on]
  if on && s.on (Reg.LANE_SPARE_STATUS_IN_USE n) then
    s.raise EV_lane_spare_exhausted n [k, s.get (Reg.LANE_SPARE_STATUS_IN_USE_FOR n)]
  else s

/-- FEC_WINDOW_END for one working link: symbols and codewords corrected, and codewords that could not be. -/
def State.fecWindow (s : State) (link symbols corr unc : Nat) : State :=
  let n := link / 8
  let k := link % 8
  let p := s.lanePort n k
  if s.octRole n ≠ 1 ∧ s.octRole n ≠ 3 then s
  else
    let s := ((s.bump (Reg.n_fec_corrected_symbols p) symbols).bump (Reg.n_fec_corrected_cw p) corr).bump (Reg.n_fec_uncorrected_cw p) unc
    let thr := s.get Reg.LANE_FEC_DEGRADE_THR_SYMBOLS
    let win := max 1 (s.get Reg.LANE_FEC_DEGRADE_THR_WINDOWS)
    let o := if thr < symbols then mgetD s.lane.overRun link 0 + 1 else 0
    let u := if symbols < thr then mgetD s.lane.underRun link 0 + 1 else 0
    let s := { s with lane := { s.lane with overRun := mputD s.lane.overRun link (min o win) 0, underRun := mputD s.lane.underRun link (min u win) 0 } }
    let is := bit (s.get (Reg.LANE_PORT_STATUS_DEGRADED_LANES p)) k
    if win ≤ o ∧ !is then s.degrade n k symbols true
    else if win ≤ u ∧ is then s.degrade n k symbols false
    else s

/-! ## Device time and references (R51, R544) -/

/-- A write of LANE_TOD_CTRL: STEP_GO is judged against SRC as the write leaves it. -/
def State.todCtrl (s : State) (w : Nat) : State :=
  let s := s.set Reg.LANE_TOD_CTRL_SRC (bits w 0 0)
  if !bit w 1 then s
  else if s.follows then s.bump Reg.n_tod_write_ignored
  else
    let s := s.timeMove (toSigned 64 (s.get Reg.LANE_TOD_STEP_STEP))
    { s with lane := { s.lane with todSet := true } }

/-- A write of LANE_TOD_RATE. -/
def State.todRate (s : State) (w : Nat) : State :=
  if s.follows then s.bump Reg.n_tod_write_ignored else s.set Reg.LANE_TOD_RATE_RATE w

/-- Octets of a network reference with a role that uses it. -/
def State.refOctets (s : State) (m : Nat) : List Nat :=
  ((List.range 4).map (fun i => 4 * m + i)).filter (fun n => decide (s.octRole n = 1) || decide (s.octRole n = 3))

/-- NET_REFCLK_RETURN (R544). -/
def State.netRefBack (s : State) (m : Nat) : State :=
  let s := { s with lane := { s.lane with refLost := s.lane.refLost.filter (fun x => !decide (x = m)) } }
  (s.refOctets m).foldl (fun (s : State) n =>
    if s.on (Reg.LANE_OCT_STATUS_APPLY_BUSY n) then s else (s.set (Reg.LANE_OCT_STATUS_PLL_LOCK n) 1).octWake n) s

def execRoleApply (n w : Nat) (s : State) : Host.Outcome State Fault Refusal := s.write (s.roleApply n w)
def execRoleApplyDone (n : Nat) (s : State) : Host.Outcome State Fault Refusal := s.run (s.roleDone n)
def execPortAdminUp (p w : Nat) (s : State) : Host.Outcome State Fault Refusal := s.write (s.portCtrl p w)
def execAutonegDone (p : Nat) (s : State) : Host.Outcome State Fault Refusal := s.run (s.anDone p)
def execLinkTrainingDone (p : Nat) (s : State) : Host.Outcome State Fault Refusal := s.run (s.trained p)
def execFecLock (p : Nat) (s : State) : Host.Outcome State Fault Refusal := s.run (s.fecLock p)
def execBringupStepTimeout (p : Nat) (s : State) : Host.Outcome State Fault Refusal := s.run (s.stepTimeout p)
def execLinkAlignmentLoss (p : Nat) (remote : Bool) (s : State) : Host.Outcome State Fault Refusal := s.run (s.alignLoss p remote)
def execSignalDetectChange (n k : Nat) (up : Bool) (s : State) : Host.Outcome State Fault Refusal := s.always (s.signalDetect n k up)
def execNetFrameRx (p : Nat) (frame : List Byte) (bad : Bool) (s : State) : Host.Outcome State Fault Refusal := s.run (s.netRx p frame bad)
def execFecWindowEnd (link symbols corr unc : Nat) (s : State) : Host.Outcome State Fault Refusal := s.run (s.fecWindow link symbols corr unc)
def execSpareSteerGo (n w : Nat) (s : State) : Host.Outcome State Fault Refusal := s.write (s.opSpareCtrl n w)
def execSpareAdaptConverged (n : Nat) (s : State) : Host.Outcome State Fault Refusal := s.run (s.spareConverged n)
def execSpareChangeover (n unc : Nat) (s : State) : Host.Outcome State Fault Refusal := s.run (s.spareOver n unc)
def execSpareVerifyEnd (n : Nat) (good : Bool) (symbols : Nat) (s : State) : Host.Outcome State Fault Refusal := s.run (s.spareVerified n good symbols)
def execSpareRevert (n : Nat) (s : State) : Host.Outcome State Fault Refusal := s.write (s.spareRevert n)
def execTodStepGo (w : Nat) (s : State) : Host.Outcome State Fault Refusal := s.write (s.todCtrl w)
def execTodRateWrite (w : Nat) (s : State) : Host.Outcome State Fault Refusal := s.write (s.todRate w)
def execNetRefclkReturn (m : Nat) (s : State) : Host.Outcome State Fault Refusal := s.run (s.netRefBack m)

end Sys2Proof.Machine
end

