-- ==== Sys2Proof/Machine/Cas.lean ====
section
/-! DEFINITION. Commands of the cascade engine (R390–R413). Remote requests, which reach the register space, stand in Paths. -/

namespace Sys2Proof.Machine

/-- CAS_TRAINING_DONE: step 2 of R391. -/
def State.casTrained (s : State) (l : Nat) : State := if (s.casLink l).step = 2 then s.casStep l 3 else s
/-- CAS_PCS_LOCK: step 3. -/
def State.casLocked (s : State) (l : Nat) : State := if (s.casLink l).step = 3 then s.casStep l 4 else s
/-- FLIT_ALIGNED: step 4. -/
def State.casAligned (s : State) (l : Nat) : State := if (s.casLink l).step = 4 then s.casStep l 5 else s

def execCasTrainingDone (l : Nat) (s : State) : Host.Outcome State Fault Refusal := s.run (s.casTrained l)
def execCasPcsLock (l : Nat) (s : State) : Host.Outcome State Fault Refusal := s.run (s.casLocked l)
def execFlitAligned (l : Nat) (s : State) : Host.Outcome State Fault Refusal := s.run (s.casAligned l)
def execHelloDone (l : Nat) (s : State) : Host.Outcome State Fault Refusal := s.run (s.casHello l)
def execCasStepTimeout (l : Nat) (s : State) : Host.Outcome State Fault Refusal := s.run (s.casStepFail l)

/-- An IDLE flit carries its acknowledgement only. -/
def State.idleFlit (s : State) (l : Nat) (f : List Byte) : State := s.flitIn l 0 f (fun s => s)
/-- A DATA flit; while admission is closed its frames are dropped (R420). -/
def State.dataFlit (s : State) (l : Nat) (f : List Byte) : State :=
  s.flitIn l 1 f (fun s => if s.pwr.closed then s.bump Reg.n_deep_ingress_drop else s.casData l f)
/-- A HEARTBEAT flit. -/
def State.beatFlit (s : State) (l : Nat) (f : List Byte) : State := s.flitIn l 2 f (·.beatIn l f)
/-- LOSS_HB µs without a heartbeat, and the loss of codeword lock. -/
def State.beatLoss (s : State) (l : Nat) : State := if s.casUp l then s.casLost l 2 else s

def execIdleFlit (l : Nat) (flit : List Byte) (s : State) : Host.Outcome State Fault Refusal := s.run (s.idleFlit l flit)
def execDataFlit (l : Nat) (flit : List Byte) (s : State) : Host.Outcome State Fault Refusal := s.run (s.dataFlit l flit)
def execHeartbeatFlit (l : Nat) (flit : List Byte) (s : State) : Host.Outcome State Fault Refusal := s.run (s.beatFlit l flit)
def execHeartbeatSend (l : Nat) (s : State) : Host.Outcome State Fault Refusal := s.run (s.beatOut l)
def execHeartbeatLoss (l : Nat) (s : State) : Host.Outcome State Fault Refusal := s.run (s.beatLoss l)
def execCasLockLoss (l : Nat) (s : State) : Host.Outcome State Fault Refusal := s.run (s.casLost l 1)

/-! ## Pair replacement (R395) -/

/-- The peer's request is answered: ACK, and the same in the own direction, or NAK. -/
def State.spareAnswer (s : State) (l k : Nat) (ok : Bool) : State :=
  if ok then
    let x : Steer := { lane := k, pair := true, byJig := false, reverse := false, loaded := false, good := 0, answer := true, acked := true }
    ((s.setSteer (56 + l) x).set (Reg.LANE_SPARE_STATUS_STATE (56 + l)) 1).casSend l 4 (spareBody 2 k 0) 0
  else s.casSend l 4 (spareBody 3 k 0) 0

/-- REQ: accepted while the octet's controller is IDLE and slice 8 free. Of two ends that ask at once the lower device ID proceeds. -/
def State.spareReq (s : State) (l : Nat) (f : List Byte) : State :=
  s.flitIn l 4 f (fun s =>
    let k := beAt f 5 1
    if !decide (beAt f 4 1 = 1) || decide (7 < k) then s
    else match s.steer (56 + l) with
      | some x =>
        if x.pair && !x.answer && !x.acked && !x.reverse then
          if s.devId < s.get (Reg.CAS_LINK_STATUS_PEER_ID l) then s else s.spareAnswer l k true
        else s.spareAnswer l k false
      | none => s.spareAnswer l k (decide (s.spareState (56 + l) = 0)))

/-- The initiator's own steering, if it waits for the peer. -/
def State.spareAsked (s : State) (l : Nat) (f : List Byte) : Option Steer :=
  match s.steer (56 + l) with
  | some x => if x.pair && !x.answer && !x.acked && decide (x.lane = beAt f 5 1) then some x else none
  | none => none

/-- ACK. -/
def State.spareAck (s : State) (l : Nat) (f : List Byte) : State :=
  s.flitIn l 4 f (fun s => if beAt f 4 1 ≠ 2 then s else match s.spareAsked l f with
    | some x => s.setSteer (56 + l) { x with acked := true }
    | none => s)

/-- NAK: the initiator's steering ends as a failed verification. -/
def State.spareNak (s : State) (l : Nat) (f : List Byte) : State :=
  s.flitIn l 4 f (fun s => if beAt f 4 1 ≠ 3 then s else match s.spareAsked l f with
    | some x => s.spareFail (56 + l) x 0
    | none => s)

/-- GO: the answering end changes over after the flit it names. -/
def State.spareGoIn (s : State) (l : Nat) (f : List Byte) : State :=
  s.flitIn l 4 f (fun s => if beAt f 4 1 ≠ 4 then s else match s.steer (56 + l) with
    | some x => if x.pair && x.answer && decide (x.lane = beAt f 5 1) then s.setSteer (56 + l) { x with loaded := true } else s
    | none => s)

def execSpareReq (l : Nat) (flit : List Byte) (s : State) : Host.Outcome State Fault Refusal := s.run (s.spareReq l flit)
def execSpareAck (l : Nat) (flit : List Byte) (s : State) : Host.Outcome State Fault Refusal := s.run (s.spareAck l flit)
def execSpareNak (l : Nat) (flit : List Byte) (s : State) : Host.Outcome State Fault Refusal := s.run (s.spareNak l flit)
def execSpareGo (l : Nat) (flit : List Byte) (s : State) : Host.Outcome State Fault Refusal := s.run (s.spareGoIn l flit)

/-! ## Routes and the stack (R403, R406, R410) -/

/-- ALT_HOLD_EXPIRE. -/
def State.altExpire (s : State) (x : Nat) : State := s.set (Reg.CAS_ROUTE_USE_ALT x) 0

def execAltHoldExpire (x : Nat) (s : State) : Host.Outcome State Fault Refusal := s.run (s.altExpire x)

/-- The fields of CAS_REMOTE_CTRL that a write sets, and the next TAG. -/
def State.remoteFields (s : State) (w : Nat) : State :=
  let s := (s.set Reg.CAS_REMOTE_CTRL_WRITE (bits w 30 30)).set Reg.CAS_REMOTE_CTRL_SIZE8 (bits w 29 29)
  let s := (s.set Reg.CAS_REMOTE_CTRL_SPACE (bits w 28 28)).set Reg.CAS_REMOTE_CTRL_TARGET (bits w 15 0)
  if bit w 31 then { s with cas := { s.cas with tag := (s.cas.tag + 1) % 2 ^ 16 } } else s

/-- The request that a write describes is sent on link `l` with the TAG drawn, and is outstanding (R406). -/
def State.remoteSend (s : State) (w l : Nat) : State :=
  let tag := s.cas.tag
  let s := { s with cas := { s.cas with remote := some tag } }
  let s := s.set Reg.CAS_REMOTE_CTRL_GO 1
  let data := if bit w 30 then s.get Reg.CAS_REMOTE_DATA_DATA else 0
  let b := beBytes 1 (if bit w 30 then 2 else 1) ++ beBytes 1 (bits w 29 29 + 2 * bits w 28 28) ++ beBytes 2 tag ++
    beBytes 2 s.devId ++ beBytes 2 (bits w 15 0) ++ [0, 0, 0, 0] ++ beBytes 8 (s.get Reg.CAS_REMOTE_ADDR_ADDR) ++
    (if bit w 29 then beBytes 8 data else beBytes 8 (data % 2 ^ 32))
  s.casSend l 3 b 0

/-- A write of CAS_REMOTE_CTRL: with GO it sends one request to TARGET, while no access is outstanding (R406, R407). -/
def State.remoteCtrl (s : State) (w : Nat) : State :=
  if s.cas.remote.isSome then s
  else
    let s := s.remoteFields w
    if !bit w 31 then s
    else match (List.range 8).find? (fun l => s.casUp l && decide (s.get (Reg.CAS_LINK_STATUS_PEER_ID l) = bits w 15 0)) with
      | none => s.remoteEnd ST_CASC_UNREACHABLE
      | some l => s.remoteSend w l

/-- The register words of the two forms. -/
def goWord (w : Nat) (write : Bool) : Nat := putBits (putBits w 31 31 1) 30 30 (b2n write)

def execRemoteAccessReadGo (w : Nat) (s : State) : Host.Outcome State Fault Refusal := s.write (s.remoteCtrl (goWord w false))
def execRemoteAccessWriteGo (w : Nat) (s : State) : Host.Outcome State Fault Refusal := s.write (s.remoteCtrl (goWord w true))

/-- A response: discarded unless its TAG is the one outstanding and it comes from TARGET (R407). -/
def State.remoteReply (s : State) (l : Nat) (f : List Byte) : State :=
  s.flitIn l 3 f (fun s =>
    if beAt f 4 1 = 3 ∧ s.cas.remote = some (beAt f 6 2) ∧ beAt f 8 2 = s.get Reg.CAS_REMOTE_CTRL_TARGET then
      let s := if s.on Reg.CAS_REMOTE_CTRL_WRITE ∨ beAt f 32 1 ≠ 0 then s
        else s.set Reg.CAS_REMOTE_DATA_DATA (if s.on Reg.CAS_REMOTE_CTRL_SIZE8 then beAt f 24 8 else beAt f 28 4)
      s.remoteEnd (beAt f 32 1)
    else s)

def execRemoteResponse (l : Nat) (flit : List Byte) (s : State) : Host.Outcome State Fault Refusal := s.run (s.remoteReply l flit)
def execRemoteAccessTimeout (s : State) : Host.Outcome State Fault Refusal := s.run s.remoteLost

/-- A write of CAS_DEV_ID: dropped while ENABLE is set (R410). A 1 in ID_REFUSED clears it. -/
def State.devIdWrite (s : State) (v : Nat) : State :=
  let s := if bit v 30 then s.set Reg.CAS_DEV_ID_ID_REFUSED 0 else s
  if s.on Reg.CAS_CFG_ENABLE then
    if bits v 31 31 = s.get Reg.CAS_DEV_ID_ID_VALID ∧ bits v 15 0 = s.devId then s else s.set Reg.CAS_DEV_ID_ID_REFUSED 1
  else ((s.set Reg.CAS_DEV_ID_ID_VALID (bits v 31 31)).set Reg.CAS_DEV_ID_ID (bits v 15 0)).elect

def execCasDevIdWrite (v : Nat) (s : State) : Host.Outcome State Fault Refusal := s.write (s.devIdWrite v)

end Sys2Proof.Machine
end

