-- ==== Sys2Proof/Machine/Cell.lean ====
section
/-! DEFINITION. Commands of the cell buffer (R210–R224). -/

namespace Sys2Proof.Machine

/-- The cell endpoint of a thread's cluster (R220). -/
def cellEp (t : Nat) : Nat := 0x4200 + t / 64

/-- The cell buffer answers a thread: status, pointer word and data words (R220). -/
def State.cellReply (s : State) (t rep st p : Nat) (data : List Nat) : State :=
  s.engineReply t (cellEp t) rep ([st, p] ++ data)

/-- A failed pointer check of a thread's operation is counted, reported and answered (R212). -/
def State.cellBad (s : State) (t rep p check : Nat) : State :=
  (s.badPointer (thrMaster t) p check).cellReply t rep (checkStatus check) p []

/-- Firmware's ALLOC (R220): a quire of `len` bytes, zero until they are written (R204; DEDUCED, log entry 11). -/
def State.opCellAlloc (s : State) (t rep tier len : Nat) : State :=
  let m := thrMaster t
  let data := List.replicate len (0 : Byte)
  match (if tier = 0 then s.allocDie m s.now data else s.allocHbm m s.now data false) with
  | some (p, s) => s.cellReply t rep ST_OK p []
  | none => s.cellReply t rep ST_NO_LEAF 0 []

/-- Firmware's HOLD (R210). -/
def State.opCellHold (s : State) (t rep p : Nat) : State :=
  let c := s.ptrCheck (thrMaster t) p
  if c ≠ 0 then s.cellBad t rep p c
  else
    let (ok, s) := s.hold p (thrMaster t)
    s.cellReply t rep (if ok then ST_OK else ST_REFCNT_FULL) p []

/-- Firmware's RELEASE (R210, R211). -/
def State.opCellRelease (s : State) (t rep p : Nat) : State :=
  let c := s.ptrCheck (thrMaster t) p
  if c ≠ 0 then s.cellBad t rep p c else (s.release p).cellReply t rep ST_OK p []

/-- Check 6 of R212 for an access of `len` bytes at `off` that may reach `top`: a status, or 0. -/
def spanBad (off len top : Nat) : Nat :=
  if top < off + len then ST_BAD_LENGTH
  else if (len = 2 ∨ len = 4 ∨ len = 8) ∧ off % len ≠ 0 then ST_BAD_POINTER
  else if 0 < len ∧ off / 64 ≠ (off + len - 1) / 64 then ST_BAD_POINTER
  else 0

/-- Little-endian words of a byte string, the last filled with zeros. -/
def wordsOf (l : List Byte) : List Nat := (List.range ((l.length + 3) / 4)).map (fun j => leAt l (4 * j) 4)

/-- Firmware's READ (R212, R220). -/
def State.opCellRead (s : State) (t rep p off len : Nat) : State :=
  let c := s.ptrCheck (thrMaster t) p
  if c ≠ 0 then s.cellBad t rep p c
  else match s.quire p with
    | none => s
    | some q =>
      let b := spanBad off len q.data.length
      if b ≠ 0 then s.cellReply t rep b p []
      else s.cellReply t rep ST_OK p (wordsOf (slice q.data off len))

/-- Firmware's WRITE (R212, R220). Bytes behind LENGTH stay in the last leaf. -/
def State.opCellWrite (s : State) (t rep p off len : Nat) (data : List Nat) : State :=
  let c := s.ptrCheck (thrMaster t) p
  if c ≠ 0 then s.cellBad t rep p c
  else match s.quire p with
    | none => s
    | some q =>
      let top := 64 * dataLeaves q.data.length
      let b := spanBad off len top
      if b ≠ 0 then s.cellReply t rep b p []
      else if 1 < q.refcnt then (s.bump Reg.n_shared_write_refused).cellReply t rep ST_QUIRE_SHARED p []
      else
        let new := slice ((data.map (leBytes 4)).flatten) 0 len
        let all := overlay (slice (q.data ++ q.tail) 0 top) off new
        let s := s.setQuire p { q with data := all.take q.data.length, tail := all.drop q.data.length }
        s.cellReply t rep ST_OK p []

/-- Firmware's STAT: bytes 0 to 15 of the head (R220). -/
def State.opCellStat (s : State) (t rep p : Nat) : State :=
  let c := s.ptrCheck (thrMaster t) p
  if c ≠ 0 then s.cellBad t rep p c
  else match s.quire p with
    | none => s
    | some q => s.cellReply t rep ST_OK p (wordsOf ((headLeaf q).take 16))

/-- CELL_ALLOC (R220). -/
def execCellAlloc (t rep tier len : Nat) (s : State) : Host.Outcome State Fault Refusal := s.run (s.opCellAlloc t rep tier len)
/-- CELL_HOLD (R210). -/
def execCellHold (t rep p : Nat) (s : State) : Host.Outcome State Fault Refusal := s.run (s.opCellHold t rep p)
/-- CELL_RELEASE (R211). -/
def execCellRelease (t rep p : Nat) (s : State) : Host.Outcome State Fault Refusal := s.run (s.opCellRelease t rep p)
/-- CELL_READ (R212). -/
def execCellRead (t rep p off len : Nat) (s : State) : Host.Outcome State Fault Refusal := s.run (s.opCellRead t rep p off len)
/-- CELL_WRITE (R212). -/
def execCellWrite (t rep p off len : Nat) (data : List Nat) (s : State) : Host.Outcome State Fault Refusal :=
  s.run (s.opCellWrite t rep p off len data)
/-- CELL_STAT (R220). -/
def execCellStat (t rep p : Nat) (s : State) : Host.Outcome State Fault Refusal := s.run (s.opCellStat t rep p)

/-- The copy of a moved quire is written (R218): a dequeue that waits for it goes on. -/
def State.opSpillWritten (s : State) (p : Nat) : State :=
  match s.quire p with
  | none => s
  | some q => s.setQuire p { q with copying := false }

/-- SPILL_COPY_WRITTEN (R218). -/
def execSpillCopyWritten (p : Nat) (s : State) : Host.Outcome State Fault Refusal := s.run (s.opSpillWritten p)

/-- CELL_INSPECT_PTR is written and one leaf is read into the inspection registers (R224). -/
def State.opInspect (s : State) (v : Nat) : State :=
  let s := s.wr Reg.CELL_INSPECT_PTR v
  let c := s.ptrForm v
  let s := if c ≠ 0 then s.badPointer 0 v c else s
  let l := if c ≠ 0 then [] else (s.leafBytes v).getD []
  (List.range 16).foldl (fun (s : State) i => s.wr (Reg.CELL_INSPECT_DATA i) (leAt l (4 * i) 4)) s

/-- CELL_INSPECT (R224). -/
def execCellInspect (v : Nat) (s : State) : Host.Outcome State Fault Refusal := s.write (s.opInspect v)

/-- Leaves reserved by sealed drawers on-die. -/
def State.sealedReserve (s : State) : Nat :=
  (s.drw.shares.map (fun e =>
    if s.sealed e.1 then (e.2.filter (fun h => decide (h.pool = 1))).foldl (fun a h => a + h.dieLeaves) 0 else 0)).foldl (· + ·) 0

/-- CELL_HEADROOM is written, or the write is dropped with HEADROOM_REFUSED (R224). -/
def State.opHeadroom (s : State) (v : Nat) : State :=
  let h := v % 2 ^ 22
  if decide (h < 16384) || decide (524288 < h) || decide (2097152 < h + s.sealedReserve) then
    s.set Reg.CELL_STATUS_HEADROOM_REFUSED 1
  else (s.set Reg.CELL_HEADROOM_HEADROOM h).cellSync

/-- CELL_HEADROOM_WRITE (R224). -/
def execCellHeadroomWrite (v : Nat) (s : State) : Host.Outcome State Fault Refusal := s.write (s.opHeadroom v)

end Sys2Proof.Machine
end

