-- ==== Sys2Proof/Machine/Mem.lean ====
section
/-! DEFINITION. Commands of the memories: bring-up, scrubbing, wear, regions, repair, spares and injection (R375–R389). -/

namespace Sys2Proof.Machine

/-! ## Bring-up (R378) -/

/-- Where a stack's bring-up stands. -/
def State.stackPhase (s : State) (k : Nat) : Nat := mgetD s.mem.phase k 0

/-- The phase of a stack written. -/
def State.setPhase (s : State) (k p : Nat) : State := { s with mem := { s.mem with phase := mput s.mem.phase k p } }

/-- TRAIN reads 1 until every stack that was rerun has ended (R389). -/
def State.trainSync (s : State) : State :=
  if (List.range 4).all (fun k => decide (4 ≤ s.stackPhase k)) then s.set Reg.MEM_HBM_CTRL_TRAIN 0 else s

/-- CLEARING shows a stack in step 4. -/
def State.clearSync (s : State) : State :=
  s.set Reg.MEM_STATUS_CLEARING (b2n ((List.range 4).any (fun k => decide (s.stackPhase k = 3))))

/-- One bit of a field. -/
def State.setBit (s : State) (f : Fld) (i : Nat) (v : Bool) : State := s.set f (putBits (s.get f) i i (b2n v))

/-- Step 2 of a stack has ended. -/
def State.opCalibrated (s : State) (k : Nat) : State := if s.stackPhase k = 1 then s.setPhase k 2 else s

/-- Step 3 of a stack has ended: trained, or failed at a pseudo-channel. `spares` holds the spares that failed. -/
def State.opTrained (s : State) (k : Nat) (ok : Bool) (pc spares : Nat) : State :=
  if s.stackPhase k ≠ 2 then s
  else if ok then
    let s := (List.range 2).foldl (fun (s : State) i => if bit spares i then s.set (Reg.MEM_PC_SPARE_UNUSABLE k i) 1 else s) s
    ((s.setBit Reg.MEM_STATUS_TRAINED k true).setBit Reg.MEM_STATUS_TRAIN_FAIL k false |>.setPhase k 3).clearSync
  else
    let n := mgetD s.mem.tries k 0 + 1
    let s := { s with mem := { s.mem with tries := mputD s.mem.tries k n 0 } }
    if n < 2 then s.setPhase k 1
    else
      let s := ((s.setBit Reg.MEM_STATUS_TRAIN_FAIL k true).setPhase k 5).trainSync
      s.raise EV_mem_train_fail k [k, pc]

/-- Is a byte of a stack cleared by step 4? After a warm reset the colophon is kept (R379). -/
def State.clears (s : State) (k a : Nat) : Bool :=
  isHbm a && decide ((hbmWhere a).1 = k) && (decide (s.mem.cause = 0) || decide (a < coloBase))

/-- Step 5 of R378: HBM_READY, once every stack is cleared and the loader has set the regions, or has found no image (R464). -/
def State.hbmStep5 (s : State) : State :=
  if (List.range 4).all (fun i => decide (s.stackPhase i = 4)) && (decide (s.boot.step = 0) || decide (s.boot.step = 5)) &&
      !s.hbmReady then
    (s.set Reg.MEM_STATUS_HBM_READY 1).raise EV_mem_hbm_ready 0xFFFF [s.mem.cause]
  else s

/-- Step 4 of a stack has ended. -/
def State.opCleared (s : State) (k : Nat) : State :=
  if s.stackPhase k ≠ 3 then s
  else
    let m := s.mem
    let s := { s with mem := { m with
      bytes := m.bytes.filter (fun e => !s.clears k e.1), poison := m.poison.filter (fun w => !s.clears k (32 * w)),
      errs := m.errs.filter (fun e => !s.clears k (32 * e.1)) } }
    (((s.setPhase k 4).setReady (12 + k) true).clearSync).trainSync.hbmStep5

/-- A write of MEM_HBM_CTRL: TRAIN reruns steps 2 to 5 for the stacks that failed. -/
def State.opRetrain (s : State) (v : Nat) : State :=
  let l := (List.range 4).filter (fun k => decide (s.stackPhase k = 5))
  if !bit v 0 || l.isEmpty then s
  else
    l.foldl (fun (s : State) k => { (s.setPhase k 1) with mem := { (s.setPhase k 1).mem with tries := mdel s.mem.tries k } })
      (s.set Reg.MEM_HBM_CTRL_TRAIN 1)

/-- HBM_CALIBRATED (R378). -/
def execHbmCalibrated (stack : Nat) (s : State) : Host.Outcome State Fault Refusal := s.always (s.opCalibrated stack)
/-- HBM_TRAINED (R378). -/
def execHbmTrained (stack : Nat) (ok : Bool) (pc spares : Nat) (s : State) : Host.Outcome State Fault Refusal :=
  s.always (s.opTrained stack ok pc spares)
/-- HBM_CLEARED (R378). -/
def execHbmCleared (stack : Nat) (s : State) : Host.Outcome State Fault Refusal := s.always (s.opCleared stack)
/-- HBM_RETRAIN (R378). -/
def execHbmRetrain (v : Nat) (s : State) : Host.Outcome State Fault Refusal := s.write (s.opRetrain v)

/-! ## Scrubbing and wear (R380–R383) -/

/-- Bad symbols that have come up in a stored word join those it has. -/
def State.arise (s : State) (w : Nat) (bad : List Nat) : State :=
  if bad.isEmpty ∨ s.mem.poison.contains w then s
  else { s with mem := { s.mem with errs := mput s.mem.errs w ((mgetD s.mem.errs w [] ++ bad).eraseDups) } }

/-- The HBM scrubber of a stack reads a word. -/
def State.opHbmScrub (s : State) (a : Nat) (bad : List Nat) : State :=
  if !s.hbmReady then s
  else
    let k := (hbmWhere a).1
    let w := a / 32
    ((s.arise w bad).touchWord w (0x3010 + k)).bump (Reg.n_hbm_scrub_bytes k) 32

/-- A bank's scrubber reads a word. `leaf` names the packet-buffer leaf it lies in, or 0. A parity word in error is counted and
reported; an uncorrectable word of the allocator state halts the device, and one of the jig memory stops the jig (R365, R367). -/
def State.opSramScrub (s : State) (bank off : Nat) (bad : List Nat) (leaf : Nat) : State :=
  if bankCount (bank / 4096) ≤ bank % 4096 then s
  else
    let a := sramAddr bank (off / 32 * 32)
    let w := a / 32
    let m := 0x3020 + bank / 4096
    if isParity bank then
      if bad.isEmpty then s else (s.bump (Reg.n_sram_uncorrectable (bank / 4096))).uncEvent a m 1
    else
      let was := s.mem.poison.contains w
      let s := (s.arise w bad).touchWord w m
      if was || !s.mem.poison.contains w then s
      else
        let s := if bank / 4096 = 1 then s.poisonLeaf leaf else s
        if bank = 0x7005 then s.halt 7 [0x3000 + 6 * 2 ^ 16, 0, off, 0]
        else if bank = 0x7008 then s.set Reg.JIG_STATUS_RUNNING 0
        else s

/-- A wear window ends: counts start again (R383). -/
def State.opWearEnd (s : State) : State :=
  let s := (List.range 4).foldl (fun (s : State) k =>
    (List.range 34).foldl (fun (s : State) c => s.set (Reg.MEM_PC_CE_COUNT k c) 0) s) s
  { s with mem := { s.mem with rows := [], corr := [] } }

/-- HBM_SCRUB (R380): the word at an address, with the bad symbols that have come up in it. -/
def execHbmScrub (a : Nat) (bad : List Nat) (s : State) : Host.Outcome State Fault Refusal := s.run (s.opHbmScrub a bad)
/-- SRAM_SCRUB (R380). -/
def execSramScrub (bank off : Nat) (bad : List Nat) (leaf : Nat) (s : State) : Host.Outcome State Fault Refusal :=
  s.run (s.opSramScrub bank off bad leaf)
/-- WEAR_WINDOW_END (R383). -/
def execWearWindowEnd (s : State) : Host.Outcome State Fault Refusal := s.run s.opWearEnd

/-! ## Regions (R375) -/

/-- Any thread live? -/
def State.anyLive (s : State) : Bool := s.core.threads.any (fun e => !decide (s.thState e.1 = 0))

/-- Is a MEM_REGION_CFG write refused (R375)? -/
def State.regionBad (s : State) (core spill : Nat) : Bool :=
  !s.hbmReady || decide (16 < core) || decide (32 < spill) ||
  (!decide (spill = s.get Reg.MEM_REGION_CFG_SPILL_GIB) &&
    (!s.cell.pages.isEmpty || s.drw.shares.any (fun e => e.2.any (fun h => decide (h.pool = 2))))) ||
  (!decide (core = s.get Reg.MEM_REGION_CFG_CORE_GIB) && (s.anyLive || s.on Reg.ACC_CFG_ENABLE))

/-- The sizes in force, and what follows them: the region bases, the pages of the spill tier and the LEAF_HBM pool (R375). -/
def State.setRegions (s : State) (core spill : Nat) : State :=
  let s := (s.set Reg.MEM_REGION_CFG_CORE_GIB core).set Reg.MEM_REGION_CFG_SPILL_GIB spill
  let s := (s.set (Reg.MEM_REGION_BASE_BASE 4) s.spillBase).set (Reg.MEM_REGION_BASE_BASE 5) s.cacheBase
  let s := s.set Reg.CELL_HBM_PAGES_PAGES (65536 * spill)
  let s := s.set Reg.CELL_HBM_FREE_FREE_PAGES (65536 * spill - s.cell.pages.length)
  (s.set (Reg.DRW_POOL_TOTAL_GRANULES 2) (256 * spill)).hbmSync

/-- A write of MEM_REGION_CFG. -/
def State.opRegion (s : State) (v : Nat) : State :=
  let core := bits v 20 16
  let spill := bits v 13 8
  if s.regionBad core spill then s.set Reg.MEM_STATUS_SIZE_REFUSED 1 else s.setRegions core spill

/-- MEM_REGION_CFG_WRITE (R375). -/
def execMemRegionCfgWrite (v : Nat) (s : State) : Host.Outcome State Fault Refusal := s.write (s.opRegion v)

/-! ## Field spare rows (R384) -/

/-- Field spare rows of a bank in use. -/
def State.spareRows (s : State) (bank : Nat) : List (Nat × Nat × Bool) := mgetD s.mem.subst bank []

/-- The lowest free field spare row of a bank. -/
def State.freeRow (s : State) (bank : Nat) : Option Nat :=
  (List.range 4).find? (fun j => !(s.spareRows bank).any (fun e => decide (e.1 = j)))

/-- Is the repair of a row refused? -/
def State.rowBad (s : State) (bank row : Nat) : Bool :=
  decide (bankCount (bank / 4096) ≤ bank % 4096) || decide (bank / 4096 = 7) || (decide (bank / 4096 = 5) && decide (bank % 2 = 0)) ||
  (s.freeRow bank).isNone || (s.spareRows bank).any (fun e => decide (e.2.1 = row))

/-- A row's four words are copied: correctable ones corrected, the rest poisoned. -/
def State.copyRow (s : State) (bank row : Nat) : State :=
  (List.range 4).foldl (fun (s : State) i => s.touchWord (sramAddr bank (128 * row + 32 * i) / 32) (0x3020 + bank / 4096)) s

/-- A row is substituted. -/
def State.repairRow (s : State) (bank row : Nat) : State :=
  match s.freeRow bank with
  | none => s
  | some j =>
    let s := s.copyRow bank row
    let s := { s with mem := { s.mem with subst := mput s.mem.subst bank (s.spareRows bank ++ [(j, row, false)]) } }
    (s.bump Reg.n_spares_substituted).raise EV_mem_row_repaired bank [bank, row, j]

/-- A write of MEM_ROW_REPAIR. -/
def State.opRowRepair (s : State) (v : Nat) : State :=
  let s := (s.set Reg.MEM_ROW_REPAIR_ROW (bits v 24 16)).set Reg.MEM_ROW_REPAIR_BANK (bits v 15 0)
  if !bit v 31 then s
  else if s.rowBad (bits v 15 0) (bits v 24 16) then s.set Reg.MEM_ROW_STATUS_REFUSED 1
  else s.repairRow (bits v 15 0) (bits v 24 16)

/-- ROW_REPAIR_GO (R384). -/
def execRowRepairGo (v : Nat) (s : State) : Host.Outcome State Fault Refusal := s.write (s.opRowRepair v)

/-! ## Pseudo-channel spares (R385) -/

/-- Is a move of a spare refused? A move to IN_USE needs a MIRROR since power-on; a pseudo-channel is the target of one spare; a
spare that failed training takes no part (R378). -/
def State.spareBad (s : State) (k i st : Nat) : Bool :=
  decide (st = 3) || (!decide (st = 0) && s.on (Reg.MEM_PC_SPARE_UNUSABLE k i)) ||
  (decide (st = 2) && !s.mem.mirrored.contains (2 * k + i)) ||
  (!decide (st = 0) && !decide (s.get (Reg.MEM_PC_SPARE_STATE k (1 - i)) = 0) &&
    decide (s.get (Reg.MEM_PC_SPARE_TARGET k (1 - i)) = s.get (Reg.MEM_PC_SPARE_TARGET k i)))

/-- A spare moves to a state, or the move is refused with STATE_REFUSED. -/
def State.moveSpare (s : State) (k i st : Nat) : State :=
  if st = s.get (Reg.MEM_PC_SPARE_STATE k i) then s
  else if s.spareBad k i st then s.set (Reg.MEM_PC_SPARE_STATE_REFUSED k i) 1
  else
    let s := if st = 1 ∧ !s.mem.mirrored.contains (2 * k + i) then
        { s with mem := { s.mem with mirrored := s.mem.mirrored ++ [2 * k + i] } } else s
    (if st = 2 then s.bump Reg.n_spares_substituted else s).set (Reg.MEM_PC_SPARE_STATE k i) st

/-- A write of MEM_PC_SPARE. -/
def State.opSpare (s : State) (k i v : Nat) : State :=
  let s := if bit v 27 then s.set (Reg.MEM_PC_SPARE_STATE_REFUSED k i) 0 else s
  let s := if s.get (Reg.MEM_PC_SPARE_STATE k i) = 0 then s.set (Reg.MEM_PC_SPARE_TARGET k i) (v % 32) else s
  s.moveSpare k i (bits v 29 28)

/-- PC_SPARE_STATE_WRITE (R385). -/
def execPcSpareStateWrite (stack k v : Nat) (s : State) : Host.Outcome State Fault Refusal := s.write (s.opSpare stack k v)

/-! ## Injection (R386) -/

/-- A write of MEM_INJECT_HIGH. -/
def State.opInjectHigh (s : State) (v : Nat) : State :=
  if bit v 31 && !s.on Reg.DBG_STATUS_UNLOCKED then s.set Reg.MEM_INJECT_HIGH_INJECT_REFUSED 1
  else
    let s := if bit v 30 then s.set Reg.MEM_INJECT_HIGH_INJECT_REFUSED 0 else s
    let s := (s.set Reg.MEM_INJECT_HIGH_SRAM (bits v 29 29)).set Reg.MEM_INJECT_HIGH_SYMBOLS (bits v 25 24)
    let s := s.set Reg.MEM_INJECT_HIGH_ADDR_HIGH (v % 2 ^ 16)
    if bit v 31 then s.set Reg.MEM_INJECT_HIGH_ARM 1 else s

/-- ERROR_INJECT_ARM (R386). -/
def execErrorInjectArm (v : Nat) (s : State) : Host.Outcome State Fault Refusal := s.write (s.opInjectHigh v)

end Sys2Proof.Machine
end

