-- ==== Sys2Proof/Machine/ResetOps.lean ====
section
/-! DEFINITION. Resets of the whole device: what each leaves of the registers and of the rest of the state, the warm reset's
trigger and its clearing, and the safe points at which a power transition gives way (R10, R426, R427, R432, R490, R491, R497). -/

namespace Sys2Proof.Machine

/-! ## Survival classes (R9, R432, R514) -/

/-- A register's word once the fields outside the kept classes have returned to their reset values. -/
def keepWord (keep : List Cls) (r : RegRow) (w : Nat) : Nat :=
  r.fields.foldl (fun (a : Nat) (f : FieldRow) => if keep.contains f.cls then putBits a f.hi f.lo (bits w f.hi f.lo) else a) (resetOf r)

/-- The registers that `inst` names, after an event that keeps only these classes. -/
def State.resetWhere (s : State) (inst : Nat → Bool) (keep : List Cls) : State :=
  { s with regs := s.regs.filterMap (fun e =>
      if inst e.1 then
        match rowAt e.1 with
        | none => none
        | some r => let w := keepWord keep r e.2.toNat
                    if w = resetOf r then none else some (e.1, BitVec.ofNat 32 w)
      else some e) }

/-- Every register, after an event that keeps only these classes. -/
def State.resetRegs (s : State) (keep : List Cls) : State := s.resetWhere (fun _ => true) keep

/-- The readiness map with every bit clear except SPINE (R488). -/
def State.readyClear (s : State) : State :=
  (List.range 8).foldl (fun (s : State) w => s.wr (Reg.GLB_READY w) (if w = 0 then s.rd (Reg.GLB_READY 0) % 2 else 0)) s

/-- Is the SPINE bit set? -/
def State.spineReady (s : State) : Bool := bit (s.rd (Reg.GLB_READY 0)) 0

/-- The device with nothing left but its registers of the kept classes, and the model's own record of what happened. -/
def State.wiped (s : State) (keep : List Cls) : State :=
  { State.reset with
    regs := (s.resetRegs keep).regs, events := s.events, out := s.out, freeCtr := s.freeCtr, todFrac := s.todFrac, pending := s.pending }

/-- The fuse array after a reset or a loss of supply: the record of a burn that ran is void (R449). -/
def State.fusesLeft (s : State) : List FuseRec :=
  match s.jig.burn with
  | some b => s.jig.fuses ++ [{ kind := b.sub.kind, target := b.sub.target, info := b.sub.info, valid := false }]
  | none => s.jig.fuses

/-! ## Power-on (R10, R427) -/

/-- A power-on reset at any moment: only fuses stay, and every transition, reset and halt is overridden (R426, R491, R497). -/
def State.powerOn (s : State) (phase : PowerPhase) : State :=
  let t := s.wiped [.n]
  let t := { t with jig := { t.jig with fuses := s.fusesLeft }, err := { t.err with pinLow := s.err.pinLow }, lane := { t.lane with refLost := s.lane.refLost } }
  { t with pwr := { t.pwr with phase := phase, porLow := s.pwr.porLow }, todFrac := 0 }

/-! ## The loader's start (R469) -/

/-- The loader runs from step 1, with the cause BOOT_STATUS reports. -/
def State.loaderStart (s : State) (cause : Nat) : State :=
  { (s.set Reg.BOOT_STATUS_CAUSE cause) with boot := { s.boot with step := 1, todo := [] } }

/-! ## The warm reset (R490, R491) -/

/-- A host link goes down as the warm reset takes it (R75). -/
def State.hostWarmDown (s : State) (q : Nat) : State :=
  let s := (s.showLink q 0 0 false).set (Reg.HOST_PORT_STATUS_LINK_UP q) 0
  let s := (s.set (Reg.HOST_PORT_STATUS_LAST_DOWN q) 5).bump (Reg.n_host_link_down_count q)
  (s.setLinkPhase q .down).hostEvent q EV_host_link_down [5]

/-- The rails that a transition switched off are on again. -/
def State.railsOn (s : State) : State := s.set Reg.PWR_RAIL_STATUS_EN 0xFFF

/-- Steps 1 and 2: the trigger is taken, links go down and the readiness map clears. -/
def State.warmBegin (s : State) (cause : Nat) : State :=
  let s := s.upHostPorts.foldl (fun (s : State) q => s.hostWarmDown q) s
  let s := (List.range 64).foldl (fun (s : State) n => s.octPark n) s
  { s.readyClear with err := { s.err with phase := .clearing cause, wdtHalt := false } }

/-- Does a transition run whose steps are safe points, or is the device in DEEP (R426)? -/
def State.deepMoves (s : State) : Bool :=
  match s.pwr.trans with
  | some t => decide (3 ≤ t.dst) || decide (t.src = 3)
  | none => decide (s.devState = 3)

/-- A warm reset is triggered: 1 WARM_RST_N, 2 the manager, 3 the device watchdog, 4 the proof watchdog. It joins one that is
under way, waits for the colophon of a halt and for the safe point of a transition; in DEEP it wakes the device (R426, R490, R491). -/
def State.warmTrigger (s : State) (cause : Nat) : State :=
  if s.err.phase ≠ .none ∨ s.pwr.phase ≠ .up then s
  else
    let s := s.set Reg.ERR_STATUS_RESET_CAUSE cause
    let s := if cause = 1 ∧ (s.devState = 2 ∨ s.devState = 3) then s.wakeSeen 7 true else s
    if s.halted && s.on Reg.ERR_COLO_STATUS_WRITING then { s with err := { s.err with phase := .waitHalt cause } }
    else if s.deepMoves then
      let s := { s with err := { s.err with phase := .waitStep cause } }
      if s.pwr.trans.isNone then s.pwrBegin 0 false none else s
    else s.warmBegin cause

/-- What a warm reset leaves of the memories: HBM until the clear of R379 has ended, the poison and errors in it, the
substitutions, and the stacks' training. -/
def State.warmMem (s : State) : MemSt :=
  let m := s.mem
  { State.reset.mem with
    bytes := m.bytes.filter (fun e => isHbm e.1), poison := m.poison.filter (fun w => isHbm (32 * w)),
    errs := m.errs.filter (fun e => isHbm (32 * e.1)), subst := m.subst, mirrored := m.mirrored,
    phase := m.phase.map (fun e => if e.2 = 3 ∨ e.2 = 4 then (e.1, 3) else e), tries := m.tries, cause := 1 }

/-- Step 3: W-, B- and S-class state returns to reset, with what the spine and the flyleaf keep. `pg` is the level of the PG_IN
pins. -/
def State.warmClear (s : State) (pg : Nat) : State :=
  let s := (s.lane.steer.map (·.1)).foldl (fun (s : State) n => s.spareAbandon n) s
  let t := s.wiped [.n, .p]
  let t := { t with
    lane := { t.lane with refLost := s.lane.refLost, todSet := s.lane.todSet }
    mem := s.warmMem
    pwr := { t.pwr with phase := s.pwr.phase, porLow := s.pwr.porLow }
    err := { t.err with dumpSeq := s.err.dumpSeq, dumps := s.err.dumps, half := s.err.half, short := s.err.short,
                        coloEvent := s.err.coloEvent, pinLow := s.err.pinLow }
    jig := { t.jig with fuses := s.fusesLeft, subs := match s.jig.burn with
      | some b => s.jig.subs.map (fun (x : Subst) => if x = b.sub then { x with since := s.now } else x)
      | none => s.jig.subs }
    boot := { t.boot with failEv := s.boot.failEv }
    glb := { t.glb with mgmtUp := s.glb.mgmtUp, i3cAddr := s.glb.i3cAddr }
    host := { t.host with mgrWaits := decide (s.get Reg.HOST_MGR_CFG_MGR_PORT ≠ 0x7F) } }
  let t := ((t.wr (Reg.GLB_READY 0) (b2n s.spineReady)).set Reg.PWR_RAIL_STATUS_PG pg).bump Reg.n_warm_resets
  let t := (List.range 64).foldl (fun (t : State) q =>
    t.set (Reg.HOST_PORT_STATUS_PERST_ASSERTED q) (s.get (Reg.HOST_PORT_STATUS_PERST_ASSERTED q))) t
  let live := fun (f : Nat → Bool) => (List.range 4).foldl (fun a k => a + b2n (f (s.stackPhase k)) * 2 ^ k) 0
  ((t.set Reg.MEM_STATUS_TRAINED (live (fun p => decide (p = 3) || decide (p = 4)))).set Reg.MEM_STATUS_TRAIN_FAIL
    (live (fun p => decide (p = 5)))).clearSync

/-- A value of MGR_PORT that waited takes effect at the reset, with its test put off to the handover (R65). -/
def State.warmMgr (s : State) : State :=
  if s.on Reg.HOST_MGR_CFG_PENDING then
    (s.set Reg.HOST_MGR_CFG_MGR_PORT_ACTIVE 0x7F).set Reg.HOST_MGR_CFG_PENDING 0
  else s

/-- A fresh challenge, and with it the end of the unlock (R503). -/
def State.newChallenge (s : State) : State :=
  (List.range 8).foldl (fun (s : State) w => let (v, s) := s.free 32; s.set (Reg.DBG_CHALLENGE_CHALLENGE w) v) s

/-- Steps 3 to 5 of R490: cleared, then held while WARM_RST_N is low, then the loader. -/
def State.warmCleared (s : State) (pg : Nat) : State :=
  match s.err.phase with
  | .clearing c =>
    let open' := s.on Reg.DBG_STATUS_UNLOCKED
    let s := ((s.warmClear pg).warmMgr).newChallenge
    let s := if open' then s.raise EV_drw_debug_unlock 0xFFFF [1] else s
    if s.err.pinLow then { s with err := { s.err with phase := .waitPin } }
    else s.loaderStart (if 3 ≤ c then 3 else 1)
  | _ => s

/-! ## Safe points (R426, R497) -/

/-- The boundary after step `done` of a transition: what a warm reset or a halt that waits makes of it. None: it goes on. -/
def State.safePoint (s : State) (t : Trans) (done : Nat) : Option State :=
  match s.err.phase with
  | .waitStep c =>
    if 3 ≤ t.dst then some (s.railsOn.warmBegin c)
    else if done = 3 then some (s.warmBegin c)
    else none
  | _ =>
    if !s.halted then none
    else if 3 ≤ t.dst then
      if 5 ≤ done then some (s.pwrBegin 0 false none) else some s.pwrEnd
    else if done = 3 then some ((s.set Reg.PWR_STATUS_DEV_STATE 0).pwrEnd)
    else none

/-- A step of a DEEP or OFF transition: it belongs to the step that runs, it acts, and at its end the transition goes on with
`next` or gives way. -/
def State.stepDone (s : State) (dst step : Nat) (act : State → State) (next : Trans → State → State) : State :=
  match s.pwr.trans with
  | some t =>
    if t.step = step ∧ t.dst = dst ∧ (dst ≠ 0 ∨ t.src = 3) then
      let s := act s
      match s.safePoint t step with
      | some r => r
      | none => next t s
    else s
  | none => s

/-- A step of an entry that serves DEEP and OFF alike (R420, R422). -/
def State.entryStep (s : State) (step : Nat) (act : State → State) (next : Trans → State → State) : State :=
  match s.pwr.trans with
  | some t => s.stepDone (if t.dst = 4 then 4 else 3) step act next
  | none => s

end Sys2Proof.Machine
end

