-- ==== Sys2Proof/Machine/FuseOps.lean ====
section
/-! DEFINITION. The spare fuse array and what its records make of the device at fuse sensing (R448, R449, R514). -/

namespace Sys2Proof.Machine

/-- What a VALID record makes N-class: the ninth lane in use for a retired lane, a spare core, a row, a pseudo-channel (R448). -/
def State.applyFuse (s : State) (r : FuseRec) : State :=
  if !r.valid then s
  else if r.kind = 7 then
    let s := s.set (Reg.LANE_SPARE_STATUS_RETIRED r.target) (putBits (s.get (Reg.LANE_SPARE_STATUS_RETIRED r.target)) r.info r.info 1)
    let s := (s.set (Reg.LANE_SPARE_STATUS_IN_USE r.target) 1).set (Reg.LANE_SPARE_STATUS_IN_USE_FOR r.target) r.info
    s.set (Reg.LANE_SPARE_STATUS_STATE r.target) 3
  else if r.kind = 8 then
    let s := (s.set (Reg.JIG_CORE_SPARE_COMMITTED r.target) 1).set (Reg.JIG_CORE_SPARE_IN_USE r.target) 1
    s.set (Reg.JIG_CORE_SPARE_FOR_CORE r.target) r.info
  else if r.kind = 9 then
    let l := mgetD s.mem.subst r.target []
    let k := r.info / 2 ^ 16
    let l := l.filter (fun e => !decide (e.1 = k)) ++ [(k, r.info % 2 ^ 16, true)]
    { s with mem := { s.mem with subst := mput s.mem.subst r.target l } }
  else
    let s := (s.set (Reg.MEM_PC_SPARE_COMMITTED (r.target / 2) (r.target % 2)) 1).set (Reg.MEM_PC_SPARE_STATE (r.target / 2) (r.target % 2)) 2
    s.set (Reg.MEM_PC_SPARE_TARGET (r.target / 2) (r.target % 2)) r.info

/-- USED and FREE of the array. -/
def State.fuseSync (s : State) : State :=
  (s.set Reg.JIG_FUSE_STATUS_USED s.jig.fuses.length).set Reg.JIG_FUSE_STATUS_FREE (512 - s.jig.fuses.length)

/-- Every record takes effect. -/
def State.applyFuses (s : State) : State := (s.jig.fuses.foldl (fun (s : State) (r : FuseRec) => s.applyFuse r) s).fuseSync

/-- The N-class bits of a register. -/
def State.loadFuse (s : State) (e : Nat × Nat) : State :=
  match rowAt e.1 with
  | none => s
  | some r => s.wr e.1 ((r.fields.filter (fun f => decide (f.cls = .n))).foldl
      (fun (a : Nat) (f : FieldRow) => putBits a f.hi f.lo (bits e.2 f.hi f.lo)) (s.rd e.1))

/-- P-class fields outside the spine's domain return to their reset or fuse values (R431). -/
def State.lostP (s : State) : State :=
  let s := s.resetWhere (fun a => decide (1 ≤ a / 0x100000) && decide (a / 0x100000 ≤ 13)) [.n, .w, .b, .s]
  ({ s with mem := { s.mem with subst := [], mirrored := [] } }).applyFuses

end Sys2Proof.Machine
end

