-- ==== Sys2Proof/Machine/MgmtOps.lean ====
section
/-! DEFINITION. Frames on the management port (R528): which are taken, and the frame of a reply. -/

namespace Sys2Proof.Machine

/-- The body of a frame that the port accepts: EtherType 0x88B5, untagged or with one tag, to its own address or to all (R528). -/
def State.mgmtBody (s : State) (f : List Byte) : Option (List Byte) :=
  let tag := decide (beAt f 12 2 = 0x8100)
  let at' := if tag then 16 else 12
  let dst := beAt f 0 6
  let own := s.rd Reg.GLB_MGMT_MAC + s.rd (Reg.GLB_MGMT_MAC + 4) % 2 ^ 16 * 2 ^ 32
  if decide (beAt f at' 2 = 0x88B5) && (decide (dst = own) || decide (dst = 2 ^ 48 - 1)) then some (f.drop (at' + 2)) else none

/-- Source address of a frame. -/
def frameSource (f : List Byte) : Nat := beAt f 6 6

/-- A body sent on the management port to an address, padded to the Ethernet minimum (R528). -/
def State.mgmtFrame (s : State) (mac : Nat) (body : List Byte) : List Byte :=
  let own := s.rd Reg.GLB_MGMT_MAC + s.rd (Reg.GLB_MGMT_MAC + 4) % 2 ^ 16 * 2 ^ 32
  let f := beBytes 6 mac ++ beBytes 6 own ++ beBytes 2 0x88B5 ++ body
  f ++ List.replicate (60 - f.length) 0

end Sys2Proof.Machine
end

