-- ==== Sys2Proof/Machine/Pwr.lean ====
section
/-! DEFINITION. The commands of power, wake, supplies and clocks (R23, R74, R414–R431, R544). -/

namespace Sys2Proof.Machine

/-! ## Domains (R23, R414, R415, R417) -/

/-- DEV_STATE follows the domains between RUN and IDLE, NCD with it (R414). Single domains never take the device lower. -/
def State.devDerive (s : State) (by' : Nat) : State :=
  if s.pwr.trans.isSome ∨ 2 ≤ s.devState then s
  else
    let tgt := if domains.any (fun d => !decide (d = 6) && decide (s.domState d = 0)) then 0 else 1
    if tgt = s.devState then s
    else
      let t : Trans := { src := s.devState, dst := tgt, step := 0, jig := decide (by' = 1), start := s.now, named := none }
      let s := if tgt = 1 then { s with jig := { s.jig with idleAt := s.now } } else s
      (s.setDom 6 tgt).devStateTo t tgt

/-- CLAMP_REQUEST: a request at the clamp of a domain in SLEEP or OFF waits and wakes it; one in IDLE returns to RUN (R23, R414). -/
def State.clampRequest (s : State) (d : Nat) : State :=
  if !isDom d ∨ s.domState d = 0 ∨ (64 ≤ d ∧ s.octRole (d - 64) = 0) then s
  else (s.withPwr (fun p => { p with clamp := mput p.clamp d (mgetD p.clamp d 0 + 1) })).domWake d

/-- DOMAIN_TRANSITION_DONE (R417). -/
def State.domMoved (s : State) (d : Nat) : State :=
  match mget s.pwr.doms d with
  | none => s
  | some (_, by') => (s.domDone d).devDerive by'

/-- A domain change asked for by the manager (0) or the jig (1): begun, or refused with pwr.refused (R415, R435). -/
def State.domRequest (s : State) (d st by' : Nat) : Bool × State :=
  if s.domAllowed d st then (true, if st = s.domState d then s else s.domBegin d st by')
  else (false, s.raise EV_pwr_refused 0xFFFF [d, 0, by'])

/-- A write of PWR_DOMAIN (R415, R436). -/
def State.domCtrl (s : State) (d w : Nat) : State :=
  if !isDom d then s
  else
    let s := (s.set (Reg.PWR_DOMAIN_JIG_ALLOW d) (bits w 29 29)).set (Reg.PWR_DOMAIN_REQ d) (bits w 25 24)
    let s := if bit w 27 then s.set (Reg.PWR_DOMAIN_REFUSED d) 0 else s
    if !bit w 28 ∨ s.on (Reg.PWR_DOMAIN_GO d) then s
    else match s.domRequest d (bits w 25 24) 0 with
      | (true, t) => if (mget t.pwr.doms d).isSome then t.set (Reg.PWR_DOMAIN_GO d) 1 else t
      | (false, t) => t.set (Reg.PWR_DOMAIN_REFUSED d) 1

def execClampRequest (d : Nat) (s : State) : Host.Outcome State Fault Refusal := s.run (s.clampRequest d)
def execDomainTransitionDone (d : Nat) (s : State) : Host.Outcome State Fault Refusal := s.run (s.domMoved d)
def execDomainStateGo (d w : Nat) (s : State) : Host.Outcome State Fault Refusal := s.write (s.domCtrl d (putBits w 28 28 1))

/-! ## Requests (R415, R416) -/

/-- A write of PWR_STATE_REQ (R416, R436). -/
def State.stateReq (s : State) (w : Nat) : State :=
  let s := s.set Reg.PWR_STATE_REQ_TARGET (bits w 2 0)
  let s := if bit w 30 then s.set Reg.PWR_STATE_REQ_REFUSED 0 else s
  if !bit w 31 then s
  else if 4 < bits w 2 0 then (s.set Reg.PWR_STATE_REQ_REFUSED 1).raise EV_pwr_refused 0xFFFF [bits w 2 0, 0, 0]
  else s.pwrRequest (bits w 2 0) false

def execPwrReqRun (s : State) : Host.Outcome State Fault Refusal := s.write (s.stateReq 0x80000000)
def execPwrReqIdle (s : State) : Host.Outcome State Fault Refusal := s.write (s.stateReq 0x80000001)
def execPwrReqSleep (s : State) : Host.Outcome State Fault Refusal := s.write (s.stateReq 0x80000002)
def execPwrReqDeep (s : State) : Host.Outcome State Fault Refusal := s.write (s.stateReq 0x80000003)
def execPwrReqOff (s : State) : Host.Outcome State Fault Refusal := s.write (s.stateReq 0x80000004)

/-! ## RUN, IDLE and SLEEP (R414, R418, R424) -/

/-- Every domain in a state of the list moves to another; domains in OFF stay. -/
def State.domsTo (s : State) (src : List Nat) (tgt : Nat) : State :=
  domains.foldl (fun (s : State) d => if src.contains (s.domState d) then s.setDom d tgt else s) s

/-- The device is in RUN or IDLE at the end of a transition. -/
def State.arrived (s : State) (t : Trans) (tgt : Nat) : State :=
  let s := if tgt = 1 then { s with jig := { s.jig with idleAt := s.now } } else s
  (s.devStateTo t tgt).pwrEnd

/-- IDLE_TRANSITION_DONE: between RUN and IDLE. -/
def State.idleMoved (s : State) : State :=
  match s.pwr.trans with
  | some t =>
    if t.src = 0 ∧ t.dst = 1 then (s.domsTo [0] 1).arrived t 1
    else if t.src = 1 ∧ t.dst = 0 then (s.domsTo [1] 0).arrived t 0
    else s
  | none => s

/-- SLEEP_ENTRY_DONE: transmitters are parked, and peers see link loss. -/
def State.slept (s : State) : State :=
  match s.pwr.trans with
  | some t =>
    if t.dst = 2 then
      let s := (List.range 64).foldl (fun (s : State) n => s.octPark n) (s.domsTo [0, 1] 2)
      ((s.devStateTo t 2).pwrEnd).pwrEntered
    else s
  | none => s

/-- The domains that a wake frame's DOMAINS names (R424). -/
def namedDomains (m : Nat) : List Nat :=
  let at' := fun (base first n : Nat) => ((List.range n).filter (fun i => bit m (first + i))).map (· + base)
  at' 16 0 16 ++ at' 32 16 24 ++ at' 1 40 5 ++ at' 8 45 4

/-- Octets whose domain returns to RUN bring up their links. -/
def State.octsWake (s : State) : State :=
  (List.range 64).foldl (fun (s : State) n => if s.domState (octDom n) = 0 then s.octWake n else s) s

/-- SLEEP_EXIT_DONE: the device is in RUN and its ports retrain; a wake frame with ACTION 2 returns it to IDLE with NCD, the HBD
domains and the named ones in RUN (R424). -/
def State.woke (s : State) : State :=
  match s.pwr.trans with
  | some t =>
    if t.src ≠ 2 ∨ 2 ≤ t.dst then s
    else match t.named with
      | some m =>
        let s := (6 :: 8 :: 9 :: 10 :: 11 :: namedDomains m).foldl (fun (s : State) d => if s.domState d = 2 then s.setDom d 0 else s) s
        s.arrived t 1
      | none => ((s.domsTo [2] t.dst).octsWake).arrived t t.dst
  | none => s

def execIdleTransitionDone (s : State) : Host.Outcome State Fault Refusal := s.run s.idleMoved
def execSleepEntryDone (s : State) : Host.Outcome State Fault Refusal := s.run s.slept
def execSleepExitDone (s : State) : Host.Outcome State Fault Refusal := s.run s.woke

/-! ## DEEP and OFF entry (R219, R420, R422) -/

/-- May a step of a DEEP or OFF transition end? A halt and a warm reset let it reach its safe point (R426, R497). -/
def State.stepping (s t : State) : Host.Outcome State Fault Refusal :=
  s.always (match s.err.phase with
    | .none => t
    | .waitStep _ => t
    | _ => s)

/-- A quire in the on-die tier moved to the HBM tier under its owner, if a page can be had. -/
def State.movePtr (s : State) (p : Nat) : Nat × State :=
  match s.quire p with
  | none => (p, s)
  | some q =>
    if ptrTier p = 1 then (p, s)
    else match s.moveHbm p q.owner q.profile with
      | some e => e
      | none => (p, s)

/-- The quires a list of unacknowledged packets holds are moved (R221). -/
def moveUnacks : List XUnack → State → List XUnack × State
  | [], s => ([], s)
  | u :: l, s =>
    let (p, s) := s.movePtr u.ptr
    let (l, s) := moveUnacks l s
    ({ u with ptr := p } :: l, s)

/-- Every quire that XPT holds for retransmission moves to the HBM tier, its retransmit lists included (R221). -/
def State.xptMove (s : State) : State :=
  (s.xpt.conns.map (·.1)).foldl (fun (s : State) k =>
    match mget s.xpt.conns k with
    | none => s
    | some c =>
      let (l, s) := moveUnacks c.unacks s
      let (p, s) := match c.list with
        | none => (none, s)
        | some p => let (p, s) := s.movePtr p; (some p, s)
      { s with xpt := { s.xpt with conns := mput s.xpt.conns k { c with unacks := l, list := p } } }) s

/-- The quires that XPT holds for retransmission. -/
def State.xptHolds (s : State) : List Nat :=
  s.xpt.conns.foldl (fun (a : List Nat) (e : Nat × Conn) => a ++ e.2.unacks.map (·.ptr) ++ e.2.list.toList) []

/-- DEEP_DRAIN_DONE: the step ends only once XPT holds no on-die quire. -/
def State.drained (s : State) : State :=
  let t := s.xptMove
  if t.xptHolds.any (fun p => (t.quire p).isSome && decide (ptrTier p = 0)) then t
  else t.entryStep 2 (fun s => s) (fun t s => s.pwrStep t 3)

/-- DEEP_DRAIN_TIMEOUT: the entry is abandoned, admission reopens and the device returns to RUN (R420, R425). -/
def State.drainOver (s : State) : State :=
  match s.pwr.trans with
  | some t =>
    if t.step ≠ 2 ∨ t.dst < 3 then s
    else match s.safePoint t 2 with
      | some r => r.withPwr (fun p => { p with closed := false })
      | none =>
        let s := (s.withPwr (fun p => { p with closed := false })).bump Reg.n_deep_abandoned
        let s := (s.set Reg.PWR_STATUS_WAKE_PENDING 0).pwrEnd
        let s := if t.src = 0 then s else ((s.domsTo [1, 2] 0).octsWake).devStateTo t 0
        s.pwrRefuse t.dst 5 t.jig
  | none => s

/-- Quires held by none but XPT's retransmission in the HBM tier are discarded, with the frames that name them (R221). -/
def State.discardQuires (s : State) : State :=
  let kept := s.xptHolds.filter (fun p => decide (ptrTier p = 1))
  let gone := s.cell.quires.filter (fun e => !kept.contains e.1)
  let leaves := gone.foldl (fun a e => a + (e.2.all e.1).length) 0
  let s := gone.foldl (fun (s : State) e => s.freeQuire e.1) s
  let s := { s with tm := { s.tm with
    queues := s.tm.queues.map (fun e => (e.1, { e.2 with frames := [] })), ingress := [], xptQ := [], coreQ := [] } }
  if gone.isEmpty then s
  else (s.bump Reg.n_deep_discard gone.length).raise EV_cell_deep_discard 0xFFFF [gone.length, leaves]

/-- Every thread stopped, and every message with it (R332). -/
def State.coreLost (s : State) : State :=
  let s := (s.core.threads.map (·.1)).foldl (fun (s : State) t => s.setThState t 0) s
  { s with core := { s.core with threads := [], ends := [], flight := [] } }

/-- Step 3: transmitters parked, threads stopped, quires discarded. -/
def State.parked (s : State) : State :=
  ((List.range 64).foldl (fun (s : State) n => s.octPark n) s).coreLost.discardQuires

/-- Rails that a field of their configuration marks, as a mask. -/
def State.railMask (s : State) (f : Nat → Fld) : Nat := (List.range 12).foldl (fun a i => a + b2n (s.on (f i)) * 2 ^ i) 0

/-- PWR_EN of these rails driven low; their power-good falls. -/
def State.railsOff (s : State) (m : Nat) : State :=
  let keep := fun x => Nat.land x (0xFFF - m)
  (s.set Reg.PWR_RAIL_STATUS_EN (keep (s.get Reg.PWR_RAIL_STATUS_EN))).set Reg.PWR_RAIL_STATUS_PG (keep (s.get Reg.PWR_RAIL_STATUS_PG))

/-- The debug unlock ends (R503). -/
def State.unlockOver (s : State) : State :=
  let s := if s.on Reg.DBG_STATUS_UNLOCKED then s.raise EV_drw_debug_unlock 0xFFFF [1] else s
  let s := (s.set Reg.DBG_STATUS_UNLOCKED 0).set Reg.DRW_STATUS_DEBUG_UNLOCKED 0
  { (s.set Reg.DBG_STATUS_REMAINING_S 0) with err := { s.err with unlockEnd := 0 } }

/-- Step 6: the device is in DEEP. A wake that came during the entry begins the exit at once (R425). -/
def State.deepEntered (t : Trans) (s : State) : State :=
  let s := (((s.domsTo [0, 1, 2] 3).readyClear).bump Reg.n_deep_entries).unlockOver
  let s := s.set Reg.JIG_STATUS_RUNNING 0
  ((s.devStateTo t 3).pwrEnd).pwrEntered

def execDeepAdmissionClosed (s : State) : Host.Outcome State Fault Refusal :=
  s.stepping (s.entryStep 1 (·.withPwr (fun p => { p with closed := true })) (fun t s => s.pwrStep t 2))
def execDeepDrainDone (s : State) : Host.Outcome State Fault Refusal := s.stepping s.drained
def execDeepDrainTimeout (s : State) : Host.Outcome State Fault Refusal := s.stepping s.drainOver
def execDeepParked (s : State) : Host.Outcome State Fault Refusal := s.stepping (s.entryStep 3 (·.parked) (fun t s => s.pwrStep t 4))
def execDeepSaveDone (mib : Nat) (s : State) : Host.Outcome State Fault Refusal :=
  s.stepping (s.stepDone 3 4 (·.set Reg.PWR_FLYLEAF_STATUS_EXTENT_MIB mib) (fun t s => s.pwrStep t 5))
def execDeepSelfRefreshDone (s : State) : Host.Outcome State Fault Refusal :=
  s.stepping (s.stepDone 3 5 (·.set Reg.MEM_STATUS_HBM_READY 0) (fun t s => s.pwrStep t 6))
def execDeepRailsOff (s : State) : Host.Outcome State Fault Refusal :=
  s.stepping (s.stepDone 3 6 (fun s => s.railsOff (s.railMask Reg.PWR_RAIL_CFG_DEEP_OFF)) State.deepEntered)

/-- OFF_ENTRY_DONE: only the wake latch stays powered; nothing is saved (R422). -/
def State.offEntered (s : State) : State :=
  s.stepDone 4 4 (fun s => s) (fun t s =>
    let s := s.devStateTo t 4
    let u := s.powerOn .off
    (u.set Reg.PWR_RAIL_STATUS_EN (0xFFF - s.railMask Reg.PWR_RAIL_CFG_OFF_OFF)).set Reg.PWR_STATUS_DEV_STATE 4)
def execOffEntryDone (s : State) : Host.Outcome State Fault Refusal := s.stepping s.offEntered

/-! ## DEEP exit (R421, R431) -/

/-- Are all PG_IN that are watched high among these levels? -/
def State.pgGood (s : State) (pg : Nat) : Bool :=
  decide (Nat.land (s.railMask Reg.PWR_RAIL_CFG_PG_EN) pg = s.railMask Reg.PWR_RAIL_CFG_PG_EN)

/-- Step 1: every group is on and every watched PG_IN is high. -/
def State.railsGood (s : State) (pg : Nat) : State :=
  if s.pgGood pg then s.stepDone 0 1 (fun s => (s.railsOn).set Reg.PWR_RAIL_STATUS_PG pg) (fun t s => s.pwrStep t 2) else s

/-- HBM is out of self-refresh, and the flyleaf SRAM was read: an uncorrectable word among the P-class copies, or among the W- and
B-class ones (R431). -/
def State.hbmBack (s : State) (badP badW : Bool) : State :=
  let s := s.withPwr (fun p => { p with badP := badP, badW := badW })
  let s := s.set Reg.PWR_FLYLEAF_STATUS_SRAM_OK (b2n (!badP && !badW))
  let s := if badP then s.lostP else s
  let s := { (s.set Reg.MEM_STATUS_HBM_READY 1) with mem := { s.mem with cause := 2 } }
  s.raise EV_mem_hbm_ready 0xFFFF [2]

/-- Step 3. -/
def State.hbmAwake (s : State) (badP badW : Bool) : State := s.stepDone 0 3 (·.hbmBack badP badW) (fun t s => s.pwrStep t 4)

/-- Live values that outlast the reset of the S class at DEEP exit, from the state before it. -/
def State.relive (t s : State) (l : List Fld) : State := l.foldl (fun (t : State) f => t.set f (s.get f)) t

/-- Memory that keeps its contents over DEEP: HBM in self-refresh, and the boot SRAM of the spine (R432). -/
def keepDeep (a : Nat) : Bool := isHbm a || (decide (bootBase ≤ a) && decide (a < bootBase + 2 ^ 20))

/-- S-class state as DEEP leaves it: reset values, with the values of what self-refresh, the pins and the transport engine keep. -/
def State.deepLost (s : State) : State :=
  let t := s.resetRegs [.n, .p, .w, .b]
  let t := t.relive s ([Reg.CELL_HBM_FREE_FREE_PAGES, Reg.CELL_STATUS_HBM_FULL, Reg.XPT_TRACKERS_FREE_K, Reg.MEM_STATUS_HBM_READY,
    Reg.MEM_STATUS_TRAINED, Reg.PWR_RAIL_STATUS_PG, Reg.PWR_RAIL_STATUS_EN, Reg.PWR_STATUS_BUSY, Reg.PWR_STATUS_STEP] ++
    (List.range 64).map Reg.HOST_PORT_STATUS_PERST_ASSERTED ++ (List.range 4096).map Reg.CELL_DRW_HBM_PAGES_PAGES)
  let t := t.relive s ((List.range 12).map (fun i => ⟨Reg.BOOT_DIGEST_DATA i, 31, 0⟩) ++ (List.range 1024).map (fun i => ⟨Reg.BOOT_FLASH_DATA i, 31, 0⟩))
  let t := t.set Reg.PWR_STATUS_DEV_STATE 3
  let t := (List.range 64).foldl (fun (t : State) n => t.set (Reg.LANE_SPARE_STATUS_STATE n) (if t.on (Reg.LANE_SPARE_STATUS_IN_USE n) then 3 else 0)) t
  let t := { t with
    lane := { t.lane with apply := [], step := [], steer := [], overRun := [], underRun := [], spineRx := [] }
    host := { t.host with ports := t.host.ports.map (fun (e : Nat × HostPort) => (e.1, { e.2 with phase := .down, settled := false, cache := [], atsWait := [], invals := [], reads := [], stopped := false, wakePend := none })) }
    prs := { t.prs with phase := .idle }
    tbl := { t.tbl with learnQ := [], sweeps := [], held := [] }
    xpt := { t.xpt with fetching := [], cache := [] }
    cas := State.reset.cas
    mem := { t.mem with
      bytes := t.mem.bytes.filter (fun e => keepDeep e.1), poison := t.mem.poison.filter (fun w => keepDeep (32 * w))
      errs := t.mem.errs.filter (fun e => keepDeep (32 * e.1)) }
    acc := { t.acc with slots := [], waiting := [], granted := [], starved := [] }
    jig := { t.jig with remap := false, testing := [], reserved := 0 }
    boot := { t.boot with update := none, op := none, digest := none, stage := none, burning := none }
    err := { t.err with blk := [] }
    glb := { State.reset.glb with mgmtUp := t.glb.mgmtUp, i3cAddr := t.glb.i3cAddr }
    core := State.reset.core }
  ((t.wr (Reg.GLB_READY 0) (b2n s.spineReady)).slotSync).cellSync

/-- Bits of the readiness map that step 5 sets again (R488). -/
def deepReady : List Nat :=
  [2, 3, 5, 6, 7, 8, 9, 12, 13, 14, 15, 16, 17, 18, 19] ++ (List.range 48).map (· + 32)

/-- Steps 4 and 5: restored, or with the W- and B-class state of a warm reset where a copy is lost; stage 1 starts again from its
kept copy (R421, R431, R472). -/
def State.deepBack (s : State) (t : Trans) (bad : Bool) : State :=
  let lostW := s.pwr.badW || bad
  let lost := b2n s.pwr.badP + 6 * b2n lostW + 8
  let wake := s.get Reg.PWR_STATUS_LAST_DURING_ENTRY
  let held := s.pwr.held
  let boot := s.boot
  let mode := s.rd Reg.BOOT_STATUS
  let s := if s.pwr.badP || lostW then s.bump Reg.n_flyleaf_restore_fail else s
  let s := if lostW then
      let w := s.warmClear (s.get Reg.PWR_RAIL_STATUS_PG)
      let w := w.wr64 Reg.n_warm_resets (s.rd64 Reg.n_warm_resets)
      ((w.warmMgr).withPwr (fun p => { p with held := held })).wr Reg.BOOT_STATUS mode
    else s.deepLost
  let s := { s.newChallenge with boot := { s.boot with front := boot.front, jigMem := boot.jigMem, dir := boot.dir } }
  let s := s.withPwr (fun p => { p with closed := false, badP := false, badW := false })
  let s := if lostW then s else deepReady.foldl (fun (s : State) b => s.setReady b true) s
  let s := (s.set Reg.PWR_STATUS_LOST lost).set Reg.PWR_STATUS_LAST_DURING_ENTRY wake
  let s := (s.pwrEnd).devStateTo t 0
  let s := s.raise EV_pwr_deep_exit 0xFFFF [lost, s.get Reg.PWR_STATUS_LAST_WAKE, wake]
  if s.get Reg.BOOT_STATUS_MODE = 1 then
    let s := if lostW then s else ((s.set Reg.JIG_STATUS_RUNNING 1).setReady 4 true).setReady 1 true
    { (s.set Reg.BOOT_STATUS_CAUSE 2) with boot := { s.boot with step := 5 } }
  else s

/-- The restore of the extent ends. -/
def State.restored (s : State) (bad : Bool) : State :=
  s.stepDone 0 4 (fun s => s.set Reg.PWR_FLYLEAF_STATUS_EXTENT_OK (b2n (!bad))) (fun t s => s.deepBack t bad)

def execDeepExitRailsGood (pg : Nat) (s : State) : Host.Outcome State Fault Refusal := s.stepping (s.railsGood pg)
def execDeepExitPllLock (s : State) : Host.Outcome State Fault Refusal :=
  s.stepping (s.stepDone 0 2 (·.domsTo [3] 0) (fun t s => s.pwrStep t 3))
def execDeepExitHbmReady (badP badW : Bool) (s : State) : Host.Outcome State Fault Refusal := s.stepping (s.hbmAwake badP badW)
def execDeepExitRestoreDone (bad : Bool) (s : State) : Host.Outcome State Fault Refusal := s.stepping (s.restored bad)

/-! ## Wake sources (R74, R423, R424) -/

/-- WAKE_IN_N: a wake, from OFF a power-on, and after three failed attempts another one (R422, R423, R428). -/
def State.wakeIn (s : State) : State :=
  if s.pwr.phase = .off then s.powerOn .supplies
  else if s.pwr.phase = .supplies ∧ 3 ≤ s.pwr.tries then (s.withPwr (fun p => { p with tries := 0 })).railsOn
  else s.pwrWake 3 none

/-- The first check that a wake frame's body fails: 1 magic, 2 target, 3 form, 4 sequence, 5 authentication (R424). -/
def State.wakeCheck (s : State) (b : List Byte) : Option Nat :=
  let any := bit (beAt b 7 1) 0
  let key := (List.range 8).foldl (fun (l : List Byte) k => l ++ leBytes 4 (s.rd (Reg.PWR_WAKE_KEY k))) []
  if beAt b 0 4 ≠ 0x534B5731 then some 1
  else if (if any then !s.on Reg.PWR_WAKE_CFG_ANY_TARGET else !s.on Reg.CAS_DEV_ID_ID_VALID || !decide (beAt b 4 2 = s.devId)) then some 2
  else if (beAt b 6 1 ≠ 1 ∧ beAt b 6 1 ≠ 2) ∨ 2 ≤ beAt b 7 1 ∨ 2 ^ 49 ≤ beAt b 8 8 then some 3
  else if beAt b 16 8 ≤ s.rd64 Reg.PWR_WAKE_SEQ then some 4
  else if s.on Reg.PWR_WAKE_CFG_AUTH_EN && !decide (slice b 24 8 = (hmac sha256 64 key (slice b 0 24)).take 8) then some 5
  else none

/-- A wake frame's body, where the source works and is enabled. -/
def State.wakeBody (s : State) (b : List Byte) : State :=
  match s.wakeCheck b with
  | some why =>
    let s := s.bump Reg.n_wake_frame_refused
    let due := match s.pwr.refAt with
      | none => true
      | some t => decide (1000000 ≤ s.now - t)
    if due then (s.raise EV_pwr_wake_refused 0xFFFF [why]).withPwr (fun p => { p with refAt := some s.now }) else s
  | none =>
    let s := (s.bump Reg.n_wake_frames_rx).wr64 Reg.PWR_WAKE_SEQ (beAt b 16 8)
    let all := decide (beAt b 6 1 = 1)
    let m := beAt b 8 8
    if s.pwr.trans.isSome ∨ 2 ≤ s.devState then s.pwrWake 1 (if all then none else some m)
    else
      let s := s.wakeSeen 1 true
      if all then (if s.devState = 1 then s.pwrBegin 0 false none else s)
      else (namedDomains m).foldl (fun (s : State) d => s.domWake d) s

/-- WAKE_FRAME: on a network port in RUN and IDLE, where the pipeline has handed it to the spine, and on the management port in
SLEEP (R40, R423, R528). -/
def State.wakeFrame (s : State) (mgmt : Bool) (frame : List Byte) : State :=
  let en := bit (s.get Reg.PWR_WAKE_EN_ENABLE) 1
  if mgmt then
    match s.mgmtBody frame with
    | some b => if en && decide (s.devState = 2) then s.wakeBody b else s
    | none => s
  else match s.lane.spineRx with
    | [] => s
    | f :: l =>
      let s := { s with lane := { s.lane with spineRx := l } }
      if en && decide (s.devState ≤ 1) then s.wakeBody (f.drop (if beAt f 12 2 = 0x8100 then 18 else 14)) else s

/-- PERST_RELEASE (R74, R423). -/
def State.perstHigh (s : State) (q : Nat) : State := (s.set (Reg.HOST_PORT_STATUS_PERST_ASSERTED q) 0).pwrWake 2 none

/-- ALARM_REACHED (R423). -/
def State.alarm (s : State) : State := if s.rd64 Reg.PWR_ALARM ≤ s.now then s.pwrWake 6 none else s

/-- MGMT_SIGNAL_DETECT: the receiver wakes the device from DEEP (R423). -/
def State.mgmtSignal (s : State) : State := s.pwrWake 4 none

def execWakeInFall (s : State) : Host.Outcome State Fault Refusal := s.always s.wakeIn
def execWakeFrame (mgmt : Bool) (frame : List Byte) (s : State) : Host.Outcome State Fault Refusal := s.run (s.wakeFrame mgmt frame)
def execPerstRelease (q : Nat) (s : State) : Host.Outcome State Fault Refusal := s.always (s.perstHigh q)
def execAlarmReached (s : State) : Host.Outcome State Fault Refusal := s.always s.alarm
def execMgmtSignalDetect (s : State) : Host.Outcome State Fault Refusal := s.always s.mgmtSignal

/-! ## Cold power-on, supplies and clocks (R427, R428, R544) -/

/-- The power-on phase changes. -/
def State.toPhase (s : State) (p : PowerPhase) : State := s.withPwr (fun x => { x with phase := p })

/-- STANDBY_GOOD: step 1. -/
def State.standbyGood (s : State) : State := if s.pwr.phase = .standby then s.toPhase .supplies else s

/-- SUPPLIES_GOOD: step 2, unless POR_N holds the device or the enables are low. -/
def State.suppliesGood (s : State) (pg : Nat) : State :=
  if s.pwr.phase = .supplies ∧ s.pwr.porLow = false ∧ s.get Reg.PWR_RAIL_STATUS_EN ≠ 0 ∧ s.pgGood pg then
    (s.set Reg.PWR_RAIL_STATUS_PG pg).toPhase .refclk
  else s

/-- A fault of the supplies: counted, ALERT_N asserted, pwr.supply_fault raised (R428, R435). -/
def State.supplyFault (s : State) (i phase : Nat) : State :=
  let s := (s.bump Reg.n_supply_faults).emit (.pin "ALERT_N" false)
  s.raise EV_pwr_supply_fault 0xFFFF [i, bits (s.get Reg.PWR_RAIL_STATUS_PG) i i, phase]

/-- SUPPLY_TIMEOUT: step 2 failed, and every PWR_EN is driven low. -/
def State.supplyLate (s : State) : State :=
  if s.pwr.phase = .supplies ∧ s.get Reg.PWR_RAIL_STATUS_EN ≠ 0 then
    let i := ((List.range 12).find? (fun i => s.on (Reg.PWR_RAIL_CFG_PG_EN i) && !bit (s.get Reg.PWR_RAIL_STATUS_PG) i)).getD 0
    let s := ((s.supplyFault i 0).set Reg.PWR_STATUS_SUPPLY_FAULT 1).set Reg.PWR_RAIL_STATUS_EN 0
    s.withPwr (fun p => { p with tries := p.tries + 1 })
  else s

/-- SUPPLY_RETRY_RELEASE: another attempt, three in all. -/
def State.supplyRetry (s : State) : State :=
  if s.pwr.phase = .supplies ∧ s.get Reg.PWR_RAIL_STATUS_EN = 0 ∧ s.pwr.tries < 3 then s.railsOn else s

/-- A required rail fails in service or at DEEP exit: the device halts (R428, R524). -/
def State.railFail (s : State) (i phase : Nat) : State :=
  let s := s.supplyFault i phase
  s.halt 2 [i + bits (s.get Reg.PWR_RAIL_STATUS_PG) i i * 2 ^ 8 + phase * 2 ^ 16, 0, 0, 0]

/-- PG_IN_FALL, outside a step that switched the rail off. -/
def State.pgFall (s : State) (i : Nat) : State :=
  let was := bit (s.get Reg.PWR_RAIL_STATUS_EN) i
  let s := s.set Reg.PWR_RAIL_STATUS_PG (putBits (s.get Reg.PWR_RAIL_STATUS_PG) i i 0)
  if s.pwr.phase = .up ∧ was ∧ s.on (Reg.PWR_RAIL_CFG_PG_EN i) then s.railFail i 2 else s

/-- RAIL_PG_TIMEOUT at step 1 of R421. -/
def State.pgLate (s : State) (i : Nat) : State :=
  match s.pwr.trans with
  | some t =>
    if t.src = 3 ∧ t.dst = 0 ∧ t.step = 1 ∧ s.on (Reg.PWR_RAIL_CFG_PG_EN i) ∧ bit (s.get Reg.PWR_RAIL_STATUS_PG) i = false then s.railFail i 1 else s
  | none => s

/-- SYS_REFCLK_STABLE: step 3. -/
def State.refStable (s : State) : State := if s.pwr.phase = .refclk then s.toPhase .fuses else s

/-- FUSE_SENSE_DONE: step 4. N-class fields are loaded, the spine is ready, HBM bring-up and the loader start (R378, R427, R469). -/
def State.fusesSensed (s : State) (l : List (Nat × Nat)) : State :=
  if s.pwr.phase ≠ .fuses then s
  else
    let s := (l.foldl (fun (s : State) e => s.loadFuse e) s).applyFuses
    let s := ((s.newChallenge).setReady 0 true).toPhase .up
    let s := { s with mem := { s.mem with phase := [(0, 1), (1, 1), (2, 1), (3, 1)], cause := 0 } }
    s.loaderStart 0

/-- The wake latch alone is powered in OFF, where POR_N and the reference do nothing. -/
def State.notOff (s t : State) : State := if s.pwr.phase = .off ∨ s.pwr.phase = .standby then s else t

/-- POR_N low: a power-on reset that holds at step 2. -/
def State.porLow (s : State) : State := s.notOff ((s.powerOn .supplies).withPwr (fun p => { p with porLow := true }))

/-- PLL_LOCK clears and the links of an octet go down for the loss of their reference. -/
def State.octRefLost (s : State) (n : Nat) : State :=
  let s := s.set (Reg.LANE_OCT_STATUS_PLL_LOCK n) 0
  if s.octRole n = 3 then (s.casLost (n - 56) 1).casStep (n - 56) 0
  else (List.range 8).foldl (fun (s : State) k => if s.netPort (8 * n + k) then s.portDown (8 * n + k) (some 5) else s) s

/-- NET_REFCLK_LOSS (R544). -/
def State.netRefLost (s : State) (m : Nat) : State :=
  if s.lane.refLost.contains m then s
  else (s.refOctets m).foldl (fun (s : State) n => s.octRefLost n) { s with lane := { s.lane with refLost := m :: s.lane.refLost } }

/-- PCIE_REFCLK_LOSS: a surprise loss in common-clock mode (R544). -/
def State.pcieRefLost (s : State) (n : Nat) : State :=
  if s.octRole n = 2 ∧ (s.octPlan n).sris = false then
    let s := { s with lane := { s.lane with refLost := (256 + n) :: s.lane.refLost.filter (fun x => !decide (x = 256 + n)) } }
    ([2 * n, 2 * n + 1].filter (fun q => s.on (Reg.HOST_PORT_STATUS_LINK_UP q))).foldl (fun (s : State) q => s.surprise q) s
  else s

def execStandbyGood (s : State) : Host.Outcome State Fault Refusal := s.always s.standbyGood
def execStandbyRailLoss (s : State) : Host.Outcome State Fault Refusal := s.always (s.powerOn .standby)
def execSuppliesGood (pg : Nat) (s : State) : Host.Outcome State Fault Refusal := s.always (s.suppliesGood pg)
def execSupplyTimeout (s : State) : Host.Outcome State Fault Refusal := s.always s.supplyLate
def execSupplyRetryRelease (s : State) : Host.Outcome State Fault Refusal := s.always s.supplyRetry
def execPgInFall (i : Nat) (s : State) : Host.Outcome State Fault Refusal := s.always (s.pgFall i)
def execRailPgTimeout (i : Nat) (s : State) : Host.Outcome State Fault Refusal := s.always (s.pgLate i)
def execSysRefclkStable (s : State) : Host.Outcome State Fault Refusal := s.always s.refStable
def execFuseSenseDone (fuses : List (Nat × Nat)) (s : State) : Host.Outcome State Fault Refusal := s.always (s.fusesSensed fuses)
def execPorNAssert (s : State) : Host.Outcome State Fault Refusal := s.always s.porLow
def execPorNRelease (s : State) : Host.Outcome State Fault Refusal := s.always (s.withPwr (fun p => { p with porLow := false }))
def execSysRefclkLoss (s : State) : Host.Outcome State Fault Refusal := s.always (s.notOff (s.powerOn .supplies))
def execNetRefclkLoss (m : Nat) (s : State) : Host.Outcome State Fault Refusal := s.always (s.netRefLost m)
def execPcieRefclkLoss (n : Nat) (s : State) : Host.Outcome State Fault Refusal := s.always (s.pcieRefLost n)

end Sys2Proof.Machine
end

