-- ==== Sys2Proof/Machine/BootOps.lean ====
section
/-! DEFINITION. Flash directory, Gadal images and the checks on them, the boot loader's protections, and the recovery agent's entry
(R458–R473, R481). -/

namespace Sys2Proof.Machine

/-- The boot record changed. -/
def State.withBoot (s : State) (f : BootSt → BootSt) : State := { s with boot := f s.boot }

/-! ## The directory (R459–R461) -/

/-- Are these bytes of a structure all zero? -/
def zeros (l : List Byte) (off n : Nat) : Bool := (slice l off n).all (fun b => decide (b = 0))

/-- A slot's 16 bytes in a directory copy. -/
def slotOf (l : List Byte) (k : Nat) : DirSlot :=
  { base := leAt l (8 + 16 * k) 4, size := leAt l (12 + 16 * k) 4, st := leAt l (16 + 16 * k) 1, gen := leAt l (20 + 16 * k) 4 }

/-- A copy read from flash, where it is valid. -/
def dirOf (copy : Nat) (h : HostIn) : Option Dir :=
  let l := slice h.data 0 64
  if decide (h.st = 0) && decide (l.take 4 = [0x47, 0x44, 0x44, 0x31]) && decide (leAt l 60 4 = (crc32c 0xFFFFFFFF (l.take 60)).toNat) &&
      zeros l 17 3 && zeros l 33 3 && zeros l 40 20 then
    some { seq := leAt l 4 4, copy := copy, a := slotOf l 0, b := slotOf l 1 }
  else none

/-- The valid copy with the greater SEQ. -/
def dirInForce (x y : Option Dir) : Option Dir :=
  match x, y with
  | some a, some b => if a.seq < b.seq then some b else some a
  | some a, none => some a
  | none, y => y

/-- A slot of the directory: 0 A, 1 B. -/
def Dir.slot (d : Dir) (k : Nat) : DirSlot := if k = 0 then d.a else d.b

/-- A slot of the directory changed. -/
def Dir.setSlot (d : Dir) (k : Nat) (x : DirSlot) : Dir := if k = 0 then { d with a := x } else { d with b := x }

/-- The 64 bytes of a directory copy (R459). -/
def Dir.bytes (d : Dir) : List Byte :=
  let one := fun (x : DirSlot) => leBytes 4 x.base ++ leBytes 4 x.size ++ leBytes 1 x.st ++ leBytes 3 0 ++ leBytes 4 x.gen
  let l := [0x47, 0x44, 0x44, 0x31] ++ leBytes 4 d.seq ++ one d.a ++ one d.b ++ leBytes 20 0
  l ++ leBytes 4 (crc32c 0xFFFFFFFF l).toNat

/-- BOOT_DIR shows the directory. -/
def State.showDir (s : State) : State :=
  match s.boot.dir with
  | none => s
  | some d => [0, 1].foldl (fun (s : State) k =>
      (s.set (Reg.BOOT_DIR_STATE k) (d.slot k).st).set (Reg.BOOT_DIR_GEN k) ((d.slot k).gen % 2 ^ 24)) s

/-- A new directory as it will be written: SEQ one greater, in the other copy (R460). -/
def Dir.next (d : Dir) : Dir := { d with seq := (d.seq + 1) % 2 ^ 32, copy := 1 - d.copy }

/-- The sector is erased and the copy programmed; it is then in force (R460). -/
def State.dirWritten (s : State) (d : Dir) : State :=
  let s := (s.emit (.erase (d.copy * 0x10000) 1)).emit (.program (d.copy * 0x10000) d.bytes)
  (s.withBoot (fun b => { b with dir := some d })).showDir

/-- Does the flyleaf record a failed proof of a slot (R478)? -/
def State.proofFailed (s : State) (k : Nat) : Bool := if k = 0 then s.on Reg.BOOT_STATUS_PROOF_FAIL_A else s.on Reg.BOOT_STATUS_PROOF_FAIL_B

/-- The candidate slots in order (R461). -/
def State.bootOrder (s : State) (d : Dir) : List Nat :=
  let proof := if d.a.st = 1 then [0] else if d.b.st = 1 then [1] else []
  let bound := if d.a.st = 2 ∧ d.b.st = 2 then (if d.a.gen < d.b.gen then [1, 0] else [0, 1])
    else if d.a.st = 2 then [0] else if d.b.st = 2 then [1] else []
  proof.filter (fun k => !s.proofFailed k) ++ bound

/-! ## Images (R462–R467) -/

/-- An entry of the section table (R463). -/
structure Section where
  kind   : Nat
  offset : Nat
  len    : Nat
  load   : Nat
  digest : List Byte
deriving DecidableEq, Repr

/-- SECTIONS of a header. -/
def sectionCount (f : List Byte) : Nat := leAt f 6 2

/-- The section table of a front. -/
def sectionsOf (f : List Byte) : List Section :=
  (List.range (min 16 (sectionCount f))).map (fun i =>
    let a := 512 + 64 * i
    { kind := leAt f a 1, offset := leAt f (a + 4) 4, len := leAt f (a + 8) 4, load := leAt f (a + 12) 4, digest := slice f (a + 16) 48 })

/-- Offset of the certificate. -/
def certAt (f : List Byte) : Nat := leAt f 36 4
/-- Offset of the signature block. -/
def sigAt (f : List Byte) : Nat := leAt f 40 4

/-- Do no two of these ranges overlap? -/
def disjointRanges : List (Nat × Nat) → Bool
  | [] => true
  | (a, n) :: l => l.all (fun e => decide (a + n ≤ e.1) || decide (e.1 + e.2 ≤ a)) && disjointRanges l

/-- The form of a certificate (R465). -/
def certForm (c : List Byte) : Bool :=
  decide (c.take 4 = [0x47, 0x44, 0x43, 0x31]) && decide (leAt c 4 2 < 64) && decide (leAt c 6 1 < 4) && decide (leAt c 7 1 < 4) &&
  zeros c 8 8 && zeros c 113 15 && zeros c 2817 15 && zeros c 10147 5

/-- Are the sections well formed for a slot of `size` bytes (R463)? What the plan decides is checked on the plan's copy. -/
def sectionsForm (f : List Byte) (size : Nat) : Bool :=
  let l := sectionsOf f
  let one := fun k most => decide ((l.filter (fun x => decide (x.kind = k))).length = 1) && l.all (fun x => !decide (x.kind = k) || decide (x.len ≤ most))
  let st2 := l.filter (fun x => decide (x.kind = 4))
  one 1 (768 * 1024) && one 2 (256 * 1024) && one 3 (16 * 1024) &&
  l.all (fun x => decide (1 ≤ x.kind) && decide (x.kind ≤ 4) && decide (x.offset % 4096 = 0) && decide (sigAt f + 4728 ≤ x.offset) &&
    (decide (x.kind = 4) || decide (x.load = 0)) && decide (x.offset + x.len ≤ size)) &&
  (List.range (min 16 (sectionCount f))).all (fun i => zeros f (513 + 64 * i) 3) &&
  decide (st2.foldl (fun (a : Nat) (x : Section) => a + x.len) 0 ≤ 192 * 2 ^ 20) && disjointRanges (l.map (fun x => (x.offset, x.len)))

/-- The form of a front (R462, R465, R466). -/
def frontForm (f : List Byte) (size : Nat) : Bool :=
  let n := sectionCount f
  decide (leAt f 4 2 = 1) && decide (3 ≤ n) && decide (n ≤ 16) && decide (leAt f 10 2 < 4) && decide (leAt f 12 4 ≤ 64) &&
  decide (leAt f 20 1 < 16) && zeros f 21 3 && decide (10 ≤ leAt f 32 4) && decide (leAt f 32 4 ≤ 3600) &&
  decide (certAt f % 4 = 0) && decide (sigAt f % 4 = 0) && zeros f 44 4 && zeros f 64 448 &&
  decide (512 + 64 * n ≤ certAt f) && decide (certAt f + 10152 ≤ sigAt f) && decide (sigAt f + 4728 ≤ 48 * 1024) &&
  zeros f (sigAt f + 4723) 5 && certForm (slice f (certAt f) 10152) && sectionsForm f size

/-- Both signatures of a message under a pair of keys: ECDSA P-384 and ML-DSA-87 (R466; the algorithms are outside the device's
own rules and stand as `Config.verifies` of types 100 and 101). -/
def bothVerify (ecKey mlKey msg ecSig mlSig : List Byte) : Bool :=
  Config.verifies 100 ecKey msg ecSig && Config.verifies 101 mlKey msg mlSig

/-- ROOT_HASH[r]. -/
def State.rootHash (s : State) (r : Nat) : List Byte :=
  (List.range 12).foldl (fun (a : List Byte) w => a ++ leBytes 4 (s.get (Reg.BOOT_ROOT_HASH_HASH r w))) []

/-- Checks 4 to 6 on a certificate, with the USAGE bit asked for: the first that fails (R467, R503). -/
def State.certCheck (s : State) (c : List Byte) (usage : Nat) : Option Nat :=
  let root := leAt c 6 1
  if sha384 (slice c 2720 2704) ≠ s.rootHash root ∨ bit (s.get Reg.BOOT_FUSE_ERRATA_ROOT_REVOKED) root then some 4
  else if bit (s.get Reg.BOOT_FUSE_KEYREV_KEY_REVOKED) (leAt c 4 2) || !bit (leAt c 7 1) usage then some 5
  else if !bothVerify (slice c 2720 97) (slice c 2832 2592) (slice c 0 2720) (slice c 5424 96) (slice c 5520 4627) then some 6
  else none

/-- Checks 1 to 8 on a front (R467): the first that fails. -/
def State.frontCheck (s : State) (f : List Byte) (size : Nat) : Option Nat :=
  let c := slice f (certAt f) 10152
  if f.take 4 ≠ [0x47, 0x44, 0x4C, 0x31] then some 1
  else if !frontForm f size then some 2
  else if leAt f 8 2 ≠ 0x0512 ∨ bit (leAt f 10 2) 1 = false then some 3
  else match s.certCheck c 0 with
    | some r => some r
    | none =>
      if leAt f 12 4 < s.get Reg.BOOT_FUSE_ERRATA_SVN_FLOOR then some 7
      else if leAt f 12 4 < leAt f 16 4 ∨ bit (leAt f 20 1) (leAt c 6 1) ∨ bit (leAt f 24 8) (leAt c 4 2) then some 8
      else none

/-- Check 9: both image signatures. -/
def imageSig (f : List Byte) : Bool :=
  let c := slice f (certAt f) 10152
  let g := slice f (sigAt f) 4728
  bothVerify (slice c 16 97) (slice c 128 2592) (slice f 0 (512 + 64 * sectionCount f)) (slice g 0 96) (slice g 96 4627)

/-- The section of a type. -/
def sectionOf (f : List Byte) (kind : Nat) : Option Section := (sectionsOf f).find? (fun x => decide (x.kind = kind))

/-- The plan's form, and the places of the STAGE2 sections in the core memory it sets (R463, R464). -/
def planForm (f plan : List Byte) : Bool :=
  let st2 := (sectionsOf f).filter (fun x => decide (x.kind = 4))
  let core := leAt plan 4 1 * 2 ^ 30
  decide (plan.take 4 = [0x47, 0x44, 0x50, 0x31]) && decide (leAt plan 4 1 ≤ 16) && decide (leAt plan 5 1 ≤ 32) &&
  (st2.isEmpty || decide (0 < leAt plan 4 1)) && zeros plan 7 57 && (decide (leAt plan 6 1 < 64) || decide (leAt plan 6 1 = 0x7F)) &&
  st2.all (fun x => decide (x.load * 4096 + x.len ≤ core)) && disjointRanges (st2.map (fun x => (x.load * 4096, x.len)))

/-- Checks 9 and 10 on sections that were read: the first that fails. -/
def bodyCheck (f plan : List Byte) (parts : List (Section × List Byte)) : Option Nat :=
  if !imageSig f then some 9
  else if parts.any (fun e => decide (sha384 e.2 ≠ e.1.digest)) then some 10
  else if !planForm f plan then some 2
  else none

/-- Every check of R467 on a whole image as read from flash. -/
def State.imageCheck (s : State) (front : HostIn) (secs : List HostIn) (size : Nat) : Option Nat :=
  if front.st ≠ 0 ∨ secs.any (fun x => decide (x.st ≠ 0)) then some 11
  else
    let f := slice front.data 0 (48 * 1024)
    match s.frontCheck f size with
    | some r => some r
    | none =>
      let parts := (sectionsOf f).zip (secs.map (·.data)) |>.map (fun e => (e.1, slice e.2 0 e.1.len))
      let plan := ((parts.find? (fun e => decide (e.1.kind = 3))).map (·.2)).getD []
      if parts.length < (sectionsOf f).length then some 11 else bodyCheck f plan parts

/-! ## Reports -/

/-- A line of text that the loader or the agent writes to the UART, its text open, ended by CR LF (R526). -/
def State.uartLine (s : State) : State :=
  let (n, s) := s.free 6
  let l := Config.freeBytes s.freeCtr n
  let s := { s with freeCtr := s.freeCtr + 1 }
  { s with glb := { s.glb with uartTx := s.glb.uartTx ++ l ++ [0x0D, 0x0A], uartAt := if s.glb.uartTx.isEmpty then s.now else s.glb.uartAt } }

/-- A slot failed at this boot: its first REASON, and boot.image_rejected (R467, R485). -/
def State.rejected (s : State) (k why : Nat) : State :=
  let s := if k = 0 then (if s.get Reg.BOOT_STATUS_REASON_A = 0 then s.set Reg.BOOT_STATUS_REASON_A why else s)
    else (if s.get Reg.BOOT_STATUS_REASON_B = 0 then s.set Reg.BOOT_STATUS_REASON_B why else s)
  let s := s.withBoot (fun b => if k = 0 then { b with lastA := why } else { b with lastB := why })
  s.raise EV_boot_image_rejected 0xFFFF [k, why]

/-! ## Recovery (R481) -/

/-- The host port that shows the manager function in recovery, if one does (R482). -/
def State.recoveryPort (s : State) : Option Nat :=
  let a := s.get Reg.HOST_MGR_CFG_MGR_PORT_ACTIVE
  let f := s.get Reg.BOOT_FUSE_MISC_RECOVERY_PORT
  if a < 64 then some a else if f < 64 then some f else none

/-- The recovery octet takes the role HOST. -/
def State.recoveryOctet (s : State) (q : Nat) : State :=
  let n := q / 2
  let split := s.on Reg.BOOT_FUSE_MISC_RECOVERY_SPLIT
  let s := { s with lane := { s.lane with plan := mput s.lane.plan n { mode := 0, split := split, sris := false } } }
  let s := ((s.set (Reg.LANE_OCT_STATUS_ROLE_ACTIVE n) 2).set (Reg.LANE_OCT_STATUS_PLL_LOCK n) 1).set (Reg.LANE_OCT_CFG_ROLE n) 2
  let s := (s.set (Reg.LANE_OCT_CFG_HOST_SPLIT n) (b2n split)).setDom (octDom n) 0
  ((s.setReady (128 + n) true).portFresh (2 * n)).portFresh (2 * n + 1) |>.set Reg.HOST_MGR_CFG_MGR_PORT_ACTIVE q

/-- The device enters recovery: 1 no candidate passed, 2 no valid directory, 3 RECOVER was written. The agent runs on thread 0. -/
def State.recovery (s : State) (cause : Nat) : State :=
  let s := (s.withBoot (fun b => { b with step := 0, todo := [] })).set Reg.BOOT_STATUS_MODE 2
  let s := match s.recoveryPort with
    | some q => s.recoveryOctet q
    | none => s
  ((s.setThState 0 1).raise EV_boot_recovery 0xFFFF [cause]).hbmStep5

/-- The next candidate's step 2, or recovery. -/
def State.nextCandidate (s : State) : State :=
  match s.boot.todo with
  | [] => s.recovery 1
  | k :: l => s.withBoot (fun b => { b with step := 2, cur := k, todo := l, front := [], jigMem := [] })

/-! ## Protections (R471, R473) -/

/-- An entry of the fence table that admits nobody. -/
def Fence.closed : Fence := { master := 0, mask := 0xFFFF, perm := 0, lock := true, base := 1, limit := 0 }

/-- The entry that lets master 0x2000 reach all of a target. -/
def Fence.stage1 (perm limit : Nat) (lock : Bool) : Fence :=
  { master := 0x2000, mask := 0xFFFF, perm := perm, lock := lock, base := 0, limit := limit }

/-- The fences that the loader sets (R473). -/
def loaderFences : List (Nat × Fence) :=
  (List.range 4).map (fun i => (fenceKey 1 i 0, Fence.stage1 7 0x17FFFFFFFF false)) ++
  (List.range 24).map (fun i => (fenceKey 2 i 0, Fence.stage1 7 0x1FFFFF false)) ++
  ((List.range 16) ++ [17]).map (fun i => (fenceKey 3 i 0, Fence.stage1 3 0xFFFFF false)) ++
  (fenceKey 3 16 0, Fence.stage1 3 0x1FFF true) :: ((List.range 31).map (fun i => (fenceKey 3 16 (i + 1), Fence.closed))) ++
  (List.range 32).map (fun i => (fenceKey 3 18 i, Fence.closed))

/-- Those fences are in force. -/
def State.loaderProtect (s : State) : State :=
  { s with drw := { s.drw with fences := loaderFences.foldl (fun (m : SMap Fence) e => mput m e.1 e.2) s.drw.fences } }

end Sys2Proof.Machine
end

