-- ==== Sys2Proof/Machine/Boot.lean ====
section
/-! DEFINITION. The commands of the boot loader, the proof, the flash and digest operations, and the recovery agent (R458–R486). -/

namespace Sys2Proof.Machine

/-- A loader step acts only while that step runs, outside a warm reset; a halt stops the loader like everything else. -/
def State.bootAt (s : State) (n : Nat) (t : State) : State := if s.boot.step = n then t else s

/-! ## The loader (R469–R473) -/

/-- LOADER_DIRECTORY_READ: step 1. -/
def State.dirRead (s : State) (d0 d1 : HostIn) : State :=
  let s := (s.withBoot (fun b => { b with dir := dirInForce (dirOf 0 d0) (dirOf 1 d1) })).showDir
  let s := s.uartLine
  if s.on Reg.BOOT_CTRL_RECOVER then (s.set Reg.BOOT_CTRL_RECOVER 0).recovery 3
  else match s.boot.dir with
    | none => s.recovery 2
    | some d =>
      let s := [0, 1].foldl (fun (s : State) k => if (d.slot k).st = 0 ∨ (d.slot k).st = 3 then
        (if k = 0 then s.set Reg.BOOT_STATUS_REASON_A 1 else s.set Reg.BOOT_STATUS_REASON_B 1) else s) s
      (s.withBoot (fun b => { b with todo := s.bootOrder d })).nextCandidate

/-- Bytes of the slot that is tried. -/
def State.curSize (s : State) : Nat := (s.boot.dir.map (fun d => (d.slot s.boot.cur).size)).getD 0

/-- The candidate fails: its copies are cleared, and the next one begins. -/
def State.candidateFails (s : State) (why : Nat) : State := (s.rejected s.boot.cur why).nextCandidate

/-- LOADER_FRONT_CHECKED: step 2. -/
def State.frontRead (s : State) (front : HostIn) : State :=
  let f := slice front.data 0 (48 * 1024)
  if front.st ≠ 0 then s.candidateFails 11
  else match s.frontCheck f s.curSize with
    | some r => s.candidateFails r
    | none => ((s.withBoot (fun b => { b with step := 3, front := f })).memPut (bootBase + 0xC4000) f).uartLine

/-- LOADER_SECTIONS_COPIED: step 3. -/
def State.sectionsCopied (s : State) (stage1 plan jig : HostIn) : State :=
  let f := s.boot.front
  let len := fun k => ((sectionOf f k).map (·.len)).getD 0
  if stage1.st ≠ 0 ∨ plan.st ≠ 0 ∨ jig.st ≠ 0 then s.candidateFails 11
  else
    let s := (s.memPut bootBase (slice stage1.data 0 (len 1))).memPut (bootBase + 0xC0000) (slice plan.data 0 (len 3))
    (s.withBoot (fun b => { b with step := 4, jigMem := slice jig.data 0 (len 2) })).uartLine

/-- LOADER_READBACK_CHECKED: step 4, and the regions of the plan (R464). -/
def State.readBack (s : State) : State :=
  let f := s.boot.front
  let len := fun k => ((sectionOf f k).map (·.len)).getD 0
  let plan := s.memGet (bootBase + 0xC0000) (len 3)
  let parts := (sectionsOf f).filterMap (fun x =>
    if x.kind = 1 then some (x, s.memGet bootBase x.len) else if x.kind = 3 then some (x, plan)
    else if x.kind = 2 then some (x, s.boot.jigMem) else none)
  match bodyCheck f plan parts with
  | some r => s.candidateFails r
  | none => (((s.setRegions (leAt plan 4 1) (leAt plan 5 1)).withBoot (fun b => { b with step := 5 })).uartLine).hbmStep5

/-- The burns that a BOUND image asks for beyond the fuses: floor, roots and keys (R468). -/
def State.burnNeeded (s : State) : Option (Nat × Nat × Nat) :=
  let f := s.boot.front
  let floor := max (s.get Reg.BOOT_FUSE_ERRATA_SVN_FLOOR) (leAt f 16 4)
  let roots := Nat.lor (s.get Reg.BOOT_FUSE_ERRATA_ROOT_REVOKED) (leAt f 20 1)
  let keys := Nat.lor (s.get Reg.BOOT_FUSE_KEYREV_KEY_REVOKED) (leAt f 24 8)
  if floor = s.get Reg.BOOT_FUSE_ERRATA_SVN_FLOOR ∧ roots = s.get Reg.BOOT_FUSE_ERRATA_ROOT_REVOKED ∧ keys = s.get Reg.BOOT_FUSE_KEYREV_KEY_REVOKED
  then none else some (floor, roots, keys)

/-- A burn begins where one is needed. -/
def State.burnFuses (s : State) : State := s.withBoot (fun b => { b with burning := s.burnNeeded })

/-- A directory update begins: BUSY until it is programmed (R460). -/
def State.dirUpdate (s : State) (d : Dir) (why : DirWhy) : State :=
  (s.withBoot (fun b => { b with update := some (d.next, why) })).set Reg.BOOT_FLASH_CTRL_BUSY 1

/-- A slot whose failed proof the flyleaf records is marked REJECTED, once stage 1 runs from another slot (R478). -/
def State.markRejected (s : State) (d : Dir) : State :=
  match [0, 1].find? (fun k => !decide (k = s.boot.cur) && s.proofFailed k && decide ((d.slot k).st = 1)) with
  | some k => s.dirUpdate (d.setSlot k { d.slot k with st := 3 }) .rejected
  | none => s

/-- STAGE1_START: step 5. Thread 0 runs in M mode from boot SRAM (R471); a proof starts its watchdog (R478). -/
def State.stage1 (s : State) : State :=
  let exit := decide (s.get Reg.BOOT_STATUS_CAUSE = 2)
  let proof := if exit then s.on Reg.BOOT_STATUS_PROOF else decide ((s.boot.dir.map (fun d => (d.slot s.boot.cur).st)).getD 0 = 1)
  let s := (s.withBoot (fun b => { b with step := 0 })).set Reg.BOOT_STATUS_MODE 1
  let s := if exit then s
    else ((s.set Reg.BOOT_STATUS_SLOT s.boot.cur).set Reg.BOOT_STATUS_PROOF (b2n proof)).set Reg.BOOT_STATUS_SVN (leAt s.boot.front 12 4)
  let s := if exit then s else s.loaderProtect
  let x := (Thread.reset.setX 10 (bootBase + 0xC4000)).setX 11 (s.rd Reg.BOOT_STATUS)
  let s := ((s.startThread 0 0 { x with pc := bootBase, priv := 3 }).setReady 1 true).uartLine
  if exit then s
  else
    let s := if proof then
        let w := leAt s.boot.front 32 4
        let s := (s.withBoot (fun b => { b with wdtLeft := w * 1000000000 })).set Reg.BOOT_WDT_RUNNING 1
        (s.set Reg.BOOT_WDT_REMAINING_S w).raise EV_boot_proof_started 0xFFFF [s.boot.cur, leAt s.boot.front 12 4, w]
      else s.burnFuses
    match s.boot.dir with
    | some d => s.markRejected d
    | none => s

def execLoaderDirectoryRead (d0 d1 : HostIn) (s : State) : Host.Outcome State Fault Refusal := s.run (s.bootAt 1 (s.dirRead d0 d1))
def execLoaderFrontChecked (front : HostIn) (s : State) : Host.Outcome State Fault Refusal := s.run (s.bootAt 2 (s.frontRead front))
def execLoaderSectionsCopied (stage1 plan jig : HostIn) (s : State) : Host.Outcome State Fault Refusal :=
  s.run (s.bootAt 3 (s.sectionsCopied stage1 plan jig))
def execLoaderReadbackChecked (s : State) : Host.Outcome State Fault Refusal := s.run (s.bootAt 4 s.readBack)
def execStage1Start (s : State) : Host.Outcome State Fault Refusal := s.run (s.bootAt 5 s.stage1)

/-! ## Proof, staging and the handover (R475–R480) -/

/-- A write of BOOT_CTRL is refused. -/
def State.ctrlRefuse (s : State) (why : Nat) : State := (s.set Reg.BOOT_CTRL_CTRL_REFUSED 1).set Reg.BOOT_CTRL_CTRL_REASON why

/-- Does a proof run (R478)? -/
def State.proving (s : State) : Bool :=
  decide (s.get Reg.BOOT_STATUS_MODE = 1) && s.on Reg.BOOT_STATUS_PROOF && s.on Reg.BOOT_WDT_RUNNING

/-- The greatest GEN of a directory. -/
def Dir.topGen (d : Dir) : Nat := max d.a.gen d.b.gen

/-- CONFIRM (R479). -/
def State.confirm (s : State) : State :=
  match s.boot.dir with
  | some d =>
    if !s.proving then s.ctrlRefuse 14
    else if s.boot.update.isSome then s.ctrlRefuse 12
    else
      let k := s.boot.cur
      let s := (s.set Reg.BOOT_WDT_RUNNING 0).set Reg.BOOT_CTRL_CONFIRM 1
      s.dirUpdate (d.setSlot k { d.slot k with st := 2, gen := (d.topGen + 1) % 2 ^ 32 }) .confirmed
  | none => s.ctrlRefuse 14

/-- A proof fails: 0 its watchdog expired, 1 ABANDON. The device warm-resets (R478). -/
def State.proofFail (s : State) (why : Nat) : State :=
  let k := s.boot.cur
  let s := if k = 0 then s.set Reg.BOOT_STATUS_PROOF_FAIL_A 1 else s.set Reg.BOOT_STATUS_PROOF_FAIL_B 1
  let s := (s.withBoot (fun b => { b with failEv := some (k, why) })).set Reg.BOOT_WDT_RUNNING 0
  s.warmTrigger 4

/-- ABANDON. -/
def State.abandon (s : State) : State := if s.proving then (s.set Reg.BOOT_CTRL_ABANDON 1).proofFail 1 else s.ctrlRefuse 14

/-- PROOF_WATCHDOG_EXPIRE: it counts in RUN and IDLE alone. -/
def State.proofExpire (s : State) : State := if s.proving && decide (s.devState ≤ 1) then s.proofFail 0 else s

/-- HANDOFF by thread 0. -/
def State.handoff (s : State) : State := if decide (s.get Reg.BOOT_STATUS_MODE = 1) && !s.on Reg.BOOT_STATUS_HANDOFF then s.handover else s

/-- The loader works: it copies, checks or updates the directory (R477). -/
def State.loaderBusy (s : State) : Bool := !decide (s.boot.step = 0) || s.boot.stage.isSome || s.boot.update.isSome

/-- Why a STAGE is refused (R476). -/
def State.stageRefusal (s : State) (k : Nat) : Option Nat :=
  match s.boot.dir with
  | none => some 14
  | some d =>
    if decide (d.a.st = 1) || decide (d.b.st = 1) || s.on Reg.BOOT_STATUS_PROOF || !decide (s.get Reg.BOOT_STATUS_MODE = 1) then some 14
    else if k = s.get Reg.BOOT_STATUS_SLOT then some 13
    else if s.boot.op.isSome || s.loaderBusy then some 12
    else none

/-- STAGE. -/
def State.stageGo (s : State) (k : Nat) : State :=
  let s := s.set Reg.BOOT_CTRL_STAGE_SLOT k
  if s.on Reg.BOOT_CTRL_STAGE then s
  else match s.stageRefusal k with
    | some r => s.ctrlRefuse r
    | none => ((s.withBoot (fun b => { b with stage := some k })).set Reg.BOOT_CTRL_STAGE 1).set Reg.BOOT_STAGE_STATUS_BUSY 1

/-- A STAGE ends. -/
def State.stageEnd (s : State) (why : Nat) : State :=
  let s := ((s.withBoot (fun b => { b with stage := none })).set Reg.BOOT_CTRL_STAGE 0).set Reg.BOOT_STAGE_STATUS_BUSY 0
  (s.set Reg.BOOT_STAGE_STATUS_DONE 1).set Reg.BOOT_STAGE_STATUS_REASON why

/-- STAGE_CHECK_DONE: the whole image was read and checked. -/
def State.stageChecked (s : State) (front : HostIn) (secs : List HostIn) : State :=
  match s.boot.stage, s.boot.dir with
  | some k, some d =>
    if s.boot.update.isSome then s
    else match s.imageCheck front secs (d.slot k).size with
      | some r =>
        let s := s.withBoot (fun b => if k = 0 then { b with lastA := r } else { b with lastB := r })
        (s.stageEnd r).raise EV_boot_image_rejected 0xFFFF [k, r]
      | none => s.dirUpdate (d.setSlot k { d.slot k with st := 1 }) .staged
  | _, _ => s

/-- The event of a CONFIRM that is complete. -/
def State.confirmed (s : State) : State :=
  (s.set Reg.BOOT_CTRL_CONFIRM 0).raise EV_boot_confirmed 0xFFFF
    [s.boot.cur, (s.boot.dir.map (fun d => (d.slot s.boot.cur).gen)).getD 0]

/-- DIRECTORY_UPDATE_DONE (R460). -/
def State.dirUpdated (s : State) : State :=
  match s.boot.update with
  | none => s
  | some (d, why) =>
    let s := (s.withBoot (fun b => { b with update := none })).dirWritten d
    let s := s.set Reg.BOOT_FLASH_CTRL_BUSY (b2n s.boot.op.isSome)
    match why with
    | .staged => s.stageEnd 0
    | .confirmed =>
      let s := (s.set Reg.BOOT_STATUS_PROOF 0).burnFuses
      if s.boot.burning.isSome then s else s.confirmed
    | .rejected => s
    | .recovery => s

/-- LOADER_FUSE_BURN_DONE (R468). -/
def State.fusesBurned (s : State) : State :=
  match s.boot.burning with
  | none => s
  | some (floor, roots, keys) =>
    let s := (s.set Reg.BOOT_FUSE_ERRATA_SVN_FLOOR floor).set Reg.BOOT_FUSE_ERRATA_ROOT_REVOKED roots
    let s := (s.set Reg.BOOT_FUSE_KEYREV_KEY_REVOKED keys).withBoot (fun b => { b with burning := none })
    let s := s.raise EV_boot_fuse_burned 0xFFFF [floor, roots, keys]
    if s.on Reg.BOOT_CTRL_CONFIRM then s.confirmed else s

def execConfirm (s : State) : Host.Outcome State Fault Refusal := s.write s.confirm
def execProofAbandon (s : State) : Host.Outcome State Fault Refusal := s.write s.abandon
def execRecover (s : State) : Host.Outcome State Fault Refusal := s.write (s.set Reg.BOOT_CTRL_RECOVER 1)
def execHandoff (s : State) : Host.Outcome State Fault Refusal := s.write s.handoff
def execStage (k : Nat) (s : State) : Host.Outcome State Fault Refusal := s.write (s.stageGo k)
def execStageCheckDone (front : HostIn) (secs : List HostIn) (s : State) : Host.Outcome State Fault Refusal := s.run (s.stageChecked front secs)
def execProofWatchdogExpire (s : State) : Host.Outcome State Fault Refusal := s.run s.proofExpire
def execDirectoryUpdateDone (s : State) : Host.Outcome State Fault Refusal := s.run s.dirUpdated
def execLoaderFuseBurnDone (s : State) : Host.Outcome State Fault Refusal := s.run s.fusesBurned

/-! ## Flash operations and digests (R477, R486) -/

/-- Does a range of flash overlap a slot? -/
def DirSlot.touches (x : DirSlot) (a n : Nat) : Bool := decide (a < x.base + x.size) && decide (x.base < a + n)

/-- Does a range of flash lie within a slot? -/
def DirSlot.holds (x : DirSlot) (a n : Nat) : Bool := decide (x.base ≤ a) && decide (a + n ≤ x.base + x.size)

/-- Is a change of a range of flash protected (R477)? In recovery both slots may be written (R482). -/
def State.flashProtected (s : State) (a n : Nat) : Bool :=
  match s.boot.dir with
  | none => true
  | some d =>
    let rec' := decide (s.get Reg.BOOT_STATUS_MODE = 2)
    let run := d.slot (s.get Reg.BOOT_STATUS_SLOT)
    let other := d.slot (1 - s.get Reg.BOOT_STATUS_SLOT)
    decide (a < 0x20000) || !((d.a.holds a n) || (d.b.holds a n)) ||
    (!rec' && (run.touches a n || (s.on Reg.BOOT_STATUS_PROOF && decide (other.st = 2) && other.touches a n)))

/-- Are the parameters of a flash operation within its limits (R486)? -/
def flashForm (op addr len hbm : Nat) : Bool :=
  match op with
  | 1 => decide (len ≤ 4096)
  | 2 => decide (len ≤ 4096) && decide (addr % 256 = 0) && decide (len % 256 = 0)
  | 3 => decide (addr % 0x10000 = 0) && decide (len % 0x10000 = 0)
  | 4 => decide (hbm % 4096 = 0) && decide (len ≤ 2 ^ 28) && decide (hbm + len ≤ 0x1800000000)
  | _ => false

/-- An operation ends with its RESULT. -/
def State.flashEnd (s : State) (result : Nat) : State :=
  let s := (s.withBoot (fun b => { b with op := none })).set Reg.BOOT_FLASH_CTRL_GO 0
  let s := s.set Reg.BOOT_FLASH_CTRL_BUSY (b2n s.boot.update.isSome)
  (s.set Reg.BOOT_FLASH_CTRL_DONE 1).set Reg.BOOT_FLASH_CTRL_RESULT result

/-- GO in BOOT_FLASH_CTRL. -/
def State.flashGo (s : State) (op : Nat) : State :=
  let s := s.set Reg.BOOT_FLASH_CTRL_OP op
  let a := s.get Reg.BOOT_FLASH_ADDR_ADDR
  let n := s.get Reg.BOOT_FLASH_LEN_LEN
  let hbm := s.get Reg.BOOT_FLASH_HBM_HBM
  if s.on Reg.BOOT_FLASH_CTRL_GO then s
  else if s.loaderBusy then s.flashEnd 12
  else if !flashForm op a n hbm then s.flashEnd 11
  else if (op = 2 ∨ op = 3) ∧ s.flashProtected a n then s.flashEnd 13
  else ((s.withBoot (fun b => { b with op := some (op, a, n, hbm) })).set Reg.BOOT_FLASH_CTRL_GO 1).set Reg.BOOT_FLASH_CTRL_BUSY 1

/-- The bytes of the 4 KiB window. -/
def State.flashWindow (s : State) (n : Nat) : List Byte :=
  ((List.range ((n + 3) / 4)).foldl (fun (l : List Byte) i => l ++ leBytes 4 (s.rd (Reg.BOOT_FLASH_DATA i))) []).take n

/-- The window filled with bytes read. -/
def State.setWindow (s : State) (l : List Byte) : State :=
  (List.range ((l.length + 3) / 4)).foldl (fun (s : State) i => s.wr (Reg.BOOT_FLASH_DATA i) (leAt l (4 * i) 4)) s

/-- FLASH_OP_DONE: the flash answered with the bytes of a READ or COPY, or failed. -/
def State.flashDone (s : State) (data : HostIn) : State :=
  match s.boot.op with
  | none => s
  | some (op, a, n, hbm) =>
    if data.st ≠ 0 then s.flashEnd 11
    else match op with
      | 1 => (s.setWindow (slice data.data 0 n)).flashEnd 0
      | 2 => (s.emit (.program a (s.flashWindow n))).flashEnd 0
      | 3 => (s.emit (.erase a (n / 0x10000))).flashEnd 0
      | _ => ((s.memWrite 0x3003 hbm (slice data.data 0 n)).2).flashEnd 0

/-- GO in BOOT_DIGEST_CTRL. -/
def State.digestGo (s : State) : State :=
  if s.on Reg.BOOT_DIGEST_CTRL_GO then s
  else
    let r := (s.get Reg.BOOT_DIGEST_ADDR_ADDR, s.get Reg.BOOT_DIGEST_LEN_LEN)
    (s.withBoot (fun b => { b with digest := some r })).set Reg.BOOT_DIGEST_CTRL_GO 1

/-- BOOT_DIGEST_DONE: SHA-384 of the range. -/
def State.digestDone (s : State) : State :=
  match s.boot.digest with
  | none => s
  | some (a, n) =>
    let (_, l, s) := s.memRead 0x3003 a (min n (2 ^ 28))
    let h := sha384 l
    let s := (List.range 12).foldl (fun (s : State) w => s.wr (Reg.BOOT_DIGEST_DATA w) (leAt h (4 * w) 4)) s
    ((s.withBoot (fun b => { b with digest := none })).set Reg.BOOT_DIGEST_CTRL_GO 0).set Reg.BOOT_DIGEST_CTRL_DONE 1

def execFlashRead (s : State) : Host.Outcome State Fault Refusal := s.write (s.flashGo 1)
def execFlashProgram (s : State) : Host.Outcome State Fault Refusal := s.write (s.flashGo 2)
def execFlashErase (s : State) : Host.Outcome State Fault Refusal := s.write (s.flashGo 3)
def execFlashCopy (s : State) : Host.Outcome State Fault Refusal := s.write (s.flashGo 4)
def execFlashOpDone (data : HostIn) (s : State) : Host.Outcome State Fault Refusal := s.run (s.flashDone data)
def execBootDigestGo (s : State) : Host.Outcome State Fault Refusal := s.write s.digestGo
def execBootDigestDone (s : State) : Host.Outcome State Fault Refusal := s.run s.digestDone

/-! ## The recovery agent (R482, R483) -/

/-- A command to the agent: its arguments, the data that came with it, and whom a frame's reply goes to. -/
structure RecCmd where
  arg0 : Nat
  arg1 : Nat
  data : List Byte
  from' : Option (Nat × List Byte)
deriving DecidableEq, Repr

/-- The command that the mailbox (path 0) or a management frame (path 1) holds, if it is this opcode. -/
def State.recCmd (s : State) (op path : Nat) (frame : List Byte) : Option RecCmd :=
  if s.get Reg.BOOT_STATUS_MODE ≠ 2 then none
  else if path = 0 then
    if bit s.boot.cmd 31 && decide (s.boot.cmd % 256 = op) then
      some { arg0 := s.boot.arg0, arg1 := s.boot.arg1, data := s.boot.data, from' := none }
    else none
  else match s.mgmtBody frame with
    | none => none
    | some b =>
      if beAt b 0 4 = 0x534B5252 ∧ beAt b 4 1 = op ∧ beAt b 5 1 = 0 then
        some { arg0 := leAt b 8 8, arg1 := leAt b 16 8, data := (b.drop 24).take 1024, from' := some (frameSource frame, b.take 24) }
      else none

/-- The agent answers: in the mailbox, or in a frame with the same header, REASON, and INFO or data. -/
def State.recReply (s : State) (c : RecCmd) (reason : Nat) (info data : List Byte) : State :=
  let s := s.uartLine
  match c.from' with
  | none => s.withBoot (fun b => { b with
      cmd := b.cmd % 2 ^ 31, result := 2 ^ 31 + reason, info := if info.isEmpty then b.info else info,
      data := if data.isEmpty then b.data else overlay (slice b.data 0 0x8000) 0 data })
  | some (src, h) =>
    let head := h.take 4 ++ beBytes 1 (beAt h 4 1 + 0x80) ++ beBytes 1 reason ++ h.drop 6
    s.emit (.mgmt (s.mgmtFrame src (head ++ info ++ data)))

/-- Most bytes of a WRITE or READ on a path. -/
def RecCmd.most (c : RecCmd) : Nat := if c.from'.isSome then 1024 else 0x8000

/-- INFO of IDENT. The spec lists what it holds; the order and widths are the model's (DESIGN CHOICE, log entry 26). -/
def State.recInfo (s : State) : List Byte :=
  let st := fun k => (s.boot.dir.map (fun d => (d.slot k).st)).getD 0
  leBytes 2 0x0512 ++ leBytes 1 0x10 ++ leBytes 1 (s.get Reg.BOOT_FUSE_ERRATA_SVN_FLOOR) ++ leBytes 1 (s.get Reg.BOOT_FUSE_ERRATA_ROOT_REVOKED) ++
  leBytes 3 0 ++ leBytes 8 (s.get Reg.BOOT_FUSE_KEYREV_KEY_REVOKED) ++ leBytes 1 (st 0) ++ leBytes 1 s.boot.lastA ++ leBytes 1 (st 1) ++
  leBytes 1 s.boot.lastB ++ leBytes 12 0

/-- RECOVERY_IDENT. -/
def State.recIdent (s : State) (path : Nat) (frame : List Byte) : State :=
  match s.recCmd 1 path frame with
  | some c => s.recReply c 0 s.recInfo []
  | none => s

/-- RECOVERY_ERASE; `ok`: the flash succeeded. -/
def State.recErase (s : State) (path : Nat) (frame : List Byte) (ok : Bool) : State :=
  match s.recCmd 2 path frame with
  | none => s
  | some c =>
    if c.arg0 % 0x10000 ≠ 0 ∨ s.flashProtected c.arg0 (c.arg1 * 0x10000) then s.recReply c 13 [] []
    else if !ok then s.recReply c 11 [] []
    else (s.emit (.erase c.arg0 c.arg1)).recReply c 0 [] []

/-- RECOVERY_WRITE. -/
def State.recWrite (s : State) (path : Nat) (frame : List Byte) (ok : Bool) : State :=
  match s.recCmd 3 path frame with
  | none => s
  | some c =>
    if c.arg0 % 256 ≠ 0 ∨ c.arg1 % 256 ≠ 0 ∨ c.most < c.arg1 ∨ s.flashProtected c.arg0 c.arg1 then s.recReply c 13 [] []
    else if !ok then s.recReply c 11 [] []
    else (s.emit (.program c.arg0 (slice c.data 0 c.arg1))).recReply c 0 [] []

/-- RECOVERY_READ. -/
def State.recRead (s : State) (path : Nat) (frame : List Byte) (data : HostIn) : State :=
  match s.recCmd 4 path frame with
  | none => s
  | some c =>
    if c.arg0 % 256 ≠ 0 ∨ c.arg1 % 256 ≠ 0 ∨ c.most < c.arg1 then s.recReply c 13 [] []
    else if data.st ≠ 0 then s.recReply c 11 [] []
    else s.recReply c 0 [] (slice data.data 0 c.arg1)

/-- Bounds of a slot that RECOVERY_STAGE may write: whole sectors, clear of the directory and of the other slot (R458). -/
def boundsOk (x other : DirSlot) : Bool :=
  decide (x.base % 0x10000 = 0) && decide (x.size % 0x10000 = 0) && decide (0x20000 ≤ x.base) && decide (x.base + x.size ≤ 2 ^ 32) &&
  !(x.touches other.base other.size)

/-- RECOVERY_STAGE: the image is checked and its slot marked PROOF, in a directory that the command may renew. -/
def State.recStage (s : State) (path : Nat) (frame : List Byte) (front : HostIn) (secs : List HostIn) : State :=
  match s.recCmd 5 path frame with
  | none => s
  | some c =>
    let k := c.arg0 % 2
    let none' : DirSlot := { base := 0, size := 0, st := 0, gen := 0 }
    let d := s.boot.dir.getD { seq := 0, copy := 1, a := none', b := none' }
    let x := if c.arg1 = 0 then d.slot k else { d.slot k with base := c.arg1 % 2 ^ 32, size := c.arg1 / 2 ^ 32 }
    if 1 < c.arg0 ∨ !boundsOk x (d.slot (1 - k)) then s.recReply c 13 [] []
    else match s.imageCheck front secs x.size with
      | some r => (s.rejected k r).recReply c r [] []
      | none => (s.dirWritten (d.setSlot k { x with st := 1 }).next).recReply c 0 [] []

/-- RECOVERY_RESET. -/
def State.recReset (s : State) (path : Nat) (frame : List Byte) : State :=
  match s.recCmd 6 path frame with
  | some c => (s.recReply c 0 [] []).warmTrigger 2
  | none => s

def execRecoveryIdent (path : Nat) (frame : List Byte) (s : State) : Host.Outcome State Fault Refusal := s.run (s.recIdent path frame)
def execRecoveryErase (path : Nat) (frame : List Byte) (ok : Bool) (s : State) : Host.Outcome State Fault Refusal := s.run (s.recErase path frame ok)
def execRecoveryWrite (path : Nat) (frame : List Byte) (ok : Bool) (s : State) : Host.Outcome State Fault Refusal := s.run (s.recWrite path frame ok)
def execRecoveryRead (path : Nat) (frame : List Byte) (data : HostIn) (s : State) : Host.Outcome State Fault Refusal := s.run (s.recRead path frame data)
def execRecoveryStage (path : Nat) (frame : List Byte) (front : HostIn) (secs : List HostIn) (s : State) : Host.Outcome State Fault Refusal :=
  s.run (s.recStage path frame front secs)
def execRecoveryReset (path : Nat) (frame : List Byte) (s : State) : Host.Outcome State Fault Refusal := s.run (s.recReset path frame)

end Sys2Proof.Machine
end

