-- ==== Sys2Proof/Machine/Jig.lean ====
section
/-! DEFINITION. The jig: its log, its stop checker, its decisions, health and thermal protection, and the spares it brings into
service (R437–R457, R542). -/

namespace Sys2Proof.Machine

/-- The jig's record changed. -/
def State.withJig (s : State) (f : JigSt → JigSt) : State := { s with jig := f s.jig }

/-! ## The decision log (R443–R445) -/

/-- Entries of the log ring. -/
def State.jigSize (s : State) : Nat := 2 ^ max 6 (min 16 (s.get Reg.JIG_LOG_CFG_LOG2_SIZE))

/-- Records the manager has not consumed. -/
def State.jigUsed (s : State) : Nat := (s.get Reg.JIG_LOG_PROD_PROD + 2 ^ 32 - s.get Reg.JIG_LOG_CONS_CONS) % 2 ^ 32

/-- Slots that are neither used nor reserved. -/
def State.jigFree (s : State) : Nat := s.jigSize - s.jigUsed - s.jig.reserved

/-- LOG_FULL follows the free slots. -/
def State.jigSync (s : State) : State := s.set Reg.JIG_STATUS_LOG_FULL (b2n (decide (s.jigFree = 0)))

/-- The 32 bytes of a record (R444). -/
def State.jigRecord (s : State) (kind outcome target old new cause : Nat) : List Byte :=
  let i := s.get Reg.JIG_LOG_PROD_PROD
  leBytes 1 kind ++ leBytes 1 (b2n (ownerMark (max 6 (min 16 (s.get Reg.JIG_LOG_CFG_LOG2_SIZE))) i) * 128 + outcome) ++ leBytes 2 target ++
  leBytes 4 s.jig.seq ++ leBytes 8 s.now ++ leBytes 4 old ++ leBytes 4 new ++ leBytes 4 cause ++ leBytes 4 0

/-- A record's bytes go to the ring in host memory, or in device memory (R443). -/
def State.jigStore (s : State) (addr : Nat) (b : List Byte) : State :=
  if s.on Reg.JIG_LOG_CFG_MEM then (if s.hbmReady && isHbm (addr + 31) then (s.memWrite 0x3002 addr b).2 else s)
  else match s.mgrPort with
    | some q => s.hostWrite q addr b
    | none => s

/-- The manager function's vector VECTOR. -/
def State.jigVector (s : State) : State :=
  let s := s.withJig (fun j => { j with unsig := 0 })
  match s.mgrPort with
  | some q => s.sendVec (2 ^ 41) q 3 (s.get Reg.JIG_CFG_VECTOR)
  | none => s

/-- A record is written, counted and signalled. -/
def State.jigLog (s : State) (kind outcome target old new cause : Nat) : State :=
  let i := s.get Reg.JIG_LOG_PROD_PROD
  let b := s.jigRecord kind outcome target old new cause
  let s := s.jigStore (s.rd64 Reg.JIG_LOG_BASE + i % s.jigSize * 32) b
  let s := (s.set Reg.JIG_LOG_PROD_PROD (i + 1)).bump Reg.n_jig_decisions
  let s := if outcome = 1 then s.bump Reg.n_jig_refused_stop else if outcome = 2 then s.bump Reg.n_jig_refused_target else s
  let s := s.withJig (fun j => { j with
    seq := (j.seq + 1) % 2 ^ 32, recs := (j.recs ++ [b]).drop (j.recs.length - 255), unsig := j.unsig + 1,
    oldest := if j.unsig = 0 then s.now else j.oldest })
  let m := s.get Reg.JIG_CFG_LOG_MOD
  (if s.on Reg.JIG_CFG_VEC_EN && decide ((if m = 0 then 1 else m) ≤ s.jig.unsig) then s.jigVector else s).jigSync

/-- A slot reserved for the end of an operation that starts. -/
def State.jigReserve (s : State) : State := (s.withJig (fun j => { j with reserved := j.reserved + 1 })).jigSync

/-- The record that a reserved slot was kept for. -/
def State.jigEnd (s : State) (kind outcome target old new cause : Nat) : State :=
  (s.withJig (fun j => { j with reserved := j.reserved - 1 })).jigLog kind outcome target old new cause

/-- A decision is made only with a free slot; else it is forgone (R445). -/
def State.jigSlot (s : State) (go : State → State) : State :=
  if 0 < s.jigFree then go s
  else
    let s := s.bump Reg.n_jig_deferred
    if s.jig.fullUp then s
    else (s.raise EV_jig_log_full 0xFFFF [s.rd64 Reg.n_jig_deferred]).withJig (fun j => { j with fullUp := true })

/-- JIG_LOG_CONS_WRITE. -/
def State.jigCons (s : State) (v : Nat) : State :=
  if (v + 2 ^ 32 - s.get Reg.JIG_LOG_CONS_CONS) % 2 ^ 32 ≤ s.jigUsed then
    let s := s.set Reg.JIG_LOG_CONS_CONS v
    (s.withJig (fun j => { j with fullUp := j.fullUp && decide (s.jigFree = 0) })).jigSync
  else s

/-- JIG_LOG_SIGNAL_TIMER. -/
def State.jigTimer (s : State) : State := if decide (0 < s.jig.unsig) && s.on Reg.JIG_CFG_VEC_EN then s.jigVector else s

def execJigLogConsWrite (v : Nat) (s : State) : Host.Outcome State Fault Refusal := s.write (s.jigCons v)
def execJigLogSignalTimer (s : State) : Host.Outcome State Fault Refusal := s.run s.jigTimer

/-! ## The stop checker (R438–R442) -/

/-- May the jig act on a target of this kind: ENABLE and the target's allow bit (R438, R440)? -/
def State.jigAllowed (s : State) (kind target : Nat) : Bool :=
  s.on Reg.JIG_CFG_ENABLE &&
  (match kind with
   | 1 => s.on Reg.PWR_CFG_JIG_STATES
   | 2 => isDom target && s.on (Reg.PWR_DOMAIN_JIG_ALLOW target)
   | 3 => decide (target < 24) && s.on (Reg.CORE_CL_CFG_JIG_CLOCK target)
   | 4 => s.on Reg.XPT_CC_CFG_JIG_SPRAY
   | 5 => decide (target < 64) && s.on (Reg.CELL_SPILL_PROFILE_JIG_ALLOW target)
   | 6 => if target < 2 then s.on Reg.MEM_SCRUB_CFG_JIG_SCRUB else decide (target < 6) && s.on Reg.TBL_CFG_JIG_SCAN
   | 7 => decide (target < 64) && s.on (Reg.LANE_SPARE_CTRL_JIG_ALLOW target) && s.on Reg.JIG_STOP6_LANE
   | 8 => decide (target < 24) && s.on Reg.JIG_STOP6_CORE
   | 9 => s.on Reg.JIG_STOP6_ROW
   | 10 => decide (target / 256 < 4) && decide (target % 256 < 32) && s.on Reg.JIG_STOP6_PC
   | 11 => s.on Reg.JIG_STOP6_FUSE
   | _ => false)

/-- Highest cluster clock the stops allow; FMAX_MHZ above 2,400 acts as 2,400. -/
def State.fmax (s : State) : Nat := min 2400 (s.get Reg.JIG_STOP1_FMAX_MHZ)

/-- Does the value lie within the stop for its kind (R440, R442)? Raising a clock while the measured power exceeds POWER_CAP_W does
not. -/
def State.inStop (s : State) (d : JigDecision) : Bool :=
  match d.kind with
  | 1 => decide (d.new ≤ s.get Reg.JIG_STOP0_DEEPEST) &&
      (decide (d.new < 2) || (decide (s.devState = 1) && decide (s.get Reg.JIG_STOP0_MIN_IDLE_MS * 1000000 ≤ s.now - s.jig.idleAt)))
  | 2 => decide (d.new ≤ s.get Reg.JIG_STOP0_DEEPEST) && decide (d.new ≤ 2)
  | 3 => decide (d.new % 100 = 0) && decide (d.new ≤ s.fmax) && decide (min (s.get Reg.JIG_STOP1_FMIN_MHZ) s.fmax ≤ d.new) &&
      (decide (d.new ≤ d.old) || decide (s.jig.power ≤ s.get Reg.JIG_STOP2_POWER_CAP_W))
  | 4 => decide (s.get Reg.JIG_STOP5_WEIGHT_MAX_LO ≤ bits d.new 27 24) && decide (bits d.new 27 24 ≤ s.get Reg.JIG_STOP5_WEIGHT_MAX_HI) &&
      decide (s.get Reg.JIG_STOP5_CWND_INIT_LO ≤ d.new % 2 ^ 16) && decide (d.new % 2 ^ 16 ≤ s.get Reg.JIG_STOP5_CWND_INIT_HI) &&
      decide (putBits (putBits d.new 27 24 0) 15 0 0 = putBits (putBits d.old 27 24 0) 15 0 0)
  | 5 => decide (s.get Reg.JIG_STOP3_DIE_MIN * 1024 ≤ d.new) && decide (d.new ≤ s.get Reg.JIG_STOP3_DIE_MAX * 1024)
  | 6 => if d.target = 0 then decide (s.get Reg.JIG_STOP4_SCRUB_MIN_H ≤ d.new)
      else if d.target = 1 then decide (s.get Reg.JIG_STOP4_SRAM_SCRUB_MIN_MS * 100 ≤ d.new)
      else decide (s.get Reg.JIG_STOP4_SCAN_MIN_MS ≤ d.new)
  | _ => true

/-- What the field that a decision writes holds now (R439). -/
def State.jigField (s : State) (d : JigDecision) : Nat :=
  match d.kind with
  | 1 => s.devState
  | 2 => s.domState d.target
  | 3 => s.get (Reg.CORE_CL_STATUS_FREQ_MHZ d.target)
  | 4 => s.rd Reg.XPT_CC_CFG
  | 5 => s.get (Reg.CELL_SPILL_PROFILE_DIE_LIMIT d.target)
  | 6 => if d.target = 0 then s.get Reg.MEM_SCRUB_CFG_SCRUB_HOURS
      else if d.target = 1 then s.get Reg.MEM_SCRUB_CFG_SRAM_SCRUB_MS
      else s.get (Reg.TBL_SHARD_CFG_SCAN_PERIOD (d.target - 2))
  | 7 => s.rd (Reg.LANE_SPARE_CTRL d.target)
  | _ => d.old

/-- Clusters and spill profiles that sealed drawers keep from the jig (R441). -/
def State.jigSealed (s : State) (d : JigDecision) : Bool :=
  match d.kind with
  | 3 => decide (d.new < s.fmax) &&
      ((List.range 64).any (fun i => decide (0 < s.get (Reg.CORE_THREAD_SHARE_SHARE (d.target * 64 + i)))) ||
       s.drw.shares.any (fun e => s.sealed e.1 && e.2.any (fun h => decide (h.pool = 0xE) && decide (h.inst = d.target))))
  | 5 => s.tm.queues.any (fun e => decide (bits (s.tmWord 0 e.1 0) 21 16 = d.target) && (s.queueOwner e.1).any s.sealed)
  | _ => false

/-- Does the jig make the decision at all: 10 ms after the last change of its target, and no clock decision in a throttle (R440,
R441, R447)? -/
def State.jigMakes (s : State) (d : JigDecision) : Bool :=
  (decide (7 ≤ d.kind) || (match mget s.jig.lastAt (d.kind * 2 ^ 16 + d.target) with
    | some t => decide (10000000 ≤ s.now - t)
    | none => true)) &&
  !(decide (d.kind = 3) && s.on Reg.JIG_STATUS_THROTTLED) && !s.jigSealed d && decide (1 ≤ d.kind) && decide (d.kind ≤ 11)

/-! ## Spares (R451–R454) -/

/-- jig.spare_exhausted. -/
def State.exhausted (s : State) (kind target : Nat) : State := s.raise EV_jig_spare_exhausted 0xFFFF [kind, target]

/-- The lowest spare of a stack that a remap may take (R453). -/
def State.remapSpare (s : State) (st : Nat) : Option Nat :=
  (List.range 2).find? (fun k => decide (s.get (Reg.MEM_PC_SPARE_STATE st k) = 0) && !s.on (Reg.MEM_PC_SPARE_UNUSABLE st k) &&
    !bit (s.get Reg.JIG_COPY_STATUS_PC_FAILED) (2 * st + k))

/-- Does the cursor stand in a copy or a verification? -/
def State.remapOn (s : State) : Bool := decide (s.get Reg.JIG_COPY_STATUS_PHASE = 1) || decide (s.get Reg.JIG_COPY_STATUS_PHASE = 2)

/-- The cursor written: phase and next line. -/
def State.cursor (s : State) (phase line : Nat) : State :=
  ((s.set Reg.JIG_COPY_STATUS_PHASE phase).set Reg.JIG_COPY_CURSOR_LINE line).withJig (fun j => { j with line := line })

/-- TARGET of a remap's records: stack and pseudo-channel. -/
def State.remapTarget (s : State) : Nat := s.get Reg.JIG_COPY_STATUS_STACK * 256 + s.get Reg.JIG_COPY_STATUS_TARGET

/-- Step 1 of R453: a spare is put in MIRROR and the cursor set. Without one, the spares are exhausted. -/
def State.remapBegin (s : State) (target cause : Nat) : State :=
  let st := target / 256
  match s.remapSpare st with
  | none => (s.jigLog 10 3 target 0 0 cause).exhausted 10 target
  | some k =>
    let s := (s.set (Reg.MEM_PC_SPARE_TARGET st k) (target % 256)).moveSpare st k 1
    let s := ((s.set Reg.JIG_COPY_STATUS_STACK st).set Reg.JIG_COPY_STATUS_SPARE k).set Reg.JIG_COPY_STATUS_TARGET (target % 256)
    let s := (s.cursor 1 0).withJig (fun j => { j with remap := true })
    (s.jigLog 10 4 target 0 1 cause).jigReserve

/-- A remap ends without its spare in use: the cursor cleared, and the outcome recorded. -/
def State.remapStop (s : State) (outcome : Nat) : State :=
  ((s.cursor 0 0).withJig (fun j => { j with remap := false })).jigEnd 10 outcome s.remapTarget 1 0 0

/-- What a remap that runs meets between its steps (R454): the manager wrote the spare, or PC was cleared. -/
def State.remapCheck (s : State) : State :=
  if !s.remapOn then s
  else
    let st := s.get Reg.JIG_COPY_STATUS_STACK
    let k := s.get Reg.JIG_COPY_STATUS_SPARE
    if s.get (Reg.MEM_PC_SPARE_STATE st k) ≠ 1 ∨ s.get (Reg.MEM_PC_SPARE_TARGET st k) ≠ s.get Reg.JIG_COPY_STATUS_TARGET then s.remapStop 2
    else if !s.on Reg.JIG_STOP6_PC then (s.moveSpare st k 0).remapStop 1
    else if !s.jig.remap && s.hbmReady then
      let s := s.withJig (fun j => { j with remap := true, line := s.get Reg.JIG_COPY_CURSOR_LINE })
      (s.jigLog 10 5 s.remapTarget 0 s.jig.line 0).jigReserve
    else s

/-- The remap runs at present: a copy pauses while admission is closed (R454). -/
def State.remapRuns (s : State) (phase : Nat) : Bool :=
  decide (s.get Reg.JIG_COPY_STATUS_PHASE = phase) && s.jig.remap && !s.pwr.closed && s.on Reg.JIG_STATUS_RUNNING

/-- REMAP_CURSOR_SAVE: 16,384 more lines. -/
def State.remapSave (s : State) : State :=
  let n := s.jig.line + 16384
  if (s.remapRuns 1 || s.remapRuns 2) && decide (n < 12582912) then s.cursor (s.get Reg.JIG_COPY_STATUS_PHASE) n else s

/-- REMAP_COPY_DONE: step 3 begins. -/
def State.remapCopied (s : State) : State := if s.remapRuns 1 then s.cursor 2 0 else s

/-- A remap that waited for this one begins (R454). -/
def State.remapNext (s : State) : State :=
  match s.jig.pcWait with
  | [] => s
  | e :: l => ((s.withJig (fun j => { j with pcWait := l }))).jigSlot (·.remapBegin e.1 e.2)

/-- REMAP_VERIFY_DONE: the spare is IN_USE, or is put back and the other one tried. -/
def State.remapVerified (s : State) (ok : Bool) : State :=
  if !s.remapRuns 2 then s
  else
    let st := s.get Reg.JIG_COPY_STATUS_STACK
    let k := s.get Reg.JIG_COPY_STATUS_SPARE
    if ok then
      let s := ((s.moveSpare st k 2).cursor 3 0).withJig (fun j => { j with remap := false })
      (s.jigEnd 10 0 s.remapTarget 1 2 0).remapNext
    else
      let t := s.remapTarget
      let s := (s.moveSpare st k 0).set Reg.JIG_COPY_STATUS_PC_FAILED (putBits (s.get Reg.JIG_COPY_STATUS_PC_FAILED) (2 * st + k) (2 * st + k) 1)
      (s.remapStop 3).jigSlot (·.remapBegin t 0)

/-- Step 1 of R451: the core number waits for its threads to stop. -/
def State.coreBegin (s : State) (n c cause : Nat) : State :=
  if s.on (Reg.JIG_CORE_SPARE_IN_USE n) || s.on (Reg.JIG_CORE_SPARE_PENDING n) || s.on (Reg.JIG_CORE_SPARE_SPARE_FAILED n) || decide (8 ≤ c) then
    (s.jigLog 8 2 n 0 c cause).exhausted 8 n
  else
    let s := (s.set (Reg.JIG_CORE_SPARE_PENDING n) 1).set (Reg.JIG_CORE_SPARE_FOR_CORE n) c
    let s := s.raise EV_jig_core_pending 0xFFFF [n, c, s.get (Reg.JIG_CORE_HEALTH_MARGIN n c), s.get (Reg.JIG_CORE_HEALTH_AGE_PPM n c)]
    (s.jigLog 8 4 n 0 c cause).jigReserve

/-- CORE was cleared in the stops: sequences that wait are cancelled (R451). -/
def State.coreCancel (s : State) : State :=
  if s.on Reg.JIG_STOP6_CORE then s
  else (List.range 24).foldl (fun (s : State) n =>
    if s.on (Reg.JIG_CORE_SPARE_PENDING n) && !s.jig.testing.contains n then
      (s.set (Reg.JIG_CORE_SPARE_PENDING n) 0).jigEnd 8 1 n (s.get (Reg.JIG_CORE_SPARE_FOR_CORE n)) 0 0
    else s) s

/-- CORE_SPARE_IDLE: step 3, once the eight threads are STOPPED. -/
def State.coreIdle (s : State) (n : Nat) : State :=
  let c := s.get (Reg.JIG_CORE_SPARE_FOR_CORE n)
  if s.on (Reg.JIG_CORE_SPARE_PENDING n) && !s.jig.testing.contains n && (List.range 8).all (fun i => !s.live (64 * n + 8 * c + i)) then
    s.withJig (fun j => { j with testing := n :: j.testing })
  else s

/-- CORE_SPARE_SELFTEST_DONE: step 4, or the spare failed. -/
def State.coreTested (s : State) (n : Nat) (ok : Bool) : State :=
  if !s.jig.testing.contains n then s
  else
    let s := (s.withJig (fun j => { j with testing := j.testing.filter (fun x => !decide (x = n)) })).set (Reg.JIG_CORE_SPARE_PENDING n) 0
    let c := s.get (Reg.JIG_CORE_SPARE_FOR_CORE n)
    if ok then ((s.set (Reg.JIG_CORE_SPARE_IN_USE n) 1).bump Reg.n_spares_substituted).jigEnd 8 0 n c 1 0
    else ((s.set (Reg.JIG_CORE_SPARE_SPARE_FAILED n) 1).jigEnd 8 3 n c 0 0).exhausted 8 n

def execRemapCursorSave (s : State) : Host.Outcome State Fault Refusal := s.run s.remapSave
def execRemapCopyDone (s : State) : Host.Outcome State Fault Refusal := s.run s.remapCopied
def execRemapVerifyDone (ok : Bool) (s : State) : Host.Outcome State Fault Refusal := s.run (s.remapVerified ok)
def execCoreSpareIdle (n : Nat) (s : State) : Host.Outcome State Fault Refusal := s.run (s.coreIdle n)
def execCoreSpareSelftestDone (n : Nat) (ok : Bool) (s : State) : Host.Outcome State Fault Refusal := s.run (s.coreTested n ok)

/-! ## Fusing (R449, R450) -/

/-- The substitutions that stand now and are not fused. -/
def State.standing (s : State) : List Subst :=
  ((List.range 64).filter (fun n => s.on (Reg.LANE_SPARE_STATUS_IN_USE n) && decide (s.spareState n = 3) &&
      !bit (s.get (Reg.LANE_SPARE_STATUS_RETIRED n)) (s.get (Reg.LANE_SPARE_STATUS_IN_USE_FOR n)))).map
    (fun n => ⟨7, n, s.get (Reg.LANE_SPARE_STATUS_IN_USE_FOR n), s.now⟩) ++
  ((List.range 24).filter (fun n => s.on (Reg.JIG_CORE_SPARE_IN_USE n) && !s.on (Reg.JIG_CORE_SPARE_COMMITTED n))).map
    (fun n => ⟨8, n, s.get (Reg.JIG_CORE_SPARE_FOR_CORE n), s.now⟩) ++
  s.mem.subst.flatMap (fun (e : Nat × List (Nat × Nat × Bool)) => (e.2.filter (fun x => !x.2.2)).map (fun x => ⟨9, e.1, x.1 * 2 ^ 16 + x.2.1, s.now⟩)) ++
  ((List.range 8).filter (fun i => decide (s.get (Reg.MEM_PC_SPARE_STATE (i / 2) (i % 2)) = 2) && !s.on (Reg.MEM_PC_SPARE_COMMITTED (i / 2) (i % 2)))).map
    (fun i => ⟨10, i, s.get (Reg.MEM_PC_SPARE_TARGET (i / 2) (i % 2)), s.now⟩)

/-- The jig's list of substitutions follows what stands: one that was reverted is forgotten, a new one begins its hold. -/
def State.subsSync (s : State) : State :=
  let now := s.standing
  s.withJig (fun j => { j with subs := now.map (fun (x : Subst) =>
    (j.subs.find? (fun (y : Subst) => decide (y.kind = x.kind) && decide (y.target = x.target) && decide (y.info = x.info))).getD x) })

/-- TARGET of a substitution's records (R444). -/
def Subst.logTarget (x : Subst) : Nat := if x.kind = 10 then x.target / 2 * 256 + x.info else x.target

/-- A burn begins in the next free record (R449). -/
def State.burnBegin (s : State) (x : Subst) (again : Bool) : State :=
  (s.withJig (fun j => { j with burn := some { sub := x, pos := j.fuses.length, again := again } })).jigReserve

/-- A fuse decision: the substitution has stood long enough and a record is free (R449). -/
def State.fuseDecide (s : State) (d : JigDecision) : State :=
  match s.jig.subs[d.target]? with
  | none => s
  | some x =>
    if s.jig.burn.isSome ∨ s.now - x.since < s.get Reg.JIG_STOP6_FUSE_HOLD_H * 3600000000000 then s.jigLog 11 1 x.logTarget d.old d.new d.cause
    else if 512 ≤ s.jig.fuses.length then (s.jigLog 11 3 x.logTarget d.old d.new d.cause).raise EV_jig_fuse_full 0xFFFF [s.jig.subs.length]
    else s.burnBegin x false

/-- FUSE_BURN_DONE: VALID was burned last and read back, or the burn failed and is retried once. -/
def State.burnDone (s : State) (ok : Bool) : State :=
  match s.jig.burn with
  | none => s
  | some b =>
    let r : FuseRec := { kind := b.sub.kind, target := b.sub.target, info := b.sub.info, valid := ok }
    let s := (s.withJig (fun j => { j with burn := none, fuses := j.fuses ++ [r] })).fuseSync
    if ok then (((s.applyFuse r).bump Reg.n_fuses_burned).jigEnd 11 0 b.sub.logTarget 0 1 b.sub.kind).subsSync
    else
      let s := (s.jigEnd 11 3 b.sub.logTarget 0 1 b.sub.kind).raise EV_jig_fuse_fail 0xFFFF [b.pos, b.sub.kind]
      let s := s.withJig (fun j => { j with subs := j.subs.map (fun (x : Subst) => if x = b.sub then { x with since := s.now } else x) })
      if b.again then s
      else if 512 ≤ s.jig.fuses.length then s.raise EV_jig_fuse_full 0xFFFF [s.jig.subs.length]
      else s.jigSlot (·.burnBegin b.sub true)

def execFuseBurnDone (ok : Bool) (s : State) : Host.Outcome State Fault Refusal := s.run (s.burnDone ok)

/-! ## Decisions (R437, R440) -/

/-- A write that passed the checker reaches its target: whether the target took it. -/
def State.jigWrite (s : State) (d : JigDecision) : Bool × State :=
  match d.kind with
  | 1 => ((s.pwrRefusal d.new).isNone, s.pwrRequest d.new true)
  | 2 => s.domRequest d.target d.new 1
  | 3 => (true, s.set (Reg.CORE_CL_STATUS_FREQ_MHZ d.target) d.new)
  | 4 => (true, s.wr Reg.XPT_CC_CFG d.new)
  | 5 => (true, s.set (Reg.CELL_SPILL_PROFILE_DIE_LIMIT d.target) d.new)
  | 6 => (true, if d.target = 0 then s.set Reg.MEM_SCRUB_CFG_SCRUB_HOURS d.new
      else if d.target = 1 then s.set Reg.MEM_SCRUB_CFG_SRAM_SCRUB_MS d.new
      else s.set (Reg.TBL_SHARD_CFG_SCAN_PERIOD (d.target - 2)) d.new)
  | 7 =>
    let full := decide (s.spareState d.target = 3)
    let (ok, s) := s.spareGo d.target (d.new % 8) (bit d.new 4) true
    (ok, if full then (s.raise EV_lane_spare_exhausted d.target [d.target, d.new % 8]).exhausted 7 d.target else s)
  | _ => (true, s)

/-- What a decision's record gives as its TARGET (R444). -/
def decisionTarget (d : JigDecision) : Nat :=
  if d.kind = 1 ∨ d.kind = 4 ∨ d.kind = 6 then 0xFFFF else d.target

/-- A row repair by the jig (R452). -/
def State.rowDecide (s : State) (d : JigDecision) : State :=
  if (s.freeRow d.target).isNone then (s.jigLog 9 2 d.target d.old d.new d.cause).exhausted 9 d.target
  else if s.rowBad d.target d.new then s.jigLog 9 2 d.target d.old d.new d.cause
  else (s.repairRow d.target d.new).jigLog 9 0 d.target d.old d.new d.cause

/-- One decision: checked, made and recorded (R438–R440, R445). -/
def State.jigDecide (s : State) (d : JigDecision) : State :=
  if !s.jigMakes d then s
  else s.jigSlot (fun s =>
    let t := decisionTarget d
    if !s.jigAllowed d.kind d.target || !s.inStop d then s.jigLog d.kind 1 t d.old d.new d.cause
    else if s.jigField d ≠ d.old then s.jigLog d.kind 2 t d.old d.new d.cause
    else match d.kind with
      | 8 => s.coreBegin d.target d.new d.cause
      | 9 => s.rowDecide d
      | 10 => if s.remapOn then s.withJig (fun j => { j with pcWait := j.pcWait ++ [(d.target, d.cause)] }) else s.remapBegin d.target d.cause
      | 11 => s.fuseDecide d
      | _ =>
        let (ok, s) := s.jigWrite d
        let s := if ok then s.withJig (fun j => { j with lastAt := mput j.lastAt (d.kind * 2 ^ 16 + d.target) s.now }) else s
        s.jigLog d.kind (if ok then 0 else 2) t d.old d.new d.cause)

/-- Is an offset one of the health registers that the spine keeps (R446)? -/
def isHealth (a : Nat) : Bool :=
  (decide (Reg.JIG_HEALTH 0 ≤ a) && decide (a < Reg.JIG_HEALTH 128) && decide (a % 4 = 0)) ||
  (decide (Reg.JIG_CORE_HEALTH 0 0 ≤ a) && decide (a < Reg.JIG_CORE_HEALTH 24 0) && decide (a % 4 = 0))

/-- JIG_TICK: readings are gathered, and jig firmware, while it runs, makes the decisions it chooses (R437, R446). -/
def State.jigTick (s : State) (health : List (Nat × Nat)) (ds : List JigDecision) : State :=
  let s := (health.filter (fun e => isHealth e.1)).foldl (fun (s : State) (e : Nat × Nat) => s.wr e.1 e.2) s
  if !s.on Reg.JIG_STATUS_RUNNING then s
  else ds.foldl (fun (s : State) (d : JigDecision) => s.jigDecide d) (s.subsSync.remapCheck)

def execJigTick (health : List (Nat × Nat)) (ds : List JigDecision) (s : State) : Host.Outcome State Fault Refusal := s.run (s.jigTick health ds)

/-! ## Heat and power (R447, R542) -/

/-- The ALERT_N and THERMTRIP_N pins are active low. -/
def State.alertPin (s : State) (name : String) (asserted : Bool) : State := s.emit (.pin name (!asserted))

/-- THERMAL_THROTTLE: every cluster clock halved. -/
def State.throttle (s : State) (i temp : Nat) : State :=
  if s.on Reg.JIG_STATUS_THROTTLED then s
  else
    let s := s.withJig (fun j => { j with clock := (List.range 24).map (fun n => (n, s.get (Reg.CORE_CL_STATUS_FREQ_MHZ n))) })
    let s := (List.range 24).foldl (fun (s : State) n => s.set (Reg.CORE_CL_STATUS_FREQ_MHZ n) (s.get (Reg.CORE_CL_STATUS_FREQ_MHZ n) / 2)) s
    ((((s.set Reg.JIG_STATUS_THROTTLED 1).alertPin "ALERT_N" true).bump Reg.n_throttle_count)).raise EV_jig_throttle 0xFFFF [i, temp]

/-- THROTTLE_RELEASE. -/
def State.throttleEnd (s : State) (i temp : Nat) : State :=
  if !s.on Reg.JIG_STATUS_THROTTLED then s
  else
    let s := s.jig.clock.foldl (fun (s : State) (e : Nat × Nat) => s.set (Reg.CORE_CL_STATUS_FREQ_MHZ e.1) e.2) s
    let s := (s.withJig (fun j => { j with clock := [] })).set Reg.JIG_STATUS_THROTTLED 0
    (s.alertPin "ALERT_N" false).raise EV_jig_throttle 0xFFFF [i, temp]

/-- THERMTRIP: the pin is asserted and the device halts with cause THERMAL (R447, R524). -/
def State.thermtrip (s : State) (i temp : Nat) : State := (s.alertPin "THERMTRIP_N" true).halt 8 [i + temp * 256, 0, 0, 0]

/-- Power of each rail at TDP, in W (R540). -/
def railTdp : List Nat := [150, 160, 117, 5, 110, 60, 15, 36, 18, 6, 3, 0]

/-- PMBUS_POLL: the sum of the readings; a regulator that does not answer counts with its rail's TDP power (R542). -/
def State.pmbus (s : State) (p : List (Option Nat)) : State :=
  s.withJig (fun j => { j with power := (railTdp.zipIdx).foldl (fun a e => a + ((p[e.2]?.getD none).getD e.1)) 0 })

def execThermalThrottle (i temp : Nat) (s : State) : Host.Outcome State Fault Refusal := s.always (s.throttle i temp)
def execThrottleRelease (i temp : Nat) (s : State) : Host.Outcome State Fault Refusal := s.always (s.throttleEnd i temp)
def execThermtrip (i temp : Nat) (s : State) : Host.Outcome State Fault Refusal := s.always (s.thermtrip i temp)
def execPmbusPoll (p : List (Option Nat)) (s : State) : Host.Outcome State Fault Refusal := s.run (s.pmbus p)

end Sys2Proof.Machine
end

