-- ==== Sys2Proof/Machine/Quiesce.lean ====
section
/-! DEFINITION. The steps of the quiesce sequence as the engines report them (R104). -/

namespace Sys2Proof.Machine

/-- A report that belongs to a step is acted on while the drawer waits in that step. -/
def State.atStep (s : State) (d : Nat) (st : QStep) (f : Quiesce → State) : State :=
  match mget s.drw.quiesce d with
  | some q => if q.step = st then f q else s
  | none => s

/-- QUIESCE_FETCH_IDLE: step 1 is done; the drain begins, or step 3 where it is skipped. -/
def State.fetchIdle (s : State) (d : Nat) : State :=
  s.atStep d .fetch (fun q => if q.skipDrain then s.quiesceAbort d q else s.setQuiesce d { q with step := .drain })
/-- QUIESCE_DRAIN_DONE: no work of the drawer is in any engine. -/
def State.drainEnd (s : State) (d : Nat) : State :=
  s.atStep d .drain (fun q => if (s.drainItems d).isEmpty then s.quiesceAbort d q else s)
/-- QUIESCE_DRAIN_TIMEOUT: the drain reaches its bound (R104). -/
def State.drainTimeout (s : State) (d : Nat) : State :=
  s.atStep d .drain (fun q =>
    ((s.bump Reg.n_quiesce_timeout).raise EV_drw_quiesce_timeout d [(s.drainItems d).length]).quiesceAbort d { q with timedOut := true })
/-- QUIESCE_ABORT_DONE: no work of the drawer is active; step 4 begins. -/
def State.abortEnd (s : State) (d : Nat) : State := s.atStep d .abort (fun q => s.purgeBegin d q)
/-- GENERATION_PURGE_DONE: no engine holds work of an older generation; the flush read goes out while the link is up. -/
def State.purgeEnd (s : State) (d : Nat) : State :=
  s.atStep d .purge (fun q =>
    if q.fromQ then s.resetBegin d q
    else if s.drLink d then
      (s.emit (.pcie ((s.drPort d).getD 0) .flushRead)).setQuiesce d { q with step := .flush }
    else s.quiesced d q)
/-- QUIESCE_FLUSH_READ_DONE: the flush read has ended, by its completion, its timeout or the loss of the link. -/
def State.flushEnd (s : State) (d : Nat) : State := s.atStep d .flush (fun q => s.quiesced d q)
/-- RESET_STEP_DONE: the reset is complete once the sweeps of the drawer's tables have ended. -/
def State.resetStep (s : State) (d : Nat) : State :=
  s.atStep d .reset (fun q => if (s.tablesOf d).any (fun t => s.sweeping t) then s else s.resetEnd d q)

def execQuiesceFetchIdle (d : Nat) (s : State) : Host.Outcome State Fault Refusal := s.run (s.fetchIdle d)
def execQuiesceDrainDone (d : Nat) (s : State) : Host.Outcome State Fault Refusal := s.run (s.drainEnd d)
def execQuiesceDrainTimeout (d : Nat) (s : State) : Host.Outcome State Fault Refusal := s.run (s.drainTimeout d)
def execQuiesceAbortDone (d : Nat) (s : State) : Host.Outcome State Fault Refusal := s.run (s.abortEnd d)
def execGenerationPurgeDone (d : Nat) (s : State) : Host.Outcome State Fault Refusal := s.run (s.purgeEnd d)
def execQuiesceFlushReadDone (d : Nat) (s : State) : Host.Outcome State Fault Refusal := s.run (s.flushEnd d)
def execResetStepDone (d : Nat) (s : State) : Host.Outcome State Fault Refusal := s.run (s.resetStep d)

end Sys2Proof.Machine
end

