-- ==== Sys2Proof/Machine/Threads.lean ====
section
/-! DEFINITION. The thread extension, channels, ports, wait-all detection, starts and the registers of the core array
(R313–R336). -/

namespace Sys2Proof.Machine

/-! ## Sending (R321, R322) -/

/-- A refused commit: the slot is discarded, counted and reported (R322). -/
def State.chRefuse (s : State) (t dest why : Nat) : State :=
  let s := s.setThread t { s.thread t with stage := none }
  let s := s.bump (Reg.n_ch_refused (t / 64))
  s.coreEvent (t / 64) EV_core_ch_refused (t / 64) [thrMaster t, dest, why]

/-- A word appended to the staging slot; none where it does not fit the message staged (R321). -/
def Thread.append (x : Thread) (a w : Nat) : Option (Nat × Nat × List Nat) :=
  let dest := a % 2 ^ 16
  let reply := bits a 31 16
  match x.stage with
  | none => some (dest, reply, [w % 2 ^ 32])
  | some (d, r, l) => if d = dest ∧ r = reply ∧ l.length < 32 then some (d, r, l ++ [w % 2 ^ 32]) else none

/-- CHPUT. -/
def State.opChput (s : State) (t rd rs1 rs2 : Nat) : State :=
  let x := s.thread t
  match x.append (x.getX rs1) (x.getX rs2) with
  | none => (s.setThread t { x with stage := none }).retire t rd (failed 6)
  | some m => (s.setThread t { x with stage := some m }).retire t rd 0

/-- CHPUTL and CHPUTLN: the last word and the commit. -/
def State.opCommit (s : State) (t rd rs1 rs2 : Nat) (blocking : Bool) : State :=
  let x := s.thread t
  match x.append (x.getX rs1) (x.getX rs2) with
  | none => (s.setThread t { x with stage := none }).retire t rd (failed 6)
  | some (dest, reply, l) =>
    if s.coreReset dest then (((s.resetHit 10 (epCl dest)).setThread t { x with stage := none })).retire t rd (failed 7)
    else match s.chRefusal t dest reply with
    | some why => (s.chRefuse t dest why).retire t rd (failed 5)
    | none =>
      let m : Msg := { id := 0, src := thrMaster t, dest := dest, reply := reply, words := l }
      if blocking then (s.setThread t { x with stage := none }).block t 3 0 rd 0 false (some m)
      else if s.commitRoom m then ((s.setThread t { x with stage := none }).send m).retire t rd 0
      else s.retire t rd (failed 4)

/-- CH_COMMIT_DELIVERED: a blocked commit has room and is delivered (R322). -/
def State.opCommitDelivered (s : State) (t : Nat) : State :=
  match (s.thread t).wait with
  | none => s
  | some w =>
    match w.commit with
    | none => s
    | some m => if decide (s.thState t = 2) && s.commitRoom m then (s.send m).threadResult t 0 else s

/-! ## Reading (R323) -/

/-- CHRECV, CHRECVN, CHHDR and CHHDRN. -/
def State.opRead (s : State) (t rd rs1 timeout : Nat) (header blocking : Bool) : State :=
  let e := (s.thread t).getX rs1 % 64
  let id := ownEp t e
  let x := s.endp id
  if !s.mayRead t e then s.retire t rd (failed 5)
  else if x.msgs.isEmpty then
    if blocking then s.block t 1 e rd (timeoutOf timeout) header none else s.retire t rd (failed 3)
  else if header then s.retire t rd x.header
  else
    let (v, x) := x.take
    (s.setEndp id x).retire t rd v

/-- CHSKIP. An empty endpoint answers EMPTY. -/
def State.opSkip (s : State) (t rd rs1 : Nat) : State :=
  let e := (s.thread t).getX rs1 % 64
  let id := ownEp t e
  let x := s.endp id
  if !s.mayRead t e then s.retire t rd (failed 5)
  else if x.msgs.isEmpty then s.retire t rd (failed 3)
  else (s.setEndp id { x with msgs := x.msgs.tail, read := 0 }).retire t rd 0

/-! ## Ports (R327) -/

/-- May a thread use a port of its cluster? -/
def State.portAdmits (s : State) (t p : Nat) : Bool :=
  !s.on (Reg.CORE_PORT_CFG_INTERNAL (t / 64) p) ||
  decide (s.get (Reg.CORE_PORT_CFG_GROUP (t / 64) p) = s.get (Reg.CORE_THREAD_STATUS_MASTER t))

/-- PWAIT and PWAITN. -/
def State.opPwait (s : State) (t rd rs1 timeout : Nat) (blocking : Bool) : State :=
  let p := (s.thread t).getX rs1 % 64
  let v := s.get (Reg.CORE_PORT_VALUE_VALUE (t / 64) p)
  if !s.portAdmits t p then s.retire t rd (failed 5)
  else if v ≠ 0 then (s.set (Reg.CORE_PORT_VALUE_VALUE (t / 64) p) 0).retire t rd v
  else if blocking then s.block t 2 p rd (timeoutOf timeout) false none
  else s.retire t rd (failed 3)

/-- PSET. -/
def State.opPset (s : State) (t rd rs1 rs2 : Nat) : State :=
  let x := s.thread t
  let p := x.getX rs1 % 64
  if !s.portAdmits t p then s.retire t rd (failed 5) else (s.retire t rd 0).portSet (t / 64) p (x.getX rs2)

/-! ## Start, release and groups (R316–R318) -/

/-- May `t` start `u`: the master of its group, a thread that exists, in its own cluster or one that accepts starts from it (R317)? -/
def State.startAdmits (s : State) (t u : Nat) : Bool :=
  decide (s.master t = t) && decide (u < 1536) &&
  (decide (u / 64 = t / 64) || bit (s.get (Reg.CORE_CL_CFG_START_ACCEPT (u / 64))) (t / 64))

/-- Is `u` another member of the group that `t` is the master of (R318)? -/
def State.ownMember (s : State) (t u : Nat) : Bool :=
  decide (s.master t = t) && !decide (u = t) && decide (u / 64 = t / 64) && s.live u && decide (s.master u = t)

/-- Is `t` a master with live members besides itself (R316, R318)? -/
def State.hasMembers (s : State) (t : Nat) : Bool := decide (s.master t = t) && decide (1 < (s.members t).length)

/-- TSTART. -/
def State.opTstart (s : State) (t rd rs1 rs2 : Nat) : State :=
  let x := s.thread t
  let a := x.getX rs1
  let u := a % 2 ^ 11
  if !s.startAdmits t u then s.retire t rd (failed 5)
  else if s.live u || s.startHeld u then s.retire t rd (failed 8)
  else
    let y := { ((Thread.reset.setX 10 (bits a 63 32)).setX 11 t) with pc := x.getX rs2, priv := x.priv }
    let y := y.setCsr 0x180 (x.csrOf 0x180)
    (s.startThread u (if u / 64 = t / 64 then t else u) y).retire t rd 0

/-- TRELEASE. -/
def State.opTrelease (s : State) (t rd rs1 : Nat) : State :=
  let u := (s.thread t).getX rs1 % 2 ^ 11
  if s.ownMember t u then
    ((s.stopThread u).bump (Reg.n_thread_releases (u / 64))).retire t rd 0
  else s.retire t rd (failed 5)

/-- TEXIT. -/
def State.opTexit (s : State) (t rd : Nat) : State :=
  if s.hasMembers t then s.retire t rd (failed 8)
  else (s.stopThread t).bump (Reg.n_thread_releases (t / 64))

/-- TGROUP. -/
def State.opTgroup (s : State) (t rd : Nat) : State :=
  if s.hasMembers t then s.retire t rd (failed 8)
  else (s.set (Reg.CORE_THREAD_STATUS_MASTER t) (t % 64)).retire t rd 0

/-- TINFO. -/
def State.opTinfo (s : State) (t rd : Nat) : State := s.retire t rd (s.master t * 2 ^ 32 + t)

def execChput (t rd rs1 rs2 : Nat) (s : State) : Host.Outcome State Fault Refusal := s.run (s.ext t (·.opChput t rd rs1 rs2))
def execChputl (t rd rs1 rs2 : Nat) (s : State) : Host.Outcome State Fault Refusal :=
  s.run (s.ext t (·.opCommit t rd rs1 rs2 true))
def execChputln (t rd rs1 rs2 : Nat) (s : State) : Host.Outcome State Fault Refusal :=
  s.run (s.ext t (·.opCommit t rd rs1 rs2 false))
def execChrecv (t rd rs1 rs2 : Nat) (s : State) : Host.Outcome State Fault Refusal :=
  s.run (s.ext t (fun s => s.opRead t rd rs1 ((s.thread t).getX rs2) false true))
def execChrecvn (t rd rs1 : Nat) (s : State) : Host.Outcome State Fault Refusal :=
  s.run (s.ext t (·.opRead t rd rs1 0 false false))
def execChhdr (t rd rs1 rs2 : Nat) (s : State) : Host.Outcome State Fault Refusal :=
  s.run (s.ext t (fun s => s.opRead t rd rs1 ((s.thread t).getX rs2) true true))
def execChhdrn (t rd rs1 : Nat) (s : State) : Host.Outcome State Fault Refusal :=
  s.run (s.ext t (·.opRead t rd rs1 0 true false))
def execChskip (t rd rs1 : Nat) (s : State) : Host.Outcome State Fault Refusal := s.run (s.ext t (·.opSkip t rd rs1))
def execPwait (t rd rs1 rs2 : Nat) (s : State) : Host.Outcome State Fault Refusal :=
  s.run (s.ext t (fun s => s.opPwait t rd rs1 ((s.thread t).getX rs2) true))
def execPwaitn (t rd rs1 : Nat) (s : State) : Host.Outcome State Fault Refusal := s.run (s.ext t (·.opPwait t rd rs1 0 false))
def execPset (t rd rs1 rs2 : Nat) (s : State) : Host.Outcome State Fault Refusal := s.run (s.ext t (·.opPset t rd rs1 rs2))
def execTstart (t rd rs1 rs2 : Nat) (s : State) : Host.Outcome State Fault Refusal := s.run (s.ext t (·.opTstart t rd rs1 rs2))
def execTrelease (t rd rs1 : Nat) (s : State) : Host.Outcome State Fault Refusal := s.run (s.ext t (·.opTrelease t rd rs1))
def execTexit (t rd : Nat) (s : State) : Host.Outcome State Fault Refusal := s.run (s.ext t (·.opTexit t rd))
def execTgroup (t rd : Nat) (s : State) : Host.Outcome State Fault Refusal := s.run (s.ext t (·.opTgroup t rd))
def execTinfo (t rd : Nat) (s : State) : Host.Outcome State Fault Refusal := s.run (s.ext t (·.opTinfo t rd))

def execChCommitDelivered (t : Nat) (s : State) : Host.Outcome State Fault Refusal := s.run (s.opCommitDelivered t)

/-! ## Deliveries (R324, R326) -/

/-- Is this a message from a sender to an endpoint? The engines count as one sender. -/
def msgHit (src dest : Nat) (m : Msg) : Bool :=
  decide (m.dest = dest) && (decide (m.src = src) || (decide (2 ^ 16 ≤ src) && decide (2 ^ 16 ≤ m.src)))

/-- CH_MESSAGE_ARRIVAL: the oldest message of a sender to a thread endpoint becomes available, and a blocked reader resumes. A
message that finds its endpoint disabled is lost, an engine's reply counted (R22, R324, R332). At a sleeping cluster it waits and wakes the
domain. -/
def State.opArrival (s : State) (src dest : Nat) : State :=
  match s.core.flight.find? (msgHit src dest) with
  | none => s
  | some m =>
    if dest / 2 ^ 14 ≠ 0 ∨ 24 ≤ epCl dest then s
    else if 2 ≤ s.domState (32 + epCl dest) then s.domWake (32 + epCl dest)
    else
      let s := { s with core := { s.core with flight := s.core.flight.eraseP (msgHit src dest) } }
      if !s.epOn dest then if 2 ^ 16 ≤ m.src then s.bump (Reg.n_reply_discard (epCl dest)) else s
      else
        let x := s.endp dest
        let s := (s.setEndp dest { x with msgs := x.msgs ++ [m] }).bump (Reg.n_ch_messages (epCl dest))
        s.wake dest

def execChMessageArrival (src dest : Nat) (s : State) : Host.Outcome State Fault Refusal := s.run (s.opArrival src dest)

/-- The first frame of CORE[n] that can leave: one whose endpoint refuses it, or has room; a full endpoint's frames wait and
keep their order (R326). -/
def State.coreHead (s : State) : List (Frame × Nat) → List Nat → List (Frame × Nat) → Option (Frame × Nat × List (Frame × Nat))
  | [], _, _ => none
  | (f, e) :: t, full, skipped =>
    if full.contains e then s.coreHead t full (skipped ++ [(f, e)])
    else if !s.epOn e || !bit (s.epAccept e) 3 || s.epRoom e 4 then some (f, e, skipped ++ t)
    else s.coreHead t (e :: full) (skipped ++ [(f, e)])

/-- The words of a frame's message (R326). -/
def State.coreWords (s : State) (f : Frame) : List Nat :=
  [f.quire, f.port % 2 ^ 16 * 2 ^ 16 + s.frameLen f % 2 ^ 16,
   f.drawer % 2 ^ 16 * 2 ^ 16 + f.tmpl % 256 * 256 + f.kind % 256, ((s.quire f.quire).map (·.arrival)).getD 0 % 2 ^ 32]

/-- CORE_DELIVERY (R226, R326). -/
def State.opCoreDelivery (s : State) (n : Nat) : State :=
  match s.coreHead (mgetD s.tm.coreQ n []) [] [] with
  | none => s
  | some (f, e, rest) =>
    if 2 ≤ s.domState (32 + n) then s.domWake (32 + n) else
    let s := { s with tm := { s.tm with coreQ := mputD s.tm.coreQ n rest [] } }
    let owner := ((s.quire f.quire).map (·.owner)).getD 0
    if f.drawer ≠ 0 ∧ s.stale (f.drawer - 1) f.gen then (s.bump Reg.n_stale_result_discard).release f.quire
    else if !s.epOn e || !bit (s.epAccept e) 3 then
      let s := (s.release f.quire).bump (Reg.n_deliver_drop n)
      s.coreEvent (0x20000 + e) EV_core_deliver_drop n [e, owner]
    else s.send { id := 0, src := owner, dest := e, reply := 0xFFFF, words := s.coreWords f }

def execCoreDelivery (n : Nat) (s : State) : Host.Outcome State Fault Refusal := s.run (s.opCoreDelivery n)

/-! ## Ends of waits (R323, R329) -/

/-- THREAD_WAIT_TIMEOUT: a blocked read's own timeout passes. -/
def State.opWaitTimeout (s : State) (t : Nat) : State :=
  match (s.thread t).wait with
  | none => s
  | some w =>
    if decide (s.thState t = 2) && !decide (w.timeout = 0) && w.commit.isNone then
      (s.bump (Reg.n_ch_timeouts (t / 64))).threadResult t (failed 2)
    else s

def execThreadWaitTimeout (t : Nat) (s : State) : Host.Outcome State Fault Refusal := s.run (s.opWaitTimeout t)

/-- Is an endpoint internal with its reader in the group of `m`, or a port internal to it (R320, R327, R329)? -/
def State.waitsInside (s : State) (m t : Nat) : Bool :=
  let i := s.get (Reg.CORE_THREAD_STATUS_BLOCK_INDEX t)
  match (s.thread t).wait with
  | none => false
  | some w =>
    decide (s.thState t = 2) && decide (w.timeout = 0) &&
    (match s.get (Reg.CORE_THREAD_STATUS_BLOCK_KIND t) with
      | 1 => decide (s.epAccept (ownEp t i) = 1) && decide (s.master (s.epReader (ownEp t i)) = m) &&
          !(s.core.flight.any (fun x => decide (x.dest = ownEp t i))) &&
          !(s.core.threads.any (fun e => match e.2.wait with
            | some v => (match v.commit with
              | some c => decide (c.dest = ownEp t i)
              | none => false)
            | none => false))
      | 2 => s.on (Reg.CORE_PORT_CFG_INTERNAL (t / 64) i) && decide (s.get (Reg.CORE_PORT_CFG_GROUP (t / 64) i) = m % 64)
      | _ => false)

/-- WAIT_ALL_DETECT: the conditions of R329 have held for 4,096 cycles in the group of master `m`. -/
def State.opWaitAll (s : State) (m : Nat) : State :=
  let l := s.members m
  if l.isEmpty || !l.all (fun t => s.waitsInside m t) || !l.contains m then s
  else
    let mask := l.foldl (fun a t => a + 2 ^ (t % 64)) 0
    let s := (s.threadResult m (failed 1)).bump (Reg.n_wait_all_count (m / 64))
    s.raise EV_core_wait_all m [mask, s.get (Reg.CORE_CL_STATUS_FREQ_MHZ (m / 64))]

def execWaitAllDetect (t : Nat) (s : State) : Host.Outcome State Fault Refusal := s.run (s.opWaitAll t)

/-! ## Registers of the core array (R305, R319, R331, R336) -/

/-- A write of CORE_THREAD_CTL without START or RESET: START_MODE, and START_REFUSED cleared by a 1. -/
def State.threadCtl (s : State) (t v : Nat) : State :=
  let s := if bit v 29 then s.set (Reg.CORE_THREAD_CTL_START_REFUSED t) 0 else s
  s.set (Reg.CORE_THREAD_CTL_START_MODE t) (v % 4)

/-- START (R319). -/
def State.opStartReg (s : State) (t v : Nat) : State :=
  let s := s.threadCtl t v
  if s.live t || s.startHeld t then s.set (Reg.CORE_THREAD_CTL_START_REFUSED t) 1
  else
    let m := s.get (Reg.CORE_THREAD_CTL_START_MODE t)
    let x := (Thread.reset.setX 10 (s.get (Reg.CORE_THREAD_ARG_ARG t))).setX 11 (2 ^ 64 - 1)
    s.startThread t t { x with pc := s.get (Reg.CORE_THREAD_PC_PC t), priv := if m = 2 then 3 else m }

def execThreadStartReg (t v : Nat) (s : State) : Host.Outcome State Fault Refusal := s.write (s.opStartReg t v)

/-- A thread reset (R10, R316, R319). -/
def State.threadReset (s : State) (t : Nat) : State :=
  let l := if s.live t ∧ s.master t = t then s.members t else []
  let s := s.stopThread t
  let s := (s.set (Reg.CORE_THREAD_CTL_START_REFUSED t) 0).set (Reg.CORE_THREAD_CTL_START_MODE t) 3
  let s := (s.set (Reg.CORE_THREAD_SHARE_SHARE_REFUSED t) 0).set (Reg.CORE_THREAD_SHARE_SHARE t) 0
  s.newMaster t l

/-- RESET (R319). The thread's B-class fields go to their reset values, whatever the same write gives them (R10). -/
def State.opThreadReset (s : State) (t : Nat) : State := s.threadReset t

def execThreadReset (t v : Nat) (s : State) : Host.Outcome State Fault Refusal :=
  s.write ((s.threadCtl t v).opThreadReset t)

/-- DISCARD in CORE_STAGE_CTL (R331). -/
def State.opStageDiscard (s : State) (v : Nat) : State :=
  let s := if bit v 30 then s.set Reg.CORE_STAGE_CTL_DISCARD_REFUSED 0 else s
  let t := s.get Reg.CORE_STAGE_SEL_THREAD
  if s.thState t = 3 then
    match (s.thread t).stage with
    | none => s
    | some (dest, _, l) =>
      (s.setThread t { s.thread t with stage := none }).raise EV_core_stage_discard t [dest, l.length]
  else s.set Reg.CORE_STAGE_CTL_DISCARD_REFUSED 1

def execStageDiscard (v : Nat) (s : State) : Host.Outcome State Fault Refusal := s.write (s.opStageDiscard v)

/-- EP_CFG_WRITE (R336). -/
def State.opEpCfg (s : State) (n c e v : Nat) : State :=
  let id := n * 512 + c * 64 + e
  let x := s.endp id
  if !x.msgs.isEmpty && bit v 31 then s
  else
    let s := s.wr (Reg.CORE_EP_CFG n c e) (Nat.land v 0x8F000007)
    if bit v 31 then s else s.setEndp id { x with msgs := [], read := 0 }

def execEpCfgWrite (n c e v : Nat) (s : State) : Host.Outcome State Fault Refusal := s.write (s.opEpCfg n c e v)

/-- THREAD_SHARE_WRITE (R305). -/
def State.opShare (s : State) (t v : Nat) : State :=
  let s := if bit v 31 then s.set (Reg.CORE_THREAD_SHARE_SHARE_REFUSED t) 0 else s
  let others := ((List.range 8).map (fun j => t / 8 * 8 + j)).filter (fun u => !decide (u = t))
  let sum := others.foldl (fun a u => a + s.get (Reg.CORE_THREAD_SHARE_SHARE u)) 0
  if 64 < v % 128 ∨ 192 < sum + v % 128 then s.set (Reg.CORE_THREAD_SHARE_SHARE_REFUSED t) 1
  else s.set (Reg.CORE_THREAD_SHARE_SHARE t) (v % 128)

def execThreadShareWrite (t v : Nat) (s : State) : Host.Outcome State Fault Refusal := s.write (s.opShare t v)

end Sys2Proof.Machine
end

