-- ==== Sys2Proof/Machine/ErrOps.lean ====
section
/-! DEFINITION. Readiness bounds, the device watchdog and block resets (R487–R495). -/

namespace Sys2Proof.Machine

/-! ## Readiness (R487–R489) -/

/-- The bound of a readiness bit in ms, from power-on and from a warm reset; none where the table names no bit or no bound. -/
def readyBound (b : Nat) (warm : Bool) : Option Nat :=
  let two := fun (p w : Nat) => some (if warm then w else p)
  if b = 0 then (if warm then none else some 2)
  else if b = 1 then two 30 27
  else if b = 2 ∨ b = 5 then two 350 150
  else if b = 4 then two 35 32
  else if b = 3 ∨ (6 ≤ b ∧ b ≤ 9) ∨ (16 ≤ b ∧ b ≤ 19) ∨ (32 ≤ b ∧ b ≤ 47) then two 400 200
  else if 12 ≤ b ∧ b ≤ 15 then two 180 25
  else if 48 ≤ b ∧ b ≤ 71 then two 1200 1000
  else if (72 ≤ b ∧ b ≤ 79) ∨ (128 ≤ b ∧ b ≤ 191) then two 400 200
  else if 192 ≤ b ∧ b ≤ 255 then two 350 100
  else none

/-- Is the instance of a readiness bit present (R489)? -/
def State.instPresent (s : State) (b : Nat) : Bool :=
  if 192 ≤ b then decide (s.octRole ((b - 192) / 2) = 2) && !s.on (Reg.HOST_PORT_STATUS_PERST_ASSERTED (b - 192))
  else if 128 ≤ b then decide (s.octRole (b - 128) ≠ 0)
  else if 72 ≤ b ∧ b ≤ 79 then decide (s.octRole (56 + (b - 72)) ≠ 0)
  else true

/-- A readiness bit. -/
def State.readyBit (s : State) (b : Nat) : Bool := bit (s.rd (Reg.GLB_READY (b / 32))) (b % 32)

/-- READY_BOUND_CHECK: a bit that is still clear at its bound is reported, once per power-on or warm reset (R489). -/
def State.boundCheck (s : State) (b : Nat) : State :=
  match readyBound b (decide (s.get Reg.ERR_STATUS_RESET_CAUSE ≠ 0)) with
  | none => s
  | some ms =>
    if s.readyBit b || !s.instPresent b || s.err.lateSeen.contains b then s
    else ({ s with err := { s.err with lateSeen := s.err.lateSeen ++ [b] } }).raise EV_err_ready_late 0xFFFF [b, ms]

/-- May the instance of a bit be used now: the condition of R487, and no reset of it runs? -/
def State.mayReady (s : State) (b : Nat) : Bool :=
  if b = 2 then (match s.mgrPort with | some q => s.on (Reg.HOST_PORT_STATUS_CFG_READY q) | none => false)
  else if b = 4 then decide (s.get Reg.BOOT_STATUS_MODE = 1)
  else if 5 ≤ b ∧ b ≤ 8 then true
  else if b = 9 then !s.inReset 11 0
  else if 16 ≤ b ∧ b ≤ 19 then !s.inReset 6 (b - 16)
  else if 32 ≤ b ∧ b ≤ 47 then !s.inReset 5 (b - 32)
  else if 48 ≤ b ∧ b ≤ 71 then !s.inReset 10 (b - 48) && decide (s.domState (32 + (b - 48)) = 0)
  else if 72 ≤ b ∧ b ≤ 79 then !s.inReset 13 (b - 72) && decide (s.octRole (56 + (b - 72)) = 3)
  else if 128 ≤ b ∧ b ≤ 191 then !s.inReset 1 (b - 128) && !s.on (Reg.LANE_OCT_STATUS_APPLY_BUSY (b - 128))
  else false

/-- INSTANCE_READY: an instance that may be used sets its bit (R487). An octet's PLLs lock while its reference runs, and its links
come up; the jig runs. -/
def State.instReady (s : State) (b : Nat) : State :=
  if !s.mayReady b then s
  else
    let s := s.setReady b true
    if b = 4 then s.set Reg.JIG_STATUS_RUNNING 1
    else if 128 ≤ b ∧ s.octRole (b - 128) ≠ 0 then
      let n := b - 128
      let lost := s.octRole n ≠ 2 ∧ s.lane.refLost.contains (n / 4)
      (s.set (Reg.LANE_OCT_STATUS_PLL_LOCK n) (b2n (!decide lost))).octWake n
    else s

/-! ## The device watchdog (R495) -/

/-- WDT_KICK: the count restarts. -/
def State.wdtKick (s : State) (v : Nat) : State :=
  if decide (v = 0x4B43) && s.on Reg.ERR_WDT_CFG_ENABLE then { s with err := { s.err with kickAt := s.now, warned := false } } else s

/-- Does the watchdog count: enabled, in RUN or IDLE? -/
def State.wdtCounts (s : State) : Bool := s.on Reg.ERR_WDT_CFG_ENABLE && decide (s.devState ≤ 1)

/-- WDT_HALF: half the timeout has passed without a kick. -/
def State.wdtHalf (s : State) : State :=
  if s.wdtCounts && !s.err.warned then
    ({ s with err := { s.err with warned := true } }).raise EV_err_wdt_warning 0xFFFF [s.now - s.err.kickAt]
  else s

/-- WDT_EXPIRE: the device halts, and a warm reset follows the colophon (R495, R524). An expiry during a halt is a later cause of
it, which is counted and resets nothing (R497). -/
def State.wdtExpire (s : State) : State :=
  if s.wdtCounts then
    let t := s.halt 4 [s.err.kickAt % 2 ^ 32, s.err.kickAt / 2 ^ 32, 0, 0]
    if s.halted then t else { t with err := { t.err with wdtHalt := true } }
  else s

/-- A write of ERR_WDT_CFG: TIMEOUT_MS 0 acts as 1; a newly set ENABLE starts the count. -/
def State.wdtCfg (s : State) (v : Nat) : State :=
  let s := if bit v 31 && !s.on Reg.ERR_WDT_CFG_ENABLE then { s with err := { s.err with kickAt := s.now, warned := false } } else s
  (s.set Reg.ERR_WDT_CFG_ENABLE (bits v 31 31)).set Reg.ERR_WDT_CFG_TIMEOUT_MS (v % 2 ^ 16)

/-! ## Block resets (R492, R493) -/

/-- How many instances of a block take a block reset; zero for a block that refuses it. -/
def blkCount (b : Nat) : Nat :=
  match b with
  | 1 => 64 | 2 => 64 | 3 => 4096 | 4 => 4096 | 5 => 16 | 6 => 4 | 10 => 24 | 11 => 1 | 13 => 8
  | _ => 0

/-- The readiness bit of a block instance. -/
def blkReady (b i : Nat) : Option Nat :=
  match b with
  | 1 => some (128 + i)
  | 2 => some (192 + i)
  | 5 => some (32 + i)
  | 6 => some (16 + i)
  | 10 => some (48 + i)
  | 11 => some 9
  | 13 => some (72 + i)
  | _ => none

/-- Does a register offset belong to a block instance: the outermost index of its row counts that block's instances? -/
def blkOwns (b i a : Nat) : Bool :=
  decide (a / 0x100000 = b) &&
  (match rowAt a with
   | some r => (match r.dims with
     | (c, st) :: _ => decide ((a - r.base) / st * blkCount b / c = i)
     | [] => decide (b = 11))
   | none => false)

/-- The drawer reset of a DRW or RING instance, which the manager starts (R113, R149); a sequence that runs is joined (R11). -/
def State.blkDrawer (s : State) (d : Nat) : State :=
  if s.drState d ≤ 1 then s
  else match mget s.drw.quiesce d with
    | some q => s.setQuiesce d { q with doReset := true, ringOnly := false, joined := true }
    | none => s.quiesceBegin d (Quiesce.fresh 1 [] true true false 0)

/-- The ports of an octet go down (R492). -/
def State.blkLane (s : State) (n : Nat) : State :=
  let s := (s.octPark n).spareAbandon n
  if s.octRole n = 2 then
    [2 * n, 2 * n + 1].foldl (fun (s : State) q => if s.on (Reg.HOST_PORT_STATUS_LINK_UP q) then s.surprise q else s) s
  else s

/-- A shard drops its learn requests, and commands it holds complete with TARGET_RESET (R198). -/
def State.blkTbl (s : State) (h : Nat) : State :=
  let mine := s.tbl.held.flatMap (fun e => e.2.filter (fun c => decide (s.tShard c.table = h)))
  let held := s.tbl.held.map (fun e => (e.1, e.2.filter (fun c => !decide (s.tShard c.table = h))))
  let s := ({ s with tbl := { s.tbl with learnQ := mdel s.tbl.learnQ h, held := held.filter (fun e => !e.2.isEmpty) } }).learnSync h
  let flush := (s.tbl.sweeps.filter (fun w => decide (s.tShard w.table = h))).flatMap (·.ref)
  let s := { s with tbl := { s.tbl with sweeps := s.tbl.sweeps.map (fun (w : Sweep) => if s.tShard w.table = h then { w with ref := [] } else w) } }
  let s := (mine.map (·.ref) ++ flush).foldl (fun (s : State) (r : Ref) => s.complete r ST_TARGET_RESET 0 []) s
  s.resetHit 6 h (mine.length + flush.length)

/-- A cluster: its threads stop, its endpoints empty, messages in flight to it are lost, and commits that wait on it end (R332). -/
def State.blkCore (s : State) (n : Nat) : State :=
  let lost := s.core.flight.filter (fun m => decide (m.dest / 2 ^ 14 = 0) && decide (epCl m.dest = n))
  let toward := s.core.threads.filter (fun e => decide (e.1 / 64 ≠ n) &&
    (match e.2.wait.bind (·.commit) with | some m => decide (m.dest / 2 ^ 14 = 0) && decide (epCl m.dest = n) | none => false))
  let s := (List.range 64).foldl (fun (s : State) j => if s.live (64 * n + j) then s.stopThread (64 * n + j) else s) s
  let s := { s with core := { s.core with
    ends := s.core.ends.filter (fun e => !decide (e.1 / 512 = n))
    flight := s.core.flight.filter (fun m => !(decide (m.dest / 2 ^ 14 = 0) && decide (epCl m.dest = n))) } }
  let s := toward.foldl (fun (s : State) (e : Nat × Thread) => if s.thState e.1 = 2 then s.threadResult e.1 (failed 7) else s) s
  s.resetHit 10 n (lost.length + toward.length)

/-- The accelerator bank: jobs in it complete with TARGET_RESET; the key table and the volumes stay (R361). -/
def State.blkAcc (s : State) : State :=
  let jobs := s.acc.streams.flatMap (fun e => e.2.wait)
  let s := { s with acc := { s.acc with streams := s.acc.streams.map (fun (e : Nat × SealStream) => (e.1, { e.2 with wait := [] })) } }
  let s := jobs.foldl (fun (s : State) (w : SealWait) => s.jobEnd w.env ST_TARGET_RESET 0) s
  s.resetHit 11 0 jobs.length

/-- What the reset of a block instance does (R492). -/
def State.blkEffect (s : State) (b i : Nat) : State :=
  match b with
  | 1 => s.blkLane i
  | 2 => s.hostPortReset i 3
  | 3 => s.blkDrawer i
  | 4 => s.blkDrawer i
  | 6 => s.blkTbl i
  | 10 => s.blkCore i
  | 11 => s.blkAcc
  | 13 => s.casLost i 5
  | _ => s

/-- A block reset starts: its readiness bit clears, its effect comes, and its B-class fields clear (R488, R492). -/
def State.blkStart (s : State) (b i : Nat) : State :=
  let s := (s.set Reg.ERR_BLOCK_RESET_GO 1).set Reg.ERR_BLOCK_RESET_BUSY 1
  let s := { s with err := { s.err with blk := s.err.blk ++ [(⟨b, i, 0⟩ : BlockReset)] } }
  let s := match blkReady b i with
    | some r => s.setReady r false
    | none => s
  let s := s.blkEffect b i
  let s := if b = 3 ∨ b = 4 then s else s.resetWhere (blkOwns b i) [.n, .p, .w, .s]
  if b = 13 then s.casBegin i else s

/-- BLOCK_RESET: a write of ERR_BLOCK_RESET (R492). -/
def State.blkWrite (s : State) (w : Nat) : State :=
  let s := if bit w 30 then s.set Reg.ERR_BLOCK_RESET_REFUSED 0 else s
  let b := bits w 20 16
  let i := bits w 11 0
  let s := (s.set Reg.ERR_BLOCK_RESET_BLOCK b).set Reg.ERR_BLOCK_RESET_INSTANCE i
  if !bit w 31 then s
  else if blkCount b ≤ i ∨ s.err.phase ≠ .none then s.set Reg.ERR_BLOCK_RESET_REFUSED 1
  else if s.inReset b i then s
  else s.blkStart b i

/-- Has a block reset reached its end? A drawer's ends with its sequence (R104). -/
def State.blkOver (s : State) (x : BlockReset) : Bool :=
  if x.block = 3 ∨ x.block = 4 then (mget s.drw.quiesce x.inst).isNone else true

/-- The end of one block reset. -/
def State.blkEnd (s : State) (x : BlockReset) : State :=
  let s := { s with err := { s.err with blk := s.err.blk.filter (fun y => !decide (y = x)) } }
  let s := match blkReady x.block x.inst with
    | some r => s.setReady r (if x.block = 2 then s.on (Reg.HOST_PORT_STATUS_CFG_READY x.inst) else true)
    | none => s
  let s := if x.block = 6 then s.tblResume else s
  (s.bump Reg.n_block_resets).raise EV_err_block_reset_done 0xFFFF [x.block, x.inst, x.ended]

/-- BLOCK_RESET_DONE: the named instances have completed, and BUSY clears with the last of them. -/
def State.blkDone (s : State) : State :=
  let s := (s.err.blk.filter (fun x => s.blkOver x)).foldl (fun (s : State) (x : BlockReset) => s.blkEnd x) s
  if s.err.blk.isEmpty then (s.set Reg.ERR_BLOCK_RESET_GO 0).set Reg.ERR_BLOCK_RESET_BUSY 0 else s

/-! ## Warm-reset triggers (R490) -/

/-- WARM_RST_N held low for 1 µs. -/
def State.warmPinLow (s : State) : State := ({ s with err := { s.err with pinLow := true } }).warmTrigger 1

/-- WARM_RST_N goes high: a warm reset that holds for it goes on to step 5. -/
def State.warmPinHigh (s : State) : State :=
  let s := { s with err := { s.err with pinLow := false } }
  match s.err.phase with
  | .waitPin =>
    ({ s with err := { s.err with phase := .none } }).loaderStart (if 3 ≤ s.get Reg.ERR_STATUS_RESET_CAUSE then 3 else 1)
  | _ => s

/-- A write of ERR_WARM_RESET. -/
def State.warmWrite (s : State) (w : Nat) : State := if bits w 31 24 = 0xA5 ∧ bit w 0 = true then s.warmTrigger 2 else s

/-- A write of ERR_HALT (R496). -/
def State.haltWrite (s : State) (w : Nat) : State := if bits w 31 24 = 0x5A ∧ bit w 0 = true then s.halt 5 [0, 0, 0, 0] else s

/-! ## Debug (R503, R504) -/

/-- The token that stands in DBG_TOKEN_DATA. -/
def State.token (s : State) : List Byte :=
  (List.range 3735).flatMap (fun i => leBytes 4 (s.rd (Reg.DBG_TOKEN_DATA i)))

/-- The first check of R503 that a token fails, as LAST_REFUSE codes it. -/
def State.tokenCheck (s : State) (t : List Byte) : Nat :=
  let c := slice t 64 10152
  let secs := leAt t 48 4
  if s.on Reg.BOOT_FUSE_MISC_DEBUG_DISABLE then 1
  else if t.take 4 ≠ [0x4C, 0x4D, 0x4B, 0x31] ∨ leAt t 6 2 ≠ 0 ∨ leAt t 52 12 ≠ 0 ∨ secs < 60 ∨ 86400 < secs then 6
  else if (s.certCheck c 1).isSome then 2
  else if leAt t 4 2 ≠ leAt c 4 2 then 3
  else if !bothVerify (slice c 16 97) (slice c 128 2592) (t.take 64) (slice t 10216 96) (slice t 10312 4627) then 4
  else if slice t 8 32 ≠ (List.range 8).flatMap (fun w => leBytes 4 (s.get (Reg.DBG_CHALLENGE_CHALLENGE w))) ∨
      leAt t 40 8 ≠ s.rd64 Reg.GLB_SERIAL then 5
  else 0

/-- DEBUG_TOKEN_SUBMIT (R503): every submission draws a new challenge. -/
def State.tokenSubmit (s : State) : State :=
  let t := s.token
  let why := s.tokenCheck t
  let s := s.newChallenge
  if why = 0 then
    let s := ((s.set Reg.DBG_STATUS_UNLOCKED 1).set Reg.DRW_STATUS_DEBUG_UNLOCKED 1).set Reg.DBG_STATUS_LAST_REFUSE 0
    ({ s with err := { s.err with unlockEnd := s.now + leAt t 48 4 * 1000000000 } }).raise EV_drw_debug_unlock 0xFFFF [0]
  else (s.set Reg.DBG_STATUS_LAST_REFUSE why).raise EV_dbg_unlock_refused 0xFFFF [why]

/-- A Lamisk session closes (R502). -/
def State.sessionClose (s : State) : State :=
  if s.on Reg.DBG_STATUS_SESSION then
    (s.set Reg.DBG_STATUS_SESSION 0).raise EV_dbg_session 0xFFFF [1, s.get Reg.DBG_STATUS_TRANSPORT]
  else s

/-- The unlock ends: LOCK, or DURATION_S passes. The session ends with it. -/
def State.dbgLock (s : State) : State :=
  (if s.on Reg.DBG_STATUS_UNLOCKED then s.unlockOver else s).sessionClose

/-- HALT_DEVICE, written through Lamisk while unlocked (R496). -/
def State.dbgHaltDevice (s : State) (lam : Bool) : State :=
  if lam && s.on Reg.DBG_STATUS_UNLOCKED then s.halt 6 [0, 0, 0, 0] else s

/-- A thread control runs while unlocked on a thread of the array; else it is dropped and THREAD_REFUSED is set (R504). -/
def State.dbgThread (s : State) (act : Nat → State → State) : State :=
  let t := s.get Reg.DBG_THREAD_SEL_THREAD
  if !s.on Reg.DBG_STATUS_UNLOCKED then s.set Reg.DBG_THREAD_CTL_THREAD_REFUSED 1
  else if t < 1536 then act t s else s

/-- HALT: the thread stops at its next instruction boundary, its wait suspended (R330). -/
def dbgHalt (t : Nat) (s : State) : State :=
  let st := s.thState t
  if st = 1 ∨ st = 2 then
    ((s.setThread t { s.thread t with was := st }).setThState t 3).raise EV_dbg_thread_halt 0xFFFF [t, 0]
  else s

/-- RESUME: the thread runs on, and a suspended wait is entered again (R330). -/
def dbgResume (t : Nat) (s : State) : State :=
  if s.thState t = 3 then
    let s := s.setThState t (if (s.thread t).was = 2 then 2 else 1)
    let s := if s.get (Reg.CORE_THREAD_STATUS_BLOCK_KIND t) = 1 then s.wake (ownEp t (s.get (Reg.CORE_THREAD_STATUS_BLOCK_INDEX t))) else s
    let s := if decide (s.thState t = 2) && decide (s.get (Reg.CORE_THREAD_STATUS_BLOCK_KIND t) = 2) then
        s.portSet (t / 64) (s.get (Reg.CORE_THREAD_STATUS_BLOCK_INDEX t)) 0
      else s
    s.raise EV_dbg_thread_halt 0xFFFF [t, 1]
  else s

/-- A write to the DBG block during a halt comes only from an unlocked Lamisk session (R519). -/
def State.dbgWrite (s : State) (lam : Bool) (t : State) : Host.Outcome State Fault Refusal :=
  s.path (if s.halted && !(lam && s.on Reg.DBG_STATUS_UNLOCKED) then s.bump Reg.n_halt_write_drop else t)

end Sys2Proof.Machine
end

