-- ==== Sys2Proof/Machine/Noc.lean ====
section
/-! DEFINITION. Accesses at their targets and what the device network reports (R16–R23, R94, R493, R496). -/

namespace Sys2Proof.Machine

/-- Does a target admit an access (R20, R94)? Targets are named by the selectors of R96, and beyond them 0x4000 + d for the pages
of drawer `d`'s VF and 0x5000 + q for the DMA path into host port `q` (DESIGN CHOICE, log entry 23). `perm` is 0 read, 1 write, 2 fetch. -/
def State.targetAdmits (s : State) (target m a n perm : Nat) : Bool :=
  let kind := target / 4096
  let inst := target % 4096
  match m / 4096 with
  | 0 => if kind = 5 then decide (s.mgrPort = some inst) else true
  | 1 =>
    match kind with
    | 3 => false
    | 4 => decide (inst = m % 4096) && s.on (Reg.DRW_DRAWER_BIND_BOUND inst)
    | 5 => decide (s.drPort (m % 4096) = some inst)
    | _ => s.fenceAdmits kind inst m a n perm
  | 2 => if kind ≤ 3 then s.fenceAdmits kind inst m a n perm else false
  | 3 => true
  | 4 => s.on Reg.DBG_STATUS_UNLOCKED
  | _ => false

/-- NOC_TARGET_ACCESS: an access is admitted, with its effect left to the command that makes it, or refused with none (R20). A
fault met on the way halts the device (R496, R524): `fault` 1 to 5 a check of the NoC port, `arg` its domain for check 5; 16 a
parity error in the target's fence entry `arg`; 17 one in the state record of drawer `arg`. -/
def State.targetAccess (s : State) (target m a n perm fault arg : Nat) : State :=
  if 1 ≤ fault ∧ fault ≤ 5 then s.halt 7 [m + fault * 2 ^ 16, if fault = 5 then arg else 0, 0, 0]
  else if fault = 16 then s.halt 3 [target * 2 ^ 16, arg, 0, 0]
  else if fault = 17 then s.halt 3 [1 + arg * 2 ^ 16, 0, 0, 0]
  else if s.targetAdmits target m a n perm then s else s.denied target m a perm

def execNocTargetAccess (target master addr len perm fault arg : Nat) (s : State) : Host.Outcome State Fault Refusal :=
  s.run (s.targetAccess target master addr len perm fault arg)
/-- NOC_LATE_REPLY: a reply to an initiator of block `b` that has reset since is discarded and counted (R22, R493). -/
def execNocLateReply (b : Nat) (s : State) : Host.Outcome State Fault Refusal :=
  s.run (if b < 19 then s.bump (Reg.n_late_reply_discard b) else s)
/-- NOC_FLUSH: it replies once every earlier posted write of the initiator has taken effect at the target; here a write takes
effect in the step that makes it, so the flush replies at once and changes nothing (R17; DEDUCED, log entry 24). -/
def execNocFlush (_target _master : Nat) (s : State) : Host.Outcome State Fault Refusal := s.run s

end Sys2Proof.Machine
end

