-- ==== Sys2Proof/Machine/RegView.lean ====
section
/-! DEFINITION. Reading registers: the windows that show state held elsewhere, reads without side effect (R499, R527), and reads with
the latches of R512 and the side effects of R8. -/

namespace Sys2Proof.Machine

/-! ## The colophon's header (R500) -/

/-- The sections of a dump: ID, offset in the half, length (R499). -/
def dumpSections : List (Nat × Nat × Nat) :=
  [(1, 0x1000, 19922944), (2, 0x1301000, 1572864), (3, 0x1481000, 131072), (4, 0x14A1000, 2097152), (5, 0x16A1000, 12288),
   (6, 0x16A4000, 4194304), (7, 0x1AA4000, 249856)]

/-- The 4,096 bytes of a dump header with these CRCs of its sections. -/
def Dump.header (d : Dump) (crcs : List Nat) : List Byte :=
  let flags := b2n d.complete + 2 * b2n d.truncated + 4 * b2n d.oneStack + 8 * b2n d.secLost
  let sec := ((d.secondary.take 8).flatMap (fun e => leBytes 4 e.1 ++ leBytes 4 e.2))
  let body := [0x53, 0x4B, 0x43, 0x4F, 0x4C, 0x50, 0x48, 0x31] ++ leBytes 4 d.seq ++ leBytes 1 d.cause ++ leBytes 1 flags ++ [0, 0] ++
    leBytes 8 d.time ++ (List.range 4).flatMap (fun i => leBytes 4 (d.detail.getD i 0)) ++ leBytes 8 d.timeDone ++
    leBytes 4 0x05121000 ++ leBytes 4 d.image ++ slice d.build 0 16 ++ d.ready.flatMap (leBytes 4) ++ slice sec 0 64 ++
    (dumpSections.zipIdx).flatMap (fun e => leBytes 4 e.1.1 ++ leBytes 4 e.1.2.1 ++ leBytes 4 e.1.2.2 ++ leBytes 4 (crcs.getD e.2 0))
  let b := slice body 0 4092
  b ++ leBytes 4 (crc32c 0xFFFFFFFF b).toNat

/-! ## Windows -/

/-- Word `i` of the fence entry that DRW_FENCE_SEL names (R113). -/
def State.fenceWord (s : State) (i : Nat) : Nat :=
  let t := s.get Reg.DRW_FENCE_SEL_TARGET
  let n := t % 4096
  match mget s.drw.fences (fenceKey (t / 4096) (if n = 0xFFF then 0 else n) (s.get Reg.DRW_FENCE_SEL_INDEX)) with
  | none => 0
  | some f =>
    match i with
    | 0 => f.mask * 2 ^ 16 + f.master
    | 1 => 2 ^ 9 + b2n f.lock * 2 ^ 8 + f.perm
    | 2 => f.base % 2 ^ 32
    | 3 => f.base / 2 ^ 32
    | 4 => f.limit % 2 ^ 32
    | _ => f.limit / 2 ^ 32

/-- Granules that sealed drawers reserve of a pool (R113). -/
def State.poolSealed (s : State) (p : Nat) : Nat :=
  s.drw.shares.foldl (fun a e => if s.sealed e.1 then
    (e.2.filter (fun h => decide (h.pool = p))).foldl (fun b h => b + h.reserve) a else a) 0

/-- Granules that pooled drawers hold of an index pool, or use of a capacity pool, parts of a granule counting whole (R113). -/
def State.poolUsed (s : State) (p : Nat) : Nat :=
  let ds := (s.drw.shares.map (·.1)).filter (fun d => !s.sealed d)
  let up := fun (n g : Nat) => (n + g - 1) / g
  if indexPool p then
    ds.foldl (fun a d => ((s.sharesOf d).filter (fun h => decide (h.pool = p))).foldl (fun b h => b + extentsLen h.extents) a) 0
  else if p = 3 then up (ds.foldl (fun a d => (List.range 4).foldl (fun b h => b + s.emUse d h) a) 0) 4096
  else if p = 4 then up (ds.foldl (fun a d => a + s.emUse d 4) 0) 65536
  else up (ds.foldl (fun a d => a + (s.capacityUsed d p).1) 0) (s.capacityUsed 0 p).2

/-- Code of a ring's state (R149). -/
def RingSt.code (st : RingSt) : Nat :=
  match st with
  | .absent => 0
  | .active => 1
  | .flushing => 2
  | .stopped => 3

/-- Word `i` of the ring that RING_INSPECT_SEL names (R149). -/
def State.inspectWord (s : State) (i : Nat) : Nat :=
  let d := s.get Reg.RING_INSPECT_SEL_HIGH_DRAWER
  let r := s.ring (ringKey d (s.get Reg.RING_INSPECT_SEL_LOW_RING))
  match i with
  | 0 => r.st.code * 2 ^ 30 + r.log2 % 32 * 2 ^ 24 + (if r.kind = .sub then ringNum r.link else r.vec.getD 0) % 2 ^ 17
  | 1 => r.dev
  | 2 => r.peer
  | 3 => b2n r.armed * 2 ^ 31 + r.reserved % 2 ^ 17
  | 4 => r.base % 2 ^ 32
  | 5 => r.base / 2 ^ 32
  | 6 => r.modUsec * 2 ^ 16 + r.modCount
  | _ => r.gen

/-- RING_CTL_STATUS of a slot. -/
def State.slotWord (s : State) (c : Nat) : Nat :=
  let r := s.ring (ctlKey c)
  r.st.code * 2 ^ 30 + r.lastStat % 256 * 2 ^ 16 + b2n (r.armed || decide (r.st = .absent)) * 2 ^ 8 + b2n r.starved

/-- The staging slot that CORE_STAGE_SEL shows, while its thread is HALTED (R331). -/
def State.stageShown (s : State) : Nat × Nat × List Nat :=
  let t := s.get Reg.CORE_STAGE_SEL_THREAD
  if s.thState t = 3 then ((s.thread t).stage.getD (0, 0, [])) else (0, 0, [])

/-- CORE_EP_STATUS of an endpoint. -/
def State.epWord (s : State) (e : Nat) : Nat :=
  let x := s.endp e
  x.words * 2 ^ 16 + x.msgs.length * 2 ^ 8 + x.owed % 128

/-- MEM_BANK_STATUS of the bank that MEM_BANK_SEL names (R389). Column repairs come from fuses (DEDUCED, log entry 3). -/
def State.bankWord (s : State) : Nat :=
  let b := s.get Reg.MEM_BANK_SEL_BANK
  let l := mgetD s.mem.subst b []
  let m := fun (p : Nat × Nat × Bool → Bool) => (l.filter p).foldl (fun a x => Nat.lor a (2 ^ x.1)) 0
  s.rd Reg.MEM_BANK_STATUS / 2 ^ 30 * 2 ^ 30 + m (fun x => x.2.2) % 16 * 2 ^ 24 + m (fun _ => true) % 16 * 2 ^ 16 +
    min 65535 (mgetD s.mem.corr b 0)

/-- Word `i` of the error-log record that MEM_ERR_LOG_SEL shows. -/
def State.errLogWord (s : State) (i : Nat) : Nat :=
  match mget s.mem.log (s.get Reg.MEM_ERR_LOG_SEL_ENTRY) with
  | some r => leAt r.bytes (4 * i) 4
  | none => 0

/-- Word `i` of the colophon page that ERR_COLO_SEL shows (R501). -/
def State.coloWord (s : State) (i : Nat) : Nat :=
  if s.on Reg.ERR_COLO_SEL_FLYLEAF then
    match s.err.short with
    | some d => leAt (d.header []) (4 * i) 4
    | none => 0
  else leNat (s.memGet (coloBase + 4096 * s.get Reg.ERR_COLO_SEL_PAGE + 4 * i) 4)

/-- Seconds of the debug unlock that are left. -/
def State.unlockLeft (s : State) : Nat :=
  if s.on Reg.DBG_STATUS_UNLOCKED then (s.err.unlockEnd - s.now + 999999999) / 1000000000 else 0

/-- GLB_UART_STATUS with its counts (R526). -/
def State.uartWord (s : State) : Nat :=
  bits (s.rd Reg.GLB_UART_STATUS) 16 16 * 2 ^ 16 + (64 - s.glb.uartTx.length) * 2 ^ 8 + s.glb.uartRx.length

/-- GLB_UART_RX: the oldest received byte. -/
def State.uartHead (s : State) : Nat :=
  match s.glb.uartRx with
  | [] => 0
  | b :: _ => 256 + b.toNat

/-- GLB_GPIO_IN: a driven pin shows its own level. -/
def State.gpioWord (s : State) : Nat :=
  let oe := BitVec.ofNat 32 (s.get Reg.GLB_GPIO_OE_OE)
  ((BitVec.ofNat 32 (s.get Reg.GLB_GPIO_OUT_OUT) &&& oe) ||| (Config.gpioIn s.now &&& ~~~ oe)).toNat

/-- PWR_DOMAIN: the domain of an octet whose role is OFF stays in OFF (R25). -/
def State.domWord (s : State) (d : Nat) : Nat :=
  let w := s.rd (Reg.PWR_DOMAIN d)
  if 64 ≤ d ∧ s.octRole (d - 64) = 0 then putBits w 31 30 3 else w

/-- The window register at an offset, as the state it shows; none where the register holds its own word. -/
def State.window (s : State) (a : Nat) : Option Nat :=
  let within := fun (b n : Nat) => decide (b ≤ a) && decide (a < b + n)
  match a / 0x100000 with
  | 0 =>
    if a = Reg.GLB_UART_RX then some s.uartHead
    else if a = Reg.GLB_UART_STATUS then some s.uartWord
    else if a = Reg.GLB_GPIO_IN then some s.gpioWord
    else none
  | 3 =>
    if within (Reg.DRW_POOL_TOTAL 0) 0x110 && decide (a % 16 = 4) then some (s.poolSealed ((a - Reg.DRW_POOL_TOTAL 0) / 16))
    else if within (Reg.DRW_POOL_TOTAL 0) 0x110 && decide (a % 16 = 8) then some (s.poolUsed ((a - Reg.DRW_POOL_TOTAL 0) / 16))
    else if within 0x301010 24 then some (s.fenceWord ((a - 0x301010) / 4))
    else none
  | 4 =>
    if within (Reg.RING_INSPECT_DATA 0) 32 then some (s.inspectWord ((a - Reg.RING_INSPECT_DATA 0) / 4))
    else if within (Reg.RING_CTL_STATUS 0 - 4) 0x1000 && decide (a % 64 = 4) then some (s.slotWord ((a - Reg.RING_CTL_STATUS 0) / 64))
    else if within (Reg.RING_CTL_STATUS 0 - 4) 0x1000 && decide (a % 64 = 16) then
      some (s.ring (ctlKey ((a - Reg.RING_CTL_INDEX 0) / 64))).dev
    else none
  | 10 =>
    if a = Reg.CORE_STAGE_CTL then some (putBits (s.rd a) 5 0 s.stageShown.2.2.length)
    else if a = Reg.CORE_STAGE_DEST then some (s.stageShown.2.1 % 2 ^ 16 * 2 ^ 16 + s.stageShown.1 % 2 ^ 16)
    else if within (Reg.CORE_STAGE_DATA 0) 128 then some (s.stageShown.2.2.getD ((a - Reg.CORE_STAGE_DATA 0) / 4) 0)
    else if within (Reg.CORE_EP_CFG 0 0 0) 0x18000 && decide (a % 8 = 4) then
      let o := a - Reg.CORE_EP_CFG 0 0 0
      some (s.epWord (o / 8))
    else none
  | 12 =>
    if a = Reg.MEM_BANK_STATUS then some s.bankWord
    else if within (Reg.MEM_ERR_LOG_DATA 0) 32 then some (s.errLogWord ((a - Reg.MEM_ERR_LOG_DATA 0) / 4))
    else if within (Reg.n_spm_conflict 0 0) 0x6000 && (rowAt a).isSome then some (Config.spmConflict a s.now % 2 ^ 32)
    else none
  | 14 => if within (Reg.PWR_DOMAIN 0) 0x200 then some (s.domWord ((a - Reg.PWR_DOMAIN 0) / 4)) else none
  | 16 => if a = Reg.BOOT_WDT then some (putBits (s.rd a) 11 0 ((s.boot.wdtLeft + 999999999) / 1000000000)) else none
  | 17 => if within (Reg.ERR_COLO_DATA 0) 4096 then some (s.coloWord ((a - Reg.ERR_COLO_DATA 0) / 4)) else none
  | 18 =>
    if a = Reg.DBG_STATUS then some (putBits (s.rd a) 16 0 s.unlockLeft)
    else if a = Reg.DBG_THREAD_STATUS then some (b2n (decide (s.thState (s.get Reg.DBG_THREAD_SEL_THREAD) = 3)))
    else none
  | _ => none

/-! ## Reads -/

/-- Bits of a register that a read shows: a WO field reads zero (R8). -/
def readMask (r : RegRow) : Nat :=
  r.fields.foldl (fun (a : Nat) (f : FieldRow) => if f.acc = .wo then a else Nat.lor a ((2 ^ (f.hi + 1 - f.lo) - 1) * 2 ^ f.lo)) 0

/-- The word at an offset, read without side effect; zero at a reserved offset (R499, R510). -/
def State.view (s : State) (a : Nat) : Nat :=
  match rowAt a with
  | none => 0
  | some r => Nat.land (match s.window a with | some w => w | none => s.rd a) (readMask r)

/-- Does an offset belong to an instance under block reset (R518)? -/
def State.resetOwns (s : State) (a : Nat) : Option BlockReset := s.err.blk.find? (fun x => blkOwns x.block x.inst a)

/-- The domain whose clamp a register access meets, where one holds the block (R23, R26). -/
def regDomain (a : Nat) : Option Nat :=
  match a / 0x100000 with
  | 1 => if a < 0x140000 then some (64 + (a - 0x100000) / 0x1000) else none
  | 2 => some 1
  | 4 => some 4
  | 6 => some 2
  | 7 => some 3
  | 8 => some 3
  | 9 => some 4
  | 10 =>
    match rowAt a with
    | some r => (match r.dims with
      | (c, st) :: _ => if c % 24 = 0 then some (32 + (a - r.base) / st * 24 / c) else none
      | [] => none)
    | none => none
  | 11 => some 5
  | _ => none

/-- An access that reaches a domain in SLEEP or OFF wakes it and then goes on (R23, R518). -/
def State.regWake (s : State) (a : Nat) : State :=
  match regDomain a with
  | some d => if isDom d ∧ 2 ≤ s.domState d ∧ !(64 ≤ d ∧ s.octRole (d - 64) = 0) then s.domWake d else s
  | none => s

/-- The key of a master's latch and held half at a block (R512). -/
def latchKey (m a : Nat) : Nat := m * 32 + a / 0x100000 % 32

/-- Is the register at `a` half of a pair? -/
def isPair (a : Nat) : Bool :=
  match rowAt a with
  | some r => r.pair
  | none => false

/-- What a read of a whole register does besides: a UART byte leaves the queue (R526); a read of a reserved offset is counted. -/
def State.readEffect (s : State) (a : Nat) : State :=
  if (rowAt a).isNone then s.bump Reg.n_reg_reserved_access
  else if a = Reg.GLB_UART_RX then { s with glb := { s.glb with uartRx := s.glb.uartRx.tail } }
  else s.regWake a

/-- A 4-byte read by a master: the low half of a pair latches the high half, and a latched half is returned once (R512). -/
def State.readWord (s : State) (m a : Nat) : Nat × State :=
  let k := latchKey m a
  let v := s.view a
  let s := s.readEffect a
  if !isPair a then (v, s)
  else if a % 8 = 0 then (v, { s with glb := { s.glb with latch := mput s.glb.latch k (a, s.view (a + 4)) } })
  else match mget s.glb.latch k with
    | some (b, h) => if b + 4 = a then (h, { s with glb := { s.glb with latch := mdel s.glb.latch k } }) else (v, s)
    | none => (v, s)

/-- A read of `n` bytes in the pieces of R511. Pieces are read in ascending order; an aligned 8-byte piece reads both halves at one
instant. -/
def readPieces (m : Nat) : Nat → Nat → Nat → State → List Byte × State
  | 0, _, _, s => ([], s)
  | fuel + 1, a, n, s =>
    if n = 0 then ([], s)
    else if a % 8 = 0 ∧ 8 ≤ n then
      let v := leBytes 4 (s.view a) ++ leBytes 4 (s.view (a + 4))
      let s := (s.readEffect a).readEffect (a + 4)
      let (l, s) := readPieces m fuel (a + 8) (n - 8) s
      (v ++ l, s)
    else
      let k := min (4 - a % 4) n
      let (v, s) := s.readWord m (a - a % 4)
      let (l, s) := readPieces m fuel (a + k) (n - k) s
      (((leBytes 4 v).drop (a % 4)).take k ++ l, s)

/-- A register read of `n` bytes by a master; none where it meets an instance under block reset (R511, R518). -/
def State.regRead (s : State) (m a n : Nat) : Option (List Byte) × State :=
  match (List.range (n / 4 + 1)).findSome? (fun i => s.resetOwns (a - a % 4 + 4 * i)) with
  | some x => (none, s.resetHit x.block x.inst)
  | none =>
    let (l, s) := readPieces m (n + 1) a n s
    (some l, s)

end Sys2Proof.Machine
end

