-- ==== Sys2Proof/Machine/RegWrite.lean ====
section
/-! DEFINITION. Writing registers: the access codes of R8 and R513, pairs (R512), partial writes (R511), the refusals of a halt (R519)
and, for each register whose write does more than hold a value, the operation that its own command runs. -/

namespace Sys2Proof.Machine

/-! ## Plain fields -/

/-- A word after a write under the access codes: RW and WO fields take the value, a 1 clears a W1C bit, the rest stays. -/
def plainWord (r : RegRow) (old v : Nat) : Nat :=
  r.fields.foldl (fun (a : Nat) (f : FieldRow) =>
    let x := bits v f.hi f.lo
    match f.acc with
    | .rw => putBits a f.hi f.lo x
    | .wo => putBits a f.hi f.lo x
    | .w1c => putBits a f.hi f.lo (bits old f.hi f.lo - Nat.land (bits old f.hi f.lo) x)
    | _ => a) old

/-- A register written under the access codes alone. -/
def State.plain (s : State) (a v : Nat) : State :=
  match rowAt a with
  | some r => s.wr a (plainWord r (s.rd a) v)
  | none => s

/-- A write whose condition fails for a field, with no flag of its own to show it, is counted (R513). -/
def State.condDrop (s : State) (c : Bool) : State := if c then s.bump Reg.n_reg_cond_drop else s

/-- A 1 written to a W1S bit that reads 0 (R513). -/
def State.starts (s : State) (v : Nat) (f : Fld) : Bool := bit v f.lo && !s.on f

/-! ## The blocks -/

/-- A byte for the UART, dropped when the queue is full (R526). -/
def State.uartSend (s : State) (v : Nat) : State :=
  if s.glb.uartTx.length < 64 then
    { s with glb := { s.glb with uartTx := s.glb.uartTx ++ [BitVec.ofNat 8 v], uartAt := if s.glb.uartTx.isEmpty then s.now else s.glb.uartAt } }
  else s

/-- GLB. A new MODE takes the management link down until it comes up in that mode (R528). -/
def State.wGlb (s : State) (a v : Nat) : State :=
  if a = Reg.GLB_UART_TX then s.uartSend v
  else if a = Reg.GLB_MGMT_CFG ∧ bits v 0 0 ≠ s.get Reg.GLB_MGMT_CFG_MODE then
    let s := s.plain a v
    { s with glb := { s.glb with mgmtUp := false } }
  else s.plain a v

/-- LANE. -/
def State.wLane (s : State) (a v : Nat) : State :=
  let o := a - 0x100000
  if o < 0x40000 then
    let n := o / 0x1000
    if o % 0x1000 = 0 then s.roleApply n v
    else if o % 0x1000 = 8 then
      let s := s.opSpareCtrl n v
      if s.starts v (Reg.LANE_SPARE_CTRL_REVERT n) then s.spareRevert n else s
    else s.plain a v
  else if o < 0xC0000 then (if o % 0x100 = 0 then s.portCtrl ((o - 0x40000) / 0x100) v else s.plain a v)
  else if a = Reg.LANE_TOD_CTRL then s.todCtrl v
  else if a = Reg.LANE_TOD_RATE then s.todRate v
  else if a = Reg.LANE_TOD_STEP then (if s.follows then s else s.plain a v)
  else if a = Reg.LANE_TOD_STEP + 4 then (if s.follows then s.bump Reg.n_tod_write_ignored else s.plain a v)
  else s.plain a v

/-- HOST. -/
def State.wHost (s : State) (a v : Nat) : State :=
  let q := (a - 0x200000) / 0x1000
  let o := a % 0x1000
  if a = Reg.HOST_MGR_CFG then s.mgrWrite (v % 128)
  else if 0x240000 ≤ a then s.plain a v
  else if o = 0 then
    let mode := s.get (Reg.HOST_PORT_CFG_ORDER_MODE q)
    let en := s.get (Reg.HOST_PORT_CFG_ENABLE q)
    let s := ((s.plain a v).set (Reg.HOST_PORT_CFG_ORDER_MODE q) mode).set (Reg.HOST_PORT_CFG_ENABLE q) en
    let s := s.orderWrite q (bits v 8 8)
    if bit v 0 then s.enableSet q else s.enableClear q
  else if o = 8 then
    let s := if s.starts v (Reg.HOST_PORT_CTRL_RETIRE q) then s.portRetire q else s
    if s.starts v (Reg.HOST_PORT_CTRL_RETRAIN q) then s.retrain q else s
  else if o = 0x10 ∨ o = 0x14 ∨ o = 0x18 then s.pfWrite q ((o - 0x10) / 4) v
  else s.plain a v

/-- RING. After the handover, thread 0 writes slots 0 to 7 no more; before it, a manager's write takes them over (R475). -/
def State.wRing (s : State) (m a v : Nat) : State :=
  if a = Reg.RING_DOORBELL + 4 then s.opCtlDoorbell v
  else if 0x401000 ≤ a ∧ a < 0x402000 then
    let c := (a - 0x401000) / 64
    if m = 0x2000 ∧ c < 8 ∧ s.on Reg.BOOT_STATUS_HANDOFF then s
    else if a % 64 = 0 then
      let s := if m / 4096 = 2 then s else s.slotTaken c
      let s := s.condDrop (s.on (Reg.RING_CTL_CFG_ENABLE c) && !decide (Nat.land v 0x391F3FFF = Nat.land (s.rd a) 0x391F3FFF))
      if bit v 31 then s.opSlotEnable c v else s.opSlotOff c v
    else if a % 64 = 0x14 then
      let s := s.plain a v
      let k := ctlKey c
      if (s.ring k).st = .absent then s else s.setRing k { s.ring k with modCount := v % 2 ^ 16, modUsec := bits v 31 16 }
    else s.plain a v
  else s.plain a v

/-- PRS. -/
def State.wPrs (s : State) (a v : Nat) : State :=
  if 0x520000 ≤ a then s.bankWrite a v
  else
    let t := s.plain a v
    if a = Reg.PRS_CFG then (if s.starts v Reg.PRS_CFG_FORCE_ISOLATE then t.forceIsolate else t)
    else if a = Reg.PRS_BANK_CTRL then (if bit v 31 then t.bankSwitch else t)
    else if a = Reg.PRS_ACT_COMMIT then (if bit v 31 then t.actCommit (bits v 11 0) else t)
    else if a = Reg.PRS_EDIT_COMMIT then (if bit v 31 then t.editCommit (bits v 7 0) else t)
    else t

/-- TBL. -/
def State.wTbl (s : State) (a v : Nat) : State :=
  if a = Reg.TBL_CFG then
    (s.condDrop ((List.range 256).any (fun t => decide (s.tKind t = 2)) && !decide (bits v 0 0 = s.get Reg.TBL_CFG_HBM_EN))).hbmEnWrite v
  else if a = Reg.TBL_HBM_SPLIT then s.splitWrite 4 v
  else if a = Reg.TBL_LPM_CFG then (if bit v 31 then s.rebalanceGo (bits v 0 0) else s.set Reg.TBL_LPM_CFG_GAP_MODE (bits v 0 0))
  else if 0x600100 ≤ a ∧ a < 0x600200 then
    let h := (a - 0x600100) / 64
    if a % 64 = 8 then s.seedWrite h false v
    else if a % 64 = 12 then s.seedWrite h true v
    else if a % 64 = 16 then s.splitWrite h v
    else s.plain a v
  else if 0x602000 ≤ a ∧ a < 0x603000 ∧ a % 16 = 0 then s.tableCfgWrite ((a - 0x602000) / 16) v
  else s.plain a v

/-- CELL. -/
def State.wCell (s : State) (a v : Nat) : State :=
  if a = Reg.CELL_HEADROOM then s.opHeadroom v
  else if a = Reg.CELL_INSPECT_PTR then s.opInspect v
  else if a = Reg.CELL_LOW_MARK then (s.plain a v).cellSync
  else s.plain a v

/-- TM. -/
def State.wTm (s : State) (a v : Nat) : State :=
  if a = Reg.TM_COMMIT then
    let s := s.plain a v
    if !bit v 31 then s
    else if bit v 26 then s.tmRead (bits v 22 20) (bits v 19 0) (bit v 24)
    else s.tmCommit (bits v 22 20) (bits v 19 0) (bit v 25)
  else if 0x801000 ≤ a ∧ a < 0x802200 ∧ a % 8 = 0 then s.tmPortWrite ((a - 0x801000) / 8) v
  else s.plain a v

/-- Does a CONNECTED or DRAINING connection use an entry of the local addresses (R271)? -/
def State.localUsed (s : State) (i : Nat) : Bool := s.xpt.conns.any (fun e => liveConn e.2.st && decide (e.2.laddr = i))

/-- XPT. -/
def State.wXpt (s : State) (a v : Nat) : State :=
  if a = Reg.XPT_CFG then
    let port := s.get Reg.XPT_CFG_UDP_PORT
    if !decide (bits v 15 0 = port) && s.xpt.conns.any (fun e => liveConn e.2.st) then
      ((s.plain a v).set Reg.XPT_CFG_UDP_PORT port).set Reg.XPT_STATUS_PORT_REFUSED 1
    else s.plain a v
  else if a = Reg.XPT_CONN_SEL then s.opConnSnapshot v
  else if a = Reg.XPT_KEY_SEL then s.opKeySnapshot v
  else if 0x900100 ≤ a ∧ a < 0x900900 then
    let i := (a - 0x900100) / 32
    let t := s.plain a v
    let mask := if a % 32 = 16 then 0xC0000FFF else 0xFFFFFFFF
    if s.localUsed i && !decide (Nat.land (t.rd a) mask = Nat.land (s.rd a) mask) then s.set (Reg.XPT_LOCAL_CTRL_ADDR_REFUSED i) 1 else t
  else s.plain a v

/-- CORE. -/
def State.wCore (s : State) (a v : Nat) : State :=
  if a = Reg.CORE_STAGE_CTL then (if bit v 31 then s.opStageDiscard v else s.plain a v)
  else if 0xA10000 ≤ a ∧ a < 0xA1C000 then
    let t := (a - 0xA10000) / 32
    if a % 32 = 0 then
      let s := if bit v 30 then (s.threadCtl t v).opThreadReset t else s
      if bit v 31 then s.opStartReg t v else if bit v 30 then s else s.threadCtl t v
    else if a % 32 = 0x14 then s.opShare t v
    else s.plain a v
  else if 0xA20000 ≤ a ∧ a < 0xA38000 ∧ a % 8 = 0 then
    let o := a - 0xA20000
    s.opEpCfg (o / 0x1000) (o % 0x1000 / 0x200) (o % 0x200 / 8) v
  else s.plain a v

/-- Would a range leave out an entry of the key table that is not FREE and lies in the range as it stands (R364)? -/
def State.rangeLoses (s : State) (base count base' count' : Nat) : Bool :=
  s.acc.keys.any (fun e => decide (base ≤ e.1) && decide (e.1 < base + count) && !(decide (base' ≤ e.1) && decide (e.1 < base' + count')))

/-- A write of one word of a key-table range. -/
def State.rangeWrite (s : State) (a v : Nat) : State :=
  let lo := a - a % 8
  let t := s.plain a v
  if s.rangeLoses (s.rd lo) (s.rd (lo + 4)) (t.rd lo) (t.rd (lo + 4)) then s.set Reg.ACC_STATUS_KT_REFUSED 1 else t

/-- ACC. -/
def State.wAcc (s : State) (a v : Nat) : State :=
  if a = Reg.ACC_CFG then
    (s.condDrop (s.on Reg.ACC_CFG_ENABLE && !decide (bits v 10 0 = s.get Reg.ACC_CFG_KT_COUNT))).opAccCfg v
  else if a = 0xB00018 ∨ a = 0xB0001C ∨ (0xB10000 ≤ a ∧ a < 0xB18000) then s.rangeWrite a v
  else s.plain a v

/-- MEM. -/
def State.wMem (s : State) (a v : Nat) : State :=
  if a = Reg.MEM_REGION_CFG then s.opRegion v
  else if a = Reg.MEM_HBM_CTRL then s.opRetrain v
  else if a = Reg.MEM_INJECT_HIGH then s.opInjectHigh v
  else if a = Reg.MEM_ROW_REPAIR then s.opRowRepair v
  else if 0xC00200 ≤ a ∧ a < 0xC00240 ∧ a % 16 < 8 then
    let st := (a - 0xC00200) / 16
    let k := a % 16 / 4
    let c := !decide (s.get (Reg.MEM_PC_SPARE_STATE st k) = 0) && !decide (bits v 4 0 = s.get (Reg.MEM_PC_SPARE_TARGET st k))
    (s.condDrop c).opSpare st k v
  else s.plain a v

/-- A link starts anew when what allows it has changed (R391). -/
def State.casAgain (s : State) (l : Nat) : State := (s.casLost l 1).casBegin l

/-- CAS. -/
def State.wCas (s : State) (a v : Nat) : State :=
  if a = Reg.CAS_DEV_ID then s.devIdWrite v
  else if a = Reg.CAS_REMOTE_CTRL then s.remoteCtrl v
  else if a = Reg.CAS_STACK_CFG then (s.plain a v).elect
  else if a = Reg.CAS_CFG then
    let was := s.on Reg.CAS_CFG_ENABLE
    let s := s.plain a v
    if was = s.on Reg.CAS_CFG_ENABLE then s else (List.range 8).foldl (fun (s : State) l => s.casAgain l) s
  else if 0xD00100 ≤ a ∧ a < 0xD00200 ∧ a % 32 = 0 then
    let l := (a - 0xD00100) / 32
    let was := s.on (Reg.CAS_LINK_CFG_ADMIN_UP l)
    let s := s.plain a v
    if was = s.on (Reg.CAS_LINK_CFG_ADMIN_UP l) then s else s.casAgain l
  else if 0xD40000 ≤ a ∧ a < 0xD80000 then (s.plain a v).set (Reg.CAS_ROUTE_USE_ALT ((a - 0xD40000) / 4)) 0
  else s.plain a v

/-- PWR. -/
def State.wPwr (s : State) (a v : Nat) : State :=
  if a = Reg.PWR_STATE_REQ then s.stateReq v
  else if 0xE01000 ≤ a ∧ a < 0xE01200 then s.domCtrl ((a - 0xE01000) / 4) v
  else s.plain a v

/-- JIG. LOG2_SIZE is written only while ENABLE is clear (R457). -/
def State.wJig (s : State) (a v : Nat) : State :=
  if a = Reg.JIG_LOG_CONS then s.jigCons v
  else if a = Reg.JIG_LOG_CFG then
    let size := s.get Reg.JIG_LOG_CFG_LOG2_SIZE
    if s.on Reg.JIG_CFG_ENABLE && !decide (bits v 4 0 = size) then
      ((s.plain a v).set Reg.JIG_LOG_CFG_LOG2_SIZE size).condDrop true
    else s.plain a v
  else if a = 0xF00058 then (s.plain a v).coreCancel
  else s.plain a v

/-- BOOT. HANDOFF acts when thread 0 writes it (R475). -/
def State.wBoot (s : State) (m a v : Nat) : State :=
  let t := s.plain a v
  if a = Reg.BOOT_CTRL then
    let t := if bit v 31 then t.confirm else t
    let t := if bit v 30 then t.abandon else t
    let t := if bit v 29 then t.set Reg.BOOT_CTRL_RECOVER 1 else t
    let t := if bit v 28 && decide (m = 0x2000) then t.handoff else t
    if bit v 27 then t.stageGo (bits v 24 24) else t
  else if a = Reg.BOOT_FLASH_CTRL then (if bit v 31 then t.flashGo (bits v 2 0) else t)
  else if a = Reg.BOOT_DIGEST_CTRL then (if bit v 31 then t.digestGo else t)
  else t

/-- ERR. -/
def State.wErr (s : State) (a v : Nat) : State :=
  if a = Reg.ERR_WARM_RESET then s.warmWrite v
  else if a = Reg.ERR_HALT then s.haltWrite v
  else if a = Reg.ERR_BLOCK_RESET then s.blkWrite v
  else if a = Reg.ERR_WDT_CFG then s.wdtCfg v
  else if a = Reg.ERR_WDT_KICK then s.wdtKick v
  else s.plain a v

/-- A request for one step of a HALTED thread (R504). -/
def dbgStep (t : Nat) (s : State) : State :=
  if s.thState t = 3 then { s with err := { s.err with stepReq := some t } } else s

/-- DBG. -/
def State.wDbg (s : State) (m a v : Nat) : State :=
  if a = Reg.DBG_CTRL then
    let s := if bit v 30 then s.dbgHaltDevice (decide (m / 4096 = 4)) else s
    if bit v 31 then s.dbgLock else s
  else if a = Reg.DBG_TOKEN_CTRL then (if bit v 31 then s.tokenSubmit else s)
  else if a = Reg.DBG_THREAD_CTL then
    let s := s.plain a v
    let s := if bit v 31 then s.dbgThread dbgHalt else s
    let s := if bit v 30 then s.dbgThread dbgResume else s
    if bit v 29 then s.dbgThread dbgStep else s
  else s.plain a v

/-- A whole register written by a master: the effect of its block's chapter. -/
def State.regWord (s : State) (m a v : Nat) : State :=
  match a / 0x100000 with
  | 0 => s.wGlb a v
  | 1 => s.wLane a v
  | 2 => s.wHost a v
  | 4 => s.wRing m a v
  | 5 => s.wPrs a v
  | 6 => s.wTbl a v
  | 7 => s.wCell a v
  | 8 => s.wTm a v
  | 9 => s.wXpt a v
  | 10 => s.wCore a v
  | 11 => s.wAcc a v
  | 12 => s.wMem a v
  | 13 => s.wCas a v
  | 14 => s.wPwr a v
  | 15 => s.wJig a v
  | 16 => s.wBoot m a v
  | 17 => s.wErr a v
  | 18 => s.wDbg m a v
  | _ => s.plain a v

/-! ## A write as it arrives -/

/-- May a register be written during a halt (R519)? -/
def State.haltWrites (s : State) (m a : Nat) : Bool :=
  decide (a = Reg.ERR_WARM_RESET) || decide (a = Reg.ERR_COLO_SEL) || (decide (0x80 ≤ a) && decide (a < 0xC0)) || decide (a = Reg.GLB_MGMT_CFG) ||
  decide (a = Reg.DRW_FENCE_SEL) || decide (a = Reg.RING_INSPECT_SEL_LOW) || decide (a = Reg.RING_INSPECT_SEL_HIGH) ||
  decide (a = Reg.MEM_BANK_SEL) || decide (a = Reg.MEM_ERR_LOG_SEL) || decide (a = Reg.CORE_STAGE_SEL) || decide (a = Reg.DBG_THREAD_SEL) ||
  (decide (a / 0x100000 = 18) && decide (m / 4096 = 4) && s.on Reg.DBG_STATUS_UNLOCKED)

/-- One register written, dropped and counted where it is reserved (R510) or a halt refuses it (R519). -/
def State.regPut (s : State) (m a v : Nat) : State :=
  if (rowAt a).isNone then s.bump Reg.n_reg_reserved_access
  else if s.halted && !s.haltWrites m a then s.bump Reg.n_halt_write_drop
  else (s.regWake a).regWord m a (v % 2 ^ 32)

/-- The held low half of a master at a block set or dropped (R512). -/
def State.holdHalf (s : State) (k : Nat) (h : Option (Nat × Nat)) : State :=
  { s with glb := { s.glb with held := match h with
    | some x => mput s.glb.held k x
    | none => mdel s.glb.held k } }

/-- A 4-byte write by a master: the low half of a pair is held until its high half is written (R512). -/
def State.writeWord (s : State) (m a v : Nat) : State :=
  let k := latchKey m a
  if isPair a && decide (a % 8 = 0) then
    if s.halted && !s.haltWrites m a then s.bump Reg.n_halt_write_drop else s.holdHalf k (some (a, v))
  else
    let low := mget s.glb.held k
    let s := if (rowAt a).isSome then s.holdHalf k none else s
    match low with
    | some (b, w) => if isPair a && decide (b + 4 = a) then (s.regPut m b w).regPut m a v else s.regPut m a v
    | none => s.regPut m a v

/-- A write of bytes in the pieces of R511. -/
def writePieces (m : Nat) : Nat → Nat → List Byte → State → State
  | 0, _, _, s => s
  | fuel + 1, a, l, s =>
    if l.isEmpty then s
    else if a % 8 = 0 ∧ 8 ≤ l.length then
      let s := s.holdHalf (latchKey m a) none
      writePieces m fuel (a + 8) (l.drop 8) ((s.regPut m a (leAt l 0 4)).regPut m (a + 4) (leAt l 4 4))
    else if a % 4 = 0 ∧ 4 ≤ l.length then writePieces m fuel (a + 4) (l.drop 4) (s.writeWord m a (leAt l 0 4))
    else
      let k := 4 - a % 4
      let s := if (rowAt (a - a % 4)).isSome then s.bump Reg.n_reg_partial_write else s.bump Reg.n_reg_reserved_access
      writePieces m fuel (a + k) (l.drop k) s

/-- A register write by a master; false where it meets an instance under block reset (R511, R518). -/
def State.regWrite (s : State) (m a : Nat) (l : List Byte) : Bool × State :=
  match (List.range (l.length / 4 + 1)).findSome? (fun i => s.resetOwns (a - a % 4 + 4 * i)) with
  | some x => (false, s.resetHit x.block x.inst)
  | none => (true, writePieces m (l.length + 1) a l s)

/-- May a master reach a register block (R94, R96, R509)? -/
def State.regAdmits (s : State) (m a n perm : Nat) : Bool := s.targetAdmits (3 * 4096 + a / 0x100000) m (a % 0x100000) n perm

end Sys2Proof.Machine
end

