-- ==== Sys2Proof/Machine/Glb.lean ====
section
/-! DEFINITION. Commands of the GLB block: synchronised and latched reads, UART, PPS, the management target and the management port
(R512, R515, R526–R529). -/

namespace Sys2Proof.Machine

/-- Is the spine powered (R414)? -/
def State.spineUp (s : State) : Bool := decide (s.pwr.phase = .up) && decide (s.devState < 4)

/-! ## Reads (R512, R515) -/

/-- A read of one register by a master, its word on the path it came by. -/
def State.readReply (s : State) (m a : Nat) : State :=
  let (v, s) := s.readWord m a
  s.emit (.reply 0 m 0 (leBytes 4 v))

/-- PAIR_LOW_READ: the low half of the pair at `a` is read. -/
def execPairLowRead (m a : Nat) (s : State) : Host.Outcome State Fault Refusal := s.path (s.readReply m (a - a % 8))
/-- GLB_SYNC_READ: earlier writes have taken effect, since each takes effect in the step that makes it; the read returns 0 (R515). -/
def execGlbSyncRead (m : Nat) (s : State) : Host.Outcome State Fault Refusal := s.path (s.readReply m Reg.GLB_SYNC)
/-- UART_RX_READ. -/
def execUartRxRead (m : Nat) (s : State) : Host.Outcome State Fault Refusal := s.path (s.readReply m Reg.GLB_UART_RX)

/-- REGISTER_WRITE: a write of a master that its target admits (R511–R519). -/
def State.regStore (s : State) (m a : Nat) (l : List Byte) : State :=
  if s.regAdmits m a l.length 1 then (s.regWrite m a l).2 else s.denied (3 * 4096 + a / 0x100000) m (a % 0x100000) 1

/-! ## UART and PPS (R526, R546) -/

/-- A received byte is queued, or dropped with RX_OVERRUN. -/
def State.uartTake (s : State) (v : Nat) : State :=
  if s.glb.uartRx.length < 64 then { s with glb := { s.glb with uartRx := s.glb.uartRx ++ [BitVec.ofNat 8 v] } }
  else s.set Reg.GLB_UART_STATUS_RX_OVERRUN 1

/-- An edge on PPS_IN is stamped while IN_EN is set. -/
def State.ppsIn (s : State) : State :=
  if s.on Reg.GLB_PPS_CFG_IN_EN then (s.wr64 Reg.GLB_PPS_IN_TIME s.now).set Reg.GLB_PPS_CFG_IN_NEW 1 else s

/-- PPS_OUT rises at a whole second, and falls 100 ms later. -/
def State.ppsOut (s : State) : State :=
  if s.on Reg.GLB_PPS_CFG_OUT_EN then (s.emit (.pin "PPS_OUT" true)).emit (.pin "PPS_OUT" false) else s

/-- Something that the spine does by itself, in a halt too. -/
def State.spine (s t : State) : Host.Outcome State Fault Refusal := s.always (if s.spineUp then t else s)

def execUartTxWrite (v : Nat) (s : State) : Host.Outcome State Fault Refusal := s.write (s.uartSend v)
def execUartRxByte (v : Nat) (s : State) : Host.Outcome State Fault Refusal := s.spine (s.uartTake v)
def execPpsInEdge (s : State) : Host.Outcome State Fault Refusal := s.spine s.ppsIn
def execPpsOutSecond (s : State) : Host.Outcome State Fault Refusal := s.spine s.ppsOut

/-! ## The I3C and I2C target (R527) -/

/-- Is a register offset one that the target reads in the device's present state? -/
def State.i3cReads (s : State) (a : Nat) : Bool :=
  let b := a / 0x100000
  decide (b = 0) ||
  (decide (s.devState ≤ 1) &&
    (decide (b = 14) || decide (b = 15) || decide (b = 17) ||
     (decide (0x140000 ≤ a) && decide (a < 0x160000) && decide (0x40 ≤ a % 0x100) && decide (a % 0x100 < 0xB8)) ||
     (decide (0x200000 ≤ a) && decide (a < 0x240000) && decide (0x100 ≤ a % 0x1000) && decide (a % 0x1000 < 0x188))))

/-- A read of `n` registers from the pointer onward, without side effect. -/
def State.i3cRead (s : State) (n : Nat) : State :=
  let p := s.glb.i3cPtr
  let data := (List.range n).flatMap (fun i => let a := (p + 4 * i) % 2 ^ 32
                                               leBytes 4 (if s.i3cReads a then s.view a else 0))
  { (s.emit (.reply 2 p 0 data)) with glb := { s.glb with i3cPtr := (p + 4 * n) % 2 ^ 32 } }

/-- The pointer set. -/
def State.i3cPoint (s : State) (p : Nat) : State := { s with glb := { s.glb with i3cPtr := p } }

/-- A write of the register at the pointer: GLB_SCRATCH, and PWR_STATE_REQ while WR_EN is set; any other is dropped and counted. -/
def State.i3cWrite (s : State) (p v : Nat) : State :=
  let s := s.i3cPoint p
  if decide (p % 4 = 0) && ((decide (0x80 ≤ p) && decide (p < 0xA0)) || (decide (p = Reg.PWR_STATE_REQ) && s.on Reg.GLB_I3C_CFG_WR_EN)) then
    s.regPut 0x3006 p v
  else s.bump Reg.n_reg_cond_drop

/-- A transaction addressed to the target wakes the device (R423). -/
def State.i3cWake (s : State) : State := s.pwrWake 5 none

def execI3cPointerWrite (p : Nat) (s : State) : Host.Outcome State Fault Refusal := s.spine (s.i3cPoint p).i3cWake
def execI3cRegisterWrite (p v : Nat) (s : State) : Host.Outcome State Fault Refusal := s.spine (s.i3cWrite p v).i3cWake
def execI3cRead (n : Nat) (s : State) : Host.Outcome State Fault Refusal := s.spine (s.i3cRead n).i3cWake
def execI3cAddressAssign (a : Nat) (s : State) : Host.Outcome State Fault Refusal :=
  s.spine { s with glb := { s.glb with i3cAddr := some a } }

/-! ## The management port (R528, R529) -/

def execMgmtLinkUp (s : State) : Host.Outcome State Fault Refusal :=
  s.path { s with glb := { s.glb with mgmtUp := true } }

/-- An access that a management or a Lamisk request asks for, as a master: status, data of a read, and the state (R502, R529). -/
def State.access (s : State) (m op a n : Nat) (data : List Byte) : Nat × List Byte × State :=
  let reg := decide (op ≤ 2)
  if n = 0 ∨ 1024 < n ∨ (reg = true ∧ n % 4 ≠ 0) then (ST_BAD_LENGTH, [], s)
  else if reg then
    if a % 4 ≠ 0 ∨ 0x4000000 < a + n then (ST_BAD_POINTER, [], s)
    else if op = 1 then
      match s.regRead m a n with
      | (some l, s) => (0, l, s)
      | (none, s) => (ST_TARGET_RESET, [], s)
    else
      match s.regWrite m a (slice data 0 n) with
      | (true, s) => (0, [], s)
      | (false, s) => (ST_TARGET_RESET, [], s)
  else if 0x1800000000 < a + n then (ST_BAD_POINTER, [], s)
  else if !s.on Reg.MEM_STATUS_HBM_READY then (ST_HBM_NOT_READY, [], s)
  else if op = 3 then
    match s.memRead m a n with
    | (true, _, s) => (ST_MEM_UNCORRECTABLE, [], s)
    | (false, l, s) => (0, l, s)
  else
    match s.memWrite m a (slice data 0 n) with
    | (true, s) => (0, [], s)
    | (false, s) => (ST_MEM_UNCORRECTABLE, [], s)

/-- A reply is kept by the header of its request, with the fifteen before it (R529). -/
def State.keepReply (s : State) (head r : List Byte) : State :=
  { s with glb := { s.glb with kept := (s.glb.kept ++ [(head, r)]).drop (s.glb.kept.length + 1 - 16) } }

/-- A manager frame of an operation (R529). A request whose header equals that of a kept reply is answered from it. -/
def State.mgrFrame (s : State) (want : Nat) (f : List Byte) : State :=
  match s.mgmtBody f with
  | none => s
  | some b =>
    let op := beAt b 4 1
    let src := frameSource f
    if beAt b 0 4 ≠ 0x534B4D47 ∨ op ≠ want ∨ s.get Reg.BOOT_STATUS_MODE = 2 then s
    else if !s.on Reg.GLB_MGMT_CFG_MGR_EN || (s.on Reg.GLB_MGMT_CFG_PEER_EN && !decide (src = s.get Reg.GLB_MGMT_PEER_PEER)) then
      s.bump Reg.n_mgmt_frame_refused
    else
      let head := slice b 0 18
      match s.glb.kept.find? (fun e => decide (e.1 = head)) with
      | some (_, r) => s.emit (.mgmt (s.mgmtFrame src r))
      | none =>
        let (st, data, s) := s.access 0 op (beAt b 8 8) (beAt b 16 2) (b.drop 18)
        let r := b.take 4 ++ beBytes 1 (op + 0x80) ++ beBytes 1 st ++ slice b 6 12 ++ data
        let s := s.keepReply head r
        s.emit (.mgmt (s.mgmtFrame src r))

/-- A manager frame arrives on the management port. -/
def State.mgrAccess (s : State) (want : Nat) (f : List Byte) : State := if s.glb.mgmtUp then s.mgrFrame want f else s

end Sys2Proof.Machine
end

