-- ==== Sys2Proof/Machine/Float.lean ====
section
/-! DEFINITION. Binary floating-point arithmetic of the F and D extensions (R307): IEEE 754 values, computed exactly and rounded
once. Flags are NV 16, DZ 8, OF 4, UF 2, NX 1. The RISC-V specifications, to which R307 refers, are PRESUMED, log entry 27. -/

namespace Sys2Proof.Machine

/-- A format: bits of the significand with its hidden bit, and bits of the exponent. -/
structure Fmt where
  p  : Nat
  eb : Nat
deriving DecidableEq, Repr

/-- Single precision. -/
def fmtS : Fmt := ⟨24, 8⟩
/-- Double precision. -/
def fmtD : Fmt := ⟨53, 11⟩

/-- A value: NaN (signalling or quiet), an infinity, or sign, significand and exponent of an exact number. -/
inductive Fv where
  | nan (signalling : Bool)
  | inf (neg : Bool)
  | num (neg : Bool) (m : Nat) (e : Int)
deriving DecidableEq, Repr

/-- Bits of a number of a format. -/
def Fmt.width (f : Fmt) : Nat := f.p + f.eb
/-- Exponent bias. -/
def Fmt.bias (f : Fmt) : Nat := 2 ^ (f.eb - 1) - 1
/-- The canonical NaN. -/
def Fmt.nan (f : Fmt) : Nat := (2 ^ (f.eb + 1) - 1) * 2 ^ (f.p - 2)
/-- An infinity. -/
def Fmt.inf (f : Fmt) (neg : Bool) : Nat := b2n neg * 2 ^ (f.width - 1) + (2 ^ f.eb - 1) * 2 ^ (f.p - 1)
/-- A zero. -/
def Fmt.zero (f : Fmt) (neg : Bool) : Nat := b2n neg * 2 ^ (f.width - 1)
/-- The largest finite number. -/
def Fmt.max (f : Fmt) (neg : Bool) : Nat := f.inf neg - 1

/-- The value that a bit pattern stands for. -/
def Fmt.unpack (f : Fmt) (x : Nat) : Fv :=
  let neg := bit x (f.width - 1)
  let e := bits x (f.width - 2) (f.p - 1)
  let m := x % 2 ^ (f.p - 1)
  if e = 2 ^ f.eb - 1 then (if m = 0 then .inf neg else .nan (!bit m (f.p - 2)))
  else if e = 0 then .num neg m (1 - (f.bias : Int) - (f.p - 1 : Nat))
  else .num neg (m + 2 ^ (f.p - 1)) ((e : Int) - (f.bias : Int) - (f.p - 1 : Nat))

/-- Does rounding mode `rm` add one, given the sign, the last bit kept, the remainder and the shift that cut it off? -/
def roundUp (rm : Nat) (neg : Bool) (odd : Bool) (rem shift : Nat) : Bool :=
  match rm with
  | 0 => decide (2 ^ shift < 2 * rem) || (decide (2 ^ shift = 2 * rem) && odd)
  | 1 => false
  | 2 => neg && decide (0 < rem)
  | 3 => !neg && decide (0 < rem)
  | _ => decide (2 ^ shift ≤ 2 * rem)

/-- A significand cut at an exponent: the part kept after rounding, and whether it is inexact. -/
def cutAt (rm : Nat) (neg : Bool) (m : Nat) (e q : Int) : Nat × Bool :=
  if q ≤ e then (m * 2 ^ (e - q).toNat, false)
  else
    let k := (q - e).toNat
    let sig := m / 2 ^ k
    let rem := m % 2 ^ k
    (if roundUp rm neg (bit sig 0) rem k then sig + 1 else sig, decide (0 < rem))

/-- An exact number rounded to a format: its bits and the flags. Tininess is detected after rounding. -/
def Fmt.round (f : Fmt) (rm : Nat) (neg : Bool) (m : Nat) (e : Int) : Nat × Nat :=
  if m = 0 then (f.zero neg, 0)
  else
    let top : Int := (Nat.log2 m : Int) + e
    let emin : Int := 1 - (f.bias : Int)
    let w : Int := (f.p - 1 : Nat)
    let q := (if top < emin then emin else top) - w
    let (sig, nx) := cutAt rm neg m e q
    let (sig, q) := if sig = 2 ^ f.p then (sig / 2, q + 1) else (sig, q)
    let tiny := decide (top < emin) && !(decide (top + 1 = emin) && decide ((cutAt rm neg m e (top - w)).1 = 2 ^ f.p))
    if decide (2 ^ (f.p - 1) ≤ sig) && decide ((f.bias : Int) < q + w) then
      let big := if rm = 0 ∨ rm = 4 ∨ (rm = 2 ∧ neg = true) ∨ (rm = 3 ∧ neg = false) then f.inf neg else f.max neg
      (big, 5)
    else
      let bitsOf := if sig < 2 ^ (f.p - 1) then sig else (q + w + (f.bias : Int)).toNat * 2 ^ (f.p - 1) + (sig - 2 ^ (f.p - 1))
      (f.zero neg + bitsOf, if nx then (if tiny then 3 else 1) else 0)

/-- Flags of an operation that meets these operands: NV for a signalling NaN. -/
def nanFlags (l : List Fv) : Nat := if l.any (fun v => v = .nan true) then 16 else 0

/-- Is a value a NaN? -/
def Fv.isNan : Fv → Bool
  | .nan _ => true
  | _ => false

/-- A value negated. -/
def Fv.neg : Fv → Fv
  | .nan s => .nan s
  | .inf n => .inf (!n)
  | .num n m e => .num (!n) m e

/-- The exact sum of two numbers, rounded. -/
def Fmt.sum (f : Fmt) (rm : Nat) (n1 : Bool) (m1 : Nat) (e1 : Int) (n2 : Bool) (m2 : Nat) (e2 : Int) : Nat × Nat :=
  let e := min e1 e2
  let a : Int := (m1 * 2 ^ (e1 - e).toNat : Nat)
  let b : Int := (m2 * 2 ^ (e2 - e).toNat : Nat)
  let c := (if n1 then -a else a) + (if n2 then -b else b)
  if c = 0 then (f.zero (if n1 = n2 ∧ m1 = 0 ∧ m2 = 0 then n1 else decide (rm = 2)), 0)
  else f.round rm (decide (c < 0)) c.natAbs e

/-- Addition. -/
def Fmt.add (f : Fmt) (rm : Nat) (a b : Fv) : Nat × Nat :=
  match a, b with
  | .nan _, _ => (f.nan, nanFlags [a, b])
  | _, .nan _ => (f.nan, nanFlags [a, b])
  | .inf x, .inf y => if x = y then (f.inf x, 0) else (f.nan, 16)
  | .inf x, _ => (f.inf x, 0)
  | _, .inf y => (f.inf y, 0)
  | .num n1 m1 e1, .num n2 m2 e2 => f.sum rm n1 m1 e1 n2 m2 e2

/-- Multiplication and addition, rounded once. -/
def Fmt.fma (f : Fmt) (rm : Nat) (a b c : Fv) : Nat × Nat :=
  let zeroInf := match a, b with
    | .inf _, .num _ 0 _ => true
    | .num _ 0 _, .inf _ => true
    | _, _ => false
  if zeroInf then (f.nan, 16)
  else if a.isNan || b.isNan || c.isNan then (f.nan, nanFlags [a, b, c])
  else
    match a, b with
    | .num n1 m1 e1, .num n2 m2 e2 =>
      (match c with
       | .num n3 m3 e3 => f.sum rm (n1 != n2) (m1 * m2) (e1 + e2) n3 m3 e3
       | .inf n3 => (f.inf n3, 0)
       | .nan _ => (f.nan, 0))
    | .inf n1, .inf n2 => f.add rm (.inf (n1 != n2)) c
    | .inf n1, .num n2 _ _ => f.add rm (.inf (n1 != n2)) c
    | .num n1 _ _, .inf n2 => f.add rm (.inf (n1 != n2)) c
    | _, _ => (f.nan, 0)

/-- Multiplication. -/
def Fmt.mul (f : Fmt) (rm : Nat) (a b : Fv) : Nat × Nat :=
  match a, b with
  | .num n1 m1 e1, .num n2 m2 e2 => f.round rm (n1 != n2) (m1 * m2) (e1 + e2)
  | .nan _, _ => (f.nan, nanFlags [a, b])
  | _, .nan _ => (f.nan, nanFlags [a, b])
  | .inf n1, .num n2 m _ => if m = 0 then (f.nan, 16) else (f.inf (n1 != n2), 0)
  | .num n1 m _, .inf n2 => if m = 0 then (f.nan, 16) else (f.inf (n1 != n2), 0)
  | .inf n1, .inf n2 => (f.inf (n1 != n2), 0)

/-- Division. -/
def Fmt.div (f : Fmt) (rm : Nat) (a b : Fv) : Nat × Nat :=
  match a, b with
  | .nan _, _ => (f.nan, nanFlags [a, b])
  | _, .nan _ => (f.nan, nanFlags [a, b])
  | .inf _, .inf _ => (f.nan, 16)
  | .inf n1, .num n2 _ _ => (f.inf (n1 != n2), 0)
  | .num n1 _ _, .inf n2 => (f.zero (n1 != n2), 0)
  | .num n1 m1 e1, .num n2 m2 e2 =>
    if m2 = 0 then (if m1 = 0 then (f.nan, 16) else (f.inf (n1 != n2), 8))
    else if m1 = 0 then (f.zero (n1 != n2), 0)
    else
      let k := Nat.log2 m2 + f.p + 3
      let x := m1 * 2 ^ k
      f.round rm (n1 != n2) (2 * (x / m2) + b2n (decide (0 < x % m2))) (e1 - (k : Int) - e2 - 1)

/-- The integer square root, bit by bit from bit `n`. -/
def isqrt (x : Nat) : Nat → Nat → Nat
  | 0, r => if (r + 1) * (r + 1) ≤ x then r + 1 else r
  | n + 1, r => isqrt x n (if (r + 2 ^ (n + 1)) * (r + 2 ^ (n + 1)) ≤ x then r + 2 ^ (n + 1) else r)

/-- Square root. -/
def Fmt.sqrt (f : Fmt) (rm : Nat) (a : Fv) : Nat × Nat :=
  match a with
  | .nan _ => (f.nan, nanFlags [a])
  | .inf neg => if neg then (f.nan, 16) else (f.inf false, 0)
  | .num neg m e =>
    if m = 0 then (f.zero neg, 0)
    else if neg then (f.nan, 16)
    else
      let k := 2 * f.p + 6 + (if e % 2 = 0 then 0 else 1)
      let x := m * 2 ^ k
      let r := isqrt x (Nat.log2 x / 2 + 1) 0
      f.round rm false (2 * r + b2n (decide (r * r < x))) ((e - (k : Int)) / 2 - 1)

/-- Order of two values that are no NaNs: is the first below, and are they equal? -/
def Fv.order (a b : Fv) : Bool × Bool :=
  match a, b with
  | .inf x, .inf y => (x && !y, x == y)
  | .inf x, _ => (x, false)
  | _, .inf y => (!y, false)
  | .num n1 m1 e1, .num n2 m2 e2 =>
    let e := min e1 e2
    let x : Int := (m1 * 2 ^ (e1 - e).toNat : Nat)
    let y : Int := (m2 * 2 ^ (e2 - e).toNat : Nat)
    let x := if n1 then -x else x
    let y := if n2 then -y else y
    (decide (x < y), decide (x = y))
  | _, _ => (false, false)

/-- FEQ 2, FLT 1, FLE 0: the result and the flags. -/
def fcompare (op : Nat) (a b : Fv) : Nat × Nat :=
  if a.isNan || b.isNan then (0, if op = 2 then nanFlags [a, b] else 16)
  else
    let (lt, eq) := a.order b
    (b2n (match op with | 2 => eq | 1 => lt | _ => lt || eq), 0)

/-- FMIN 0, FMAX 1 on bit patterns: a NaN gives way to a number, and −0 lies below +0. -/
def Fmt.minMax (f : Fmt) (max : Bool) (x y : Nat) : Nat × Nat :=
  let a := f.unpack x
  let b := f.unpack y
  let fl := nanFlags [a, b]
  if a.isNan && b.isNan then (f.nan, fl)
  else if a.isNan then (y, fl)
  else if b.isNan then (x, fl)
  else
    let (lt, eq) := a.order b
    let low := if eq then bit x (f.width - 1) else lt
    (if low = max then y else x, fl)

/-- FCLASS. -/
def Fmt.classify (f : Fmt) (x : Nat) : Nat :=
  let e := bits x (f.width - 2) (f.p - 1)
  match f.unpack x with
  | .nan s => if s then 2 ^ 8 else 2 ^ 9
  | .inf neg => if neg then 1 else 2 ^ 7
  | .num neg m _ =>
    if m = 0 then (if neg then 2 ^ 3 else 2 ^ 4)
    else if e = 0 then (if neg then 2 ^ 2 else 2 ^ 5)
    else (if neg then 2 ^ 1 else 2 ^ 6)

/-- A value as an integer of `w` bits, signed or not: result as a number of `w` bits, and the flags. -/
def Fv.toInt (rm w : Nat) (signed : Bool) (a : Fv) : Nat × Nat :=
  let hi : Int := if signed then 2 ^ (w - 1) - 1 else 2 ^ w - 1
  let lo : Int := if signed then -(2 ^ (w - 1)) else 0
  match a with
  | .nan _ => (ofSigned w hi, 16)
  | .inf neg => (ofSigned w (if neg then lo else hi), 16)
  | .num neg m e =>
    let (sig, nx) := cutAt rm neg m e 0
    let v : Int := if neg then -(sig : Int) else sig
    if v < lo then (ofSigned w lo, 16) else if hi < v then (ofSigned w hi, 16) else (ofSigned w v, b2n nx)

/-- An integer as a number of a format. -/
def Fmt.ofInt (f : Fmt) (rm : Nat) (v : Int) : Nat × Nat := f.round rm (decide (v < 0)) v.natAbs 0

/-- A value of one format in another. -/
def Fmt.convert (f : Fmt) (rm : Nat) (a : Fv) : Nat × Nat :=
  match a with
  | .nan _ => (f.nan, nanFlags [a])
  | .inf neg => (f.inf neg, 0)
  | .num neg m e => f.round rm neg m e

/-- A single-precision operand of a 64-bit register: it must be boxed by ones, or it reads as the canonical NaN. -/
def unbox (x : Nat) : Nat := if x / 2 ^ 32 = 2 ^ 32 - 1 then x % 2 ^ 32 else fmtS.nan

/-- A result of a format in a 64-bit register. -/
def Fmt.box (f : Fmt) (x : Nat) : Nat := if f.p = 24 then (2 ^ 32 - 1) * 2 ^ 32 + x % 2 ^ 32 else x % 2 ^ 64

/-- An operand of a format from a 64-bit register. -/
def Fmt.ofReg (f : Fmt) (x : Nat) : Nat := if f.p = 24 then unbox x else x

end Sys2Proof.Machine
end

