-- ==== Sys2Proof/Machine/RvAlu.lean ====
section
/-! DEFINITION. The integer instructions of the base profile as functions of their operands: RV64IM, Zba, Zbb, Zbs and the
expansion of the C extension (R307; the RISC-V specifications are PRESUMED, log entry 27). Numbers are 64-bit and unsigned. -/

namespace Sys2Proof.Machine

/-- The low 32 bits extended by their sign. -/
def sext32 (x : Nat) : Nat := ofSigned 64 (toSigned 32 (x % 2 ^ 32))

/-- `w` bits extended by their sign. -/
def sextW (w x : Nat) : Nat := ofSigned 64 (toSigned w (x % 2 ^ w))

/-- The value as a signed 64-bit number. -/
def s64 (x : Nat) : Int := toSigned 64 x

/-- A bit count: leading zeros among the low `w` bits. -/
def clz (w x : Nat) : Nat := if x % 2 ^ w = 0 then w else w - 1 - Nat.log2 (x % 2 ^ w)

/-- Trailing zeros among the low `w` bits. -/
def ctz (w x : Nat) : Nat := ((List.range w).find? (fun i => bit x i)).getD w

/-- Ones among the low `w` bits. -/
def cpop (w x : Nat) : Nat := ((List.range w).filter (fun i => bit x i)).length

/-- A left rotation of `w` bits. -/
def rol (w x n : Nat) : Nat := (x % 2 ^ w * 2 ^ (n % w)) % 2 ^ w + x % 2 ^ w / 2 ^ (w - n % w)

/-- Bytes that are not zero become 0xFF. -/
def orcB (x : Nat) : Nat := leNat ((leBytes 8 x).map (fun b => if b = 0 then 0 else 0xFF))

/-- The bytes in the opposite order. -/
def rev8 (x : Nat) : Nat := beNat (leBytes 8 x)

/-- Every bit inverted. -/
def not64 (x : Nat) : Nat := 2 ^ 64 - 1 - x % 2 ^ 64

/-- An arithmetic right shift of a signed number. -/
def sra (x : Int) (n : Nat) : Int := x / (2 ^ n : Nat)

/-- DIV of signed numbers: a zero divisor gives −1, the overflow the dividend. -/
def divS (a b : Int) : Int := if b = 0 then -1 else a.tdiv b

/-- REM of signed numbers: a zero divisor gives the dividend. -/
def remS (a b : Int) : Int := if b = 0 then a else a.tmod b

/-- Register–register operations of OP by funct7 and funct3; none for a code with no instruction. -/
def aluR (f7 f3 a b : Nat) : Option Nat :=
  let sh := b % 64
  match f7, f3 with
  | 0x00, 0 => some (a + b)
  | 0x00, 1 => some (a * 2 ^ sh)
  | 0x00, 2 => some (b2n (decide (s64 a < s64 b)))
  | 0x00, 3 => some (b2n (decide (a < b)))
  | 0x00, 4 => some (Nat.xor a b)
  | 0x00, 5 => some (a / 2 ^ sh)
  | 0x00, 6 => some (Nat.lor a b)
  | 0x00, 7 => some (Nat.land a b)
  | 0x20, 0 => some (a + 2 ^ 64 - b)
  | 0x20, 4 => some (not64 (Nat.xor a b))
  | 0x20, 5 => some (ofSigned 64 (sra (s64 a) sh))
  | 0x20, 6 => some (Nat.lor a (not64 b))
  | 0x20, 7 => some (Nat.land a (not64 b))
  | 0x01, 0 => some (a * b)
  | 0x01, 1 => some (ofSigned 64 (sra (s64 a * s64 b) 64))
  | 0x01, 2 => some (ofSigned 64 (sra (s64 a * (b : Int)) 64))
  | 0x01, 3 => some (a * b / 2 ^ 64)
  | 0x01, 4 => some (ofSigned 64 (divS (s64 a) (s64 b)))
  | 0x01, 5 => some (if b = 0 then 2 ^ 64 - 1 else a / b)
  | 0x01, 6 => some (ofSigned 64 (remS (s64 a) (s64 b)))
  | 0x01, 7 => some (if b = 0 then a else a % b)
  | 0x10, 2 => some (2 * a + b)
  | 0x10, 4 => some (4 * a + b)
  | 0x10, 6 => some (8 * a + b)
  | 0x05, 4 => some (if s64 a < s64 b then a else b)
  | 0x05, 5 => some (min a b)
  | 0x05, 6 => some (if s64 a < s64 b then b else a)
  | 0x05, 7 => some (max a b)
  | 0x30, 1 => some (rol 64 a sh)
  | 0x30, 5 => some (rol 64 a (64 - sh))
  | 0x24, 1 => some (Nat.land a (not64 (2 ^ sh)))
  | 0x24, 5 => some (b2n (bit a sh))
  | 0x34, 1 => some (Nat.xor a (2 ^ sh))
  | 0x14, 1 => some (Nat.lor a (2 ^ sh))
  | _, _ => none

/-- Register–register operations of OP-32. -/
def aluRW (f7 f3 rs2 a b : Nat) : Option Nat :=
  let sh := b % 32
  let w := a % 2 ^ 32
  let v := b % 2 ^ 32
  let sa := toSigned 32 w
  let sb := toSigned 32 v
  match f7, f3 with
  | 0x00, 0 => some (sext32 (a + b))
  | 0x00, 1 => some (sext32 (w * 2 ^ sh))
  | 0x00, 5 => some (sext32 (w / 2 ^ sh))
  | 0x20, 0 => some (sext32 (a + 2 ^ 64 - b))
  | 0x20, 5 => some (ofSigned 64 (sra sa sh))
  | 0x01, 0 => some (sext32 (a * b))
  | 0x01, 4 => some (sext32 (ofSigned 64 (divS sa sb)))
  | 0x01, 5 => some (sext32 (if v = 0 then 2 ^ 32 - 1 else w / v))
  | 0x01, 6 => some (ofSigned 64 (remS sa sb))
  | 0x01, 7 => some (sext32 (if v = 0 then w else w % v))
  | 0x04, 0 => some (w + b)
  | 0x04, 4 => if rs2 = 0 then some (a % 2 ^ 16) else none
  | 0x10, 2 => some (2 * w + b)
  | 0x10, 4 => some (4 * w + b)
  | 0x10, 6 => some (8 * w + b)
  | 0x30, 1 => some (sext32 (rol 32 a sh))
  | 0x30, 5 => some (sext32 (rol 32 a (32 - sh)))
  | _, _ => none

/-- Immediate operations of OP-IMM: funct3, the 12 immediate bits and the operand. -/
def aluI (f3 imm a : Nat) : Option Nat :=
  let f6 := imm / 64
  let sh := imm % 64
  match f3 with
  | 1 =>
    if f6 = 0x00 then aluR 0x00 1 a sh
    else if f6 = 0x0A then aluR 0x14 1 a sh
    else if f6 = 0x12 then aluR 0x24 1 a sh
    else if f6 = 0x1A then aluR 0x34 1 a sh
    else if imm = 0x600 then some (clz 64 a)
    else if imm = 0x601 then some (ctz 64 a)
    else if imm = 0x602 then some (cpop 64 a)
    else if imm = 0x604 then some (sextW 8 a)
    else if imm = 0x605 then some (sextW 16 a)
    else none
  | 5 =>
    if f6 = 0x00 then aluR 0x00 5 a sh
    else if f6 = 0x10 then aluR 0x20 5 a sh
    else if f6 = 0x18 then aluR 0x30 5 a sh
    else if f6 = 0x12 then aluR 0x24 5 a sh
    else if imm = 0x287 then some (orcB a)
    else if imm = 0x6B8 then some (rev8 a)
    else none
  | n => aluR 0 n a (sextW 12 imm)

/-- Immediate operations of OP-IMM-32. -/
def aluIW (f3 imm a : Nat) : Option Nat :=
  let f7 := imm / 32
  let sh := imm % 32
  match f3 with
  | 0 => some (sext32 (a + sextW 12 imm))
  | 1 =>
    if f7 = 0x00 then aluRW 0x00 1 1 a sh
    else if imm / 64 = 0x02 then some (a % 2 ^ 32 * 2 ^ (imm % 64))
    else if imm = 0x600 then some (clz 32 a)
    else if imm = 0x601 then some (ctz 32 a)
    else if imm = 0x602 then some (cpop 32 a)
    else none
  | 5 => if f7 = 0x00 ∨ f7 = 0x20 ∨ f7 = 0x30 then aluRW f7 5 1 a sh else none
  | _ => none

/-- A branch's condition by funct3; none for the two codes with no instruction. -/
def branchTaken (f3 a b : Nat) : Option Bool :=
  match f3 with
  | 0 => some (decide (a = b))
  | 1 => some (!decide (a = b))
  | 4 => some (decide (s64 a < s64 b))
  | 5 => some (!decide (s64 a < s64 b))
  | 6 => some (decide (a < b))
  | 7 => some (!decide (a < b))
  | _ => none

/-- What an AMO of `n` bytes writes by its funct5; none for a code with no AMO. -/
def amoValue (f5 n old v : Nat) : Option Nat :=
  let w := 8 * n
  let a := old % 2 ^ w
  let b := v % 2 ^ w
  let lt := decide (toSigned w a < toSigned w b)
  match f5 with
  | 0x01 => some b
  | 0x00 => some ((a + b) % 2 ^ w)
  | 0x04 => some (Nat.xor a b)
  | 0x0C => some (Nat.land a b)
  | 0x08 => some (Nat.lor a b)
  | 0x10 => some (if lt then a else b)
  | 0x14 => some (if lt then b else a)
  | 0x18 => some (min a b)
  | 0x1C => some (max a b)
  | _ => none

/-! ## Immediates and the C extension -/

/-- The I-type immediate. -/
def immI (i : Nat) : Nat := sextW 12 (bits i 31 20)
/-- The S-type immediate. -/
def immS (i : Nat) : Nat := sextW 12 (bits i 31 25 * 32 + bits i 11 7)
/-- The B-type immediate. -/
def immB (i : Nat) : Nat := sextW 13 (bits i 31 31 * 4096 + bits i 7 7 * 2048 + bits i 30 25 * 32 + bits i 11 8 * 2)
/-- The U-type immediate. -/
def immU (i : Nat) : Nat := sext32 (bits i 31 12 * 4096)
/-- The J-type immediate. -/
def immJ (i : Nat) : Nat := sextW 21 (bits i 31 31 * 2 ^ 20 + bits i 19 12 * 4096 + bits i 20 20 * 2048 + bits i 30 21 * 2)

/-- An I-type word. -/
def encI (op f3 rd rs1 imm : Nat) : Nat := op + rd * 2 ^ 7 + f3 * 2 ^ 12 + rs1 * 2 ^ 15 + imm % 4096 * 2 ^ 20
/-- An R-type word. -/
def encR (op f3 f7 rd rs1 rs2 : Nat) : Nat := op + rd * 2 ^ 7 + f3 * 2 ^ 12 + rs1 * 2 ^ 15 + rs2 * 2 ^ 20 + f7 * 2 ^ 25
/-- An S-type word. -/
def encS (op f3 rs1 rs2 imm : Nat) : Nat :=
  op + bits imm 4 0 * 2 ^ 7 + f3 * 2 ^ 12 + rs1 * 2 ^ 15 + rs2 * 2 ^ 20 + bits imm 11 5 * 2 ^ 25
/-- A B-type word. -/
def encB (f3 rs1 rs2 imm : Nat) : Nat :=
  0x63 + bits imm 11 11 * 2 ^ 7 + bits imm 4 1 * 2 ^ 8 + f3 * 2 ^ 12 + rs1 * 2 ^ 15 + rs2 * 2 ^ 20 + bits imm 10 5 * 2 ^ 25 +
    bits imm 12 12 * 2 ^ 31
/-- A J-type word. -/
def encJ (rd imm : Nat) : Nat :=
  0x6F + rd * 2 ^ 7 + bits imm 19 12 * 2 ^ 12 + bits imm 11 11 * 2 ^ 20 + bits imm 10 1 * 2 ^ 21 + bits imm 20 20 * 2 ^ 31
/-- A U-type word. -/
def encU (op rd imm : Nat) : Nat := op + rd * 2 ^ 7 + imm % 2 ^ 20 * 2 ^ 12

/-- Quadrant 0 of the C extension. -/
def expand0 (h : Nat) : Option Nat :=
  let rd := 8 + bits h 4 2
  let rs := 8 + bits h 9 7
  let d := bits h 12 10 * 8 + bits h 6 5 * 64
  let w := bits h 12 10 * 8 + bits h 6 6 * 4 + bits h 5 5 * 64
  match bits h 15 13 with
  | 0 =>
    let n := bits h 12 11 * 16 + bits h 10 7 * 64 + bits h 6 6 * 4 + bits h 5 5 * 8
    if n = 0 then none else some (encI 0x13 0 rd 2 n)
  | 1 => some (encI 0x07 3 rd rs d)
  | 2 => some (encI 0x03 2 rd rs w)
  | 3 => some (encI 0x03 3 rd rs d)
  | 5 => some (encS 0x27 3 rs rd d)
  | 6 => some (encS 0x23 2 rs rd w)
  | 7 => some (encS 0x23 3 rs rd d)
  | _ => none

/-- Quadrant 1. -/
def expand1 (h : Nat) : Option Nat :=
  let rd := bits h 11 7
  let rs := 8 + bits h 9 7
  let r2 := 8 + bits h 4 2
  let s6 := bits h 12 12 * 32 + bits h 6 2
  let i := sextW 6 s6
  let jo := bits h 12 12 * 2 ^ 11 + bits h 11 11 * 16 + bits h 10 9 * 256 + bits h 8 8 * 1024 + bits h 7 7 * 64 + bits h 6 6 * 128 +
    bits h 5 3 * 2 + bits h 2 2 * 32
  let bo := bits h 12 12 * 256 + bits h 11 10 * 8 + bits h 6 5 * 64 + bits h 4 3 * 2 + bits h 2 2 * 32
  match bits h 15 13 with
  | 0 => some (encI 0x13 0 rd rd i)
  | 1 => if rd = 0 then none else some (encI 0x1B 0 rd rd i)
  | 2 => some (encI 0x13 0 rd 0 i)
  | 3 =>
    if s6 = 0 then none
    else if rd = 2 then
      some (encI 0x13 0 2 2 (sextW 10 (bits h 12 12 * 512 + bits h 6 6 * 16 + bits h 5 5 * 64 + bits h 4 3 * 128 + bits h 2 2 * 32)))
    else some (encU 0x37 rd i)
  | 4 =>
    match bits h 11 10 with
    | 0 => some (encI 0x13 5 rs rs s6)
    | 1 => some (encI 0x13 5 rs rs (0x400 + s6))
    | 2 => some (encI 0x13 7 rs rs i)
    | _ =>
      match bits h 12 12, bits h 6 5 with
      | 0, 0 => some (encR 0x33 0 0x20 rs rs r2)
      | 0, 1 => some (encR 0x33 4 0 rs rs r2)
      | 0, 2 => some (encR 0x33 6 0 rs rs r2)
      | 0, 3 => some (encR 0x33 7 0 rs rs r2)
      | 1, 0 => some (encR 0x3B 0 0x20 rs rs r2)
      | 1, 1 => some (encR 0x3B 0 0 rs rs r2)
      | _, _ => none
  | 5 => some (encJ 0 (sextW 12 jo))
  | 6 => some (encB 0 rs 0 (sextW 9 bo))
  | _ => some (encB 1 rs 0 (sextW 9 bo))

/-- Quadrant 2. -/
def expand2 (h : Nat) : Option Nat :=
  let rd := bits h 11 7
  let rs2 := bits h 6 2
  let s6 := bits h 12 12 * 32 + bits h 6 2
  let ld := bits h 12 12 * 32 + bits h 6 5 * 8 + bits h 4 2 * 64
  let lw := bits h 12 12 * 32 + bits h 6 4 * 4 + bits h 3 2 * 64
  let sd := bits h 12 10 * 8 + bits h 9 7 * 64
  let sw := bits h 12 9 * 4 + bits h 8 7 * 64
  match bits h 15 13 with
  | 0 => some (encI 0x13 1 rd rd s6)
  | 1 => some (encI 0x07 3 rd 2 ld)
  | 2 => if rd = 0 then none else some (encI 0x03 2 rd 2 lw)
  | 3 => if rd = 0 then none else some (encI 0x03 3 rd 2 ld)
  | 4 =>
    if bits h 12 12 = 0 then
      if rs2 = 0 then (if rd = 0 then none else some (encI 0x67 0 0 rd 0)) else some (encR 0x33 0 0 rd 0 rs2)
    else if rs2 = 0 then (if rd = 0 then some 0x00100073 else some (encI 0x67 0 1 rd 0))
    else some (encR 0x33 0 0 rd rd rs2)
  | 5 => some (encS 0x27 3 2 rs2 sd)
  | 6 => some (encS 0x23 2 2 rs2 sw)
  | _ => some (encS 0x23 3 2 rs2 sd)

/-- The 32-bit instruction that a 16-bit one stands for; none for a reserved code. -/
def expandC (h : Nat) : Option Nat :=
  match h % 4 with
  | 0 => expand0 h
  | 1 => expand1 h
  | _ => expand2 h

end Sys2Proof.Machine
end

