-- ==== Sys2Proof/Machine/RvCsr.lean ====
section
/-! DEFINITION. The control and status registers of a thread, the returns from traps and the interrupts that software sets (R307;
the RISC-V privileged specification is PRESUMED, log entry 27). -/

namespace Sys2Proof.Machine

/-- mstatus as it reads: the stored fields, UXL and SXL of 64 bits, and SD while FS is dirty. -/
def Thread.mstatus (x : Thread) : Nat :=
  let v := x.csrOf 0x300
  v + 2 * 2 ^ 32 + 2 * 2 ^ 34 + (if bits v 14 13 = 3 then 2 ^ 63 else 0)

/-- The fields of mstatus that a write changes: SIE, MIE, SPIE, MPIE, SPP, MPP, FS, MPRV, SUM, MXR, TVM, TW and TSR. -/
def mstatusMask : Nat := 0x7E79AA

/-- The fields of sstatus: SIE, SPIE, SPP, FS, SUM and MXR. -/
def sstatusMask : Nat := 0xC6122

/-- Bits of a mask taken from a new value, the others from the old. -/
def blend (old v mask : Nat) : Nat := old - Nat.land old mask + Nat.land v mask

/-- mstatus written; MPP does not take the code of no mode. -/
def Thread.setMstatus (x : Thread) (v mask : Nat) : Thread :=
  let old := x.csrOf 0x300
  let n := blend old v mask
  x.setCsr 0x300 (if bits n 12 11 = 2 then putBits n 12 11 (bits old 12 11) else n)

/-- FS becomes dirty. -/
def Thread.dirty (x : Thread) : Thread := x.setCsr 0x300 (putBits (x.csrOf 0x300) 14 13 3)

/-- Are the floating-point registers on? -/
def Thread.fpOn (x : Thread) : Bool := !decide (bits (x.csrOf 0x300) 14 13 = 0)

/-- misa: RV64 with A, C, D, F, I, M, S and U. -/
def misaWord : Nat := 2 ^ 63 + 0x14112D

/-- May a thread in its mode read the user counter at `n` (mcounteren, scounteren)? -/
def Thread.counterOn (x : Thread) (n : Nat) : Bool :=
  (decide (x.priv = 3) || bit (x.csrOf 0x306) (n % 32)) && (decide (1 ≤ x.priv) || bit (x.csrOf 0x106) (n % 32))

/-- Does a CSR exist for a thread in its mode? -/
def Thread.csrThere (x : Thread) (n : Nat) : Bool :=
  decide (bits n 9 8 ≤ x.priv) &&
  ((decide (1 ≤ n) && decide (n ≤ 3) && x.fpOn) ||
   (decide (0xC00 ≤ n) && decide (n ≤ 0xC1F) && x.counterOn n) ||
   [0x100, 0x104, 0x105, 0x106, 0x10A, 0x140, 0x141, 0x142, 0x143, 0x144].contains n ||
   (decide (n = 0x180) && (decide (x.priv = 3) || !bit (x.csrOf 0x300) 20)) ||
   [0x300, 0x301, 0x302, 0x303, 0x304, 0x305, 0x306, 0x30A, 0x320, 0x340, 0x341, 0x342, 0x343, 0x344, 0xB00, 0xB02,
    0xF11, 0xF12, 0xF13, 0xF14, 0xF15].contains n ||
   (decide (0x323 ≤ n) && decide (n ≤ 0x33F)) || (decide (0xB03 ≤ n) && decide (n ≤ 0xB1F)))

/-- A CSR as thread `t` reads it. Cluster clock cycles are not modelled: a read of the cycle counter gives a free value. -/
def State.csrRead (s : State) (t n : Nat) : Nat × State :=
  let x := s.thread t
  match n with
  | 0x001 => (x.csrOf 3 % 32, s)
  | 0x002 => (bits (x.csrOf 3) 7 5, s)
  | 0x003 => (x.csrOf 3, s)
  | 0x100 => (Nat.land x.mstatus (sstatusMask + 3 * 2 ^ 32 + 2 ^ 63), s)
  | 0x104 => (Nat.land (x.csrOf 0x304) (x.csrOf 0x303), s)
  | 0x144 => (Nat.land (x.csrOf 0x344) (x.csrOf 0x303), s)
  | 0x300 => (x.mstatus, s)
  | 0x301 => (misaWord, s)
  | 0xB00 => s.free 64
  | 0xC00 => s.free 64
  | 0xC01 => (s.now, s)
  | 0xC02 => (x.csrOf 0xB02, s)
  | 0xF11 => (Config.coreId 0 % 2 ^ 32, s)
  | 0xF12 => (Config.coreId 1 % 2 ^ 64, s)
  | 0xF13 => (Config.coreId 2 % 2 ^ 64, s)
  | 0xF14 => (t, s)
  | m => (if (0xC03 ≤ m ∧ m ≤ 0xC1F) ∨ (0xB03 ≤ m ∧ m ≤ 0xB1F) ∨ (0x320 ≤ m ∧ m ≤ 0x33F) then 0 else x.csrOf m, s)

/-- A CSR after a write, each field taking only the values it may hold. -/
def Thread.csrWrite (x : Thread) (n v : Nat) : Thread :=
  match n with
  | 0x001 => (x.setCsr 3 (putBits (x.csrOf 3) 4 0 v)).dirty
  | 0x002 => (x.setCsr 3 (putBits (x.csrOf 3) 7 5 v)).dirty
  | 0x003 => (x.setCsr 3 (v % 256)).dirty
  | 0x100 => x.setMstatus v sstatusMask
  | 0x300 => x.setMstatus v mstatusMask
  | 0x104 => x.setCsr 0x304 (blend (x.csrOf 0x304) v (x.csrOf 0x303))
  | 0x144 => x.setCsr 0x344 (blend (x.csrOf 0x344) v (Nat.land 2 (x.csrOf 0x303)))
  | 0x105 => x.setCsr 0x105 (putBits v 1 1 0)
  | 0x305 => x.setCsr 0x305 (putBits v 1 1 0)
  | 0x106 => x.setCsr 0x106 (v % 2 ^ 32)
  | 0x306 => x.setCsr 0x306 (v % 2 ^ 32)
  | 0x10A => x.setCsr 0x10A (v % 2)
  | 0x30A => x.setCsr 0x30A (v % 2)
  | 0x141 => x.setCsr 0x141 (v / 2 * 2)
  | 0x341 => x.setCsr 0x341 (v / 2 * 2)
  | 0x180 => if bits v 63 60 = 0 ∨ bits v 63 60 = 9 then x.setCsr 0x180 v else x
  | 0x302 => x.setCsr 0x302 (Nat.land v 0xB3FF)
  | 0x303 => x.setCsr 0x303 (Nat.land v 0x222)
  | 0x304 => x.setCsr 0x304 (Nat.land v 0xAAA)
  | 0x344 => x.setCsr 0x344 (Nat.land v 0x222)
  | m => if [0x140, 0x142, 0x143, 0x340, 0x342, 0x343, 0xB02].contains m then x.setCsr m v else x

/-- MRET: the mode and the interrupt enable that the trap saved return. -/
def Thread.mret (x : Thread) : Thread :=
  let ms := x.csrOf 0x300
  let mpp := bits ms 12 11
  let ms := putBits (putBits (putBits ms 3 3 (bits ms 7 7)) 7 7 1) 12 11 0
  let ms := if mpp = 3 then ms else putBits ms 17 17 0
  { x.setCsr 0x300 ms with priv := mpp, pc := x.csrOf 0x341 }

/-- SRET. -/
def Thread.sret (x : Thread) : Thread :=
  let ms := x.csrOf 0x300
  let spp := bits ms 8 8
  let ms := putBits (putBits (putBits (putBits ms 1 1 (bits ms 5 5)) 5 5 1) 8 8 0) 17 17 0
  { x.setCsr 0x300 ms with priv := spp, pc := x.csrOf 0x141 }

/-- The interrupt a thread takes next: pending in mip by a write of software, enabled, external before software before timer;
delegated ones go to S. Hardware sets none (R307). -/
def Thread.irq (x : Thread) : Option Nat :=
  let p := Nat.land (x.csrOf 0x344) (x.csrOf 0x304)
  let ms := x.csrOf 0x300
  let mOn := decide (x.priv < 3) || bit ms 3
  let sOn := decide (x.priv = 0) || (decide (x.priv = 1) && bit ms 1)
  [9, 1, 5].find? (fun i => bit p i && !bit (x.csrOf 0x303) i && mOn) <|>
    [9, 1, 5].find? (fun i => bit p i && bit (x.csrOf 0x303) i && sOn)

/-- Where an interrupt of a cause leads: the base, plus four times the cause in vectored mode. -/
def vectorOf (v cause : Nat) : Nat := trapBase v + (if v % 4 = 1 then 4 * cause else 0)

/-- A thread takes an interrupt. -/
def Thread.interrupt (x : Thread) (cause : Nat) : Thread :=
  let ms := x.csrOf 0x300
  if bit (x.csrOf 0x303) cause then
    let ms := putBits (putBits (putBits ms 5 5 (bits ms 1 1)) 1 1 0) 8 8 x.priv
    { ((((x.setCsr 0x141 x.pc).setCsr 0x142 (2 ^ 63 + cause)).setCsr 0x143 0).setCsr 0x300 ms) with
      priv := 1, pc := vectorOf (x.csrOf 0x105) cause }
  else
    let ms := putBits (putBits (putBits ms 7 7 (bits ms 3 3)) 3 3 0) 12 11 x.priv
    { ((((x.setCsr 0x341 x.pc).setCsr 0x342 (2 ^ 63 + cause)).setCsr 0x343 0).setCsr 0x300 ms) with
      priv := 3, pc := vectorOf (x.csrOf 0x305) cause }

end Sys2Proof.Machine
end

