-- ==== Sys2Proof/Machine/RvMem.lean ====
section
/-! DEFINITION. How a thread reaches memory: the physical address space, the fences, address translation, and the faults of its
loads, stores and fetches (R307–R309, R371, R377, R378, R471). -/

namespace Sys2Proof.Machine

/-- The parts of the physical address space (R308): an HBM address, a view of a scratchpad (cluster, view 0 plain, 1 bit-set,
2 bit-clear, offset), a register offset, a boot SRAM offset, or nothing. -/
inductive Place where
  | hbm (a : Nat)
  | pad (n view o : Nat)
  | reg (a : Nat)
  | boot (o : Nat)
  | none
deriving DecidableEq, Repr

/-- What lies at a physical address (R308, R371). -/
def placeOf (a : Nat) : Place :=
  if a < 0x1800000000 then .hbm a
  else if 0x2000000000 ≤ a ∧ a < 0x2000000000 + 24 * 0x1000000 then
    let o := a % 0x1000000
    if o < 0xC00000 ∧ o % 0x400000 < 0x200000 then .pad ((a - 0x2000000000) / 0x1000000) (o / 0x400000) (o % 0x400000) else .none
  else if 0x3000000000 ≤ a ∧ a < 0x3004000000 then .reg (a - 0x3000000000)
  else if 0x3100000000 ≤ a ∧ a < 0x3100100000 then .boot (a - 0x3100000000)
  else .none

/-- LAST_FAULT codes (R309): 0 for an access fault of another rule. -/
def whyFence : Nat := 1
/-- A poisoned word. -/
def whyPoison : Nat := 2
/-- A block under reset. -/
def whyReset : Nat := 3

/-- Is an access of thread `t` admitted at its target, with permission bits [0 read, 1 write, 2 fetch]? None, or why it faults, with
the refusal counted (R94, R100, R378, R471). -/
def State.rvAdmit (s : State) (t : Nat) (p : Place) (n perm : Nat) : Option Nat × State :=
  let m := thrMaster t
  match p with
  | .hbm a =>
    if !s.hbmReady then (some whyReset, s)
    else if s.fenceAdmits 1 (hbmWhere a).1 m a n perm then (none, s)
    else (some whyFence, s.denied (0x1000 + (hbmWhere a).1) m a perm)
  | .pad c _ o =>
    if s.inReset 10 c then (some whyReset, s.resetHit 10 c)
    else
      let s := if 2 ≤ s.domState (32 + c) then s.domWake (32 + c) else s
      if s.fenceAdmits 2 c m o n perm then (none, s) else (some whyFence, s.denied (0x2000 + c) m o perm)
  | .reg a =>
    if 0x1300000 ≤ a ∨ s.regAdmits m a n perm then (none, s)
    else (some whyFence, s.denied (0x3000 + a / 0x100000) m (a % 0x100000) perm)
  | .boot o =>
    if decide (t = 0) && (decide (perm = 0) || decide (0xD0000 ≤ o) || (decide (perm = 2) && decide (o < 0xC0000))) then (none, s)
    else (some whyFence, s)
  | .none => (some 0, s)

/-- The physical address whose bytes stand behind a place that is memory. -/
def Place.addr : Place → Nat
  | .hbm a => a
  | .pad c _ o => spAddr c o
  | .boot o => bootBase + o
  | _ => 0

/-- A physical read of a thread: the bytes, or why it faults (R309). -/
def State.rvRead (s : State) (t pa n perm : Nat) : Except Nat (List Byte) × State :=
  let p := placeOf pa
  match s.rvAdmit t p n perm with
  | (some why, s) => (.error why, s)
  | (none, s) =>
    match p with
    | .reg a =>
      (match s.regRead (thrMaster t) a n with
       | (some l, s) => (.ok l, s)
       | (none, s) => (.error whyReset, s))
    | _ =>
      (match s.memRead (thrMaster t) p.addr n with
       | (true, _, s) => (.error whyPoison, s)
       | (false, l, s) => (.ok l, s))

/-- The reservation of a thread kept through a store of its own (R372). -/
def State.keepResv (s : State) (t : Nat) (r : Option Nat) : State := s.setThread t { s.thread t with resv := r }

/-- A physical write of a thread: done, or why it faults. A scratchpad's alias views set or clear bits (R371, R372). -/
def State.rvWrite (s : State) (t pa : Nat) (l : List Byte) : Option Nat × State :=
  let p := placeOf pa
  match s.rvAdmit t p l.length 1 with
  | (some why, s) => (some why, s)
  | (none, s) =>
    match p with
    | .reg a =>
      (match s.regWrite (thrMaster t) a l with
       | (true, s) => (none, s)
       | (false, s) => (some whyReset, s))
    | _ =>
      let r := (s.thread t).resv
      let old := s.memGet p.addr l.length
      let v := match p with
        | .pad _ 1 _ => aliasWord old l true
        | .pad _ 2 _ => aliasWord old l false
        | _ => l
      let (ok, s) := s.memWrite (thrMaster t) p.addr v
      (if ok then none else some whyPoison, s.keepResv t r)

/-- A trap of a thread that is no access fault. -/
def State.rvTrap (s : State) (t cause tval : Nat) : State := s.setThread t ((s.thread t).trap cause tval)

/-- An access fault: one of R309's is recorded, counted and reported; one of another rule only traps. -/
def State.rvFault (s : State) (t cause tval why : Nat) : State :=
  if why = 0 then s.rvTrap t cause tval else s.accessFault t cause tval why

/-- The access-fault cause of an access: 0 load, 1 store, 2 fetch. -/
def accessCause (kind : Nat) : Nat :=
  match kind with
  | 0 => 5
  | 1 => 7
  | _ => 1

/-- The page-fault cause. -/
def pageCause (kind : Nat) : Nat :=
  match kind with
  | 0 => 13
  | 1 => 15
  | _ => 12

/-- Does a leaf entry of the page table grant an access? The modes, SUM and MXR count; A, and D for a store, must stand (R307). -/
def pteGrants (pte kind priv ms : Nat) : Bool :=
  (match kind with
   | 0 => bit pte 1 || (bit ms 19 && bit pte 3)
   | 1 => bit pte 2
   | _ => bit pte 3) &&
  (if bit pte 4 then decide (priv = 0) || (bit ms 18 && !decide (kind = 2)) else decide (priv = 1)) &&
  bit pte 6 && (bit pte 7 || !decide (kind = 1))

/-- One walk of an Sv48 table from level `n − 1`: the physical address, or a page fault (none) or an access fault's code. -/
def rvWalk (t va kind priv ms : Nat) : Nat → Nat → State → Except (Option Nat) Nat × State
  | 0, _, s => (.error none, s)
  | n + 1, base, s =>
    match s.rvRead t (base + bits va (20 + 9 * n) (12 + 9 * n) * 8) 8 0 with
    | (.error why, s) => (.error (some why), s)
    | (.ok l, s) =>
      let pte := leNat l
      let ppn := bits pte 53 10
      if !bit pte 0 || (bit pte 2 && !bit pte 1) || decide (2 ^ 54 ≤ pte) then (.error none, s)
      else if !bit pte 1 && !bit pte 3 then rvWalk t va kind priv ms n (ppn * 4096) s
      else if !pteGrants pte kind priv ms || !decide (ppn % 2 ^ (9 * n) = 0) then (.error none, s)
      else (.ok (ppn * 4096 + va % 2 ^ (12 + 9 * n)), s)

/-- The mode whose rights an access has: MPRV lends a load or store the mode in MPP. -/
def Thread.effPriv (x : Thread) (kind : Nat) : Nat :=
  if kind ≠ 2 ∧ bit (x.csrOf 0x300) 17 = true then bits (x.csrOf 0x300) 12 11 else x.priv

/-- A virtual address translated for an access of a kind; none where the thread has taken a fault (R307, R308). -/
def State.rvAddr (s : State) (t va kind : Nat) : Option Nat × State :=
  let x := s.thread t
  let priv := x.effPriv kind
  let satp := x.csrOf 0x180
  if priv = 3 ∨ bits satp 63 60 = 0 then (some va, s)
  else if !decide (va = sextW 48 va) then (none, s.rvTrap t (pageCause kind) va)
  else match rvWalk t va kind priv (x.csrOf 0x300) 4 (bits satp 43 0 * 4096) s with
    | (.ok a, s) => (some a, s)
    | (.error none, s) => (none, s.rvTrap t (pageCause kind) va)
    | (.error (some why), s) => (none, s.rvFault t (accessCause kind) va why)

/-- Alignment (R307, R371): 0 good, 1 an address-misaligned exception, 2 an access fault. -/
def misaligned (p : Place) (va n kind : Nat) : Nat :=
  let odd := !decide (va % n = 0)
  match p with
  | .hbm a => if odd && decide (64 < a % 64 + n) then 1 else 0
  | .boot o => if odd && decide (64 < o % 64 + n) then 1 else 0
  | .pad _ view _ => if odd || (decide (0 < view) && decide (kind = 1) && decide (n < 4)) then 2 else 0
  | .reg _ => if odd then 2 else 0
  | .none => 2

/-- A load of `n` bytes; none where the thread has taken a fault. -/
def State.rvLoad (s : State) (t va n : Nat) : Option (List Byte) × State :=
  match s.rvAddr t va 0 with
  | (none, s) => (none, s)
  | (some pa, s) =>
    match misaligned (placeOf pa) va n 0 with
    | 1 => (none, s.rvTrap t 4 va)
    | 2 => (none, s.rvFault t 5 va 0)
    | _ =>
      match s.rvRead t pa n 0 with
      | (.error why, s) => (none, s.rvFault t 5 va why)
      | (.ok l, s) => (some l, s)

/-- A refused store's fault waits for the thread's next fence or extension instruction (R309). -/
def State.defer (s : State) (t va why : Nat) : State :=
  let x := s.thread t
  s.setThread t { x with fault := x.fault ++ [(va, why)] }

/-- A store, its instruction ending as `fin` says before the store acts. What lies outside the address space and the direct view of the
colophon fault at once (R308, R377); a refused store is deferred (R309). -/
def State.rvStore (s : State) (t va : Nat) (l : List Byte) (fin : State → State) : State :=
  match s.rvAddr t va 1 with
  | (none, s) => s
  | (some pa, s) =>
    match misaligned (placeOf pa) va l.length 1 with
    | 1 => s.rvTrap t 6 va
    | 2 => s.rvFault t 7 va 0
    | _ =>
      if coloDirect ≤ pa ∧ isHbm pa then s.rvFault t 7 va 0
      else match (fin s).rvWrite t pa l with
        | (some why, s) => s.defer t va why
        | (none, s) => s

/-- The place of an LR, SC or AMO, aligned and in HBM or a scratchpad's plain view; none where the thread has taken a fault (R307). -/
def State.rvAtomic (s : State) (t va n kind : Nat) : Option Nat × State :=
  match s.rvAddr t va kind with
  | (none, s) => (none, s)
  | (some pa, s) =>
    let p := placeOf pa
    let fit := match p with
      | .hbm a => decide (kind = 0) || decide (a < coloDirect)
      | .pad _ view _ => decide (view = 0)
      | _ => false
    if decide (va % n = 0) then (if fit then (some pa, s) else (none, s.rvFault t (accessCause kind) va 0))
    else match p with
      | .hbm _ => (none, s.rvTrap t (if kind = 0 then 4 else 6) va)
      | _ => (none, s.rvFault t (accessCause kind) va 0)

/-- A parcel of an instruction fetched; none where the thread has taken a fault. -/
def State.rvParcel (s : State) (t va : Nat) : Option Nat × State :=
  match s.rvAddr t va 2 with
  | (none, s) => (none, s)
  | (some pa, s) =>
    match s.rvRead t pa 2 2 with
    | (.error why, s) => (none, s.rvFault t 1 va why)
    | (.ok l, s) => (some (leNat l), s)

end Sys2Proof.Machine
end

