-- ==== Sys2Proof/Machine/Rv.lean ====
section
/-! DEFINITION. One instruction of a thread: BASE_INSTRUCTION (R307–R313; the RISC-V specifications are PRESUMED, log entry 27). -/

namespace Sys2Proof.Machine

/-- A thread's registers after an instruction that ends: the pc written and the instruction counted. -/
def State.rvEnd (s : State) (t : Nat) (x : Thread) (pc : Nat) : State := s.setThread t { x.retired with pc := pc % 2 ^ 64 }

/-- An illegal instruction; mtval holds its bits. -/
def State.rvIllegal (s : State) (t raw : Nat) : State := s.rvTrap t 2 raw

/-- A floating-point register. -/
def Thread.getF (x : Thread) (r : Nat) : Nat := mgetD x.f r 0

/-- A floating-point register written. -/
def Thread.setF (x : Thread) (r v : Nat) : Thread := { x.dirty with f := mputD x.f r (v % 2 ^ 64) 0 }

/-- Exception flags accrued. -/
def Thread.flags (x : Thread) (fl : Nat) : Thread := if fl = 0 then x else (x.setCsr 3 (Nat.lor (x.csrOf 3) fl)).dirty

/-- One instruction as it executes: its 32-bit word, the bits fetched, and its length in bytes. -/
structure Ins where
  w   : Nat
  raw : Nat
  len : Nat
deriving DecidableEq, Repr

/-- rd. -/
def Ins.rd (i : Ins) : Nat := bits i.w 11 7
/-- funct3. -/
def Ins.f3 (i : Ins) : Nat := bits i.w 14 12
/-- rs1. -/
def Ins.rs1 (i : Ins) : Nat := bits i.w 19 15
/-- rs2. -/
def Ins.rs2 (i : Ins) : Nat := bits i.w 24 20
/-- funct7. -/
def Ins.f7 (i : Ins) : Nat := bits i.w 31 25

/-- An instruction that writes rd and goes on. -/
def State.rvPut (s : State) (t : Nat) (i : Ins) (v : Nat) : State :=
  let x := s.thread t
  s.rvEnd t (x.setX i.rd v) (x.pc + i.len)

/-- The same where the code may name no instruction. -/
def State.rvTry (s : State) (t : Nat) (i : Ins) (v : Option Nat) : State :=
  match v with
  | some v => s.rvPut t i v
  | none => s.rvIllegal t i.raw

/-- A jump that writes the return address. -/
def State.rvJump (s : State) (t : Nat) (i : Ins) (target : Nat) : State :=
  let x := s.thread t
  s.rvEnd t (x.setX i.rd (x.pc + i.len)) (target / 2 * 2)

/-- Branches. -/
def State.rvBranch (s : State) (t : Nat) (i : Ins) : State :=
  let x := s.thread t
  match branchTaken i.f3 (x.getX i.rs1) (x.getX i.rs2) with
  | none => s.rvIllegal t i.raw
  | some b => s.rvEnd t x (if b then x.pc + immB i.w else x.pc + i.len)

/-- Integer loads. -/
def State.rvLoadX (s : State) (t : Nat) (i : Ins) : State :=
  if i.f3 = 7 then s.rvIllegal t i.raw
  else
    let n := 2 ^ (i.f3 % 4)
    match s.rvLoad t (((s.thread t).getX i.rs1 + immI i.w) % 2 ^ 64) n with
    | (none, s) => s
    | (some l, s) => s.rvPut t i (if i.f3 < 4 then sextW (8 * n) (leNat l) else leNat l)

/-- A plain store of the low bytes of a value. -/
def State.rvStoreV (s : State) (t : Nat) (i : Ins) (n v : Nat) : State :=
  let x := s.thread t
  s.rvStore t ((x.getX i.rs1 + immS i.w) % 2 ^ 64) (leBytes n v) (fun s => s.rvEnd t (s.thread t) (x.pc + i.len))

/-- LR, SC and the AMOs (R307, R372). -/
def State.rvAmo (s : State) (t : Nat) (i : Ins) : State :=
  let x := s.thread t
  let f5 := bits i.w 31 27
  let n := 2 ^ i.f3
  let va := x.getX i.rs1
  if i.f3 ≠ 2 ∧ i.f3 ≠ 3 then s.rvIllegal t i.raw
  else if f5 = 2 then
    if i.rs2 ≠ 0 then s.rvIllegal t i.raw
    else match s.rvAtomic t va n 0 with
      | (none, s) => s
      | (some pa, s) =>
        match s.rvRead t pa n 0 with
        | (.error why, s) => s.rvFault t 5 va why
        | (.ok l, s) => (s.keepResv t (some ((placeOf pa).addr / 64))).rvPut t i (sextW (8 * n) (leNat l))
  else if f5 = 3 then
    match s.rvAtomic t va n 1 with
    | (none, s) => s
    | (some pa, s) =>
      if (s.thread t).resv = some ((placeOf pa).addr / 64) then
        match s.rvWrite t pa (leBytes n (x.getX i.rs2)) with
        | (some why, s) => (s.keepResv t none).rvFault t 7 va why
        | (none, s) => (s.keepResv t none).rvPut t i 0
      else (s.keepResv t none).rvPut t i 1
  else match amoValue f5 n 0 0 with
    | none => s.rvIllegal t i.raw
    | some _ =>
      match s.rvAtomic t va n 1 with
      | (none, s) => s
      | (some pa, s) =>
        match s.rvRead t pa n 0 with
        | (.error why, s) => s.rvFault t 7 va why
        | (.ok l, s) =>
          match s.rvWrite t pa (leBytes n ((amoValue f5 n (leNat l) (x.getX i.rs2)).getD 0)) with
          | (some why, s) => s.rvFault t 7 va why
          | (none, s) => s.rvPut t i (sextW (8 * n) (leNat l))

/-- Zicsr. The CSR is read unless CSRRW discards what it read, and written unless CSRRS or CSRRC name no bits. -/
def State.rvCsr (s : State) (t : Nat) (i : Ins) : State :=
  let x := s.thread t
  let n := bits i.w 31 20
  let op := i.f3 % 4
  let v := if 4 ≤ i.f3 then i.rs1 else x.getX i.rs1
  let writes := decide (op = 1) || !decide (i.rs1 = 0)
  if !x.csrThere n || (writes && decide (bits n 11 10 = 3)) then s.rvIllegal t i.raw
  else
    let (old, s) := if op = 1 ∧ i.rd = 0 then (0, s) else s.csrRead t n
    let new := match op with
      | 1 => v
      | 2 => Nat.lor old v
      | _ => Nat.land old (not64 v)
    let s := s.rvPut t i old
    if writes then s.setThread t ((s.thread t).csrWrite n (new % 2 ^ 64)) else s

/-- ECALL, EBREAK, the returns, WFI and SFENCE.VMA. Every access walks the tables as they stand, so SFENCE.VMA has nothing to drop. -/
def State.rvSystem (s : State) (t : Nat) (i : Ins) : State :=
  let x := s.thread t
  let ms := x.csrOf 0x300
  if i.rd ≠ 0 then s.rvIllegal t i.raw
  else if i.f7 = 0x09 then
    if x.priv = 0 ∨ (x.priv = 1 ∧ bit ms 20 = true) then s.rvIllegal t i.raw
    else match s.deferred t with
      | (true, s) => s
      | (false, s) => s.rvEnd t (s.thread t) (x.pc + i.len)
  else if i.rs1 ≠ 0 then s.rvIllegal t i.raw
  else match bits i.w 31 20 with
    | 0x000 => s.rvTrap t (8 + x.priv) 0
    | 0x001 => s.rvTrap t 3 x.pc
    | 0x102 =>
      if x.priv = 0 ∨ (x.priv = 1 ∧ bit ms 22 = true) then s.rvIllegal t i.raw
      else let y := x.sret; s.rvEnd t y y.pc
    | 0x302 => if x.priv = 3 then (let y := x.mret; s.rvEnd t y y.pc) else s.rvIllegal t i.raw
    | 0x105 => s.rvEnd t x (x.pc + i.len)
    | _ => s.rvIllegal t i.raw

/-- FENCE and FENCE.I: a refused store's fault is raised there (R309); accesses already take effect in order. -/
def State.rvFence (s : State) (t : Nat) (i : Ins) : State :=
  if 2 ≤ i.f3 then s.rvIllegal t i.raw
  else match s.deferred t with
    | (true, s) => s
    | (false, s) => s.rvEnd t (s.thread t) ((s.thread t).pc + i.len)

/-! ## Floating point -/

/-- The rounding mode of an instruction; none where it is reserved. -/
def Thread.rm (x : Thread) (r : Nat) : Option Nat :=
  let m := if r = 7 then bits (x.csrOf 3) 7 5 else r
  if m ≤ 4 then some m else none

/-- The format of a code. -/
def fmtOf (c : Nat) : Option Fmt :=
  match c with
  | 0 => some fmtS
  | 1 => some fmtD
  | _ => none

/-- A result written to a floating-point register, its flags accrued. -/
def State.rvPutF (s : State) (t : Nat) (i : Ins) (f : Fmt) (r : Nat × Nat) : State :=
  let x := s.thread t
  s.rvEnd t ((x.setF i.rd (f.box r.1)).flags r.2) (x.pc + i.len)

/-- A result written to an integer register, its flags accrued. -/
def State.rvPutXF (s : State) (t : Nat) (i : Ins) (r : Nat × Nat) : State :=
  let x := s.thread t
  s.rvEnd t ((x.setX i.rd r.1).flags r.2) (x.pc + i.len)

/-- Floating-point loads. -/
def State.rvLoadF (s : State) (t : Nat) (i : Ins) : State :=
  if !(s.thread t).fpOn || (!decide (i.f3 = 2) && !decide (i.f3 = 3)) then s.rvIllegal t i.raw
  else match s.rvLoad t (((s.thread t).getX i.rs1 + immI i.w) % 2 ^ 64) (2 ^ i.f3) with
    | (none, s) => s
    | (some l, s) => s.rvPutF t i (if i.f3 = 2 then fmtS else fmtD) (leNat l, 0)

/-- Floating-point stores. -/
def State.rvStoreF (s : State) (t : Nat) (i : Ins) : State :=
  if !(s.thread t).fpOn || (!decide (i.f3 = 2) && !decide (i.f3 = 3)) then s.rvIllegal t i.raw
  else s.rvStoreV t i (2 ^ i.f3) ((s.thread t).getF i.rs2)

/-- FMADD 0, FMSUB 1, FNMSUB 2, FNMADD 3. -/
def State.rvFma (s : State) (t : Nat) (i : Ins) (op : Nat) : State :=
  let x := s.thread t
  match fmtOf (bits i.w 26 25), x.rm i.f3 with
  | some f, some rm =>
    if !x.fpOn then s.rvIllegal t i.raw
    else
      let v := fun r => f.unpack (f.ofReg (x.getF r))
      let a := v i.rs1
      let c := v (bits i.w 31 27)
      s.rvPutF t i f (f.fma rm (if 2 ≤ op then a.neg else a) (v i.rs2) (if op = 1 ∨ op = 3 then c.neg else c))
  | _, _ => s.rvIllegal t i.raw

/-- FSGNJ 0, FSGNJN 1, FSGNJX 2. -/
def Fmt.signs (f : Fmt) (op a b : Nat) : Nat :=
  let h := 2 ^ (f.width - 1)
  let sg := match op with
    | 0 => b / h % 2
    | 1 => 1 - b / h % 2
    | _ => (a / h + b / h) % 2
  a % h + sg * h

/-- An integer result of `w` bits in a register: 32-bit results are sign-extended. -/
def intResult (w : Nat) (r : Nat × Nat) : Nat × Nat := (if w = 32 then sext32 r.1 else r.1, r.2)

/-- OP-FP. -/
def State.rvFloat (s : State) (t : Nat) (i : Ins) : State :=
  let x := s.thread t
  let no := s.rvIllegal t i.raw
  match fmtOf (bits i.w 26 25) with
  | none => no
  | some f =>
    if !x.fpOn then no
    else
      let a := f.ofReg (x.getF i.rs1)
      let b := f.ofReg (x.getF i.rs2)
      let va := f.unpack a
      let vb := f.unpack b
      let iw := if i.rs2 < 2 then 32 else 64
      let signed := decide (i.rs2 % 2 = 0)
      let ix := x.getX i.rs1
      let rounded := fun (g : Nat → State) => match x.rm i.f3 with
        | some rm => g rm
        | none => no
      match bits i.w 31 27 with
      | 0x00 => rounded (fun rm => s.rvPutF t i f (f.add rm va vb))
      | 0x01 => rounded (fun rm => s.rvPutF t i f (f.add rm va vb.neg))
      | 0x02 => rounded (fun rm => s.rvPutF t i f (f.mul rm va vb))
      | 0x03 => rounded (fun rm => s.rvPutF t i f (f.div rm va vb))
      | 0x0B => if i.rs2 = 0 then rounded (fun rm => s.rvPutF t i f (f.sqrt rm va)) else no
      | 0x04 => if i.f3 < 3 then s.rvPutF t i f (f.signs i.f3 a b, 0) else no
      | 0x05 => if i.f3 < 2 then s.rvPutF t i f (f.minMax (decide (i.f3 = 1)) a b) else no
      | 0x08 =>
        (match fmtOf i.rs2 with
         | some g =>
           if g = f then no
           else rounded (fun rm => s.rvPutF t i f (f.convert rm (g.unpack (g.ofReg (x.getF i.rs1)))))
         | none => no)
      | 0x14 => if i.f3 < 3 then s.rvPutXF t i (fcompare i.f3 va vb) else no
      | 0x18 => if i.rs2 < 4 then rounded (fun rm => s.rvPutXF t i (intResult iw (va.toInt rm iw signed))) else no
      | 0x1A =>
        if i.rs2 < 4 then
          rounded (fun rm => s.rvPutF t i f (f.ofInt rm (if signed then toSigned iw (ix % 2 ^ iw) else ((ix % 2 ^ iw : Nat) : Int))))
        else no
      | 0x1C =>
        if i.rs2 ≠ 0 ∨ 1 < i.f3 then no
        else if i.f3 = 1 then s.rvPutXF t i (f.classify a, 0)
        else s.rvPutXF t i (if f.p = 24 then sext32 (x.getF i.rs1) else x.getF i.rs1, 0)
      | 0x1E => if i.rs2 = 0 ∧ i.f3 = 0 then s.rvPutF t i f (ix % 2 ^ f.width, 0) else no
      | _ => no

/-! ## The thread extension (R313) -/

/-- An instruction of custom-0. -/
def State.rvExt (s : State) (t : Nat) (i : Ins) : State :=
  let tmo := fun (s : State) => (s.thread t).getX i.rs2
  match i.f3, i.f7 with
  | 0, 0 => s.ext t (·.opChput t i.rd i.rs1 i.rs2)
  | 0, 1 => s.ext t (·.opCommit t i.rd i.rs1 i.rs2 true)
  | 0, 3 => s.ext t (·.opCommit t i.rd i.rs1 i.rs2 false)
  | 1, 0 => s.ext t (fun s => s.opRead t i.rd i.rs1 (tmo s) false true)
  | 1, 1 => s.ext t (·.opRead t i.rd i.rs1 0 false false)
  | 1, 2 => s.ext t (fun s => s.opRead t i.rd i.rs1 (tmo s) true true)
  | 1, 3 => s.ext t (·.opRead t i.rd i.rs1 0 true false)
  | 1, 4 => s.ext t (·.opSkip t i.rd i.rs1)
  | 2, 0 => s.ext t (fun s => s.opPwait t i.rd i.rs1 (tmo s) true)
  | 2, 1 => s.ext t (·.opPwait t i.rd i.rs1 0 false)
  | 3, 0 => s.ext t (·.opPset t i.rd i.rs1 i.rs2)
  | 4, 0 => s.ext t (·.opTstart t i.rd i.rs1 i.rs2)
  | 5, 0 => s.ext t (·.opTrelease t i.rd i.rs1)
  | 5, 1 => s.ext t (·.opTexit t i.rd)
  | 6, 0 => s.ext t (·.opTgroup t i.rd)
  | 7, 0 => s.ext t (·.opTinfo t i.rd)
  | _, _ => s.rvIllegal t i.raw

/-! ## One instruction -/

/-- An instruction executed, by its major opcode. -/
def State.rvExec (s : State) (t : Nat) (i : Ins) : State :=
  let x := s.thread t
  let a := x.getX i.rs1
  let b := x.getX i.rs2
  match i.w % 128 with
  | 0x03 => s.rvLoadX t i
  | 0x07 => s.rvLoadF t i
  | 0x0B => s.rvExt t i
  | 0x0F => s.rvFence t i
  | 0x13 => s.rvTry t i (aluI i.f3 (bits i.w 31 20) a)
  | 0x17 => s.rvPut t i (x.pc + immU i.w)
  | 0x1B => s.rvTry t i (aluIW i.f3 (bits i.w 31 20) a)
  | 0x23 => if i.f3 < 4 then s.rvStoreV t i (2 ^ i.f3) b else s.rvIllegal t i.raw
  | 0x27 => s.rvStoreF t i
  | 0x2F => s.rvAmo t i
  | 0x33 => s.rvTry t i (aluR i.f7 i.f3 a b)
  | 0x37 => s.rvPut t i (immU i.w)
  | 0x3B => s.rvTry t i (aluRW i.f7 i.f3 i.rs2 a b)
  | 0x43 => s.rvFma t i 0
  | 0x47 => s.rvFma t i 1
  | 0x4B => s.rvFma t i 2
  | 0x4F => s.rvFma t i 3
  | 0x53 => s.rvFloat t i
  | 0x63 => s.rvBranch t i
  | 0x67 => if i.f3 = 0 then s.rvJump t i ((a + immI i.w) % 2 ^ 64) else s.rvIllegal t i.raw
  | 0x6F => s.rvJump t i ((x.pc + immJ i.w) % 2 ^ 64)
  | 0x73 =>
    if i.f3 = 0 then s.rvSystem t i else if i.f3 = 4 then s.rvIllegal t i.raw else s.rvCsr t i
  | _ => s.rvIllegal t i.raw

/-- A thread fetches and executes one instruction, or takes an interrupt that software has set. An odd pc is a misaligned
instruction address. -/
def State.rvStep (s : State) (t : Nat) : State :=
  let x := s.thread t
  match x.irq with
  | some c => s.setThread t (x.interrupt c)
  | none =>
    if x.pc % 2 = 1 then s.rvTrap t 0 x.pc
    else match s.rvParcel t x.pc with
      | (none, s) => s
      | (some h, s) =>
        if h % 4 ≠ 3 then
          match expandC h with
          | none => s.rvIllegal t h
          | some w => s.rvExec t ⟨w, h, 2⟩
        else match s.rvParcel t ((x.pc + 2) % 2 ^ 64) with
          | (none, s) => s
          | (some g, s) => s.rvExec t ⟨h + g * 2 ^ 16, h + g * 2 ^ 16, 4⟩

/-- May a thread issue: RUNNING, its cluster's domain in RUN or IDLE, and no recovery agent in its place (R304, R414, R481)? -/
def State.rvIssues (s : State) (t : Nat) : Bool :=
  decide (t < 1536) && decide (s.thState t = 1) && decide (s.domState (32 + t / 64) < 2) &&
  !(decide (t = 0) && decide (s.get Reg.BOOT_STATUS_MODE = 2))

/-- A debugger's step asked for in this command: the halted thread executes one instruction and is HALTED again (R504). A thread that was
blocked re-enters its wait. -/
def State.stepped (s : State) : State :=
  match s.err.stepReq with
  | none => s
  | some t =>
    let s := { s with err := { s.err with stepReq := none } }
    if s.thState t = 3 then
      if (s.thread t).was = 2 then
        let s := s.setThState t 2
        let s := if s.get (Reg.CORE_THREAD_STATUS_BLOCK_KIND t) = 1 then s.wake (ownEp t (s.get (Reg.CORE_THREAD_STATUS_BLOCK_INDEX t)))
          else if s.get (Reg.CORE_THREAD_STATUS_BLOCK_KIND t) = 2 then
            s.portSet (t / 64) (s.get (Reg.CORE_THREAD_STATUS_BLOCK_INDEX t)) 0
          else s
        (s.setThread t { s.thread t with was := s.thState t }).setThState t 3
      else if s.running then
        let s := (s.setThState t 1).rvStep t
        let st := s.thState t
        if st = 1 ∨ st = 2 then (s.setThread t { s.thread t with was := st }).setThState t 3 else s
      else s
    else s

/-- BASE_INSTRUCTION: thread `t` executes its next instruction. -/
def State.opBase (s : State) (t : Nat) : State := if s.rvIssues t then (s.rvStep t).stepped else s

def execBaseInstruction (t : Nat) (s : State) : Host.Outcome State Fault Refusal := s.run (s.opBase t)

def execDbgThreadStep (lam : Bool) (s : State) : Host.Outcome State Fault Refusal := s.dbgWrite lam ((s.dbgThread dbgStep).stepped)

end Sys2Proof.Machine
end

