-- ==== Sys2Proof/Machine/Paths.lean ====
section
/-! DEFINITION. Commands that carry an access in from outside: a register write, the management port, Lamisk, and the remote accesses
of a cascade stack (R406, R407, R502, R513, R529). -/

namespace Sys2Proof.Machine

def execRegisterWrite (m a : Nat) (data : List Byte) (s : State) : Host.Outcome State Fault Refusal := s.path (s.regStore m a data).stepped

def execMgmtRegisterRead (frame : List Byte) (s : State) : Host.Outcome State Fault Refusal := s.path (s.mgrAccess 1 frame)
def execMgmtRegisterWrite (frame : List Byte) (s : State) : Host.Outcome State Fault Refusal := s.path (s.mgrAccess 2 frame).stepped
def execMgmtMemoryRead (frame : List Byte) (s : State) : Host.Outcome State Fault Refusal := s.path (s.mgrAccess 3 frame)
def execMgmtMemoryWrite (frame : List Byte) (s : State) : Host.Outcome State Fault Refusal := s.path (s.mgrAccess 4 frame)

/-! ## Lamisk (R502) -/

/-- May a request reach this register before the unlock? -/
def lamiskOpen (a : Nat) : Bool :=
  decide (a = Reg.DBG_STATUS) || decide (a = Reg.DBG_TOKEN_CTRL) ||
  (match rowAt a with
   | some r => decide (r.base = Reg.DBG_CHALLENGE 0) || decide (r.base = Reg.DBG_TOKEN_DATA 0)
   | none => false)

/-- Is a request reachable: all of its registers before the unlock, anything while unlocked? -/
def State.lamiskReaches (s : State) (op a n : Nat) : Bool :=
  s.on Reg.DBG_STATUS_UNLOCKED ||
  (decide (op ≤ 2) && decide (n ≤ 1024) && (List.range ((a % 4 + n + 3) / 4)).all (fun i => lamiskOpen (a / 4 * 4 + 4 * i)))

/-- The session a request belongs to: opened by it where none is open; refused where the other transport holds it. -/
def State.lamiskSession (s : State) (tr : Nat) : Bool × State :=
  if s.on Reg.DBG_STATUS_SESSION then (decide (s.get Reg.DBG_STATUS_TRANSPORT = tr), s)
  else (true, ((s.set Reg.DBG_STATUS_SESSION 1).set Reg.DBG_STATUS_TRANSPORT tr).raise EV_dbg_session 0xFFFF [0, tr])

/-- A request carried out, and the reply. -/
def State.lamiskAnswer (s : State) (tr : Nat) (req : List Byte) : List Byte × State :=
  let op := beAt req 4 1
  let a := beAt req 8 8
  let n := beAt req 16 2
  let reply := fun (st : Nat) (data : List Byte) => slice req 0 4 ++ beBytes 1 (op + 0x80) ++ beBytes 1 st ++ slice req 6 12 ++ data
  match s.lamiskSession tr with
  | (false, s) => (reply ST_FENCE_DENIED [], s)
  | (true, s) =>
    if !s.lamiskReaches op a n then (reply ST_FENCE_DENIED [], s)
    else
      let (st, data, s) := s.access 0x4000 op a n (req.drop 18)
      (reply st data, s)

/-- A Lamisk request of an operation: transport 0 JTAG, its bytes alone; 1 the management port, a whole frame. -/
def State.lamisk (s : State) (tr want : Nat) (req : List Byte) : State :=
  if tr = 0 then
    if beAt req 4 1 ≠ want then s
    else
      let (r, s) := s.lamiskAnswer 0 req
      s.emit (.reply 3 0 0 r)
  else if !s.glb.mgmtUp then s
  else match s.mgmtBody req with
    | none => s
    | some b =>
      if beAt b 0 4 ≠ 0x534B4C4D ∨ beAt b 4 1 ≠ want then s
      else
        let (r, s) := s.lamiskAnswer 1 b
        s.emit (.mgmt (s.mgmtFrame (frameSource req) r))

def execLamiskRegisterRead (tr : Nat) (req : List Byte) (s : State) : Host.Outcome State Fault Refusal := s.path (s.lamisk tr 1 req)
def execLamiskRegisterWrite (tr : Nat) (req : List Byte) (s : State) : Host.Outcome State Fault Refusal := s.path (s.lamisk tr 2 req).stepped
def execLamiskMemoryRead (tr : Nat) (req : List Byte) (s : State) : Host.Outcome State Fault Refusal := s.path (s.lamisk tr 3 req)
def execLamiskMemoryWrite (tr : Nat) (req : List Byte) (s : State) : Host.Outcome State Fault Refusal := s.path (s.lamisk tr 4 req)

/-! ## Remote accesses that a tail receives (R406, R407) -/

/-- Does the tail carry out a request that came on link `l`? -/
def State.remoteAdmits (s : State) (l : Nat) (f : List Byte) : Bool :=
  s.on Reg.CAS_STACK_CFG_STACK_MGR && decide (s.get Reg.CAS_STACK_STATUS_ROLE = 2) && decide (beAt f 10 2 = s.devId) &&
  decide (beAt f 8 2 = s.get Reg.CAS_STACK_STATUS_HEAD_ID) && decide (s.get (Reg.CAS_LINK_STATUS_PEER_ID l) = beAt f 8 2)

/-- The access of a request, as the manager: STATUS, the data of a read, and the state. -/
def State.remoteAccess (s : State) (f : List Byte) : Nat × Nat × State :=
  let n := if bit (beAt f 5 1) 0 then 8 else 4
  let a := beAt f 16 8 % 2 ^ 40
  let write := decide (beAt f 4 1 = 2)
  let data := leBytes n (beAt f (32 - n) n)
  if bit (beAt f 5 1) 1 then
    if 0x1800000000 < a + n then (ST_FENCE_DENIED, 0, s)
    else if !s.hbmReady then (ST_TARGET_RESET, 0, s)
    else if write then
      let (ok, s) := s.memWrite 0 a data
      (if ok then 0 else ST_FENCE_DENIED, 0, s)
    else
      match s.memRead 0 a n with
      | (true, _, s) => (ST_FENCE_DENIED, 0, s)
      | (false, d, s) => (0, leNat d, s)
  else if 0x4000000 < a + n then (ST_FENCE_DENIED, 0, s)
  else if write then
    match s.regWrite 0 a data with
    | (true, s) => (0, 0, s)
    | (false, s) => (ST_TARGET_RESET, 0, s)
  else
    match s.regRead 0 a n with
    | (some d, s) => (0, leNat d, s)
    | (none, s) => (ST_TARGET_RESET, 0, s)

/-- A request answered once, carried out or refused. -/
def State.remoteServe (s : State) (l op : Nat) (f : List Byte) : State :=
  s.flitIn l 3 f (fun s =>
    if beAt f 4 1 ≠ op then s
    else
      let (st, d, s) := if s.remoteAdmits l f then s.remoteAccess f else (ST_FENCE_DENIED, 0, s.bump Reg.n_remote_refused)
      let b := beBytes 1 3 ++ slice f 5 3 ++ beBytes 2 s.devId ++ slice f 8 2 ++ [0, 0, 0, 0] ++ slice f 16 8 ++ beBytes 8 d ++ beBytes 1 st
      s.casSend l 3 b 0)

def execRemoteReadRequest (l : Nat) (flit : List Byte) (s : State) : Host.Outcome State Fault Refusal := s.run (s.remoteServe l 1 flit)
def execRemoteWriteRequest (l : Nat) (flit : List Byte) (s : State) : Host.Outcome State Fault Refusal :=
  s.run (s.remoteServe l 2 flit).stepped

end Sys2Proof.Machine
end

