-- ==== Sys2Proof/Machine/Virtio.lean ====
section
/-! DEFINITION. virtio-net drawers: device status, virtqueues, and the offloads of transmitted frames (R93, R146; PRESUMED, log entry 25). -/

namespace Sys2Proof.Machine

/-- device_status written to 0: a host-triggered drawer reset. -/
def State.vioReset (s : State) (d : Nat) : State := if s.isVirtio d then s.hostReset d 4 else s

def execVirtioDeviceStatusReset (d : Nat) (s : State) : Host.Outcome State Fault Refusal := s.run (s.vioReset d)

/-- Queue pairs of a drawer: up to 64, and a ring beside them for the control virtqueue. -/
def State.vioPairs (s : State) (d : Nat) : Nat := min 64 (s.queuesAllowed d 1 / 2)

/-- Number of the control virtqueue: behind the last pair, where MQ was negotiated, else behind the first. -/
def State.vioCtl (s : State) (d : Nat) : Nat := if bit (s.person d).feat 22 then 2 * s.vioPairs d else 2

/-- queue_enable written 1: the virtqueue's rings are there (R93). -/
def State.vioEnable (s : State) (d y : Nat) : State :=
  let p := s.person d
  match mget p.vqs y with
  | none => s
  | some v =>
    if s.isVirtio d && decide (s.drState d = 3) && decide (y ≤ 2 * s.vioPairs d) && decide (0 < v.size) && !v.on then
      let s := s.setRing (cqKey d y) (Ring.stdQueue .cpl v.dev 0 (v.size + 1) (stdVec v.vec) (s.drGen d))
      let s := s.setRing (sqKey d y) (Ring.stdQueue .sub v.desc (cqKey d y) (v.size + 1) none (s.drGen d))
      s.setPerson d { p with vqs := mput p.vqs y { v with on := true } }
    else s

/-! ## Offloads of a transmitted frame -/

/-- Ones'-complement sum of 16-bit big-endian words. -/
def sum16 : List Byte → Nat
  | [] => 0
  | [a] => a.toNat * 256
  | a :: b :: t => a.toNat * 256 + b.toNat + sum16 t

/-- That sum folded to 16 bits. -/
def fold16 (n : Nat) : Nat := let m := n % 65536 + n / 65536
                              let m := m % 65536 + m / 65536
                              m % 65536 + m / 65536

/-- The checksum completed from `start` on and put at `start + off` (VIRTIO_NET_F_CSUM). -/
def vioCsum (f : List Byte) (start off : Nat) : List Byte :=
  let c := 65535 - fold16 (sum16 (f.drop start))
  overlay f (start + off) (beBytes 2 (if c = 0 then 65535 else c))

/-- One segment of a frame cut for TCP (VIRTIO_NET_F_HOST_TSO4 and TSO6): the headers with length, identification, sequence number
and flags of the segment, and both checksums. `l3` is where the IP header starts, `l4` the TCP header. -/
def tsoSegment (v6 : Bool) (f : List Byte) (l3 l4 hdr i gso total : Nat) : List Byte :=
  let pl := slice (f.drop hdr) (i * gso) (min gso (total - i * gso))
  let last := decide (total ≤ (i + 1) * gso)
  let h := f.take hdr
  let tlen := hdr - l4 + pl.length
  let h := if v6 then overlay h (l3 + 4) (beBytes 2 (hdr - l3 - 40 + pl.length))
    else overlay (overlay (overlay h (l3 + 2) (beBytes 2 (hdr - l3 + pl.length))) (l3 + 4) (beBytes 2 ((beAt f (l3 + 4) 2 + i) % 65536)))
      (l3 + 10) [0, 0]
  let h := if v6 then h else overlay h (l3 + 10) (beBytes 2 (65535 - fold16 (sum16 (slice h l3 (l4 - l3)))))
  let h := overlay h (l4 + 4) (beBytes 4 ((beAt f (l4 + 4) 4 + i * gso) % 2 ^ 32))
  let fl := beAt f (l4 + 13) 1
  let fl := if last then fl else Nat.land fl 0xF6
  let h := overlay (overlay h (l4 + 13) (beBytes 1 fl)) (l4 + 16) [0, 0]
  let pseudo := if v6 then slice f (l3 + 8) 32 ++ beBytes 4 tlen ++ [0, 0, 0, 6] else slice f (l3 + 12) 8 ++ [0, 6] ++ beBytes 2 tlen
  let c := 65535 - fold16 (sum16 (pseudo ++ h.drop l4 ++ pl))
  overlay h (l4 + 16) (beBytes 2 c) ++ pl

/-- The frames that a transmit buffer stands for: `b` is its virtio_net_hdr of 12 bytes and the frame behind it. -/
def vioFrames (b : List Byte) : List (List Byte) :=
  let f := b.drop 12
  let gso := leAt b 1 1 % 128
  let start := leAt b 6 2
  if gso = 1 ∨ gso = 4 then
    let v6 := decide (gso = 4)
    let l4 := start
    let hdr := l4 + beAt f (l4 + 12) 1 / 16 * 4
    let l3 := if beAt f 12 2 = 0x8100 ∨ beAt f 12 2 = 0x88A8 then 18 else 14
    let size := max 1 (leAt b 4 2)
    let total := f.length - hdr
    (List.range (max 1 ((total + size - 1) / size))).map (fun i => tsoSegment v6 f l3 l4 hdr i size total)
  else if bit (leAt b 0 1) 0 then [vioCsum f start (leAt b 8 2)] else [f]

/-! ## Notifications -/

/-- May the device take buffers of a virtqueue (R71, R93, R104)? -/
def State.vioFetches (s : State) (d y : Nat) : Bool :=
  s.isVirtio d && bit (s.person d).status 2 && decide (s.drState d = 3) && !s.pwr.closed && decide ((s.ring (sqKey d y)).st = .active) &&
    (match s.drPort d with
     | some q => !(s.hport q).stopped && !(s.hport q).d3.contains (s.drFunc d)
     | none => false)

/-- A buffer is taken from a virtqueue with a credit; without one the queue starves. -/
def State.vioTake (s : State) (d y : Nat) (b : VBuf) (posted : Bool) : Option (Ref × State) :=
  let k := sqKey d y
  let r := s.ring k
  if (s.ring r.link).credits = 0 then none
  else
    let i : Item := { index := r.dev, opcode := 0, tag := b.id, cplReq := true, order := false, flags := 0, chain := 0,
                      started := true, posted := posted, segs := b.segs, body := [] }
    let s := s.setRing k { r with dev := (r.dev + 1) % 2 ^ 32, items := r.items ++ [i], starved := false, gen := s.drGen d }
    let l := s.ring r.link
    let s := s.setRing r.link { l with reserved := l.reserved + 1, lastRR := k, starveUp := false }
    some ({ ring := k, index := r.dev, tag := b.id, cplReq := true }, s)

/-- Frames of a transmit buffer are sent in turn; the buffer is used once the last of them is (R130). One that finds no leaves waits. -/
def State.vioSend (s : State) (q d : Nat) (r : Ref) (fs : List (List Byte)) : State :=
  (fs.zipIdx).foldl (fun (s : State) e =>
    let last := decide (e.2 + 1 = fs.length)
    let ref := if last then r else { r with index := 2 ^ 32 + r.index * 2 ^ 16 + e.2 }
    let h := s.hport q
    let n : DmaRead := { tag := h.nextTag, drawer := d, gen := s.drGen d, ref := ref, addr := 0, len := e.1.length, use := .frame,
                         issued := true, pos := 0, data := some e.1 }
    let s := s.setHport q { h with reads := h.reads ++ [n], nextTag := (h.nextTag + 1) % 2 ^ 14 }
    (s.readDone q n).getD (s.noLeaf (drMaster d))) s

/-- A buffer of a transmit queue, taken: its frames are sent, or it is used at once where it holds none that may be. -/
def State.vioTx (s : State) (q d : Nat) (r : Ref) (b : VBuf) : State :=
  let fs := vioFrames b.data.data
  if b.data.st ≠ 0 ∨ b.data.data.length < 26 ∨ fs.any (fun f => decide (9212 < f.length)) then s.complete r ST_OK 0 []
  else (s.bump (Reg.n_dma_read_bytes q) b.data.data.length).vioSend q d r fs

/-- One buffer of a notification; those of a receive queue wait for frames. -/
def State.vioBuffer (s : State) (q d y : Nat) (b : VBuf) : State :=
  (s.vioTake d y b (decide (y % 2 = 0))).elim s (fun x => if y % 2 = 0 then x.2 else x.2.vioTx q d x.1 b)

/-- VIRTIO_NOTIFY (R146): the event suppression that the driver asks for sets MOD_COUNT and MOD_USEC. -/
def State.vioNotify (s : State) (d y cnt usec : Nat) (bufs : List VBuf) : State :=
  if !s.isVirtio d then s
  else
    let s := match s.drPort d with
      | some q => s.bump (Reg.n_doorbells_rx q)
      | none => s
    match s.drPort d with
    | none => s
    | some q =>
      if !s.vioFetches d y || decide (s.vioCtl d ≤ y) then s
      else
        let c := s.ring (cqKey d y)
        let s := s.setRing (cqKey d y) { c with modCount := cnt, modUsec := usec }
        bufs.foldl (fun (s : State) b => s.vioBuffer q d y b) s

def execVirtioNotify (d vq cnt usec : Nat) (bufs : List VBuf) (s : State) : Host.Outcome State Fault Refusal :=
  s.run (s.vioNotify d vq cnt usec bufs)

/-! ## Control commands -/

/-- A control command ends with its acknowledgement: 0 VIRTIO_NET_OK, 1 VIRTIO_NET_ERR. -/
def State.vioAck (s : State) (d id addr st : Nat) (go : State → State) : State :=
  let y := s.vioCtl d
  if !s.vioFetches d y then s
  else match s.vioTake d y { id := id, segs := [], data := { st := 0, data := [] } } false with
    | none => s
    | some (r, s) => ((go s).dmaWrite d [(addr, [BitVec.ofNat 8 st])]).complete r ST_OK 1 []

/-- VIRTIO_NET_CTRL_MQ_VQ_PAIRS_SET. -/
def State.vioSetPairs (s : State) (d id pairs addr : Nat) : State :=
  if 1 ≤ pairs ∧ pairs ≤ s.vioPairs d then
    s.vioAck d id addr 0 (fun s => s.setPerson d { s.person d with vqPairs := pairs })
  else s.vioAck d id addr 1 (fun s => s)

def execVirtioNetCtrlMqVqPairsSet (d id pairs addr : Nat) (s : State) : Host.Outcome State Fault Refusal :=
  s.run (s.vioSetPairs d id pairs addr)

/-- Any other control command returns VIRTIO_NET_ERR. -/
def execVirtioCtrlOther (d id addr : Nat) (s : State) : Host.Outcome State Fault Refusal := s.run (s.vioAck d id addr 1 (fun s => s))

end Sys2Proof.Machine
end

