-- ==== Sys2Proof/Machine/Bar.lean ====
section
/-! DEFINITION. Memory requests of a host to the BARs of a port's functions (R60–R64, R91, R93, R110, R482, R510, R530–R532). Functions
are numbered as in `State.fnNumber`. -/

namespace Sys2Proof.Machine

/-- Is the manager function replaced by the recovery agent's mailbox (R62, R482)? -/
def State.recovering (s : State) : Bool := decide (s.get Reg.BOOT_STATUS_MODE = 2)

/-- Bytes that a function's BAR claims; zero where it has no such BAR (R62). -/
def State.barSize (s : State) (fn bar : Nat) : Nat :=
  let f := (fn - 4) / 256
  if bar = 4 then 0x2000
  else if bar = 0 then
    if fn = 0 then 0x10000
    else if fn = 3 then (if s.recovering then 0x10000 else 0x4000000)
    else if fn < 3 ∨ f = 0 then 0x1000
    else 0x4000
  else if bar = 2 ∧ ((fn = 3 ∧ s.recovering = false) ∨ (4 ≤ fn ∧ f = 0)) then 0x40000
  else 0

/-! ## MSI-X (R61, R62) -/

/-- Vectors of a function. -/
def msixCount (fn : Nat) : Nat := if fn = 3 then 256 else if fn < 3 then 8 else 128

/-- A word of BAR4: the table from offset 0, the pending bits from 0x1000. -/
def State.msixWord (s : State) (q fn o : Nat) : Option Nat :=
  let h := s.hport q
  let v := o / 16
  let key := fn * 256 + v
  if v < msixCount fn then
    let e := mgetD h.msix key (0, 0)
    some (match o % 16 / 4 with
      | 0 => e.1 % 2 ^ 32
      | 1 => e.1 / 2 ^ 32
      | 2 => e.2
      | _ => b2n (!h.unmasked.contains key))
  else if 0x1000 ≤ o ∧ o - 0x1000 < (msixCount fn + 63) / 64 * 8 then
    some ((h.pendVec.filter (fun k => decide (k / 256 = fn) && decide (k % 256 / 32 = (o - 0x1000) / 4))).foldl
      (fun a k => a + 2 ^ (k % 32)) 0)
  else none

/-- The key that names a function as the sender of a message. -/
def State.fnKey (s : State) (q fn : Nat) : Nat :=
  match s.fnDrawer q fn with
  | some d => ringKey d 0
  | none => if fn = 3 then ctlKey 0 else pf0Key q

/-- A word of a vector's table entry written; unmasking sends the message that is pending. -/
def State.msixPut (s : State) (q fn o w : Nat) : State :=
  let h := s.hport q
  let key := fn * 256 + o / 16
  let e := mgetD h.msix key (0, 0)
  match o % 16 / 4 with
  | 0 => s.setHport q { h with msix := mput h.msix key (putBits e.1 31 0 w, e.2) }
  | 1 => s.setHport q { h with msix := mput h.msix key (putBits e.1 63 32 w, e.2) }
  | 2 => s.setHport q { h with msix := mput h.msix key (e.1, w) }
  | _ =>
    let s := s.setHport q { h with unmasked := setIn h.unmasked key (!bit w 0), pendVec := if bit w 0 then h.pendVec else setIn h.pendVec key false }
    if !bit w 0 && h.pendVec.contains key then s.emit (.msix (s.fnKey q fn) (o / 16)) else s

/-! ## Pages of the PFs (R93, R531, R532) -/

/-- A record of PF0's event log, as R138 lays it out: number `i` since the log began. -/
def eventBytes (i : Nat) (e : Event) : List Byte :=
  leBytes 2 e.code ++ leBytes 2 e.source ++ leBytes 4 (b2n (ownerMark 6 i) * 2 ^ 7 + i % 2 ^ 24 * 2 ^ 8) ++ leBytes 8 e.time ++
    slice (e.detail.flatMap (leBytes 4)) 0 16

/-- The record that stands in slot `j` of the log. -/
def HostPort.logSlot (h : HostPort) (j : Nat) : List Byte :=
  let i := (h.logProd + 2 ^ 32 - 1 - (h.logProd + 2 ^ 32 - 1 - j) % 64) % 2 ^ 32
  let back := (h.logProd + 2 ^ 32 - i) % 2 ^ 32
  if back ≤ h.log.length then
    match h.log[h.log.length - back]? with
    | some e => eventBytes i e
    | none => []
  else []

/-- A word of the port page. -/
def State.portPage (s : State) (q o : Nat) : Option Nat :=
  let h := s.hport q
  if o = 0 then some (q + b2n ((s.octPlan (q / 2)).split) * 2 ^ 8)
  else if o = 4 then some (s.view (Reg.HOST_PORT_STATUS q))
  else if o = 8 then some (b2n h.retiring)
  else if o = 0x10 then some h.logProd
  else if o = 0x14 then some h.logCons
  else if o = 0x18 then some h.logLost
  else if 0x1000 ≤ o ∧ o < 0x1800 then some (leAt (h.logSlot ((o - 0x1000) / 32)) (o % 32) 4)
  else none

/-- A word of the status page of PF1 or PF2. -/
def State.statusPage (s : State) (q fn o : Nat) : Option Nat :=
  let l := s.pfDrawers q fn
  if o = 0 then some l.length
  else if 0x100 ≤ o ∧ o < 0x120 then
    some ((List.range 32).foldl (fun a i =>
      a + (if l.any (fun d => decide (s.get (Reg.DRW_DRAWER_BIND_VF d) = (o - 0x100) * 8 + i)) then 2 ^ i else 0)) 0)
  else none

/-! ## Pages of the VFs (R91, R93, R110) -/

/-- STATE as a drawer sees it. -/
def seenState (st : Nat) : Nat :=
  match st with
  | 2 => 1
  | 3 => 1
  | 4 => 2
  | 5 => 3
  | 6 => 4
  | _ => 0

/-- A word of the identity page. -/
def State.identityPage (s : State) (drw : Option Nat) (o : Nat) : Option Nat :=
  if 0x20 ≤ o then none
  else match drw with
  | none => some 0
  | some d =>
    let n := fun pool granule => extentsLen (s.extents d pool granule)
    some (match o with
      | 0x00 => d + s.get (Reg.DRW_DRAWER_STATUS_PERSONALITY d) * 2 ^ 16 + s.get (Reg.DRW_DRAWER_STATUS_KIND d) * 2 ^ 20
      | 0x04 => seenState (s.drState d) + b2n (s.drw.resetDone.contains d) * 2 ^ 8
      | 0x08 => s.drGen d
      | 0x10 => n 0xB 1
      | 0x14 => n 0xC 1
      | 0x18 => n 9 64
      | 0x1C => n 0xA 256
      | _ => 0)

/-- A word of an NVM Express controller's registers. Its doorbells read zero. -/
def State.nvPage (s : State) (d o : Nat) : Option Nat :=
  let p := s.person d
  match o with
  | 0x00 => some (0xFFFF + 2 ^ 16 + 2 ^ 24)
  | 0x04 => some (2 ^ 5)
  | 0x08 => some 0x20000
  | 0x14 => some p.cc
  | 0x1C => some (b2n p.rdy + 4 * p.shst)
  | 0x24 => some p.aqa
  | 0x28 => some (p.asq % 2 ^ 32)
  | 0x2C => some (p.asq / 2 ^ 32)
  | 0x30 => some (p.acq % 2 ^ 32)
  | 0x34 => some (p.acq / 2 ^ 32)
  | n => if n < 0x38 ∨ (0x1000 ≤ n ∧ n < 0x1000 + 8 * 65) then some 0 else none

/-- Features that a virtio-net drawer offers. -/
def vioOffers : Nat := 2 ^ 0 + 2 ^ 1 + 2 ^ 11 + 2 ^ 12 + 2 ^ 17 + 2 ^ 22 + 2 ^ 32 + 2 ^ 33 + 2 ^ 34

/-- A virtqueue as reset leaves it. -/
def VQueue.reset : VQueue := { size := 32768, vec := 0xFFFF, on := false, desc := 0, drv := 0, dev := 0 }

/-- The virtqueue that queue_select names; none beyond num_queues. -/
def State.vioQueue (s : State) (d : Nat) : Option VQueue :=
  let p := s.person d
  if p.qsel ≤ 2 * s.vioPairs d then some ((mget p.vqs p.qsel).getD VQueue.reset) else none

/-- Half `i` of a 64-bit feature word. -/
def half (x i : Nat) : Nat := if i < 2 then x / 2 ^ (32 * i) % 2 ^ 32 else 0

/-- The common configuration structure as it reads (virtio 1.2; PRESUMED, log entry 25). -/
def State.vioCommon (s : State) (d : Nat) : List Byte :=
  let p := s.person d
  let v := s.vioQueue d
  let f := fun (g : VQueue → Nat) => (v.map g).getD 0
  leBytes 4 p.dfsel ++ leBytes 4 (half vioOffers p.dfsel) ++ leBytes 4 p.gfsel ++ leBytes 4 (half p.feat p.gfsel) ++ leBytes 2 p.cfgVec ++
    leBytes 2 (2 * s.vioPairs d + 1) ++ leBytes 1 p.status ++ leBytes 1 0 ++ leBytes 2 p.qsel ++ leBytes 2 (f (·.size)) ++
    leBytes 2 (f (·.vec)) ++ leBytes 2 (f (fun v => b2n v.on)) ++ leBytes 2 p.qsel ++ leBytes 8 (f (·.desc)) ++ leBytes 8 (f (·.drv)) ++
    leBytes 8 (f (·.dev)) ++ leBytes 4 0

/-- A word of a virtio-net drawer's BAR0. The link status reads 1. -/
def State.vioPage (s : State) (d o : Nat) : Option Nat :=
  if o < 0x3C then some (leAt (s.vioCommon d) o 4)
  else if 0x1000 ≤ o ∧ o ≤ 0x1000 + 8 * s.vioPairs d then some 0
  else if o = 0x2000 then some 0
  else if 0x3000 ≤ o ∧ o < 0x300C then some (leAt ([0, 0, 0, 0, 0, 0, 1, 0] ++ leBytes 2 (s.vioPairs d)) (o - 0x3000) 4)
  else none

/-! ## The recovery mailbox (R482) -/

/-- A word of the mailbox. -/
def State.mailbox (s : State) (o : Nat) : Option Nat :=
  let b := s.boot
  match o with
  | 0x00 => some b.cmd
  | 0x08 => some (b.arg0 % 2 ^ 32)
  | 0x0C => some (b.arg0 / 2 ^ 32)
  | 0x10 => some (b.arg1 % 2 ^ 32)
  | 0x14 => some (b.arg1 / 2 ^ 32)
  | 0x18 => some b.result
  | n =>
    if 0x20 ≤ n ∧ n < 0x40 then some (leAt b.info (n - 0x20) 4)
    else if 0x1000 ≤ n ∧ n < 0x9000 then some (leAt b.data (n - 0x1000) 4) else none

/-- A word of the mailbox written. A command of an opcode that R482 does not list ends at once with a REASON that the spec leaves open. -/
def State.mailPut (s : State) (o w : Nat) : Option State :=
  match o with
  | 0x00 =>
    if bit s.boot.cmd 31 then some s
    else
      let s := s.withBoot (fun b => { b with cmd := bits w 7 0 + bits w 31 31 * 2 ^ 31, result := if bit w 31 then 0 else b.result })
      if bit w 31 && (decide (bits w 7 0 = 0) || decide (6 < bits w 7 0)) then
        let (r, s) := s.free 4
        some (s.withBoot (fun b => { b with cmd := b.cmd % 2 ^ 31, result := 2 ^ 31 + r }))
      else some s
  | 0x08 => some (s.withBoot (fun b => { b with arg0 := putBits b.arg0 31 0 w }))
  | 0x0C => some (s.withBoot (fun b => { b with arg0 := putBits b.arg0 63 32 w }))
  | 0x10 => some (s.withBoot (fun b => { b with arg1 := putBits b.arg1 31 0 w }))
  | 0x14 => some (s.withBoot (fun b => { b with arg1 := putBits b.arg1 63 32 w }))
  | n =>
    if n = 0x18 ∨ (0x20 ≤ n ∧ n < 0x40) then some s
    else if 0x1000 ≤ n ∧ n < 0x9000 then
      some (s.withBoot (fun b => { b with data := overlay (slice b.data 0 0x8000) (n - 0x1000) (leBytes 4 w) }))
    else none

/-! ## Reads (R63) -/

/-- A word of a BAR; none where no page defines it. -/
def State.barWord (s : State) (q fn bar o : Nat) : Option Nat :=
  let d := s.fnDrawer q fn
  if bar = 4 then s.msixWord q fn o
  else if bar = 2 then (if o % 4096 < 0x200 then some 0 else none)
  else if fn = 0 then s.portPage q o
  else if fn < 3 then s.statusPage q fn o
  else if fn = 3 then s.mailbox o
  else if (fn - 4) / 256 = 0 then s.identityPage d o
  else match d with
    | none => none
    | some d => if (fn - 4) / 256 = 1 then s.nvPage d o else s.vioPage d o

/-- Words from offset `o` on: the bytes, whether some word is defined by no page, and the state. PF0's copies of the port counters are
pairs of a reader of their own (R512). -/
def barWords (q fn bar : Nat) : Nat → Nat → State → List Byte × Bool × State
  | 0, _, s => ([], false, s)
  | n + 1, o, s =>
    let (w, bad, s) := if fn = 0 ∧ bar = 0 ∧ 0x100 ≤ o ∧ o < 0x188 then
        let (v, s) := s.readWord (0x7000 + q) (0x200000 + 0x1000 * q + o)
        (v, false, s)
      else match s.barWord q fn bar o with
        | some v => (v, false, s)
        | none => (0, true, s)
    let (l, b, s) := barWords q fn bar n (o + 4) s
    (leBytes 4 w ++ l, bad || b, s)

/-- Does a function answer memory requests: there, in D0 and with Memory Space Enable, a VF's standing in its PF's SR-IOV capability
(R63)? -/
def State.fnAnswers (s : State) (q fn : Nat) : Bool :=
  s.fnThere q fn && (s.hport q).mse.contains fn && !(s.hport q).d3.contains fn

/-- A read's completion: 0 successful, 1 Unsupported Request, 4 Completer Abort. -/
def State.barReply (s : State) (requester st : Nat) (data : List Byte) : State := s.emit (.reply 1 requester st data)

/-- A memory read. During a halt a drawer's function aborts it (R75); the manager function reads its registers (R510, R518). -/
def State.barRead (s : State) (q fn bar off len requester : Nat) : State :=
  if !s.on (Reg.HOST_PORT_STATUS_LINK_UP q) then s
  else if !s.fnAnswers q fn || decide (s.barSize fn bar < off + len) then s.barReply requester 1 []
  else if s.halted && decide (4 ≤ fn) then s.barReply requester 4 []
  else if fn = 3 ∧ bar = 0 ∧ s.recovering = false then
    match s.regRead 0 off len with
    | (some l, s) => s.barReply requester 0 l
    | (none, s) => s.barReply requester 0 (List.replicate len 0xFF)
  else
    let (l, bad, s) := barWords q fn bar ((off % 4 + len + 3) / 4) (off - off % 4) s
    let s := if bad then s.bump (Reg.n_bar_reserved_access q) else s
    s.barReply requester 0 (slice l (off % 4) len)

/-! ## Writes -/

/-- A write cut into words: offset, value and the mask of the bytes written. -/
def barPieces : Nat → Nat → List Byte → List (Nat × Nat × Nat)
  | 0, _, _ => []
  | n + 1, off, l =>
    if l.isEmpty then []
    else
      let k := min (4 - off % 4) l.length
      (off - off % 4, leAt l 0 k * 2 ^ (8 * (off % 4)), (2 ^ (8 * k) - 1) * 2 ^ (8 * (off % 4))) :: barPieces n (off + k) (l.drop k)

/-- A word after a write of some of its bytes. -/
def merged (old w m : Nat) : Nat := old - Nat.land old m + w

/-- A word of the port page written: RETIRE_ACK and EVT_CONS; other fields are read-only. -/
def State.portPut (s : State) (q o w m : Nat) : Option State :=
  if o = 8 then some (if bit w 1 && s.running then s.retireEnd q 0 else s)
  else if o = 0x14 then some (s.evtCons q (merged (s.hport q).logCons w m))
  else if (s.portPage q o).isSome ∨ (0x100 ≤ o ∧ o < 0x188) then some s else none

/-- A word of the identity page written: a 1 in RESET_DONE clears it. -/
def State.identityPut (s : State) (drw : Option Nat) (o w : Nat) : Option State :=
  if 0x20 ≤ o then none
  else match drw with
  | some d =>
    some (if o = 4 ∧ bit w 8 = true then { s with drw := { s.drw with resetDone := s.drw.resetDone.filter (fun x => !decide (x = d)) } } else s)
  | none => some s

/-- CC written: enable, disable and shutdown (R91). -/
def State.ccPut (s : State) (d v : Nat) : State :=
  let p := s.person d
  if bit p.cc 0 && !bit v 0 then s.nvDisable d
  else
    let s := s.setPerson d { p with cc := Nat.land v 0xFFFFF1 }
    let s := if !bit p.cc 0 && bit v 0 then s.nvEnable d else s
    if bits v 15 14 ≠ 0 ∧ bits p.cc 15 14 = 0 then s.nvShutdown d (bits v 15 14) else s

/-- A word of an NVM Express controller's registers written. -/
def State.nvPut (s : State) (d o w m : Nat) : Option State :=
  let p := s.person d
  match s.nvPage d o with
  | none => none
  | some _ =>
    match o with
    | 0x14 => some (s.ccPut d (merged p.cc w m))
    | 0x24 => some (s.setPerson d { p with aqa := Nat.land (merged p.aqa w m) 0x0FFF0FFF })
    | 0x28 => some (s.setPerson d { p with asq := putBits p.asq 31 0 (merged (p.asq % 2 ^ 32) w m / 4096 * 4096) })
    | 0x2C => some (s.setPerson d { p with asq := putBits p.asq 63 32 (merged (p.asq / 2 ^ 32) w m) })
    | 0x30 => some (s.setPerson d { p with acq := putBits p.acq 31 0 (merged (p.acq % 2 ^ 32) w m / 4096 * 4096) })
    | 0x34 => some (s.setPerson d { p with acq := putBits p.acq 63 32 (merged (p.acq / 2 ^ 32) w m) })
    | n => some (if 0x1000 ≤ n ∧ m = 2 ^ 32 - 1 then s.opNvDoorbell d ((n - 0x1000) / 8) (decide (n % 8 = 4)) (w % 2 ^ 16) [] else s)

/-- The virtqueue that queue_select names changed, while it is not enabled. -/
def State.vioSetQueue (s : State) (d : Nat) (f : VQueue → VQueue) : State :=
  let p := s.person d
  match s.vioQueue d with
  | none => s
  | some v => if v.on then s else s.setPerson d { p with vqs := mput p.vqs p.qsel (f v) }

/-- device_status written: 0 resets; FEATURES_OK stays only where the driver took features on offer, VERSION_1 among them. -/
def State.vioStatus (s : State) (d v : Nat) : State :=
  let p := s.person d
  if v = 0 then s.vioReset d
  else
    let ok := decide (Nat.land p.feat vioOffers = p.feat) && bit p.feat 32
    s.setPerson d { p with status := if ok then v else putBits v 3 3 0 }

/-- A field of the common configuration written, by its offset. -/
def State.vioField (s : State) (d o v : Nat) : State :=
  let p := s.person d
  match o with
  | 0x00 => s.setPerson d { p with dfsel := v }
  | 0x08 => s.setPerson d { p with gfsel := v }
  | 0x0C =>
    if bit p.status 3 || decide (2 ≤ p.gfsel) then s
    else s.setPerson d { p with feat := putBits p.feat (32 * p.gfsel + 31) (32 * p.gfsel) v }
  | 0x10 => s.setPerson d { p with cfgVec := v }
  | 0x14 => s.vioStatus d v
  | 0x16 => s.setPerson d { p with qsel := v }
  | 0x18 => if v = 0 ∨ 32768 < v then s else s.vioSetQueue d (fun x => { x with size := v })
  | 0x1A => s.vioSetQueue d (fun x => { x with vec := v })
  | 0x1C => if v = 1 then s.vioEnable d p.qsel else s
  | 0x20 => s.vioSetQueue d (fun x => { x with desc := putBits x.desc 31 0 v })
  | 0x24 => s.vioSetQueue d (fun x => { x with desc := putBits x.desc 63 32 v })
  | 0x28 => s.vioSetQueue d (fun x => { x with drv := putBits x.drv 31 0 v })
  | 0x2C => s.vioSetQueue d (fun x => { x with drv := putBits x.drv 63 32 v })
  | 0x30 => s.vioSetQueue d (fun x => { x with dev := putBits x.dev 31 0 v })
  | 0x34 => s.vioSetQueue d (fun x => { x with dev := putBits x.dev 63 32 v })
  | _ => s

/-- The writable fields of the common configuration: offset and width. -/
def vioFields : List (Nat × Nat) :=
  [(0x00, 4), (0x08, 4), (0x0C, 4), (0x10, 2), (0x14, 1), (0x16, 2), (0x18, 2), (0x1A, 2), (0x1C, 2), (0x20, 4), (0x24, 4), (0x28, 4),
   (0x2C, 4), (0x30, 4), (0x34, 4)]

/-- A write to a virtio-net drawer's BAR0: the fields it touches, or a notification. -/
def State.vioPut (s : State) (d off : Nat) (l : List Byte) : Option State :=
  if off < 0x3C then
    let b := overlay (s.vioCommon d) off l
    some ((vioFields.filter (fun f => decide (f.1 < off + l.length) && decide (off < f.1 + f.2))).foldl
      (fun (s : State) (f : Nat × Nat) => s.vioField d f.1 (leAt b f.1 f.2)) s)
  else match s.vioPage d (off - off % 4) with
    | none => none
    | some _ =>
      if 0x1000 ≤ off ∧ off < 0x2000 then
        let y := (off - 0x1000) / 4
        let c := s.ring (cqKey d y)
        some (s.vioNotify d y c.modCount c.modUsec [])
      else some s

/-- A write to a doorbell page: a doorbell, or a slip (R121, R123, R124). The manager's pages are those of no drawer. -/
def State.bellPut (s : State) (who off : Nat) (l : List Byte) : Option State :=
  if 0x200 ≤ off % 4096 then none
  else if off % 4096 = 0 ∧ l.length = 8 then some (s.opDoorbell who (leAt l 0 8))
  else if off % 4096 = 0 ∧ l.length = 64 ∧ who < 4096 ∧ bit (leAt l 0 8) 63 then some ((s.slipRx who true).opAttach who (off / 4096) true l)
  else some (s.opSlip who (off % 4096) true l)

/-- A word of a BAR written; none where no page defines it. A VF without a drawer takes writes on its identity page only (R60). -/
def State.barPut (s : State) (q fn bar o w m : Nat) : Option State :=
  let d := s.fnDrawer q fn
  if bar = 4 then
    match s.msixWord q fn o with
    | none => none
    | some old => if 4 ≤ fn ∧ d = none then none else some (if o < 0x1000 then s.msixPut q fn o (merged old w m) else s)
  else if fn = 0 then s.portPut q o w m
  else if fn < 3 then (s.statusPage q fn o).map (fun _ => s)
  else if fn = 3 then (s.mailbox o).bind (fun old => s.mailPut o (merged old w m))
  else if (fn - 4) / 256 = 0 then s.identityPut d o w
  else d.bind (fun d => s.nvPut d o w m)

/-- Words written one after another, and whether some word is defined by no page. -/
def barPuts (q fn bar : Nat) (l : List (Nat × Nat × Nat)) (s : State) : Bool × State :=
  l.foldl (fun (r : Bool × State) (p : Nat × Nat × Nat) =>
    match r.2.barPut q fn bar p.1 p.2.1 p.2.2 with
    | some s => (r.1, s)
    | none => (true, r.2)) (false, s)

/-- A write that no page defines is dropped and counted (R63). -/
def State.barLost (s : State) (q : Nat) (t : Option State) : State :=
  match t with
  | some t => t
  | none => s.bump (Reg.n_bar_reserved_access q)

/-- A memory write. During a halt one to a drawer's function is dropped (R75). -/
def State.barWrite (s : State) (q fn bar off : Nat) (l : List Byte) : State :=
  let d := s.fnDrawer q fn
  if !s.on (Reg.HOST_PORT_STATUS_LINK_UP q) then s
  else if !s.fnAnswers q fn || decide (s.barSize fn bar < off + l.length) then s.emit (.pcie q .unsupported)
  else if s.halted && decide (4 ≤ fn) then s
  else if fn = 3 ∧ bar = 0 ∧ s.recovering = false then (s.regWrite 0 off l).2.stepped
  else if bar = 2 then
    if !s.running then s
    else match d with
      | some d => s.barLost q (s.bellPut d off l)
      | none => if fn = 3 then s.barLost q (s.bellPut 4096 off l) else s.bump (Reg.n_bar_reserved_access q)
  else if bar = 0 ∧ 4 ≤ fn ∧ (fn - 4) / 256 = 2 then s.barLost q (d.bind (fun d => s.vioPut d off l))
  else
    let (bad, s) := barPuts q fn bar (barPieces l.length off l) s
    if bad then s.bump (Reg.n_bar_reserved_access q) else s

def execBarMemoryRead (q fn bar off len requester : Nat) (s : State) : Host.Outcome State Fault Refusal :=
  s.path (s.barRead q fn bar off len requester)
/-- The requester is named by the read of a completion only. -/
def execBarMemoryWrite (q fn bar off : Nat) (data : List Byte) (_requester : Nat) (s : State) : Host.Outcome State Fault Refusal :=
  s.path (s.barWrite q fn bar off data)

end Sys2Proof.Machine
end

