-- ==== Sys2Proof/Machine/Colophon.lean ====
section
/-! DEFINITION. The colophon writer: the sections and the header of a dump, and the end of a halt's dump (R495, R497–R500). -/

namespace Sys2Proof.Machine

/-! ## Sections (R499) -/

/-- Word `i` of REGISTERS: 1 MiB a block, read without side effect, PWR_WAKE_KEY as zero. -/
def State.dumpReg (s : State) (i : Nat) : Nat :=
  match rowAt (4 * i) with
  | some r => if r.base = Reg.PWR_WAKE_KEY 0 then 0 else s.view (4 * i)
  | none => 0

/-- The 1 KiB of a thread. The spec lists what it holds; widths of eight bytes and the staging slot's form are the model's. -/
def State.dumpThread (s : State) (t : Nat) : List Byte :=
  let x := s.thread t
  let g := x.stage.getD (0, 0, [])
  let words := (List.range 31).map (fun i => x.getX (i + 1)) ++ (List.range 32).map (fun i => mgetD x.f i 0) ++
    [x.pc, x.csrOf 3, x.mstatus, x.csrOf 0x342, x.csrOf 0x341, x.csrOf 0x343, x.csrOf 0x180, s.thState t]
  slice (words.flatMap (leBytes 8) ++ leBytes 2 g.1 ++ leBytes 2 g.2.1 ++ leBytes 4 g.2.2.length ++ g.2.2.flatMap (leBytes 4)) 0 1024

/-- The last 4,096 event records raised for the manager, oldest first. -/
def State.dumpEvents (s : State) : List Byte :=
  let l := s.events.filter (fun e => decide (e.dest = 0))
  let n := l.length - 4096
  let log2 := (s.ring (ctlKey 7)).log2
  ((l.drop n).zipIdx).flatMap (fun e =>
    leBytes 2 e.1.code ++ leBytes 2 e.1.source ++ leBytes 4 (b2n (ownerMark log2 (n + e.2)) * 2 ^ 7 + (n + e.2) % 2 ^ 24 * 2 ^ 8) ++
      leBytes 8 e.1.time ++ slice (e.1.detail.flatMap (leBytes 4)) 0 16)

/-- The error log of MEM, then the last 256 records of the jig. -/
def State.dumpLogs (s : State) : List Byte :=
  (List.range 64).flatMap (fun i => match mget s.mem.log i with
    | some r => r.bytes
    | none => List.replicate 32 0) ++ s.jig.recs.flatMap (fun r => slice r 0 32)

/-- DEPTH of a queue, and PAUSED in bit 31. -/
def State.dumpQueue (s : State) (q : Nat) : Nat := s.depth q % 2 ^ 31 + b2n (s.paused q) * 2 ^ 31

/-- The target and position of fence entry `i`: the HBM controllers, the scratchpads, the register blocks. -/
def fencePlace (i : Nat) : Nat × Nat :=
  if i < 4096 then (0x1000 + i / 1024, i % 1024)
  else if i < 7168 then (0x2000 + (i - 4096) / 128, (i - 4096) % 128)
  else (0x3000 + (i - 7168) / 32, (i - 7168) % 32)

/-- The 32 bytes of fence entry `i`, as bytes 8 to 39 of R95; zero where it is not valid. -/
def State.dumpFence (s : State) (i : Nat) : List Byte :=
  let (t, j) := fencePlace i
  match mget s.drw.fences (fenceKey (t / 4096) (t % 4096) j) with
  | some f => leBytes 2 t ++ leBytes 2 j ++ leBytes 2 f.master ++ leBytes 2 f.mask ++ leBytes 1 f.perm ++ leBytes 1 (b2n f.lock) ++
      leBytes 6 0 ++ leBytes 8 f.base ++ leBytes 8 f.limit
  | none => List.replicate 32 0

/-- The bytes of a section, short of the zeros at its end. The NoC holds no request between two commands. -/
def State.dumpSection (s : State) (id : Nat) : List Byte :=
  match id with
  | 1 => (List.range 4980736).flatMap (fun i => leBytes 4 (s.dumpReg i))
  | 2 => (List.range 1536).flatMap (fun t => s.dumpThread t)
  | 3 => s.dumpEvents
  | 5 => s.dumpLogs
  | 6 => (List.range 1048576).flatMap (fun q => leBytes 4 (s.dumpQueue q))
  | 7 => (List.range 7776).flatMap (fun i => s.dumpFence i)
  | _ => []

/-- Bytes in ascending order as memory lists them: the ones that are not zero. -/
def listed (a : Nat) (l : List Byte) : SMap Byte := (l.zipIdx.filter (fun e => !decide (e.1 = 0))).map (fun e => (a + e.2, e.1))

/-- Memory with the bytes of a range replaced. -/
def replaceRange (m : SMap Byte) (a n : Nat) (l : SMap Byte) : SMap Byte :=
  m.filter (fun e => decide (e.1 < a)) ++ l.filter (fun e => decide (a ≤ e.1) && decide (e.1 < a + n)) ++ m.filter (fun e => decide (a + n ≤ e.1))

/-- Bytes written to both copies of the colophon, errors and poison of their words cleared (R369, R377). -/
def State.coloWrite (s : State) (a n : Nat) (l : List Byte) : State :=
  let gone := fun w => (decide (a / 32 ≤ w) && decide (w < (a + n) / 32)) || (decide (a / 32 + 0x400000 ≤ w) && decide (w < (a + n) / 32 + 0x400000))
  { s with mem := { s.mem with
      bytes := replaceRange s.mem.bytes a n (listed a l), errs := s.mem.errs.filter (fun e => !gone e.1), poison := s.mem.poison.filter (fun w => !gone w) } }

/-! ## The end of a dump -/

/-- The address of the half a dump goes to. -/
def State.coloAt (s : State) : Nat := coloBase + 0x4000000 * s.err.half

/-- The header as the writer ends with it: the short colophon's, with the later causes and the time. -/
def State.dumpEnd (s : State) (d : Dump) (complete oneStack : Bool) : Dump :=
  { d with complete := complete, truncated := !complete, oneStack := oneStack, secLost := decide (8 < s.err.secondary.length),
           timeDone := s.now, secondary := (s.err.secondary.take 8).map (fun e => (e.1, e.2 % 2 ^ 32)) }

/-- A header put into the half, and the dump recorded. -/
def State.headerWrite (s : State) (d : Dump) (crcs : List Nat) : State :=
  let s := s.coloWrite s.coloAt 4096 (d.header crcs)
  { s with err := { s.err with dumps := mput s.err.dumps s.err.half d } }

/-- The sections one after another, and the CRC of each. -/
def writeSections : List (Nat × Nat × Nat) → State → List Nat × State
  | [], s => ([], s)
  | (id, off, len) :: t, s =>
    let b := slice (s.dumpSection id) 0 len
    let (l, s) := writeSections t (s.coloWrite (s.coloAt + off) len b)
    ((crc32c 0xFFFFFFFF b).toNat :: l, s)

/-- What waited for the colophon goes on: a warm reset, or the one that follows a watchdog's halt (R490, R495). -/
def State.coloDone (s : State) : State :=
  let s := s.set Reg.ERR_COLO_STATUS_WRITING 0
  match s.err.phase with
  | .waitHalt c => s.warmBegin c
  | _ => if s.err.wdtHalt then s.warmTrigger 3 else s

/-- COLOPHON_COMPLETE: 0 both copies good, 1 one stack failed, 2 both failed. -/
def State.coloComplete (s : State) (failed : Nat) : State :=
  if !s.halted || !s.on Reg.ERR_COLO_STATUS_WRITING then s
  else match s.err.short with
    | none => s.coloDone
    | some d =>
      if !s.hbmReady || decide (2 ≤ failed) then (s.set Reg.ERR_COLO_STATUS_SHORT_ONLY 1).coloDone
      else
        let (crcs, s) := writeSections dumpSections s
        let d := s.dumpEnd d true (decide (failed = 1))
        let s := s.headerWrite d crcs
        let s := (s.set Reg.ERR_COLO_STATUS_SHORT_ONLY 0).set Reg.ERR_COLO_STATUS_NEWEST_HALF s.err.half
        (s.set Reg.ERR_COLO_STATUS_NEWEST_SEQ (d.seq % 2 ^ 16)).coloDone

/-- COLOPHON_TRUNCATED: 50 ms after the halt began, a warm reset that waits for the colophon goes on. -/
def State.coloTruncated (s : State) : State :=
  match s.err.phase, s.err.short with
  | .waitHalt _, some d =>
    if !s.on Reg.ERR_COLO_STATUS_WRITING then s
    else if s.hbmReady then (s.headerWrite (s.dumpEnd d false false) []).coloDone
    else (s.set Reg.ERR_COLO_STATUS_SHORT_ONLY 1).coloDone
  | _, _ => s

def execColophonComplete (failed : Nat) (s : State) : Host.Outcome State Fault Refusal := s.always (s.coloComplete failed)
def execColophonTruncated (s : State) : Host.Outcome State Fault Refusal := s.always s.coloTruncated

end Sys2Proof.Machine
end

