-- ==== Sys2Proof/Machine/Pipeline.lean ====
section
/-! DEFINITION. A frame's way through a pipeline: PIPELINE_FRAME (R150–R168). -/

namespace Sys2Proof.Machine

/-- An event at most once per millisecond per key: is it due? -/
def eventDue (m : SMap Nat) (k now : Nat) : Bool :=
  match mget m k with
  | none => true
  | some t => decide (1000000 ≤ now - t)

/-- First 16 bytes of a frame, as an event carries them. -/
def first16 (data : List Byte) : Nat := leNat (slice data 0 16)

/-- prs.malformed of a template (R160). -/
def State.malformedEvent (s : State) (p t reason : Nat) (data : List Byte) : State :=
  if eventDue s.prs.malAt t s.now then
    ({ s with prs := { s.prs with malAt := mput s.prs.malAt t s.now } }).raise EV_prs_malformed p [t, reason, first16 data]
  else s

/-- prs.unmatched of a pipeline (R170). -/
def State.unmatchedEvent (s : State) (p : Nat) (f : Frame) (data : List Byte) : State :=
  if eventDue s.prs.unmAt p s.now then
    ({ s with prs := { s.prs with unmAt := mput s.prs.unmAt p s.now } }).raise EV_prs_unmatched p [f.kind, f.port, first16 data]
  else s

/-- A frame that meets a parity error (R168). -/
def State.parityDrop (s : State) (p : Nat) (f : Frame) : State := (s.bump (Reg.n_parse_parity p)).dropFrame f 2

/-- The policer of an XPT or CORE frame (R226, R231): is the frame red? -/
def State.police (s : State) (f : Frame) (pol : Option Nat) : Bool × State :=
  match pol with
  | none => (false, s)
  | some i =>
    let (c, s) := s.colour i (s.frameLen f)
    if c = 2 then (true, s.bump Reg.n_police_red_drop) else (false, s)

/-- What a frame's record does with it, once it is edited (R164, R226). -/
def State.dispatch (s : State) (p : Nat) (f : Frame) (rec' : List Byte) : State :=
  let dest := leAt rec' 4 4
  let pol := if bit (leAt rec' 1 1) 2 then some (leAt rec' 8 4 % 2 ^ 19) else none
  let hand := fun (s : State) (xpt : Bool) (n d : Nat) =>
    match s.police f pol with
    | (true, s) => s.dropFrame f 3
    | (false, s) => s.deliver xpt n d f
  match leAt rec' 0 1 with
  | 1 => s.admitFrame f (dest % 2 ^ 20) pol
  | 2 => hand s true p (dest % 2)
  | 3 => if 24 ≤ bits dest 13 9 then s.dropFrame f 2 else hand s false (bits dest 13 9) (dest % 2 ^ 14)
  | 4 => s.casOrigin f (dest % 2 ^ 16) pol
  | _ => (s.bump (Reg.n_parse_action_drop p)).dropFrame f 2

/-- An edit profile as its two control words and its image. -/
def State.editProfile (s : State) (e : Nat) : Nat × Nat × List Byte :=
  (s.rd (Reg.PRS_EDIT e 0), s.rd (Reg.PRS_EDIT e 1), ((List.range 16).map (fun j => leBytes 4 (s.rd (Reg.PRS_EDIT e (16 + j))))).flatten)

/-- MIRROR and LEARN of a record. `key` is the frame's key, where one was built, with the bank and template of its learn slot. -/
def State.sideEffects (s : State) (f : Frame) (rec' : List Byte) (key : Option (Nat × Nat × Nat)) : State :=
  let fl := leAt rec' 1 1
  let s := match key with
    | some (b, t, k) =>
      let w := s.rd (Reg.PRS_TMPL_LOOKUP b t 2)
      if bit fl 0 && !decide (bits w 25 24 = 0) then
        s.learnProbe (bits w 25 24) (bits w 23 16) (keyWords k (bits w 3 0) (bits w 12 8)) (if f.kind = 1 then 512 + f.port else f.port)
      else s
    | none => s
  if bit fl 1 then s.admitMirror f (leAt rec' 12 4 % 2 ^ 20) else s

/-- A frame takes an action record: its edit, or EXPIRE_ACTION in its place, then what the record does (R164, R166). -/
def State.act (s : State) (p : Nat) (f : Frame) (rec' : List Byte) (key : Option (Nat × Nat × Nat)) : State :=
  let e := leAt rec' 2 1
  let plain := fun (s : State) (r : List Byte) => (s.sideEffects f r key).dispatch p f r
  if e = 0 then plain s rec'
  else if s.prsBad 3 0 e then s.parityDrop p f
  else
    let data := s.quireData f.quire
    let (w0, w1, img) := s.editProfile e
    let ttl := (inspWindow data (bits w1 7 0) 1).map (·.toNat)
    if bit w1 31 && decide (ttl.headD 0 ≤ 1) then
      match s.actionRec (bits w1 27 16) with
      | none => s.parityDrop p f
      | some r => plain (s.bump (Reg.n_edit_expired p)) r
    else
      let t := if bit w1 31 then some (bits w1 7 0, if bits w1 15 8 = 0xFF then none else some (bits w1 15 8)) else none
      let (pre, skip) := editFront (bits w0 23 16) (bits w0 15 8) (bits w0 7 0) img data t
      let out := pre.length + (data.length - skip)
      let s := s.sideEffects f rec' key
      if out < 14 ∨ 9216 < out then (s.bump (Reg.n_edit_drop p)).dropFrame f 2
      else s.dispatch p { f with pre := pre, skip := skip } rec'

/-- A frame takes the record of an index of the PRS action table. -/
def State.actIndex (s : State) (p : Nat) (f : Frame) (i : Nat) (key : Option (Nat × Nat × Nat)) : State :=
  match s.actionRec i with
  | none => s.parityDrop p f
  | some r => s.act p f r key

/-- Does a frame hold one of the control messages of isolate mode (R154)? -/
def trapped (f : List Byte) : Bool :=
  let o := if beAt f 12 2 = 0x8100 then 18 else 14
  let ty := etherType f
  let udp := fun (a : Nat) => decide (beAt f (a + 2) 2 = 319) || decide (beAt f (a + 2) 2 = 320)
  decide (ty = 0x88CC) || decide (ty = 0x88F7) ||
  (decide (ty = 0x0800) && decide (beAt f (o + 9) 1 = 17) && udp (o + beAt f o 1 % 16 * 4)) ||
  (decide (ty = 0x86DD) && decide (beAt f (o + 6) 1 = 17) && udp (o + 40))

/-- A frame in isolate mode (R154). -/
def State.isolate (s : State) (p : Nat) (f : Frame) (data : List Byte) : State :=
  if s.on Reg.PRS_ISOLATE_TRAP_EN && !decide (f.kind = 1) && trapped data then s.admitFrame f (s.get Reg.PRS_ISOLATE_TRAP_QUEUE) none
  else (s.bump (Reg.n_parse_isolate_drop p)).dropFrame f 2

/-- The two lookups of a template and the record they give (R162, R163). -/
def State.twoLookups (s : State) (b t key : Nat) : Option (List Byte) × State :=
  match s.slotLookup b t 0 key with
  | (some r, s) => (some r.action, s)
  | (none, s) =>
    match s.slotLookup b t 1 key with
    | (some r, s) => (some r.action, s)
    | (none, s) => (none, s)

/-- A frame that has chosen template `t` of bank `b` (R159–R163). -/
def State.classified (s : State) (p : Nat) (f : Frame) (b t : Nat) (data : List Byte) : State :=
  let f := { f with tmpl := t }
  if s.prsBad 1 b t then s.parityDrop p f
  else
    let s := s.bump (Reg.n_template_packets t)
    let c := s.checkFrame b t data.length data
    if c = 0 then
      let k := s.buildKey b t data (s.metadata f data.length t)
      match s.twoLookups b t k with
      | (some r, s) => s.act p f r (some (b, t, k))
      | (none, s) =>
        ((s.bump (Reg.n_parse_miss p)).bump (Reg.n_template_miss t)).actIndex p f (s.get (Reg.PRS_TMPL_ACTIONS_MISS_ACTION b t)) (some (b, t, k))
    else
      let s := s.bump (if c = 1 then Reg.n_parse_short p else if c = 2 then Reg.n_parse_length p else Reg.n_parse_checksum p)
      let s := ((s.bump (Reg.n_parse_malformed p)).bump (Reg.n_template_malformed t)).malformedEvent p t c data
      s.actIndex p f (s.get (Reg.PRS_TMPL_ACTIONS_MALFORMED_ACTION b t)) none

/-- A pipeline classifies a frame (R154, R158). -/
def State.classify (s : State) (p : Nat) (f : Frame) : State :=
  let data := s.quireData f.quire
  if s.inReset 5 p then (s.bump (Reg.n_pipe_reset_drop p)).dropFrame f 2
  else if !s.on Reg.PRS_STATUS_PROGRAMMED then s.isolate p f data
  else
    let b := s.activeBank
    let start := if f.kind = 0 then 0 else if f.kind = 1 then 1 else 2
    let lost := fun (s : State) (c : Nat) =>
      (((s.bump c).bump (Reg.n_parse_unmatched p)).unmatchedEvent p f data).actIndex p f (s.get Reg.PRS_CFG_UNMATCHED_ACTION) none
    match s.walk b data (s.metadata f data.length 0) 8 start with
    | .template t => s.classified p f b t data
    | .noArm => lost s (Reg.n_parse_no_arm p)
    | .depth => lost s (Reg.n_parse_depth p)
    | .parity _ => s.parityDrop p f

/-- Frames of hosts that wait for leaves try again on every port (R216). -/
def State.retryAll (s : State) : State :=
  s.host.ports.foldl (fun (s : State) e => if e.2.reads.isEmpty then s else s.frameRetry e.1) s

/-- The ingress queue whose turn it is: the next of a pipeline's four that holds a frame, after the one it served last (R150). -/
def State.pipeNext (s : State) (p : Nat) : Option Nat :=
  nextRR (mgetD s.tm.iqTurn p (4 * p + 3)) (((List.range 4).map (4 * p + ·)).filter (fun o => !(mgetD s.tm.ingress o []).isEmpty))

/-- The frame at the head of ingress queue `o` leaves it for its pipeline; `rest` stays. -/
def State.pipeTake (s : State) (p o : Nat) (rest : List Frame) : State :=
  ({ s with tm := { s.tm with ingress := mputD s.tm.ingress o rest [], iqTurn := mput s.tm.iqTurn p o } }).bump (Reg.n_pipe_packets p)

/-- A pipeline takes the next frame of its four ingress queues in rotation (R150, R227). One whose domain sleeps lets the frame wait
and wakes the domain (R167). -/
def State.pipeline (s : State) (p : Nat) : State :=
  match s.pipeNext p with
  | none => s
  | some o =>
    if 2 ≤ s.domState (16 + p) then s.domWake (16 + p)
    else match mgetD s.tm.ingress o [] with
      | [] => s
      | f :: t => ((s.pipeTake p o t).classify p f).retryAll

/-- PIPELINE_FRAME (R150). -/
def execPipelineFrame (p : Nat) (s : State) : Host.Outcome State Fault Refusal := s.run (s.pipeline p)

end Sys2Proof.Machine
end

