-- ==== Sys2Proof/Machine/Dequeue.lean ====
section
/-! DEFINITION. A port takes its next frame: PORT_DEQUEUE (R234–R241, R50, R131). -/

namespace Sys2Proof.Machine

/-! ## One-step timestamps (R50) -/

/-- Where the PTP message of a frame begins, and where the UDP checksum before it stands with whether the packet is IPv6. -/
def ptpAt (f : List Byte) : Option (Nat × Option (Nat × Bool)) :=
  let o := if beAt f 12 2 = 0x8100 then 18 else 14
  let ty := etherType f
  if ty = 0x88F7 then some (o, none)
  else if ty = 0x0800 ∧ beAt f (o + 9) 1 = 17 then
    let u := o + beAt f o 1 % 16 * 4
    if beAt f (u + 2) 2 = 319 then some (u + 8, some (u + 6, false)) else none
  else if ty = 0x86DD ∧ beAt f (o + 6) 1 = 17 then
    if beAt f (o + 42) 2 = 319 then some (o + 48, some (o + 46, true)) else none
  else none

/-- An originTimestamp: 48 bits of seconds and 32 of nanoseconds. -/
def originTime (t : Nat) : List Byte := beBytes 6 (t / 1000000000) ++ beBytes 4 (t % 1000000000)

/-- A UDP checksum after the words of `old` became those of `new`. -/
def csumWords : List Byte → List Byte → Nat → Nat
  | a :: b :: t, c :: d :: u, cs => csumWords t u (csumUpdate cs (a.toNat * 256 + b.toNat) (c.toNat * 256 + d.toNat))
  | _, _, cs => cs

/-- A Sync message with its transmit time; none where the frame is no Sync message (R50). -/
def oneStep (f : List Byte) (t : Nat) : Option (List Byte) :=
  match ptpAt f with
  | none => none
  | some (a, udp) =>
    if !decide (beAt f a 1 % 16 = 0) || decide (f.length < a + 44) then none
    else
      let g := overlay f (a + 34) (originTime t)
      match udp with
      | none => some g
      | some (u, false) => some (overlay g u (beBytes 2 0))
      | some (u, true) =>
        let c := csumWords (slice f (a + 34) 10) (originTime t) (beAt f u 2)
        some (overlay g u (beBytes 2 (if c = 0 then 0xFFFF else c)))

/-! ## Egress -/

/-- A frame leaves on a NET port: padded to 60 bytes, its transmit time taken and written where asked for, FCS behind it. -/
def State.netTx (s : State) (p : Nat) (f : Frame) : State :=
  let data := s.frameBytes f
  let data := data ++ List.replicate (60 - data.length) 0
  let (t, s) := s.stamp p
  let sync := if s.on (Reg.LANE_PTP_CTRL_ONE_STEP p) then oneStep data t else none
  let ts := f.tsReq && s.on (Reg.LANE_PTP_CTRL_TX_TS_EN p)
  let s := s.bump (Reg.n_ptp_tx_ts p) (b2n ts + b2n sync.isSome)
  let out := sync.getD data
  let out := out ++ leBytes 4 (crc32 out).toNat
  let s := ((s.bump (Reg.n_tx_frames p)).bump (Reg.n_tx_bytes p) out.length).emit (.frame p out)
  (s.sendEnd f (if ts then some t else none)).release f.quire

/-- A frame leaves on a CASC port as a record (R396); one that the cascade engine did not admit has no record header and is released. -/
def State.cascTx (s : State) (p : Nat) (f : Frame) : State :=
  let s := match f.casc with
    | some h =>
      let data := s.frameBytes f
      let h := h.take 6 ++ beBytes 2 data.length ++ h.drop 8
      s.casRecordOut (p / 8 - 56) h data
    | none => s
  (s.sendEnd f none).release f.quire

/-- A frame is placed in the next posted buffer of a host-receive queue's ring, its completion behind it (R131). The buffer of a
virtqueue takes the 12-byte header before the frame, and a frame too long for it is dropped (R93, R146). -/
def State.hostTx (s : State) (d k : Nat) (i : Item) (f : Frame) : State :=
  let data := s.frameBytes f
  let cap := i.segs.foldl (fun a e => a + e.2) 0
  let r : Ref := { ring := k, index := i.index, tag := i.tag, cplReq := true }
  let s := if s.isVirtio d then
      let data := List.replicate 10 0 ++ leBytes 2 1 ++ data
      if cap < data.length then s
      else (s.dmaWrite d (placeSegs i.segs 0 data)).complete r ST_OK data.length []
    else
      let n := min cap data.length
      let cut := decide (cap < data.length)
      let s := s.dmaWrite d (placeSegs i.segs 0 (data.take n))
      s.complete r (if cut then ST_RX_TRUNCATED else ST_OK) n
        [f.rxTime.getD 0, f.kind, b2n f.rxTime.isSome + 2 * b2n cut, f.port, f.tmpl, (s.quireData f.quire).length]
  (s.sendEnd f none).release f.quire

/-- A frame that leaves its queue and is not sent. -/
def State.unsent (s : State) (f : Frame) : State := (s.sendEnd f none).release f.quire

/-- Can the port start a frame (R236)? One whose link is down cannot with DOWN_ACTION HOLD, and a CASC port cannot while its replay buffer
is full. -/
def State.portTakes (s : State) (p : Nat) : Bool :=
  if 512 ≤ p then true
  else if s.portUp p then (if s.octRole (p / 8) = 3 then (s.casLink (p / 8 - 56)).waiting.isEmpty else true)
  else s.on (Reg.TM_PORT_CFG_DOWN_ACTION p)

/-- The frame a port has chosen leaves its queue. -/
def State.depart (s : State) (p q : Nat) (f : Frame) : State :=
  let len := s.wireLen f (some p)
  let s := ((s.bump Reg.n_tm_deq_packets).bump (Reg.n_port_tx_packets p)).bump (Reg.n_port_tx_bytes p) len
  let x := s.tmQueue q
  let s := s.setTmQueue q { x with deqBytes := (x.deqBytes + len) % 2 ^ 64 }
  if p < 512 then (if s.octRole (p / 8) = 3 then s.cascTx p f else s.netTx p f)
  else match s.queueOwner q, s.rxItem q with
    | some d, some (k, i) => s.hostTx d k i f
    | _, _ => s.unsent f

/-- A port selects its next frame and sends or delivers it (R234–R236, R242). A quire whose copy to HBM is not written makes the port wait
(R218); a frame of a drawer's older generation is released (R21); a poisoned one is dropped (R29). -/
def State.portNext (s : State) (p : Nat) : State :=
  if 576 ≤ p || !s.portTakes p then s
  else match s.selectQueue p false with
    | none => s
    | some (q, _) =>
      match (s.tmQueue q).frames.head? with
      | none => s
      | some h =>
        let f := h.frame
        let x := s.quire f.quire
        if (x.map (·.copying)).getD false then s
        else
          let old := decide (0 < f.drawer) && s.stale (f.drawer - 1) f.gen
          let bad := (x.map (·.poison)).getD false
          let down := decide (p < 512) && !s.portUp p
          match s.selectQueue p (!old && !down) with
          | none => s
          | some (_, s) =>
            match s.dequeue q with
            | none => s
            | some (h, s) =>
              let f := h.frame
              let s := if old then (s.bump Reg.n_stale_result_discard).unsent f
                else if down then (s.bump Reg.n_port_down_drop).unsent f
                else if bad then s.unsent f
                else s.depart p q f
              s.retryAll

/-- PORT_DEQUEUE (R234). -/
def execPortDequeue (p : Nat) (s : State) : Host.Outcome State Fault Refusal := s.run (s.portNext p)

end Sys2Proof.Machine
end

