-- ==== Sys2Proof/Machine/Err.lean ====
section
/-! DEFINITION. Commands of the ERR and DBG blocks (R487–R504) but for those that reach the register space or run a thread. -/

namespace Sys2Proof.Machine

def execReadyBoundCheck (b : Nat) (s : State) : Host.Outcome State Fault Refusal := s.run (s.boundCheck b)
def execInstanceReady (b : Nat) (s : State) : Host.Outcome State Fault Refusal := s.run (s.instReady b)
def execWarmRstNAssert (s : State) : Host.Outcome State Fault Refusal := s.always s.warmPinLow
def execWarmRstNRelease (s : State) : Host.Outcome State Fault Refusal := s.always s.warmPinHigh
def execErrWarmResetWrite (w : Nat) (s : State) : Host.Outcome State Fault Refusal := s.path (s.warmWrite w)
def execWarmResetCleared (pg : Nat) (s : State) : Host.Outcome State Fault Refusal := s.always (s.warmCleared pg)
def execManagerHalt (w : Nat) (s : State) : Host.Outcome State Fault Refusal := s.write (s.haltWrite w)
def execWdtKick (v : Nat) (s : State) : Host.Outcome State Fault Refusal := s.write (s.wdtKick v)
def execWdtHalf (s : State) : Host.Outcome State Fault Refusal := s.run s.wdtHalf
def execWdtExpire (s : State) : Host.Outcome State Fault Refusal := s.path s.wdtExpire
def execBlockReset (w : Nat) (s : State) : Host.Outcome State Fault Refusal := s.write (s.blkWrite w)
def execBlockResetDone (s : State) : Host.Outcome State Fault Refusal := s.run s.blkDone
def execDebugTokenSubmit (lam : Bool) (s : State) : Host.Outcome State Fault Refusal := s.dbgWrite lam s.tokenSubmit
def execDebugLock (lam : Bool) (s : State) : Host.Outcome State Fault Refusal := s.dbgWrite lam s.dbgLock
def execDebugUnlockExpire (s : State) : Host.Outcome State Fault Refusal := s.always s.dbgLock
def execDebugHaltDevice (lam : Bool) (s : State) : Host.Outcome State Fault Refusal := s.dbgWrite lam (s.dbgHaltDevice lam)
def execDbgThreadHalt (lam : Bool) (s : State) : Host.Outcome State Fault Refusal := s.dbgWrite lam (s.dbgThread dbgHalt)
def execDbgThreadResume (lam : Bool) (s : State) : Host.Outcome State Fault Refusal := s.dbgWrite lam (s.dbgThread dbgResume)

end Sys2Proof.Machine
end

