-- ==== Sys2Proof/Machine/Dispatch.lean ====
section
/-! DEFINITION. The meaning of each command, one arm per constructor. -/

namespace Sys2Proof.Machine

def exec (i : Instr) (s : State) : Host.Outcome State Fault Refusal :=
  match i with
  | .nocTargetAccess target master addr len perm fault arg => Sys2Proof.Machine.execNocTargetAccess target master addr len perm fault arg s
  | .nocLateReply block => Sys2Proof.Machine.execNocLateReply block s
  | .nocFlush target master => Sys2Proof.Machine.execNocFlush target master s
  | .clampRequest d => Sys2Proof.Machine.execClampRequest d s
  | .domainTransitionDone d => Sys2Proof.Machine.execDomainTransitionDone d s
  | .roleApply n w => Sys2Proof.Machine.execRoleApply n w s
  | .roleApplyDone n => Sys2Proof.Machine.execRoleApplyDone n s
  | .portAdminUp p w => Sys2Proof.Machine.execPortAdminUp p w s
  | .autonegDone p => Sys2Proof.Machine.execAutonegDone p s
  | .linkTrainingDone p => Sys2Proof.Machine.execLinkTrainingDone p s
  | .fecLock p => Sys2Proof.Machine.execFecLock p s
  | .bringupStepTimeout p => Sys2Proof.Machine.execBringupStepTimeout p s
  | .linkAlignmentLoss p remote => Sys2Proof.Machine.execLinkAlignmentLoss p remote s
  | .signalDetectChange n k up => Sys2Proof.Machine.execSignalDetectChange n k up s
  | .netFrameRx p frame bad => Sys2Proof.Machine.execNetFrameRx p frame bad s
  | .fecWindowEnd link symbols corr unc => Sys2Proof.Machine.execFecWindowEnd link symbols corr unc s
  | .spareSteerGo n w => Sys2Proof.Machine.execSpareSteerGo n w s
  | .spareAdaptConverged n => Sys2Proof.Machine.execSpareAdaptConverged n s
  | .spareChangeover n unc => Sys2Proof.Machine.execSpareChangeover n unc s
  | .spareVerifyEnd n good symbols => Sys2Proof.Machine.execSpareVerifyEnd n good symbols s
  | .spareRevert n => Sys2Proof.Machine.execSpareRevert n s
  | .todStepGo w => Sys2Proof.Machine.execTodStepGo w s
  | .todRateWrite w => Sys2Proof.Machine.execTodRateWrite w s
  | .hostTrainingStart q => Sys2Proof.Machine.execHostTrainingStart q s
  | .hostLinkL0 q speed width flit => Sys2Proof.Machine.execHostLinkL0 q speed width flit s
  | .hostRateChangeEnd q speed width flit => Sys2Proof.Machine.execHostRateChangeEnd q speed width flit s
  | .hostLinkSettledLow q speed => Sys2Proof.Machine.execHostLinkSettledLow q speed s
  | .hostRetrain q => Sys2Proof.Machine.execHostRetrain q s
  | .hostRetrainDone q speed width flit replayed => Sys2Proof.Machine.execHostRetrainDone q speed width flit replayed s
  | .hostEnableSet q => Sys2Proof.Machine.execHostEnableSet q s
  | .hostEnableClear q => Sys2Proof.Machine.execHostEnableClear q s
  | .totalVfsWrite q f w => Sys2Proof.Machine.execTotalVfsWrite q f w s
  | .orderModeWrite q mode => Sys2Proof.Machine.execOrderModeWrite q mode s
  | .mgrPortWrite v => Sys2Proof.Machine.execMgrPortWrite v s
  | .mgrPortPlace => Sys2Proof.Machine.execMgrPortPlace s
  | .vfEnableSet q f n => Sys2Proof.Machine.execVfEnableSet q f n s
  | .vfEnableClear q f => Sys2Proof.Machine.execVfEnableClear q f s
  | .hostTotalVfsWrite q f n => Sys2Proof.Machine.execHostTotalVfsWrite q f n s
  | .configRequest q fn op => Sys2Proof.Machine.execConfigRequest q fn op s
  | .barMemoryRead q fn bar off len requester => Sys2Proof.Machine.execBarMemoryRead q fn bar off len requester s
  | .barMemoryWrite q fn bar off data requester => Sys2Proof.Machine.execBarMemoryWrite q fn bar off data requester s
  | .hostDmaCompletion q tag good data => Sys2Proof.Machine.execHostDmaCompletion q tag good data s
  | .hostDmaTimeout q tag => Sys2Proof.Machine.execHostDmaTimeout q tag s
  | .atsTranslationReply q fn page xlat perm => Sys2Proof.Machine.execAtsTranslationReply q fn page xlat perm s
  | .atsInvalidationRequest q tag fn page pages => Sys2Proof.Machine.execAtsInvalidationRequest q tag fn page pages s
  | .atsInvalidationComplete q tag => Sys2Proof.Machine.execAtsInvalidationComplete q tag s
  | .ltrChange q => Sys2Proof.Machine.execLtrChange q s
  | .d3hotEntry q fn => Sys2Proof.Machine.execD3hotEntry q fn s
  | .pmeTurnOff q => Sys2Proof.Machine.execPmeTurnOff q s
  | .l2EntryDone q => Sys2Proof.Machine.execL2EntryDone q s
  | .wakeConditionL2 q fn cond => Sys2Proof.Machine.execWakeConditionL2 q fn cond s
  | .perstAssert q => Sys2Proof.Machine.execPerstAssert q s
  | .perstRelease q => Sys2Proof.Machine.execPerstRelease q s
  | .hotResetRx q => Sys2Proof.Machine.execHotResetRx q s
  | .linkDisableRx q => Sys2Proof.Machine.execLinkDisableRx q s
  | .surpriseLoss q => Sys2Proof.Machine.execSurpriseLoss q s
  | .vfFlr q f v => Sys2Proof.Machine.execVfFlr q f v s
  | .pfFlr q f => Sys2Proof.Machine.execPfFlr q f s
  | .portRetire q => Sys2Proof.Machine.execPortRetire q s
  | .retireAck q => Sys2Proof.Machine.execRetireAck q s
  | .retireTimeout q => Sys2Proof.Machine.execRetireTimeout q s
  | .drawerCreate r e conts => Sys2Proof.Machine.execDrawerCreate r e conts s
  | .drawerBind r e => Sys2Proof.Machine.execDrawerBind r e s
  | .drawerUnbind r e => Sys2Proof.Machine.execDrawerUnbind r e s
  | .drawerQuiesce r e => Sys2Proof.Machine.execDrawerQuiesce r e s
  | .drawerReset r e => Sys2Proof.Machine.execDrawerReset r e s
  | .drawerResume r e => Sys2Proof.Machine.execDrawerResume r e s
  | .drawerResize r e conts => Sys2Proof.Machine.execDrawerResize r e conts s
  | .drawerDestroy r e => Sys2Proof.Machine.execDrawerDestroy r e s
  | .fenceSet r e => Sys2Proof.Machine.execFenceSet r e s
  | .fenceClear r e => Sys2Proof.Machine.execFenceClear r e s
  | .quiesceFetchIdle d => Sys2Proof.Machine.execQuiesceFetchIdle d s
  | .quiesceDrainDone d => Sys2Proof.Machine.execQuiesceDrainDone d s
  | .quiesceDrainTimeout d => Sys2Proof.Machine.execQuiesceDrainTimeout d s
  | .quiesceAbortDone d => Sys2Proof.Machine.execQuiesceAbortDone d s
  | .generationPurgeDone d => Sys2Proof.Machine.execGenerationPurgeDone d s
  | .quiesceFlushReadDone d => Sys2Proof.Machine.execQuiesceFlushReadDone d s
  | .resetStepDone d => Sys2Proof.Machine.execResetStepDone d s
  | .nvmeCcEnClear d => Sys2Proof.Machine.execNvmeCcEnClear d s
  | .nvmeShutdown d mode => Sys2Proof.Machine.execNvmeShutdown d mode s
  | .nvmeDoorbell d y cq v bad => Sys2Proof.Machine.execNvmeDoorbell d y cq v bad s
  | .nvmeDeleteIoSq d cid qid => Sys2Proof.Machine.execNvmeDeleteIoSq d cid qid s
  | .nvmeDeleteIoCq d cid qid => Sys2Proof.Machine.execNvmeDeleteIoCq d cid qid s
  | .nvmeCreateIoSq d cid base qid size pc cqid => Sys2Proof.Machine.execNvmeCreateIoSq d cid base qid size pc cqid s
  | .nvmeCreateIoCq d cid base qid size pc ien iv => Sys2Proof.Machine.execNvmeCreateIoCq d cid base qid size pc ien iv s
  | .nvmeGetLogPage d cid lid len segs => Sys2Proof.Machine.execNvmeGetLogPage d cid lid len segs s
  | .nvmeIdentify d cid nsid cns segs => Sys2Proof.Machine.execNvmeIdentify d cid nsid cns segs s
  | .nvmeAbort d cid sqid acid => Sys2Proof.Machine.execNvmeAbort d cid sqid acid s
  | .nvmeSetFeatures d cid fid v => Sys2Proof.Machine.execNvmeSetFeatures d cid fid v s
  | .nvmeGetFeatures d cid fid => Sys2Proof.Machine.execNvmeGetFeatures d cid fid s
  | .nvmeAsyncEventRequest d cid => Sys2Proof.Machine.execNvmeAsyncEventRequest d cid s
  | .nvmeFlush d y cid nsid => Sys2Proof.Machine.execNvmeFlush d y cid nsid s
  | .nvmeWrite d y cid nsid slba nlb host io refuse => Sys2Proof.Machine.execNvmeWrite d y cid nsid slba nlb host io refuse s
  | .nvmeRead d y cid nsid slba nlb hit poison io segs => Sys2Proof.Machine.execNvmeRead d y cid nsid slba nlb hit poison io segs s
  | .nvmeWriteZeroes d y cid nsid slba nlb io refuse => Sys2Proof.Machine.execNvmeWriteZeroes d y cid nsid slba nlb io refuse s
  | .nvmeDatasetManagement d y cid nsid => Sys2Proof.Machine.execNvmeDatasetManagement d y cid nsid s
  | .virtioDeviceStatusReset d => Sys2Proof.Machine.execVirtioDeviceStatusReset d s
  | .virtioNotify d vq cnt usec bufs => Sys2Proof.Machine.execVirtioNotify d vq cnt usec bufs s
  | .virtioNetCtrlMqVqPairsSet d id pairs addr => Sys2Proof.Machine.execVirtioNetCtrlMqVqPairsSet d id pairs addr s
  | .virtioCtrlOther d id addr => Sys2Proof.Machine.execVirtioCtrlOther d id addr s
  | .doorbell who w => Sys2Proof.Machine.execDoorbell who w s
  | .slip who off whole data => Sys2Proof.Machine.execSlip who off whole data s
  | .attachSlip d page whole data => Sys2Proof.Machine.execAttachSlip d page whole data s
  | .nop r e => Sys2Proof.Machine.execNop r e s
  | .ringCreate r e => Sys2Proof.Machine.execRingCreate r e s
  | .cplCreate r e => Sys2Proof.Machine.execCplCreate r e s
  | .ringDisable r e => Sys2Proof.Machine.execRingDisable r e s
  | .ringDestroy r e => Sys2Proof.Machine.execRingDestroy r e s
  | .cplModerate r e => Sys2Proof.Machine.execCplModerate r e s
  | .ringStopped k => Sys2Proof.Machine.execRingStopped k s
  | .ringFetch k stat entries => Sys2Proof.Machine.execRingFetch k stat entries s
  | .ownerStaleRetry k tries => Sys2Proof.Machine.execOwnerStaleRetry k tries s
  | .headMirrorTimer k => Sys2Proof.Machine.execHeadMirrorTimer k s
  | .cqStarveTimer k => Sys2Proof.Machine.execCqStarveTimer k s
  | .msixModTimer k => Sys2Proof.Machine.execMsixModTimer k s
  | .frameSend r e conts => Sys2Proof.Machine.execFrameSend r e conts s
  | .frameRecv r e conts => Sys2Proof.Machine.execFrameRecv r e conts s
  | .controlDoorbellReg v => Sys2Proof.Machine.execControlDoorbellReg v s
  | .controlSlotEnable c v => Sys2Proof.Machine.execControlSlotEnable c v s
  | .controlSlotDisable c v => Sys2Proof.Machine.execControlSlotDisable c v s
  | .pipelineFrame p => Sys2Proof.Machine.execPipelineFrame p s
  | .bankSwitch => Sys2Proof.Machine.execBankSwitch s
  | .bankValidateDone => Sys2Proof.Machine.execBankValidateDone s
  | .bankSwitchDone => Sys2Proof.Machine.execBankSwitchDone s
  | .forceIsolate => Sys2Proof.Machine.execForceIsolate s
  | .forceIsolateDone => Sys2Proof.Machine.execForceIsolateDone s
  | .prsBankWrite addr v => Sys2Proof.Machine.execPrsBankWrite addr v s
  | .prsActCommitGo index => Sys2Proof.Machine.execPrsActCommitGo index s
  | .prsEditCommitGo index => Sys2Proof.Machine.execPrsEditCommitGo index s
  | .prsParityScan bad => Sys2Proof.Machine.execPrsParityScan bad s
  | .emInsert r table words flags action key => Sys2Proof.Machine.execEmInsert r table words flags action key s
  | .emUpdate r table words action key => Sys2Proof.Machine.execEmUpdate r table words action key s
  | .emDelete r table words key => Sys2Proof.Machine.execEmDelete r table words key s
  | .emQuery r table words key => Sys2Proof.Machine.execEmQuery r table words key s
  | .lpmInsert r table words flags plen action key => Sys2Proof.Machine.execLpmInsert r table words flags plen action key s
  | .lpmDelete r table words plen key => Sys2Proof.Machine.execLpmDelete r table words plen key s
  | .tableFlush r table flags => Sys2Proof.Machine.execTableFlush r table flags s
  | .learnCommit shard => Sys2Proof.Machine.execLearnCommit shard s
  | .scannerVisit tier index err race => Sys2Proof.Machine.execScannerVisit tier index err race s
  | .sweepEnd table => Sys2Proof.Machine.execSweepEnd table s
  | .lpmRebalanceGo gap => Sys2Proof.Machine.execLpmRebalanceGo gap s
  | .lpmRebalanceEnd => Sys2Proof.Machine.execLpmRebalanceEnd s
  | .tcamScrub bad => Sys2Proof.Machine.execTcamScrub bad s
  | .tableParityInvalidate tier index lpm => Sys2Proof.Machine.execTableParityInvalidate tier index lpm s
  | .fwTableLookup thread replyEp shard table words key => Sys2Proof.Machine.execFwTableLookup thread replyEp shard table words key s
  | .tblSplitWrite area v => Sys2Proof.Machine.execTblSplitWrite area v s
  | .tblSeedWrite shard hbm v => Sys2Proof.Machine.execTblSeedWrite shard hbm v s
  | .tblHbmEnWrite v => Sys2Proof.Machine.execTblHbmEnWrite v s
  | .tblHbmClearDone => Sys2Proof.Machine.execTblHbmClearDone s
  | .tblTableCfgWrite table v => Sys2Proof.Machine.execTblTableCfgWrite table v s
  | .cellAlloc t rep tier len => Sys2Proof.Machine.execCellAlloc t rep tier len s
  | .cellHold t rep p => Sys2Proof.Machine.execCellHold t rep p s
  | .cellRelease t rep p => Sys2Proof.Machine.execCellRelease t rep p s
  | .cellRead t rep p off len => Sys2Proof.Machine.execCellRead t rep p off len s
  | .cellWrite t rep p off len data => Sys2Proof.Machine.execCellWrite t rep p off len data s
  | .cellStat t rep p => Sys2Proof.Machine.execCellStat t rep p s
  | .spillCopyWritten p => Sys2Proof.Machine.execSpillCopyWritten p s
  | .cellInspect v => Sys2Proof.Machine.execCellInspect v s
  | .cellHeadroomWrite v => Sys2Proof.Machine.execCellHeadroomWrite v s
  | .portDequeue p => Sys2Proof.Machine.execPortDequeue p s
  | .tmCommitQueue index flush => Sys2Proof.Machine.execTmCommitQueue index flush s
  | .tmCommitSubscriber index => Sys2Proof.Machine.execTmCommitSubscriber index s
  | .tmCommitGroup index => Sys2Proof.Machine.execTmCommitGroup index s
  | .tmCommitShaper index => Sys2Proof.Machine.execTmCommitShaper index s
  | .tmCommitPolicer index => Sys2Proof.Machine.execTmCommitPolicer index s
  | .tmCommitReplList index => Sys2Proof.Machine.execTmCommitReplList index s
  | .tmCommitRead kind index clear => Sys2Proof.Machine.execTmCommitRead kind index clear s
  | .tmPortModeWrite p v => Sys2Proof.Machine.execTmPortModeWrite p v s
  | .calendarSlotReached kind index => Sys2Proof.Machine.execCalendarSlotReached kind index s
  | .queueSample q => Sys2Proof.Machine.execQueueSample q s
  | .coreDelivery n => Sys2Proof.Machine.execCoreDelivery n s
  | .send r e conts => Sys2Proof.Machine.execSend r e conts s
  | .write r e conts => Sys2Proof.Machine.execWrite r e conts s
  | .read r e conts => Sys2Proof.Machine.execRead r e conts s
  | .fetchAdd r e => Sys2Proof.Machine.execFetchAdd r e s
  | .compSwap r e => Sys2Proof.Machine.execCompSwap r e s
  | .connConnect r e => Sys2Proof.Machine.execConnConnect r e s
  | .connClose r e => Sys2Proof.Machine.execConnClose r e s
  | .connReset r e => Sys2Proof.Machine.execConnReset r e s
  | .connQuery r e => Sys2Proof.Machine.execConnQuery r e s
  | .recv r e conts => Sys2Proof.Machine.execRecv r e conts s
  | .keyRegister r e => Sys2Proof.Machine.execKeyRegister r e s
  | .keyRevoke r e => Sys2Proof.Machine.execKeyRevoke r e s
  | .keyRevokeDone key => Sys2Proof.Machine.execKeyRevokeDone key s
  | .revokeSlowTimer key => Sys2Proof.Machine.execRevokeSlowTimer key s
  | .connDrainEnd c => Sys2Proof.Machine.execConnDrainEnd c s
  | .closeMsExpire c => Sys2Proof.Machine.execCloseMsExpire c s
  | .xptOpStart c => Sys2Proof.Machine.execXptOpStart c s
  | .contextFetchDone c bad => Sys2Proof.Machine.execContextFetchDone c bad s
  | .packetSend c data stat => Sys2Proof.Machine.execPacketSend c data stat s
  | .sendData p auth => Sys2Proof.Machine.execSendData p auth s
  | .writeData p auth => Sys2Proof.Machine.execWriteData p auth s
  | .readReq p auth => Sys2Proof.Machine.execReadReq p auth s
  | .readResp p auth => Sys2Proof.Machine.execReadResp p auth s
  | .fetchAddReq p auth => Sys2Proof.Machine.execFetchAddReq p auth s
  | .compSwapReq p auth => Sys2Proof.Machine.execCompSwapReq p auth s
  | .atomicResp p auth => Sys2Proof.Machine.execAtomicResp p auth s
  | .abandon p auth => Sys2Proof.Machine.execAbandon p auth s
  | .fill p auth => Sys2Proof.Machine.execFill p auth s
  | .ack p auth => Sys2Proof.Machine.execAck p auth s
  | .nak p auth => Sys2Proof.Machine.execNak p auth s
  | .resetNotice p => Sys2Proof.Machine.execResetNotice p s
  | .ackDelayExpire c => Sys2Proof.Machine.execAckDelayExpire c s
  | .rtoExpire c => Sys2Proof.Machine.execRtoExpire c s
  | .rnrWaitExpire c seq => Sys2Proof.Machine.execRnrWaitExpire c seq s
  | .pathHoldExpire c => Sys2Proof.Machine.execPathHoldExpire c s
  | .rocePacket p crc => Sys2Proof.Machine.execRocePacket p crc s
  | .cnp p crc => Sys2Proof.Machine.execCnp p crc s
  | .xptConnSnapshot v => Sys2Proof.Machine.execXptConnSnapshot v s
  | .xptKeySnapshot v => Sys2Proof.Machine.execXptKeySnapshot v s
  | .baseInstruction t => Sys2Proof.Machine.execBaseInstruction t s
  | .chput t rd rs1 rs2 => Sys2Proof.Machine.execChput t rd rs1 rs2 s
  | .chputl t rd rs1 rs2 => Sys2Proof.Machine.execChputl t rd rs1 rs2 s
  | .chputln t rd rs1 rs2 => Sys2Proof.Machine.execChputln t rd rs1 rs2 s
  | .chrecv t rd rs1 rs2 => Sys2Proof.Machine.execChrecv t rd rs1 rs2 s
  | .chrecvn t rd rs1 => Sys2Proof.Machine.execChrecvn t rd rs1 s
  | .chhdr t rd rs1 rs2 => Sys2Proof.Machine.execChhdr t rd rs1 rs2 s
  | .chhdrn t rd rs1 => Sys2Proof.Machine.execChhdrn t rd rs1 s
  | .chskip t rd rs1 => Sys2Proof.Machine.execChskip t rd rs1 s
  | .pwait t rd rs1 rs2 => Sys2Proof.Machine.execPwait t rd rs1 rs2 s
  | .pwaitn t rd rs1 => Sys2Proof.Machine.execPwaitn t rd rs1 s
  | .pset t rd rs1 rs2 => Sys2Proof.Machine.execPset t rd rs1 rs2 s
  | .tstart t rd rs1 rs2 => Sys2Proof.Machine.execTstart t rd rs1 rs2 s
  | .trelease t rd rs1 => Sys2Proof.Machine.execTrelease t rd rs1 s
  | .texit t rd => Sys2Proof.Machine.execTexit t rd s
  | .tgroup t rd => Sys2Proof.Machine.execTgroup t rd s
  | .tinfo t rd => Sys2Proof.Machine.execTinfo t rd s
  | .chMessageArrival src dest => Sys2Proof.Machine.execChMessageArrival src dest s
  | .chCommitDelivered t => Sys2Proof.Machine.execChCommitDelivered t s
  | .threadWaitTimeout t => Sys2Proof.Machine.execThreadWaitTimeout t s
  | .waitAllDetect t => Sys2Proof.Machine.execWaitAllDetect t s
  | .threadStartReg t v => Sys2Proof.Machine.execThreadStartReg t v s
  | .threadReset t v => Sys2Proof.Machine.execThreadReset t v s
  | .stageDiscard v => Sys2Proof.Machine.execStageDiscard v s
  | .epCfgWrite n c e v => Sys2Proof.Machine.execEpCfgWrite n c e v s
  | .threadShareWrite t v => Sys2Proof.Machine.execThreadShareWrite t v s
  | .sealBind r e => Sys2Proof.Machine.execSealBind r e s
  | .sealUnbind r e => Sys2Proof.Machine.execSealUnbind r e s
  | .cipher r e host => Sys2Proof.Machine.execCipher r e host s
  | .digest r e host => Sys2Proof.Machine.execDigest r e host s
  | .compress r e host => Sys2Proof.Machine.execCompress r e host s
  | .decompress r e host => Sys2Proof.Machine.execDecompress r e host s
  | .ecEncode r e conts host => Sys2Proof.Machine.execEcEncode r e conts host s
  | .ecDecode r e conts host => Sys2Proof.Machine.execEcDecode r e conts host s
  | .keyLoad r e conts => Sys2Proof.Machine.execKeyLoad r e conts s
  | .keyGen r e => Sys2Proof.Machine.execKeyGen r e s
  | .keyClear r e => Sys2Proof.Machine.execKeyClear r e s
  | .sign r e host => Sys2Proof.Machine.execSign r e host s
  | .verify r e host => Sys2Proof.Machine.execVerify r e host s
  | .kemEncapsulate r e host => Sys2Proof.Machine.execKemEncapsulate r e host s
  | .kemDecapsulate r e host => Sys2Proof.Machine.execKemDecapsulate r e host s
  | .sealOpen r e => Sys2Proof.Machine.execSealOpen r e s
  | .sealAppend r e host => Sys2Proof.Machine.execSealAppend r e host s
  | .sealCheckpoint r e => Sys2Proof.Machine.execSealCheckpoint r e s
  | .sealIntervalBoundary g => Sys2Proof.Machine.execSealIntervalBoundary g s
  | .jobSlotFreed => Sys2Proof.Machine.execJobSlotFreed s
  | .slotStarveTimer ring => Sys2Proof.Machine.execSlotStarveTimer ring s
  | .volCreate r e => Sys2Proof.Machine.execVolCreate r e s
  | .volTarget r e conts => Sys2Proof.Machine.execVolTarget r e conts s
  | .volDestroy r e => Sys2Proof.Machine.execVolDestroy r e s
  | .commitAnswer d nsid t seq status => Sys2Proof.Machine.execCommitAnswer d nsid t seq status s
  | .flushMsExpire d nsid t seq => Sys2Proof.Machine.execFlushMsExpire d nsid t seq s
  | .rebuildStripe d nsid t chunks => Sys2Proof.Machine.execRebuildStripe d nsid t chunks s
  | .accEndpointJob t rep words => Sys2Proof.Machine.execAccEndpointJob t rep words s
  | .accEnable v => Sys2Proof.Machine.execAccEnable v s
  | .ktClearDone => Sys2Proof.Machine.execKtClearDone s
  | .hbmScrub a bad => Sys2Proof.Machine.execHbmScrub a bad s
  | .sramScrub bank off bad leaf => Sys2Proof.Machine.execSramScrub bank off bad leaf s
  | .wearWindowEnd => Sys2Proof.Machine.execWearWindowEnd s
  | .memRegionCfgWrite v => Sys2Proof.Machine.execMemRegionCfgWrite v s
  | .hbmCalibrated stack => Sys2Proof.Machine.execHbmCalibrated stack s
  | .hbmTrained stack ok pc spares => Sys2Proof.Machine.execHbmTrained stack ok pc spares s
  | .hbmCleared stack => Sys2Proof.Machine.execHbmCleared stack s
  | .hbmRetrain v => Sys2Proof.Machine.execHbmRetrain v s
  | .rowRepairGo v => Sys2Proof.Machine.execRowRepairGo v s
  | .pcSpareStateWrite stack k v => Sys2Proof.Machine.execPcSpareStateWrite stack k v s
  | .errorInjectArm v => Sys2Proof.Machine.execErrorInjectArm v s
  | .casTrainingDone l => Sys2Proof.Machine.execCasTrainingDone l s
  | .casPcsLock l => Sys2Proof.Machine.execCasPcsLock l s
  | .flitAligned l => Sys2Proof.Machine.execFlitAligned l s
  | .helloDone l => Sys2Proof.Machine.execHelloDone l s
  | .casStepTimeout l => Sys2Proof.Machine.execCasStepTimeout l s
  | .idleFlit l flit => Sys2Proof.Machine.execIdleFlit l flit s
  | .dataFlit l flit => Sys2Proof.Machine.execDataFlit l flit s
  | .heartbeatFlit l flit => Sys2Proof.Machine.execHeartbeatFlit l flit s
  | .heartbeatSend l => Sys2Proof.Machine.execHeartbeatSend l s
  | .heartbeatLoss l => Sys2Proof.Machine.execHeartbeatLoss l s
  | .casLockLoss l => Sys2Proof.Machine.execCasLockLoss l s
  | .spareReq l flit => Sys2Proof.Machine.execSpareReq l flit s
  | .spareAck l flit => Sys2Proof.Machine.execSpareAck l flit s
  | .spareNak l flit => Sys2Proof.Machine.execSpareNak l flit s
  | .spareGo l flit => Sys2Proof.Machine.execSpareGo l flit s
  | .altHoldExpire x => Sys2Proof.Machine.execAltHoldExpire x s
  | .remoteAccessReadGo w => Sys2Proof.Machine.execRemoteAccessReadGo w s
  | .remoteAccessWriteGo w => Sys2Proof.Machine.execRemoteAccessWriteGo w s
  | .remoteReadRequest l flit => Sys2Proof.Machine.execRemoteReadRequest l flit s
  | .remoteWriteRequest l flit => Sys2Proof.Machine.execRemoteWriteRequest l flit s
  | .remoteResponse l flit => Sys2Proof.Machine.execRemoteResponse l flit s
  | .remoteAccessTimeout => Sys2Proof.Machine.execRemoteAccessTimeout s
  | .casDevIdWrite v => Sys2Proof.Machine.execCasDevIdWrite v s
  | .pwrReqRun => Sys2Proof.Machine.execPwrReqRun s
  | .pwrReqIdle => Sys2Proof.Machine.execPwrReqIdle s
  | .pwrReqSleep => Sys2Proof.Machine.execPwrReqSleep s
  | .pwrReqDeep => Sys2Proof.Machine.execPwrReqDeep s
  | .pwrReqOff => Sys2Proof.Machine.execPwrReqOff s
  | .domainStateGo d w => Sys2Proof.Machine.execDomainStateGo d w s
  | .idleTransitionDone => Sys2Proof.Machine.execIdleTransitionDone s
  | .sleepEntryDone => Sys2Proof.Machine.execSleepEntryDone s
  | .sleepExitDone => Sys2Proof.Machine.execSleepExitDone s
  | .deepAdmissionClosed => Sys2Proof.Machine.execDeepAdmissionClosed s
  | .deepDrainDone => Sys2Proof.Machine.execDeepDrainDone s
  | .deepDrainTimeout => Sys2Proof.Machine.execDeepDrainTimeout s
  | .deepParked => Sys2Proof.Machine.execDeepParked s
  | .deepSaveDone mib => Sys2Proof.Machine.execDeepSaveDone mib s
  | .deepSelfRefreshDone => Sys2Proof.Machine.execDeepSelfRefreshDone s
  | .deepRailsOff => Sys2Proof.Machine.execDeepRailsOff s
  | .deepExitRailsGood pg => Sys2Proof.Machine.execDeepExitRailsGood pg s
  | .deepExitPllLock => Sys2Proof.Machine.execDeepExitPllLock s
  | .deepExitHbmReady badP badW => Sys2Proof.Machine.execDeepExitHbmReady badP badW s
  | .deepExitRestoreDone bad => Sys2Proof.Machine.execDeepExitRestoreDone bad s
  | .offEntryDone => Sys2Proof.Machine.execOffEntryDone s
  | .wakeInFall => Sys2Proof.Machine.execWakeInFall s
  | .wakeFrame mgmt frame => Sys2Proof.Machine.execWakeFrame mgmt frame s
  | .alarmReached => Sys2Proof.Machine.execAlarmReached s
  | .mgmtSignalDetect => Sys2Proof.Machine.execMgmtSignalDetect s
  | .standbyGood => Sys2Proof.Machine.execStandbyGood s
  | .standbyRailLoss => Sys2Proof.Machine.execStandbyRailLoss s
  | .suppliesGood pg => Sys2Proof.Machine.execSuppliesGood pg s
  | .supplyTimeout => Sys2Proof.Machine.execSupplyTimeout s
  | .supplyRetryRelease => Sys2Proof.Machine.execSupplyRetryRelease s
  | .pgInFall r => Sys2Proof.Machine.execPgInFall r s
  | .railPgTimeout n => Sys2Proof.Machine.execRailPgTimeout n s
  | .sysRefclkStable => Sys2Proof.Machine.execSysRefclkStable s
  | .fuseSenseDone fuses => Sys2Proof.Machine.execFuseSenseDone fuses s
  | .porNAssert => Sys2Proof.Machine.execPorNAssert s
  | .porNRelease => Sys2Proof.Machine.execPorNRelease s
  | .sysRefclkLoss => Sys2Proof.Machine.execSysRefclkLoss s
  | .netRefclkLoss m => Sys2Proof.Machine.execNetRefclkLoss m s
  | .pcieRefclkLoss n => Sys2Proof.Machine.execPcieRefclkLoss n s
  | .jigTick health ds => Sys2Proof.Machine.execJigTick health ds s
  | .jigLogConsWrite v => Sys2Proof.Machine.execJigLogConsWrite v s
  | .jigLogSignalTimer => Sys2Proof.Machine.execJigLogSignalTimer s
  | .thermalThrottle n temp => Sys2Proof.Machine.execThermalThrottle n temp s
  | .throttleRelease n temp => Sys2Proof.Machine.execThrottleRelease n temp s
  | .thermtrip n temp => Sys2Proof.Machine.execThermtrip n temp s
  | .coreSpareIdle n => Sys2Proof.Machine.execCoreSpareIdle n s
  | .coreSpareSelftestDone n ok => Sys2Proof.Machine.execCoreSpareSelftestDone n ok s
  | .remapCursorSave => Sys2Proof.Machine.execRemapCursorSave s
  | .remapCopyDone => Sys2Proof.Machine.execRemapCopyDone s
  | .remapVerifyDone ok => Sys2Proof.Machine.execRemapVerifyDone ok s
  | .fuseBurnDone ok => Sys2Proof.Machine.execFuseBurnDone ok s
  | .loaderDirectoryRead d0 d1 => Sys2Proof.Machine.execLoaderDirectoryRead d0 d1 s
  | .loaderFrontChecked front => Sys2Proof.Machine.execLoaderFrontChecked front s
  | .loaderSectionsCopied stage1 plan jig => Sys2Proof.Machine.execLoaderSectionsCopied stage1 plan jig s
  | .loaderReadbackChecked => Sys2Proof.Machine.execLoaderReadbackChecked s
  | .stage1Start => Sys2Proof.Machine.execStage1Start s
  | .confirm => Sys2Proof.Machine.execConfirm s
  | .proofAbandon => Sys2Proof.Machine.execProofAbandon s
  | .recover => Sys2Proof.Machine.execRecover s
  | .handoff => Sys2Proof.Machine.execHandoff s
  | .stage k => Sys2Proof.Machine.execStage k s
  | .stageCheckDone front secs => Sys2Proof.Machine.execStageCheckDone front secs s
  | .proofWatchdogExpire => Sys2Proof.Machine.execProofWatchdogExpire s
  | .directoryUpdateDone => Sys2Proof.Machine.execDirectoryUpdateDone s
  | .loaderFuseBurnDone => Sys2Proof.Machine.execLoaderFuseBurnDone s
  | .flashRead => Sys2Proof.Machine.execFlashRead s
  | .flashProgram => Sys2Proof.Machine.execFlashProgram s
  | .flashErase => Sys2Proof.Machine.execFlashErase s
  | .flashCopy => Sys2Proof.Machine.execFlashCopy s
  | .flashOpDone data => Sys2Proof.Machine.execFlashOpDone data s
  | .bootDigestGo => Sys2Proof.Machine.execBootDigestGo s
  | .bootDigestDone => Sys2Proof.Machine.execBootDigestDone s
  | .recoveryIdent path frame => Sys2Proof.Machine.execRecoveryIdent path frame s
  | .recoveryErase path frame ok => Sys2Proof.Machine.execRecoveryErase path frame ok s
  | .recoveryWrite path frame ok => Sys2Proof.Machine.execRecoveryWrite path frame ok s
  | .recoveryRead path frame data => Sys2Proof.Machine.execRecoveryRead path frame data s
  | .recoveryStage path frame front secs => Sys2Proof.Machine.execRecoveryStage path frame front secs s
  | .recoveryReset path frame => Sys2Proof.Machine.execRecoveryReset path frame s
  | .readyBoundCheck b => Sys2Proof.Machine.execReadyBoundCheck b s
  | .warmRstNAssert => Sys2Proof.Machine.execWarmRstNAssert s
  | .warmRstNRelease => Sys2Proof.Machine.execWarmRstNRelease s
  | .errWarmResetWrite w => Sys2Proof.Machine.execErrWarmResetWrite w s
  | .warmResetCleared pg => Sys2Proof.Machine.execWarmResetCleared pg s
  | .managerHalt w => Sys2Proof.Machine.execManagerHalt w s
  | .colophonComplete failed => Sys2Proof.Machine.execColophonComplete failed s
  | .wdtKick v => Sys2Proof.Machine.execWdtKick v s
  | .wdtHalf => Sys2Proof.Machine.execWdtHalf s
  | .wdtExpire => Sys2Proof.Machine.execWdtExpire s
  | .blockReset w => Sys2Proof.Machine.execBlockReset w s
  | .blockResetDone => Sys2Proof.Machine.execBlockResetDone s
  | .lamiskRegisterRead tr req => Sys2Proof.Machine.execLamiskRegisterRead tr req s
  | .lamiskRegisterWrite tr req => Sys2Proof.Machine.execLamiskRegisterWrite tr req s
  | .lamiskMemoryRead tr req => Sys2Proof.Machine.execLamiskMemoryRead tr req s
  | .lamiskMemoryWrite tr req => Sys2Proof.Machine.execLamiskMemoryWrite tr req s
  | .debugTokenSubmit lam => Sys2Proof.Machine.execDebugTokenSubmit lam s
  | .debugLock lam => Sys2Proof.Machine.execDebugLock lam s
  | .debugUnlockExpire => Sys2Proof.Machine.execDebugUnlockExpire s
  | .debugHaltDevice lam => Sys2Proof.Machine.execDebugHaltDevice lam s
  | .dbgThreadHalt lam => Sys2Proof.Machine.execDbgThreadHalt lam s
  | .dbgThreadResume lam => Sys2Proof.Machine.execDbgThreadResume lam s
  | .dbgThreadStep lam => Sys2Proof.Machine.execDbgThreadStep lam s
  | .registerWrite m a data => Sys2Proof.Machine.execRegisterWrite m a data s
  | .pairLowRead m a => Sys2Proof.Machine.execPairLowRead m a s
  | .glbSyncRead m => Sys2Proof.Machine.execGlbSyncRead m s
  | .uartTxWrite v => Sys2Proof.Machine.execUartTxWrite v s
  | .uartRxRead m => Sys2Proof.Machine.execUartRxRead m s
  | .uartRxByte v => Sys2Proof.Machine.execUartRxByte v s
  | .ppsInEdge => Sys2Proof.Machine.execPpsInEdge s
  | .ppsOutSecond => Sys2Proof.Machine.execPpsOutSecond s
  | .i3cPointerWrite p => Sys2Proof.Machine.execI3cPointerWrite p s
  | .i3cRegisterWrite p v => Sys2Proof.Machine.execI3cRegisterWrite p v s
  | .i3cRead n => Sys2Proof.Machine.execI3cRead n s
  | .i3cAddressAssign a => Sys2Proof.Machine.execI3cAddressAssign a s
  | .mgmtLinkUp => Sys2Proof.Machine.execMgmtLinkUp s
  | .mgmtRegisterRead frame => Sys2Proof.Machine.execMgmtRegisterRead frame s
  | .mgmtRegisterWrite frame => Sys2Proof.Machine.execMgmtRegisterWrite frame s
  | .mgmtMemoryRead frame => Sys2Proof.Machine.execMgmtMemoryRead frame s
  | .mgmtMemoryWrite frame => Sys2Proof.Machine.execMgmtMemoryWrite frame s
  | .pf0EvtConsWrite q v => Sys2Proof.Machine.execPf0EvtConsWrite q v s
  | .netRefclkReturn m => Sys2Proof.Machine.execNetRefclkReturn m s
  | .pcieRefclkReturn n => Sys2Proof.Machine.execPcieRefclkReturn n s
  | .hostLinkRecovery q => Sys2Proof.Machine.execHostLinkRecovery q s
  | .cfgReady q => Sys2Proof.Machine.execCfgReady q s
  | .instanceReady b => Sys2Proof.Machine.execInstanceReady b s
  | .colophonTruncated => Sys2Proof.Machine.execColophonTruncated s
  | .pmbusPoll p => Sys2Proof.Machine.execPmbusPoll p s

end Sys2Proof.Machine
end

