-- ==== Sys2Proof/Machine/Tick.lean ====
section
/-! DEFINITION. The passing of time: what a nanosecond of device time does when no command waits (R24, R51, R216, R478, R526). Every other
interval of the spec is a command of its own. -/

namespace Sys2Proof.Machine

/-- Does device time count: powered, and in no state where the spine is off (R24, R414)? -/
def State.timeRuns (s : State) : Bool := decide (s.pwr.phase = .up) && decide (s.devState < 4)

/-- What one nanosecond of the reference adds to device time, with the fraction it carries, in units of 2^-40 ns: the rate of
LANE_TOD_RATE counts while SRC selects PTP (R51). -/
def State.timeSum (s : State) : Nat :=
  ((2 ^ 40 : Int) + (if s.follows then 0 else toSigned 32 (s.get Reg.LANE_TOD_RATE_RATE))).toNat + s.todFrac

/-- Device time after one nanosecond of its reference. -/
def State.timeTick (s : State) : State :=
  { (s.wr64 Reg.GLB_TIME ((s.now + s.timeSum / 2 ^ 40) % 2 ^ 64)) with todFrac := s.timeSum % 2 ^ 40 }

/-- Nanoseconds that a byte takes on the UART: ten bits at 115,200 Bd (R526, R546). -/
def uartByteNs : Nat := 86806

/-- The byte on the line leaves the queue when it has been sent. -/
def State.uartTick (s : State) : State :=
  match s.glb.uartTx with
  | [] => s
  | b :: l =>
    if s.glb.uartAt + uartByteNs ≤ s.now then
      { (s.emit (.uart b)) with glb := { s.glb with uartTx := l, uartAt := s.now } }
    else s

/-- The proof watchdog counts in RUN and IDLE (R478). Its expiry is a command. -/
def State.proofTick (s : State) : State :=
  if s.on Reg.BOOT_WDT_RUNNING && decide (s.devState ≤ 1) && s.running then s.withBoot (fun b => { b with wdtLeft := b.wdtLeft - 1 }) else s

/-- One nanosecond, in which frames that wait for leaves try again. -/
def State.tick (s : State) : State :=
  if !s.timeRuns then s
  else
    let s := s.timeTick.uartTick.proofTick
    if s.running then s.retryAll else s

end Sys2Proof.Machine
end

