-- ==== Sys2Proof/WellFormed.lean ====
section
/-! DEFINITION. Which commands the device can be sent: every index and value lies within the instances and the widths
that the spec gives it. -/

namespace Sys2Proof

/-- Well-formedness of a command. -/
def Instr.wf : Instr → Bool
  | .nocTargetAccess target master addr _ perm fault arg => decide (target < 65536) && decide (master < 65536) && decide (addr < 18446744073709551616) && decide (perm < 8) && decide (fault < 256) && decide (arg < 65536)
  | .nocLateReply block => decide (block < 32)
  | .nocFlush target master => decide (target < 65536) && decide (master < 65536)
  | .clampRequest d => decide (d < 128)
  | .domainTransitionDone d => decide (d < 128)
  | .roleApply n w => decide (n < 64) && decide (w < 4294967296)
  | .roleApplyDone n => decide (n < 64)
  | .portAdminUp p w => decide (p < 512) && decide (w < 4294967296)
  | .autonegDone p => decide (p < 512)
  | .linkTrainingDone p => decide (p < 512)
  | .fecLock p => decide (p < 512)
  | .bringupStepTimeout p => decide (p < 512)
  | .linkAlignmentLoss p _ => decide (p < 512)
  | .signalDetectChange n k _ => decide (n < 64) && decide (k < 9)
  | .netFrameRx p _ _ => decide (p < 512)
  | .fecWindowEnd link symbols _ _ => decide (link < 512) && decide (symbols < 16777216)
  | .spareSteerGo n w => decide (n < 64) && decide (w < 4294967296)
  | .spareAdaptConverged n => decide (n < 64)
  | .spareChangeover n unc => decide (n < 64) && decide (unc < 4)
  | .spareVerifyEnd n _ symbols => decide (n < 64) && decide (symbols < 16777216)
  | .spareRevert n => decide (n < 64)
  | .todStepGo w => decide (w < 4294967296)
  | .todRateWrite w => decide (w < 4294967296)
  | .hostTrainingStart q => decide (q < 64)
  | .hostLinkL0 q speed width _ => decide (q < 64) && decide (speed < 8) && decide (width < 16)
  | .hostRateChangeEnd q speed width _ => decide (q < 64) && decide (speed < 8) && decide (width < 16)
  | .hostLinkSettledLow q speed => decide (q < 64) && decide (speed < 8)
  | .hostRetrain q => decide (q < 64)
  | .hostRetrainDone q speed width _ _ => decide (q < 64) && decide (speed < 8) && decide (width < 16)
  | .hostEnableSet q => decide (q < 64)
  | .hostEnableClear q => decide (q < 64)
  | .totalVfsWrite q f w => decide (q < 64) && decide (f < 3) && decide (w < 4294967296)
  | .orderModeWrite q mode => decide (q < 64) && decide (mode < 2)
  | .mgrPortWrite v => decide (v < 128)
  | .mgrPortPlace => true
  | .vfEnableSet q f n => decide (q < 64) && decide (f < 3) && decide (n < 512)
  | .vfEnableClear q f => decide (q < 64) && decide (f < 3)
  | .hostTotalVfsWrite q f n => decide (q < 64) && decide (f < 3) && decide (n < 512)
  | .configRequest q fn _ => decide (q < 64) && decide (fn < 1027)
  | .barMemoryRead q fn bar off len requester => decide (q < 64) && decide (fn < 1027) && decide (bar < 8) && decide (off < 4294967296) && decide (len < 65536) && decide (requester < 65536)
  | .barMemoryWrite q fn bar off _ requester => decide (q < 64) && decide (fn < 1027) && decide (bar < 8) && decide (off < 4294967296) && decide (requester < 65536)
  | .hostDmaCompletion q tag _ _ => decide (q < 64) && decide (tag < 16384)
  | .hostDmaTimeout q tag => decide (q < 64) && decide (tag < 16384)
  | .atsTranslationReply q fn page xlat perm => decide (q < 64) && decide (fn < 1027) && decide (page < 18446744073709551616) && decide (xlat < 18446744073709551616) && decide (perm < 4)
  | .atsInvalidationRequest q tag fn page _ => decide (q < 64) && decide (tag < 256) && decide (fn < 1027) && decide (page < 18446744073709551616)
  | .atsInvalidationComplete q tag => decide (q < 64) && decide (tag < 256)
  | .ltrChange q => decide (q < 64)
  | .d3hotEntry q fn => decide (q < 64) && decide (fn < 1027)
  | .pmeTurnOff q => decide (q < 64)
  | .l2EntryDone q => decide (q < 64)
  | .wakeConditionL2 q fn cond => decide (q < 64) && decide (fn < 1027) && decide (cond < 256)
  | .perstAssert q => decide (q < 64)
  | .perstRelease q => decide (q < 64)
  | .hotResetRx q => decide (q < 64)
  | .linkDisableRx q => decide (q < 64)
  | .surpriseLoss q => decide (q < 64)
  | .vfFlr q f v => decide (q < 64) && decide (f < 3) && decide (v < 256)
  | .pfFlr q f => decide (q < 64) && decide (f < 3)
  | .portRetire q => decide (q < 64)
  | .retireAck q => decide (q < 64)
  | .retireTimeout q => decide (q < 64)
  | .drawerCreate r _ _ => r.wf
  | .drawerBind r _ => r.wf
  | .drawerUnbind r _ => r.wf
  | .drawerQuiesce r _ => r.wf
  | .drawerReset r _ => r.wf
  | .drawerResume r _ => r.wf
  | .drawerResize r _ _ => r.wf
  | .drawerDestroy r _ => r.wf
  | .fenceSet r _ => r.wf
  | .fenceClear r _ => r.wf
  | .quiesceFetchIdle d => decide (d < 4096)
  | .quiesceDrainDone d => decide (d < 4096)
  | .quiesceDrainTimeout d => decide (d < 4096)
  | .quiesceAbortDone d => decide (d < 4096)
  | .generationPurgeDone d => decide (d < 4096)
  | .quiesceFlushReadDone d => decide (d < 4096)
  | .resetStepDone d => decide (d < 4096)
  | .nvmeCcEnClear d => decide (d < 4096)
  | .nvmeShutdown d mode => decide (d < 4096) && decide (mode < 4)
  | .nvmeDoorbell d y _ v _ => decide (d < 4096) && decide (y < 1024) && decide (v < 65536)
  | .nvmeDeleteIoSq d cid qid => decide (d < 4096) && decide (cid < 65536) && decide (qid < 65536)
  | .nvmeDeleteIoCq d cid qid => decide (d < 4096) && decide (cid < 65536) && decide (qid < 65536)
  | .nvmeCreateIoSq d cid base qid size _ cqid => decide (d < 4096) && decide (cid < 65536) && decide (base < 18446744073709551616) && decide (qid < 65536) && decide (size < 65536) && decide (cqid < 65536)
  | .nvmeCreateIoCq d cid base qid size _ _ iv => decide (d < 4096) && decide (cid < 65536) && decide (base < 18446744073709551616) && decide (qid < 65536) && decide (size < 65536) && decide (iv < 65536)
  | .nvmeGetLogPage d cid lid _ _ => decide (d < 4096) && decide (cid < 65536) && decide (lid < 256)
  | .nvmeIdentify d cid nsid cns _ => decide (d < 4096) && decide (cid < 65536) && decide (nsid < 4294967296) && decide (cns < 256)
  | .nvmeAbort d cid sqid acid => decide (d < 4096) && decide (cid < 65536) && decide (sqid < 65536) && decide (acid < 65536)
  | .nvmeSetFeatures d cid fid v => decide (d < 4096) && decide (cid < 65536) && decide (fid < 256) && decide (v < 4294967296)
  | .nvmeGetFeatures d cid fid => decide (d < 4096) && decide (cid < 65536) && decide (fid < 256)
  | .nvmeAsyncEventRequest d cid => decide (d < 4096) && decide (cid < 65536)
  | .nvmeFlush d y cid nsid => decide (d < 4096) && decide (y < 1024) && decide (cid < 65536) && decide (nsid < 4294967296)
  | .nvmeWrite d y cid nsid slba nlb _ _ _ => decide (d < 4096) && decide (y < 1024) && decide (cid < 65536) && decide (nsid < 4294967296) && decide (slba < 18446744073709551616) && decide (nlb < 65536)
  | .nvmeRead d y cid nsid slba nlb _ _ _ _ => decide (d < 4096) && decide (y < 1024) && decide (cid < 65536) && decide (nsid < 4294967296) && decide (slba < 18446744073709551616) && decide (nlb < 65536)
  | .nvmeWriteZeroes d y cid nsid slba nlb _ _ => decide (d < 4096) && decide (y < 1024) && decide (cid < 65536) && decide (nsid < 4294967296) && decide (slba < 18446744073709551616) && decide (nlb < 65536)
  | .nvmeDatasetManagement d y cid nsid => decide (d < 4096) && decide (y < 1024) && decide (cid < 65536) && decide (nsid < 4294967296)
  | .virtioDeviceStatusReset d => decide (d < 4096)
  | .virtioNotify d vq cnt usec _ => decide (d < 4096) && decide (vq < 256) && decide (cnt < 65536) && decide (usec < 65536)
  | .virtioNetCtrlMqVqPairsSet d id pairs addr => decide (d < 4096) && decide (id < 65536) && decide (pairs < 65536) && decide (addr < 18446744073709551616)
  | .virtioCtrlOther d id addr => decide (d < 4096) && decide (id < 65536) && decide (addr < 18446744073709551616)
  | .doorbell who w => decide (who < 4097) && decide (w < 18446744073709551616)
  | .slip who off _ _ => decide (who < 4097) && decide (off < 512)
  | .attachSlip d page _ _ => decide (d < 4096) && decide (page < 64)
  | .nop r _ => r.wf
  | .ringCreate r _ => r.wf
  | .cplCreate r _ => r.wf
  | .ringDisable r _ => r.wf
  | .ringDestroy r _ => r.wf
  | .cplModerate r _ => r.wf
  | .ringStopped k => decide (k < 1099511627840)
  | .ringFetch k stat _ => decide (k < 1099511627840) && decide (stat < 256)
  | .ownerStaleRetry k _ => decide (k < 1099511627840)
  | .headMirrorTimer k => decide (k < 1099511627840)
  | .cqStarveTimer k => decide (k < 1099511627840)
  | .msixModTimer k => decide (k < 1099511627840)
  | .frameSend r _ _ => r.wf
  | .frameRecv r _ _ => r.wf
  | .controlDoorbellReg v => decide (v < 4294967296)
  | .controlSlotEnable c v => decide (c < 64) && decide (v < 4294967296)
  | .controlSlotDisable c v => decide (c < 64) && decide (v < 4294967296)
  | .pipelineFrame p => decide (p < 16)
  | .bankSwitch => true
  | .bankValidateDone => true
  | .bankSwitchDone => true
  | .forceIsolate => true
  | .forceIsolateDone => true
  | .prsBankWrite addr v => decide (addr < 67108864) && decide (v < 4294967296)
  | .prsActCommitGo index => decide (index < 65536)
  | .prsEditCommitGo index => decide (index < 256)
  | .prsParityScan _ => true
  | .emInsert r table words flags _ _ => r.wf && decide (table < 256) && decide (words < 256) && decide (flags < 256)
  | .emUpdate r table words _ _ => r.wf && decide (table < 256) && decide (words < 256)
  | .emDelete r table words _ => r.wf && decide (table < 256) && decide (words < 256)
  | .emQuery r table words _ => r.wf && decide (table < 256) && decide (words < 256)
  | .lpmInsert r table words flags plen _ _ => r.wf && decide (table < 256) && decide (words < 256) && decide (flags < 256) && decide (plen < 256)
  | .lpmDelete r table words plen _ => r.wf && decide (table < 256) && decide (words < 256) && decide (plen < 256)
  | .tableFlush r table flags => r.wf && decide (table < 256) && decide (flags < 256)
  | .learnCommit shard => decide (shard < 4)
  | .scannerVisit tier index _ _ => decide (tier < 4) && decide (index < 4294967296)
  | .sweepEnd table => decide (table < 256)
  | .lpmRebalanceGo gap => decide (gap < 2)
  | .lpmRebalanceEnd => true
  | .tcamScrub _ => true
  | .tableParityInvalidate tier index _ => decide (tier < 4) && decide (index < 4294967296)
  | .fwTableLookup thread replyEp shard table words _ => decide (thread < 1536) && decide (replyEp < 65536) && decide (shard < 4) && decide (table < 256) && decide (words < 256)
  | .tblSplitWrite area v => decide (area < 8) && decide (v < 4294967296)
  | .tblSeedWrite shard _ v => decide (shard < 4) && decide (v < 4294967296)
  | .tblHbmEnWrite v => decide (v < 4294967296)
  | .tblHbmClearDone => true
  | .tblTableCfgWrite table v => decide (table < 256) && decide (v < 4294967296)
  | .cellAlloc t rep tier len => decide (t < 1536) && decide (rep < 65536) && decide (tier < 2) && decide (len < 65537 ∧ 0 < len)
  | .cellHold t rep p => decide (t < 1536) && decide (rep < 65536) && decide (p < 4294967296)
  | .cellRelease t rep p => decide (t < 1536) && decide (rep < 65536) && decide (p < 4294967296)
  | .cellRead t rep p off len => decide (t < 1536) && decide (rep < 65536) && decide (p < 4294967296) && decide (off < 65536) && decide (len < 65536)
  | .cellWrite t rep p off len _ => decide (t < 1536) && decide (rep < 65536) && decide (p < 4294967296) && decide (off < 65536) && decide (len < 65536)
  | .cellStat t rep p => decide (t < 1536) && decide (rep < 65536) && decide (p < 4294967296)
  | .spillCopyWritten p => decide (p < 4294967296)
  | .cellInspect v => decide (v < 4294967296)
  | .cellHeadroomWrite v => decide (v < 4294967296)
  | .portDequeue p => decide (p < 576)
  | .tmCommitQueue index _ => decide (index < 1048576)
  | .tmCommitSubscriber index => decide (index < 1048576)
  | .tmCommitGroup index => decide (index < 1048576)
  | .tmCommitShaper index => decide (index < 1048576)
  | .tmCommitPolicer index => decide (index < 1048576)
  | .tmCommitReplList index => decide (index < 1048576)
  | .tmCommitRead kind index _ => decide (kind < 8) && decide (index < 1048576)
  | .tmPortModeWrite p v => decide (p < 576) && decide (v < 4294967296)
  | .calendarSlotReached kind index => decide (kind < 3) && decide (index < 1048576)
  | .queueSample q => decide (q < 1048576)
  | .coreDelivery n => decide (n < 24)
  | .send r _ _ => r.wf
  | .write r _ _ => r.wf
  | .read r _ _ => r.wf
  | .fetchAdd r _ => r.wf
  | .compSwap r _ => r.wf
  | .connConnect r _ => r.wf
  | .connClose r _ => r.wf
  | .connReset r _ => r.wf
  | .connQuery r _ => r.wf
  | .recv r _ _ => r.wf
  | .keyRegister r _ => r.wf
  | .keyRevoke r _ => r.wf
  | .keyRevokeDone key => decide (key < 4194304)
  | .revokeSlowTimer key => decide (key < 4194304)
  | .connDrainEnd c => decide (c < 1048576)
  | .closeMsExpire c => decide (c < 1048576)
  | .xptOpStart c => decide (c < 1048576)
  | .contextFetchDone c _ => decide (c < 1048576)
  | .packetSend c _ stat => decide (c < 1048576) && decide (stat < 256)
  | .sendData p _ => decide (p < 16)
  | .writeData p _ => decide (p < 16)
  | .readReq p _ => decide (p < 16)
  | .readResp p _ => decide (p < 16)
  | .fetchAddReq p _ => decide (p < 16)
  | .compSwapReq p _ => decide (p < 16)
  | .atomicResp p _ => decide (p < 16)
  | .abandon p _ => decide (p < 16)
  | .fill p _ => decide (p < 16)
  | .ack p _ => decide (p < 16)
  | .nak p _ => decide (p < 16)
  | .resetNotice p => decide (p < 16)
  | .ackDelayExpire c => decide (c < 1048576)
  | .rtoExpire c => decide (c < 1048576)
  | .rnrWaitExpire c seq => decide (c < 1048576) && decide (seq < 4294967296)
  | .pathHoldExpire c => decide (c < 1048576)
  | .rocePacket p _ => decide (p < 16)
  | .cnp p _ => decide (p < 16)
  | .xptConnSnapshot v => decide (v < 4294967296)
  | .xptKeySnapshot v => decide (v < 4294967296)
  | .baseInstruction t => decide (t < 1536)
  | .chput t rd rs1 rs2 => decide (t < 1536) && decide (rd < 32) && decide (rs1 < 32) && decide (rs2 < 32)
  | .chputl t rd rs1 rs2 => decide (t < 1536) && decide (rd < 32) && decide (rs1 < 32) && decide (rs2 < 32)
  | .chputln t rd rs1 rs2 => decide (t < 1536) && decide (rd < 32) && decide (rs1 < 32) && decide (rs2 < 32)
  | .chrecv t rd rs1 rs2 => decide (t < 1536) && decide (rd < 32) && decide (rs1 < 32) && decide (rs2 < 32)
  | .chrecvn t rd rs1 => decide (t < 1536) && decide (rd < 32) && decide (rs1 < 32)
  | .chhdr t rd rs1 rs2 => decide (t < 1536) && decide (rd < 32) && decide (rs1 < 32) && decide (rs2 < 32)
  | .chhdrn t rd rs1 => decide (t < 1536) && decide (rd < 32) && decide (rs1 < 32)
  | .chskip t rd rs1 => decide (t < 1536) && decide (rd < 32) && decide (rs1 < 32)
  | .pwait t rd rs1 rs2 => decide (t < 1536) && decide (rd < 32) && decide (rs1 < 32) && decide (rs2 < 32)
  | .pwaitn t rd rs1 => decide (t < 1536) && decide (rd < 32) && decide (rs1 < 32)
  | .pset t rd rs1 rs2 => decide (t < 1536) && decide (rd < 32) && decide (rs1 < 32) && decide (rs2 < 32)
  | .tstart t rd rs1 rs2 => decide (t < 1536) && decide (rd < 32) && decide (rs1 < 32) && decide (rs2 < 32)
  | .trelease t rd rs1 => decide (t < 1536) && decide (rd < 32) && decide (rs1 < 32)
  | .texit t rd => decide (t < 1536) && decide (rd < 32)
  | .tgroup t rd => decide (t < 1536) && decide (rd < 32)
  | .tinfo t rd => decide (t < 1536) && decide (rd < 32)
  | .chMessageArrival src dest => decide (src < 1048576) && decide (dest < 65536)
  | .chCommitDelivered t => decide (t < 1536)
  | .threadWaitTimeout t => decide (t < 1536)
  | .waitAllDetect t => decide (t < 1536)
  | .threadStartReg t v => decide (t < 1536) && decide (v < 4294967296)
  | .threadReset t v => decide (t < 1536) && decide (v < 4294967296)
  | .stageDiscard v => decide (v < 4294967296)
  | .epCfgWrite n c e v => decide (n < 24) && decide (c < 8) && decide (e < 64) && decide (v < 4294967296)
  | .threadShareWrite t v => decide (t < 1536) && decide (v < 4294967296)
  | .sealBind r _ => r.wf
  | .sealUnbind r _ => r.wf
  | .cipher r _ _ => r.wf
  | .digest r _ _ => r.wf
  | .compress r _ _ => r.wf
  | .decompress r _ _ => r.wf
  | .ecEncode r _ _ _ => r.wf
  | .ecDecode r _ _ _ => r.wf
  | .keyLoad r _ _ => r.wf
  | .keyGen r _ => r.wf
  | .keyClear r _ => r.wf
  | .sign r _ _ => r.wf
  | .verify r _ _ => r.wf
  | .kemEncapsulate r _ _ => r.wf
  | .kemDecapsulate r _ _ => r.wf
  | .sealOpen r _ => r.wf
  | .sealAppend r _ _ => r.wf
  | .sealCheckpoint r _ => r.wf
  | .sealIntervalBoundary g => decide (g < 1048576)
  | .jobSlotFreed => true
  | .slotStarveTimer ring => decide (ring < 1099511627840)
  | .volCreate r _ => r.wf
  | .volTarget r _ _ => r.wf
  | .volDestroy r _ => r.wf
  | .commitAnswer d nsid t seq status => decide (d < 4096) && decide (nsid < 17 ∧ 0 < nsid) && decide (t < 20) && decide (seq < 18446744073709551616) && decide (status < 256)
  | .flushMsExpire d nsid t seq => decide (d < 4096) && decide (nsid < 17 ∧ 0 < nsid) && decide (t < 20) && decide (seq < 18446744073709551616)
  | .rebuildStripe d nsid t _ => decide (d < 4096) && decide (nsid < 17 ∧ 0 < nsid) && decide (t < 20)
  | .accEndpointJob t rep _ => decide (t < 1536) && decide (rep < 65536)
  | .accEnable v => decide (v < 4294967296)
  | .ktClearDone => true
  | .hbmScrub a _ => decide (a < 0x1800000000)
  | .sramScrub bank off _ leaf => decide (bank < 65536) && decide (off < 4194304) && decide (leaf < 4294967296)
  | .wearWindowEnd => true
  | .memRegionCfgWrite v => decide (v < 4294967296)
  | .hbmCalibrated stack => decide (stack < 4)
  | .hbmTrained stack _ pc spares => decide (stack < 4) && decide (pc < 32) && decide (spares < 4)
  | .hbmCleared stack => decide (stack < 4)
  | .hbmRetrain v => decide (v < 4294967296)
  | .rowRepairGo v => decide (v < 4294967296)
  | .pcSpareStateWrite stack k v => decide (stack < 4) && decide (k < 2) && decide (v < 4294967296)
  | .errorInjectArm v => decide (v < 4294967296)
  | .casTrainingDone l => decide (l < 8)
  | .casPcsLock l => decide (l < 8)
  | .flitAligned l => decide (l < 8)
  | .helloDone l => decide (l < 8)
  | .casStepTimeout l => decide (l < 8)
  | .idleFlit l _ => decide (l < 8)
  | .dataFlit l _ => decide (l < 8)
  | .heartbeatFlit l _ => decide (l < 8)
  | .heartbeatSend l => decide (l < 8)
  | .heartbeatLoss l => decide (l < 8)
  | .casLockLoss l => decide (l < 8)
  | .spareReq l _ => decide (l < 8)
  | .spareAck l _ => decide (l < 8)
  | .spareNak l _ => decide (l < 8)
  | .spareGo l _ => decide (l < 8)
  | .altHoldExpire x => decide (x < 65536)
  | .remoteAccessReadGo w => decide (w < 4294967296)
  | .remoteAccessWriteGo w => decide (w < 4294967296)
  | .remoteReadRequest l _ => decide (l < 8)
  | .remoteWriteRequest l _ => decide (l < 8)
  | .remoteResponse l _ => decide (l < 8)
  | .remoteAccessTimeout => true
  | .casDevIdWrite v => decide (v < 4294967296)
  | .pwrReqRun => true
  | .pwrReqIdle => true
  | .pwrReqSleep => true
  | .pwrReqDeep => true
  | .pwrReqOff => true
  | .domainStateGo d w => decide (d < 128) && decide (w < 4294967296)
  | .idleTransitionDone => true
  | .sleepEntryDone => true
  | .sleepExitDone => true
  | .deepAdmissionClosed => true
  | .deepDrainDone => true
  | .deepDrainTimeout => true
  | .deepParked => true
  | .deepSaveDone mib => decide (mib < 1024)
  | .deepSelfRefreshDone => true
  | .deepRailsOff => true
  | .deepExitRailsGood pg => decide (pg < 4096)
  | .deepExitPllLock => true
  | .deepExitHbmReady _ _ => true
  | .deepExitRestoreDone _ => true
  | .offEntryDone => true
  | .wakeInFall => true
  | .wakeFrame _ _ => true
  | .alarmReached => true
  | .mgmtSignalDetect => true
  | .standbyGood => true
  | .standbyRailLoss => true
  | .suppliesGood pg => decide (pg < 4096)
  | .supplyTimeout => true
  | .supplyRetryRelease => true
  | .pgInFall r => decide (r < 12)
  | .railPgTimeout i => decide (i < 12)
  | .sysRefclkStable => true
  | .fuseSenseDone _ => true
  | .porNAssert => true
  | .porNRelease => true
  | .sysRefclkLoss => true
  | .netRefclkLoss m => decide (m < 16)
  | .pcieRefclkLoss n => decide (n < 32)
  | .jigTick _ _ => true
  | .jigLogConsWrite v => decide (v < 4294967296)
  | .jigLogSignalTimer => true
  | .thermalThrottle i temp => decide (i < 256) && decide (temp < 256)
  | .throttleRelease i temp => decide (i < 256) && decide (temp < 256)
  | .thermtrip i temp => decide (i < 256) && decide (temp < 256)
  | .coreSpareIdle n => decide (n < 24)
  | .coreSpareSelftestDone n _ => decide (n < 24)
  | .remapCursorSave => true
  | .remapCopyDone => true
  | .remapVerifyDone _ => true
  | .fuseBurnDone _ => true
  | .loaderDirectoryRead _ _ => true
  | .loaderFrontChecked _ => true
  | .loaderSectionsCopied _ _ _ => true
  | .loaderReadbackChecked => true
  | .stage1Start => true
  | .confirm => true
  | .proofAbandon => true
  | .recover => true
  | .handoff => true
  | .stage k => decide (k < 2)
  | .stageCheckDone _ _ => true
  | .proofWatchdogExpire => true
  | .directoryUpdateDone => true
  | .loaderFuseBurnDone => true
  | .flashRead => true
  | .flashProgram => true
  | .flashErase => true
  | .flashCopy => true
  | .flashOpDone _ => true
  | .bootDigestGo => true
  | .bootDigestDone => true
  | .recoveryIdent path _ => decide (path < 2)
  | .recoveryErase path _ _ => decide (path < 2)
  | .recoveryWrite path _ _ => decide (path < 2)
  | .recoveryRead path _ _ => decide (path < 2)
  | .recoveryStage path _ _ _ => decide (path < 2)
  | .recoveryReset path _ => decide (path < 2)
  | .readyBoundCheck b => decide (b < 256)
  | .warmRstNAssert => true
  | .warmRstNRelease => true
  | .errWarmResetWrite w => decide (w < 4294967296)
  | .warmResetCleared pg => decide (pg < 4096)
  | .managerHalt w => decide (w < 4294967296)
  | .colophonComplete failed => decide (failed < 4)
  | .wdtKick v => decide (v < 4294967296)
  | .wdtHalf => true
  | .wdtExpire => true
  | .blockReset w => decide (w < 4294967296)
  | .blockResetDone => true
  | .lamiskRegisterRead tr _ => decide (tr < 2)
  | .lamiskRegisterWrite tr _ => decide (tr < 2)
  | .lamiskMemoryRead tr _ => decide (tr < 2)
  | .lamiskMemoryWrite tr _ => decide (tr < 2)
  | .debugTokenSubmit _ => true
  | .debugLock _ => true
  | .debugUnlockExpire => true
  | .debugHaltDevice _ => true
  | .dbgThreadHalt _ => true
  | .dbgThreadResume _ => true
  | .dbgThreadStep _ => true
  | .registerWrite m a _ => decide (m < 65536) && decide (a < 67108864)
  | .pairLowRead m a => decide (m < 65536) && decide (a < 67108864)
  | .glbSyncRead m => decide (m < 65536)
  | .uartTxWrite v => decide (v < 4294967296)
  | .uartRxRead m => decide (m < 65536)
  | .uartRxByte v => decide (v < 256)
  | .ppsInEdge => true
  | .ppsOutSecond => true
  | .i3cPointerWrite p => decide (p < 4294967296)
  | .i3cRegisterWrite p v => decide (p < 4294967296) && decide (v < 4294967296)
  | .i3cRead n => decide (n < 65536)
  | .i3cAddressAssign a => decide (a < 128)
  | .mgmtLinkUp => true
  | .mgmtRegisterRead _ => true
  | .mgmtRegisterWrite _ => true
  | .mgmtMemoryRead _ => true
  | .mgmtMemoryWrite _ => true
  | .pf0EvtConsWrite q v => decide (q < 64) && decide (v < 4294967296)
  | .netRefclkReturn m => decide (m < 16)
  | .pcieRefclkReturn n => decide (n < 32)
  | .hostLinkRecovery q => decide (q < 64)
  | .cfgReady q => decide (q < 64)
  | .instanceReady b => decide (b < 256)
  | .colophonTruncated => true
  | .pmbusPoll _ => true

end Sys2Proof
end

