-- ==== Sys2Proof/Safety.lean ====
section
/-! DEFINITION. What the statements speak of beside the step itself: when a register write acts, which commands are the device's own
work and which are register writes, the forms that data keeps, and what a safe run is. -/

namespace Sys2Proof.Machine

/-- Does a register write act: is a path open, and the device not halted (R519)? -/
def State.writable (s : State) : Bool := s.regOpen && !s.halted

/-- What kind of thing a command is. -/
inductive CmdKind where
  /-- Work of the device or an arrival at it, which stands still while the device does not run. -/
  | work
  /-- A register write, which a halt drops and counts (R519). -/
  | store
  /-- What acts, or may act, while the device does not run: power, resets, pins, debug and the paths to the registers. -/
  | other
deriving DecidableEq, Repr

/-- The kind of each command. -/
def cmdKind : Instr → CmdKind
  | .nocTargetAccess _ _ _ _ _ _ _ => .work
  | .nocLateReply _ => .work
  | .nocFlush _ _ => .work
  | .clampRequest _ => .work
  | .domainTransitionDone _ => .work
  | .roleApply _ _ => .store
  | .roleApplyDone _ => .work
  | .portAdminUp _ _ => .store
  | .autonegDone _ => .work
  | .linkTrainingDone _ => .work
  | .fecLock _ => .work
  | .bringupStepTimeout _ => .work
  | .linkAlignmentLoss _ _ => .work
  | .signalDetectChange _ _ _ => .other
  | .netFrameRx _ _ _ => .work
  | .fecWindowEnd _ _ _ _ => .work
  | .spareSteerGo _ _ => .store
  | .spareAdaptConverged _ => .work
  | .spareChangeover _ _ => .work
  | .spareVerifyEnd _ _ _ => .work
  | .spareRevert _ => .store
  | .todStepGo _ => .store
  | .todRateWrite _ => .store
  | .hostTrainingStart _ => .other
  | .hostLinkL0 _ _ _ _ => .other
  | .hostRateChangeEnd _ _ _ _ => .other
  | .hostLinkSettledLow _ _ => .other
  | .hostRetrain _ => .store
  | .hostRetrainDone _ _ _ _ _ => .other
  | .hostEnableSet _ => .store
  | .hostEnableClear _ => .store
  | .totalVfsWrite _ _ _ => .store
  | .orderModeWrite _ _ => .store
  | .mgrPortWrite _ => .store
  | .mgrPortPlace => .other
  | .vfEnableSet _ _ _ => .work
  | .vfEnableClear _ _ => .work
  | .hostTotalVfsWrite _ _ _ => .work
  | .configRequest _ _ _ => .other
  | .barMemoryRead _ _ _ _ _ _ => .other
  | .barMemoryWrite _ _ _ _ _ _ => .other
  | .hostDmaCompletion _ _ _ _ => .work
  | .hostDmaTimeout _ _ => .work
  | .atsTranslationReply _ _ _ _ _ => .work
  | .atsInvalidationRequest _ _ _ _ _ => .work
  | .atsInvalidationComplete _ _ => .work
  | .ltrChange _ => .work
  | .d3hotEntry _ _ => .other
  | .pmeTurnOff _ => .other
  | .l2EntryDone _ => .other
  | .wakeConditionL2 _ _ _ => .work
  | .perstAssert _ => .other
  | .perstRelease _ => .other
  | .hotResetRx _ => .other
  | .linkDisableRx _ => .other
  | .surpriseLoss _ => .other
  | .vfFlr _ _ _ => .work
  | .pfFlr _ _ => .work
  | .portRetire _ => .store
  | .retireAck _ => .work
  | .retireTimeout _ => .work
  | .drawerCreate _ _ _ => .work
  | .drawerBind _ _ => .work
  | .drawerUnbind _ _ => .work
  | .drawerQuiesce _ _ => .work
  | .drawerReset _ _ => .work
  | .drawerResume _ _ => .work
  | .drawerResize _ _ _ => .work
  | .drawerDestroy _ _ => .work
  | .fenceSet _ _ => .work
  | .fenceClear _ _ => .work
  | .quiesceFetchIdle _ => .work
  | .quiesceDrainDone _ => .work
  | .quiesceDrainTimeout _ => .work
  | .quiesceAbortDone _ => .work
  | .generationPurgeDone _ => .work
  | .quiesceFlushReadDone _ => .work
  | .resetStepDone _ => .work
  | .nvmeCcEnClear _ => .work
  | .nvmeShutdown _ _ => .work
  | .nvmeDoorbell _ _ _ _ _ => .work
  | .nvmeDeleteIoSq _ _ _ => .work
  | .nvmeDeleteIoCq _ _ _ => .work
  | .nvmeCreateIoSq _ _ _ _ _ _ _ => .work
  | .nvmeCreateIoCq _ _ _ _ _ _ _ _ => .work
  | .nvmeGetLogPage _ _ _ _ _ => .work
  | .nvmeIdentify _ _ _ _ _ => .work
  | .nvmeAbort _ _ _ _ => .work
  | .nvmeSetFeatures _ _ _ _ => .work
  | .nvmeGetFeatures _ _ _ => .work
  | .nvmeAsyncEventRequest _ _ => .work
  | .nvmeFlush _ _ _ _ => .work
  | .nvmeWrite _ _ _ _ _ _ _ _ _ => .work
  | .nvmeRead _ _ _ _ _ _ _ _ _ _ => .work
  | .nvmeWriteZeroes _ _ _ _ _ _ _ _ => .work
  | .nvmeDatasetManagement _ _ _ _ => .work
  | .virtioDeviceStatusReset _ => .work
  | .virtioNotify _ _ _ _ _ => .work
  | .virtioNetCtrlMqVqPairsSet _ _ _ _ => .work
  | .virtioCtrlOther _ _ _ => .work
  | .doorbell _ _ => .work
  | .slip _ _ _ _ => .work
  | .attachSlip _ _ _ _ => .work
  | .nop _ _ => .work
  | .ringCreate _ _ => .work
  | .cplCreate _ _ => .work
  | .ringDisable _ _ => .work
  | .ringDestroy _ _ => .work
  | .cplModerate _ _ => .work
  | .ringStopped _ => .work
  | .ringFetch _ _ _ => .work
  | .ownerStaleRetry _ _ => .work
  | .headMirrorTimer _ => .work
  | .cqStarveTimer _ => .work
  | .msixModTimer _ => .work
  | .frameSend _ _ _ => .work
  | .frameRecv _ _ _ => .work
  | .controlDoorbellReg _ => .store
  | .controlSlotEnable _ _ => .store
  | .controlSlotDisable _ _ => .store
  | .pipelineFrame _ => .work
  | .bankSwitch => .store
  | .bankValidateDone => .work
  | .bankSwitchDone => .work
  | .forceIsolate => .store
  | .forceIsolateDone => .work
  | .prsBankWrite _ _ => .store
  | .prsActCommitGo _ => .store
  | .prsEditCommitGo _ => .store
  | .prsParityScan _ => .work
  | .emInsert _ _ _ _ _ _ => .work
  | .emUpdate _ _ _ _ _ => .work
  | .emDelete _ _ _ _ => .work
  | .emQuery _ _ _ _ => .work
  | .lpmInsert _ _ _ _ _ _ _ => .work
  | .lpmDelete _ _ _ _ _ => .work
  | .tableFlush _ _ _ => .work
  | .learnCommit _ => .work
  | .scannerVisit _ _ _ _ => .work
  | .sweepEnd _ => .work
  | .lpmRebalanceGo _ => .store
  | .lpmRebalanceEnd => .work
  | .tcamScrub _ => .work
  | .tableParityInvalidate _ _ _ => .work
  | .fwTableLookup _ _ _ _ _ _ => .work
  | .tblSplitWrite _ _ => .store
  | .tblSeedWrite _ _ _ => .store
  | .tblHbmEnWrite _ => .store
  | .tblHbmClearDone => .work
  | .tblTableCfgWrite _ _ => .store
  | .cellAlloc _ _ _ _ => .work
  | .cellHold _ _ _ => .work
  | .cellRelease _ _ _ => .work
  | .cellRead _ _ _ _ _ => .work
  | .cellWrite _ _ _ _ _ _ => .work
  | .cellStat _ _ _ => .work
  | .spillCopyWritten _ => .work
  | .cellInspect _ => .store
  | .cellHeadroomWrite _ => .store
  | .portDequeue _ => .work
  | .tmCommitQueue _ _ => .store
  | .tmCommitSubscriber _ => .store
  | .tmCommitGroup _ => .store
  | .tmCommitShaper _ => .store
  | .tmCommitPolicer _ => .store
  | .tmCommitReplList _ => .store
  | .tmCommitRead _ _ _ => .store
  | .tmPortModeWrite _ _ => .store
  | .calendarSlotReached _ _ => .work
  | .queueSample _ => .work
  | .coreDelivery _ => .work
  | .send _ _ _ => .work
  | .write _ _ _ => .work
  | .read _ _ _ => .work
  | .fetchAdd _ _ => .work
  | .compSwap _ _ => .work
  | .connConnect _ _ => .work
  | .connClose _ _ => .work
  | .connReset _ _ => .work
  | .connQuery _ _ => .work
  | .recv _ _ _ => .work
  | .keyRegister _ _ => .work
  | .keyRevoke _ _ => .work
  | .keyRevokeDone _ => .work
  | .revokeSlowTimer _ => .work
  | .connDrainEnd _ => .work
  | .closeMsExpire _ => .work
  | .xptOpStart _ => .work
  | .contextFetchDone _ _ => .work
  | .packetSend _ _ _ => .work
  | .sendData _ _ => .work
  | .writeData _ _ => .work
  | .readReq _ _ => .work
  | .readResp _ _ => .work
  | .fetchAddReq _ _ => .work
  | .compSwapReq _ _ => .work
  | .atomicResp _ _ => .work
  | .abandon _ _ => .work
  | .fill _ _ => .work
  | .ack _ _ => .work
  | .nak _ _ => .work
  | .resetNotice _ => .work
  | .ackDelayExpire _ => .work
  | .rtoExpire _ => .work
  | .rnrWaitExpire _ _ => .work
  | .pathHoldExpire _ => .work
  | .rocePacket _ _ => .work
  | .cnp _ _ => .work
  | .xptConnSnapshot _ => .store
  | .xptKeySnapshot _ => .store
  | .baseInstruction _ => .work
  | .chput _ _ _ _ => .work
  | .chputl _ _ _ _ => .work
  | .chputln _ _ _ _ => .work
  | .chrecv _ _ _ _ => .work
  | .chrecvn _ _ _ => .work
  | .chhdr _ _ _ _ => .work
  | .chhdrn _ _ _ => .work
  | .chskip _ _ _ => .work
  | .pwait _ _ _ _ => .work
  | .pwaitn _ _ _ => .work
  | .pset _ _ _ _ => .work
  | .tstart _ _ _ _ => .work
  | .trelease _ _ _ => .work
  | .texit _ _ => .work
  | .tgroup _ _ => .work
  | .tinfo _ _ => .work
  | .chMessageArrival _ _ => .work
  | .chCommitDelivered _ => .work
  | .threadWaitTimeout _ => .work
  | .waitAllDetect _ => .work
  | .threadStartReg _ _ => .store
  | .threadReset _ _ => .store
  | .stageDiscard _ => .store
  | .epCfgWrite _ _ _ _ => .store
  | .threadShareWrite _ _ => .store
  | .sealBind _ _ => .work
  | .sealUnbind _ _ => .work
  | .cipher _ _ _ => .work
  | .digest _ _ _ => .work
  | .compress _ _ _ => .work
  | .decompress _ _ _ => .work
  | .ecEncode _ _ _ _ => .work
  | .ecDecode _ _ _ _ => .work
  | .keyLoad _ _ _ => .work
  | .keyGen _ _ => .work
  | .keyClear _ _ => .work
  | .sign _ _ _ => .work
  | .verify _ _ _ => .work
  | .kemEncapsulate _ _ _ => .work
  | .kemDecapsulate _ _ _ => .work
  | .sealOpen _ _ => .work
  | .sealAppend _ _ _ => .work
  | .sealCheckpoint _ _ => .work
  | .sealIntervalBoundary _ => .work
  | .jobSlotFreed => .work
  | .slotStarveTimer _ => .work
  | .volCreate _ _ => .work
  | .volTarget _ _ _ => .work
  | .volDestroy _ _ => .work
  | .commitAnswer _ _ _ _ _ => .work
  | .flushMsExpire _ _ _ _ => .work
  | .rebuildStripe _ _ _ _ => .work
  | .accEndpointJob _ _ _ => .work
  | .accEnable _ => .store
  | .ktClearDone => .work
  | .hbmScrub _ _ => .work
  | .sramScrub _ _ _ _ => .work
  | .wearWindowEnd => .work
  | .memRegionCfgWrite _ => .store
  | .hbmCalibrated _ => .other
  | .hbmTrained _ _ _ _ => .other
  | .hbmCleared _ => .other
  | .hbmRetrain _ => .store
  | .rowRepairGo _ => .store
  | .pcSpareStateWrite _ _ _ => .store
  | .errorInjectArm _ => .store
  | .casTrainingDone _ => .work
  | .casPcsLock _ => .work
  | .flitAligned _ => .work
  | .helloDone _ => .work
  | .casStepTimeout _ => .work
  | .idleFlit _ _ => .work
  | .dataFlit _ _ => .work
  | .heartbeatFlit _ _ => .work
  | .heartbeatSend _ => .work
  | .heartbeatLoss _ => .work
  | .casLockLoss _ => .work
  | .spareReq _ _ => .work
  | .spareAck _ _ => .work
  | .spareNak _ _ => .work
  | .spareGo _ _ => .work
  | .altHoldExpire _ => .work
  | .remoteAccessReadGo _ => .store
  | .remoteAccessWriteGo _ => .store
  | .remoteReadRequest _ _ => .work
  | .remoteWriteRequest _ _ => .work
  | .remoteResponse _ _ => .work
  | .remoteAccessTimeout => .work
  | .casDevIdWrite _ => .store
  | .pwrReqRun => .store
  | .pwrReqIdle => .store
  | .pwrReqSleep => .store
  | .pwrReqDeep => .store
  | .pwrReqOff => .store
  | .domainStateGo _ _ => .store
  | .idleTransitionDone => .work
  | .sleepEntryDone => .work
  | .sleepExitDone => .work
  | .deepAdmissionClosed => .other
  | .deepDrainDone => .other
  | .deepDrainTimeout => .other
  | .deepParked => .other
  | .deepSaveDone _ => .other
  | .deepSelfRefreshDone => .other
  | .deepRailsOff => .other
  | .deepExitRailsGood _ => .other
  | .deepExitPllLock => .other
  | .deepExitHbmReady _ _ => .other
  | .deepExitRestoreDone _ => .other
  | .offEntryDone => .other
  | .wakeInFall => .other
  | .wakeFrame _ _ => .work
  | .alarmReached => .other
  | .mgmtSignalDetect => .other
  | .standbyGood => .other
  | .standbyRailLoss => .other
  | .suppliesGood _ => .other
  | .supplyTimeout => .other
  | .supplyRetryRelease => .other
  | .pgInFall _ => .other
  | .railPgTimeout _ => .other
  | .sysRefclkStable => .other
  | .fuseSenseDone _ => .other
  | .porNAssert => .other
  | .porNRelease => .other
  | .sysRefclkLoss => .other
  | .netRefclkLoss _ => .other
  | .pcieRefclkLoss _ => .other
  | .jigTick _ _ => .work
  | .jigLogConsWrite _ => .store
  | .jigLogSignalTimer => .work
  | .thermalThrottle _ _ => .other
  | .throttleRelease _ _ => .other
  | .thermtrip _ _ => .other
  | .coreSpareIdle _ => .work
  | .coreSpareSelftestDone _ _ => .work
  | .remapCursorSave => .work
  | .remapCopyDone => .work
  | .remapVerifyDone _ => .work
  | .fuseBurnDone _ => .work
  | .loaderDirectoryRead _ _ => .work
  | .loaderFrontChecked _ => .work
  | .loaderSectionsCopied _ _ _ => .work
  | .loaderReadbackChecked => .work
  | .stage1Start => .work
  | .confirm => .store
  | .proofAbandon => .store
  | .recover => .store
  | .handoff => .store
  | .stage _ => .store
  | .stageCheckDone _ _ => .work
  | .proofWatchdogExpire => .work
  | .directoryUpdateDone => .work
  | .loaderFuseBurnDone => .work
  | .flashRead => .store
  | .flashProgram => .store
  | .flashErase => .store
  | .flashCopy => .store
  | .flashOpDone _ => .work
  | .bootDigestGo => .store
  | .bootDigestDone => .work
  | .recoveryIdent _ _ => .work
  | .recoveryErase _ _ _ => .work
  | .recoveryWrite _ _ _ => .work
  | .recoveryRead _ _ _ => .work
  | .recoveryStage _ _ _ _ => .work
  | .recoveryReset _ _ => .work
  | .readyBoundCheck _ => .work
  | .warmRstNAssert => .other
  | .warmRstNRelease => .other
  | .errWarmResetWrite _ => .other
  | .warmResetCleared _ => .other
  | .managerHalt _ => .store
  | .colophonComplete _ => .other
  | .wdtKick _ => .store
  | .wdtHalf => .work
  | .wdtExpire => .other
  | .blockReset _ => .store
  | .blockResetDone => .work
  | .lamiskRegisterRead _ _ => .other
  | .lamiskRegisterWrite _ _ => .other
  | .lamiskMemoryRead _ _ => .other
  | .lamiskMemoryWrite _ _ => .other
  | .debugTokenSubmit _ => .other
  | .debugLock _ => .other
  | .debugUnlockExpire => .other
  | .debugHaltDevice _ => .other
  | .dbgThreadHalt _ => .other
  | .dbgThreadResume _ => .other
  | .dbgThreadStep _ => .other
  | .registerWrite _ _ _ => .other
  | .pairLowRead _ _ => .other
  | .glbSyncRead _ => .other
  | .uartTxWrite _ => .store
  | .uartRxRead _ => .other
  | .uartRxByte _ => .other
  | .ppsInEdge => .other
  | .ppsOutSecond => .other
  | .i3cPointerWrite _ => .other
  | .i3cRegisterWrite _ _ => .other
  | .i3cRead _ => .other
  | .i3cAddressAssign _ => .other
  | .mgmtLinkUp => .other
  | .mgmtRegisterRead _ => .other
  | .mgmtRegisterWrite _ => .other
  | .mgmtMemoryRead _ => .other
  | .mgmtMemoryWrite _ => .other
  | .pf0EvtConsWrite _ _ => .work
  | .netRefclkReturn _ => .work
  | .pcieRefclkReturn _ => .other
  | .hostLinkRecovery _ => .other
  | .cfgReady _ => .other
  | .instanceReady _ => .work
  | .colophonTruncated => .other
  | .pmbusPoll _ => .work

/-- The canonical form of a sparse table with a default: keys rise strictly, and no entry holds what an unlisted key reads as. -/
def SMap.wf {α : Type} [DecidableEq α] (d : Nat → α) (m : SMap α) : Bool :=
  sortedKeys m && m.all (fun e => !decide (e.2 = d e.1))

/-- Memory in its canonical form: addresses rise strictly and no listed byte is zero (R379). -/
def Memory.wf (m : SMap Byte) : Bool := SMap.wf (fun _ => 0) m

/-- The register file in its canonical form: no listed register holds its reset word. -/
def State.regsWf (s : State) : Bool := SMap.wf (fun a => BitVec.ofNat 32 (resetWord a)) s.regs

/-- Every command that waits is well formed. -/
def State.queueWf (s : State) : Bool := s.pending.all Instr.wf

/-- A Spline packet that its connection accepts and that reaches the opcode's own handling: the transport is on, the checksums and
the header are good, the connection runs outside a quiesce, and packet and connection agree in token, addresses and encryption
(R268, R276, R277); here without encryption. -/
def State.splAccepts (s : State) (c : Nat) (u : XPkt) : Bool :=
  s.on Reg.XPT_CFG_ENABLE && u.ok && splOk u.pl && !decide ((s.conn c).st = 0) && !s.quiescing (s.conn c).drawer &&
  s.xptAccepts c (beAt u.pl 12 4) u && !(s.conn c).roce && !(s.conn c).enc && !bit (beAt u.pl 2 1) 5

/-- A RoCEv2 packet that its connection accepts and that reaches its opcode's handling (R268, R298). -/
def State.roceAccepts (s : State) (u : XPkt) : Bool :=
  let x := s.conn (beAt u.pl 5 3)
  s.on Reg.XPT_CFG_ENABLE && u.ok && decide (16 ≤ u.pl.length) && decide (beAt u.pl 2 2 = 0xFFFF) && liveConn x.st && x.roce &&
  decide (u.src = x.raddr) && decide (u.dst = s.localAddr x.laddr) && !s.quiescing x.drawer

/-- An item of a transport ring whose connection exists, with the transport on and the connection's context at hand (R250, R251). -/
def State.atConn (s : State) (r : Ref) (c : Nat) : Bool :=
  decide (s.ringConn r.ring = some c) && s.on Reg.XPT_CFG_ENABLE && !decide ((s.conn c).st = 0) && s.xpt.cache.contains c

/-- The context hit is counted and the connection becomes the one used last (R250). -/
def State.connUsed (s : State) (c : Nat) : State := (s.bump Reg.n_conn_cache_hit).cacheIn c

/-- The frame at the head of XPT[p] leaves it; `rest` stays. -/
def State.xptLeave (s : State) (p : Nat) (rest : List (Frame × Nat)) : State :=
  { s with tm := { s.tm with xptQ := mputD s.tm.xptQ p rest [] } }

/-- The bytes of a Spline packet after its extension. -/
def splBody (u : XPkt) : List Byte := u.pl.drop (32 + (extLen (beAt u.pl 1 1) (bit (beAt u.pl 2 1) 6)).getD 0)

/-- The frame at the head of CORE[n] leaves it; `rest` stays. -/
def State.coreLeave (s : State) (n : Nat) (rest : List (Frame × Nat)) : State :=
  { s with tm := { s.tm with coreQ := mputD s.tm.coreQ n rest [] } }

/-- A message becomes available at an endpoint and is counted (R324). -/
def State.msgAvailable (s : State) (d : Nat) (m : Msg) : State :=
  (s.setEndp d { s.endp d with msgs := (s.endp d).msgs ++ [m] }).bump (Reg.n_ch_messages (epCl d))

/-- What a job that has run leaves: it ends with its status and COUNT, or waits (R341). -/
def jobResEnd (r : Option (Nat × Nat) × State) (v : JobEnv) : State :=
  match r with
  | (some (st, n), s) => s.jobEnd v st n
  | (none, s) => s

/-- A job's result is written to its destination and the job ends. -/
def State.jobOutEnd (s : State) (v : JobEnv) (b : Buf) (l : List Byte) : State := jobResEnd (s.jobOut v b l) v

/-- The next sequenced flit of a link is accepted: counted, and the one after it expected (R393). -/
def State.flitTaken (s : State) (l : Nat) : State :=
  (s.setCasLink l { s.casLink l with rxSeq := ((s.casLink l).rxSeq + 1) % 4096, got := true, nakSent := false }).bump (Reg.n_flits_rx l)

/-- The controller takes the entry at the head of a submission queue: it fetches, the queue holds one, and its completion queue has a
credit (R91, R104, R135). -/
def State.nvReady (s : State) (d y : Nat) : Bool :=
  s.nvFetches d && decide ((s.ring (sqKey d y)).st = .active) && decide ((s.ring (sqKey d y)).waiting ≠ 0) &&
  decide ((s.ring (s.ring (sqKey d y)).link).credits ≠ 0)

/-- That entry taken: the queue's index moves past it, its item is there, and the credit is reserved. -/
def State.nvTaken (s : State) (d y cid : Nat) : State := s.nvTake d y cid (fun s => s)

/-- What a write leaves of a field by its access code (R8, R513): RW and WO take the value, a 1 clears a W1C bit, other fields stay. -/
def plainField (f : FieldRow) (old v : Nat) : Nat :=
  match f.acc with
  | .rw => bits v f.hi f.lo
  | .wo => bits v f.hi f.lo
  | .w1c => bits old f.hi f.lo - Nat.land (bits old f.hi f.lo) (bits v f.hi f.lo)
  | _ => bits old f.hi f.lo

/-- A command of a table ring as the table engine takes it: one form for the seven of them (R183, R184). -/
def tblCmdOf : Instr → Option TblCmd
  | .emInsert r t w fl a k => some { ref := r, opcode := 0x80, table := t, words := w, flags := fl, plen := 0, action := a, key := k }
  | .emUpdate r t w a k => some { ref := r, opcode := 0x81, table := t, words := w, flags := 0, plen := 0, action := a, key := k }
  | .emDelete r t w k => some { ref := r, opcode := 0x82, table := t, words := w, flags := 0, plen := 0, action := [], key := k }
  | .emQuery r t w k => some { ref := r, opcode := 0x83, table := t, words := w, flags := 0, plen := 0, action := [], key := k }
  | .lpmInsert r t w fl n a k => some { ref := r, opcode := 0x84, table := t, words := w, flags := fl, plen := n, action := a, key := k }
  | .lpmDelete r t w n k => some { ref := r, opcode := 0x85, table := t, words := w, flags := 0, plen := n, action := [], key := k }
  | .tableFlush r t fl => some { ref := r, opcode := 0x86, table := t, words := 0, flags := fl, plen := 0, action := [], key := [] }
  | _ => none

/-- A table command that takes effect at once: well formed, its shard not in reset, nothing that holds it back, and its table as it
names it (R184, R187). -/
def State.tblTakes (s : State) (c : TblCmd) : Bool :=
  !c.malformed && !s.inReset 6 (s.tShard c.table) && !s.tblHeld c && decide (s.tblStatus c = 0)

/-- A run of `n` steps is safe when none of them stops the model. -/
def safeRun (n : Nat) (s : State) : Prop := ∃ t, core.run n s = .next t

end Sys2Proof.Machine
end

