-- ==== Sys2Proof/Certificates/Slice0/Obligations.lean ====
section
/-! DEFINITION. The statements for the provers, in the order of the spec's chapters. Most say for a command, under conditions on the
state and the operands alone, which next state it answers; everything that the next state does not name stays as it was. The queue of
the next state is the one the command found: what `exec` answers leaves it alone. -/

open Sys2Proof Sys2Proof.Machine

/-! ## The queue, and what holds of every command -/

/-- A step runs the command at the front of the queue on the state with the rest of the queue. -/
def Obligations.StepRunsFrontCommand : Prop :=
  ∀ (c : Instr) (s : State), step { s with pending := c :: s.pending } = exec c s

/-- Every command answers a next state, in every state and for all operands, and leaves the queue as it found it: no ordinary data
stops the device, and where it stands still the next state says so. The queue stays well formed from step to step, and a run of any
length never stops the model. -/
def Obligations.EveryCommandAnswersNextState : Prop :=
  (∀ (c : Instr) (s : State), ∃ t, exec c s = .next t ∧ t.pending = s.pending) ∧
  (∀ (s t : State), s.queueWf = true → step s = .next t → t.queueWf = true) ∧ (∀ (n : Nat) (s : State), safeRun n s)

/-- Work of the device, and arrivals at it, change nothing while it does not run: in a halt, in a warm reset, in DEEP and OFF, and
before power-on is complete (R144, R414, R427, R490). A register write that arrives during a halt is dropped and counted in
halt_write_drop (R519). -/
def Obligations.WorkStandsStillWhileNotRunning : Prop :=
  (∀ (c : Instr) (s : State), cmdKind c = .work → s.running = false → exec c s = .next s) ∧
  (∀ (c : Instr) (s : State), cmdKind c = .store → s.regOpen = true → s.halted = true →
    exec c s = .next { s.bump Reg.n_halt_write_drop with pending := s.pending })

/-- The halted device, with only work and register writes waiting: every step keeps the halt and leaves everything but the queue, device
time, the UART's line and halt_write_drop as it stands, and so does every step after it (R144, R497, R519). -/
def Obligations.HaltedDeviceStaysHalted : Prop :=
  ∀ (s t : State), s.halted = true → (∀ c ∈ s.pending, cmdKind c ≠ .other) → step s = .next t →
    (t.halted = true ∧ ∀ c ∈ t.pending, cmdKind c ≠ .other) ∧
    t.events = s.events ∧ t.rings = s.rings ∧ t.drw = s.drw ∧ t.lane = s.lane ∧ t.host = s.host ∧ t.cell = s.cell ∧ t.tm = s.tm ∧
    t.prs = s.prs ∧ t.tbl = s.tbl ∧ t.xpt = s.xpt ∧ t.core = s.core ∧ t.acc = s.acc ∧ t.mem = s.mem ∧ t.cas = s.cas ∧ t.pwr = s.pwr ∧
    t.jig = s.jig ∧ t.boot = s.boot ∧ t.err = s.err ∧
    ∀ a, a ≠ Reg.GLB_TIME → a ≠ Reg.GLB_TIME + 4 → a ≠ Reg.n_halt_write_drop → a ≠ Reg.n_halt_write_drop + 4 → t.rd a = s.rd a

/-- The device before power-on is complete, with only work and register writes waiting: every step takes the command at the front of the
queue and leaves everything else as it stands, so the same holds of every step after it (R427, R433). -/
def Obligations.UnpoweredDeviceStandsStill : Prop :=
  ∀ (s t : State), (s.pwr.phase ≠ .up ∧ ∀ c ∈ s.pending, cmdKind c ≠ .other) → step s = .next t →
    (t.pwr.phase ≠ .up ∧ ∀ c ∈ t.pending, cmdKind c ≠ .other) ∧ t = { s with pending := s.pending.tail }

/-- Right after reset the device awaits its supplies and no command waits: the invariant of the unpowered device holds. No register is
away from its reset value, memory holds only zeros, and the register file and memory have their canonical forms. -/
def Obligations.ResetMeetsTheInvariants : Prop :=
  (State.reset.pwr.phase ≠ .up ∧ ∀ c ∈ State.reset.pending, cmdKind c ≠ .other) ∧ State.reset.queueWf = true ∧
  (∀ a, State.reset.rd a = resetWord a) ∧ State.reset.regsWf = true ∧ Memory.wf State.reset.mem.bytes = true

/-! ## The device network and domains (R17–R23, R94) -/

/-- A target's answer to an access (R20, R94, R496): with no fault on its way an access that the fence admits passes, one that it does
not admit is denied and counted, and a master of a class that the spec reserves is never admitted; an access that meets a fault of the
network halts the device instead. A late reply is discarded and counted; a flush replies (R17, R22). -/
def Obligations.NetworkAccesses : Prop :=
  (∀ (tg m a n perm arg : Nat) (s : State), s.running = true → m / 4096 = 0 → tg / 4096 ≠ 5 →
    exec (.nocTargetAccess tg m a n perm 0 arg) s = .next s) ∧
  (∀ (tg d a n perm arg : Nat) (s : State), s.running = true → d < 512 → tg / 4096 ≤ 2 →
    exec (.nocTargetAccess tg (4096 + d) a n perm 0 arg) s =
      if s.fenceAdmits (tg / 4096) (tg % 4096) (4096 + d) a n perm then .next s
      else .next { s.denied tg (4096 + d) a perm with pending := s.pending }) ∧
  (∀ (tg m a n perm arg : Nat) (s : State), s.running = true → 5 ≤ m / 4096 →
    exec (.nocTargetAccess tg m a n perm 0 arg) s = .next { s.denied tg m a perm with pending := s.pending }) ∧
  (∀ (tg m a n perm arg : Nat) (s : State), s.running = true →
    exec (.nocTargetAccess tg m a n perm 16 arg) s = .next { s.halt 3 [tg * 2 ^ 16, arg, 0, 0] with pending := s.pending }) ∧
  (∀ (b : Nat) (s : State), s.running = true → b < 19 →
    exec (.nocLateReply b) s = .next { s.bump (Reg.n_late_reply_discard b) with pending := s.pending }) ∧
  (∀ (tg m : Nat) (s : State), s.running = true → exec (.nocFlush tg m) s = .next s)

/-- A request that waits at a domain's clamp wakes the domain, and the domain takes the state it moves to (R23, R25, R415). -/
def Obligations.DomainMoves : Prop :=
  (∀ (d : Nat) (s : State), s.running = true → isDom d = true → d < 64 → s.domState d ≠ 0 → mget s.pwr.doms d = none →
    exec (.clampRequest d) s = .next { (s.withPwr (fun p => { p with clamp := mput p.clamp d (mgetD p.clamp d 0 + 1) })).domBegin d 0 2 with
      pending := s.pending }) ∧
  (∀ (d : Nat) (s : State), s.running = true → isDom d = true → s.domState d = 0 → exec (.clampRequest d) s = .next s) ∧
  (∀ (d st y : Nat) (s : State), s.running = true → d < 64 → mget s.pwr.doms d = some (st, y) →
    exec (.domainTransitionDone d) s = .next
      { (let u := (s.withPwr (fun p => { p with doms := mdel p.doms d, clamp := if st ≤ 1 then mdel p.clamp d else p.clamp })).set
           (Reg.PWR_DOMAIN_STATE d) st
         (if y = 0 then u.set (Reg.PWR_DOMAIN_GO d) 0 else u).devDerive y) with pending := s.pending })

/-! ## Octets and network ports (R35–R43) -/

/-- An APPLY: a role that the octet does not permit, or one asked for while a change runs, is refused and leaves the old role in force;
one that is taken is in force at once with APPLY_BUSY set, and APPLY_BUSY clears with lane.role_applied when the change ends (R35, R36). -/
def Obligations.OctetRoles : Prop :=
  (∀ (n w : Nat) (s : State), s.writable = true → bit w 31 = false →
    exec (.roleApply n w) s = .next { s.octCfg n w with pending := s.pending }) ∧
  (∀ (n w : Nat) (s : State), s.writable = true → bit w 31 = true → (s.octCfg n w).on (Reg.LANE_OCT_STATUS_APPLY_BUSY n) = true →
    exec (.roleApply n w) s = .next { ((s.octCfg n w).set (Reg.LANE_OCT_STATUS_ROLE_REFUSED n) 1).raise EV_lane_role_refused n
      [bits w 1 0, 0] with pending := s.pending }) ∧
  (∀ (n w : Nat) (s : State), s.writable = true → bit w 31 = true → (s.octCfg n w).on (Reg.LANE_OCT_STATUS_APPLY_BUSY n) = false →
    (bits w 1 0 = 2 ∧ 32 ≤ n) ∨ (bits w 1 0 = 3 ∧ n < 56) →
    exec (.roleApply n w) s = .next { ((s.octCfg n w).set (Reg.LANE_OCT_STATUS_ROLE_REFUSED n) 1).raise EV_lane_role_refused n
      [bits w 1 0, 1] with pending := s.pending }) ∧
  (∀ (n w : Nat) (s : State), s.writable = true → bit w 31 = true → (s.octCfg n w).on (Reg.LANE_OCT_STATUS_APPLY_BUSY n) = false →
    (bits w 1 0 ≤ 1 ∨ (bits w 1 0 = 2 ∧ n < 32) ∨ (bits w 1 0 = 3 ∧ 56 ≤ n)) →
    exec (.roleApply n w) s = .next { (s.octCfg n w).roleTake n w with pending := s.pending }) ∧
  (∀ (n old : Nat) (s : State), s.running = true → mget s.lane.apply n = some old → s.octRole n ≠ 0 → s.lane.refLost = [] →
    exec (.roleApplyDone n) s = .next
      { ((((({ s with lane := { s.lane with apply := mdel s.lane.apply n } } : State).set (Reg.LANE_OCT_STATUS_APPLY_BUSY n) 0).set
          (Reg.LANE_OCT_STATUS_PLL_LOCK n) 1).setReady (128 + n) true).raise EV_lane_role_applied n
          [old, s.octRole n, (s.octPlan n).mode, b2n (s.octPlan n).split]).octWake n with pending := s.pending })

/-- The steps of a network port's bring-up, each from the step before it, with the settings that skip one; what passes its bound is
recorded in LAST_FAIL and begins again; a loss takes the link down (R42, R43, R53). -/
def Obligations.NetworkPortBringUp : Prop :=
  (∀ (p w : Nat) (s : State), s.writable = true → s.on (Reg.LANE_PORT_CTRL_ADMIN_UP p) = bit w 2 →
    exec (.portAdminUp p w) s = .next
      { ((((s.set (Reg.LANE_PORT_CTRL_MAX_FRAME p) (bits w 29 16)).set (Reg.LANE_PORT_CTRL_LOOPBACK p) (bits w 4 3)).set
          (Reg.LANE_PORT_CTRL_ADMIN_UP p) (bits w 2 2)).set (Reg.LANE_PORT_CTRL_TRAIN_EN p) (bits w 1 1)).set
          (Reg.LANE_PORT_CTRL_AN_EN p) (bits w 0 0) with pending := s.pending }) ∧
  (∀ (p w : Nat) (s : State), s.writable = true → s.on (Reg.LANE_PORT_CTRL_ADMIN_UP p) = false → bit w 2 = true →
    exec (.portAdminUp p w) s = .next
      { (((((s.set (Reg.LANE_PORT_CTRL_MAX_FRAME p) (bits w 29 16)).set (Reg.LANE_PORT_CTRL_LOOPBACK p) (bits w 4 3)).set
          (Reg.LANE_PORT_CTRL_ADMIN_UP p) (bits w 2 2)).set (Reg.LANE_PORT_CTRL_TRAIN_EN p) (bits w 1 1)).set
          (Reg.LANE_PORT_CTRL_AN_EN p) (bits w 0 0)).portBegin p with pending := s.pending }) ∧
  (∀ (p : Nat) (s : State), s.running = true → s.portStep p = 2 →
    exec (.autonegDone p) s = .next
      { (s.set (Reg.LANE_PORT_STATUS_AN_DONE p) 1).setPortStep p
          (if s.on (Reg.LANE_PORT_CTRL_TRAIN_EN p) then 3 else 4) with pending := s.pending }) ∧
  (∀ (p : Nat) (s : State), s.running = true → s.portStep p = 3 →
    exec (.linkTrainingDone p) s = .next
      { (s.set (Reg.LANE_PORT_STATUS_TRAINED p) 1).setPortStep p 4 with pending := s.pending }) ∧
  (∀ (p : Nat) (s : State), s.running = true → s.portStep p = 4 →
    exec (.fecLock p) s = .next
      { (((((s.set (Reg.LANE_PORT_STATUS_FEC_LOCK p) 1).setPortUp p true).setPortStep p 5).raise EV_lane_link_up (p / 8) [p]).egressEvent
          p true) with pending := s.pending }) ∧
  (∀ (p : Nat) (s : State), s.running = true → 2 ≤ s.portStep p ∧ s.portStep p ≤ 4 →
    exec (.bringupStepTimeout p) s = .next
      { ((((s.set (Reg.LANE_PORT_STATUS_LAST_FAIL p) (if s.portStep p = 2 then 1 else if s.portStep p = 3 then 2 else 6)).raise
          EV_lane_train_fail (p / 8) [p, s.portStep p]).setPortStep p 0).portBegin p) with pending := s.pending }) ∧
  (∀ (p : Nat) (remote : Bool) (s : State), s.running = true → s.netPort p = true → s.portUp p = true →
    exec (.linkAlignmentLoss p remote) s = .next
      { (s.portDown p (some (if remote then 4 else 3))).portBegin p with pending := s.pending })

/-- A received frame is dropped and counted once, under the first check of R40 it fails; a port whose link is not up receives none, and
while admission is closed for DEEP every frame is dropped; a wake frame goes to the spine; any other frame is passed on (R40, R49). -/
def Obligations.ReceivedFrameChecks : Prop :=
  ∀ (p : Nat) (f : List Byte) (bad : Bool) (s : State), s.running = true →
    ((s.netPort p && s.portUp p) = false → exec (.netFrameRx p f bad) s = .next s) ∧
    ((s.netPort p && s.portUp p) = true →
      (s.pwr.closed = true → exec (.netFrameRx p f bad) s = .next { s.bump Reg.n_deep_ingress_drop with pending := s.pending }) ∧
      (s.pwr.closed = false →
        ((bad || !fcsOk f) = true → exec (.netFrameRx p f bad) s = .next { s.bump (Reg.n_rx_fcs_error p) with pending := s.pending }) ∧
        ((bad || !fcsOk f) = false →
          (f.length < 64 → exec (.netFrameRx p f bad) s = .next { s.bump (Reg.n_rx_runt p) with pending := s.pending }) ∧
          (64 ≤ f.length →
            (s.maxFrame p < f.length → exec (.netFrameRx p f bad) s = .next { s.bump (Reg.n_rx_oversize p) with pending := s.pending }) ∧
            (f.length ≤ s.maxFrame p →
              (etherType f = 0x8808 →
                exec (.netFrameRx p f bad) s = .next { s.bump (Reg.n_rx_mac_control p) with pending := s.pending }) ∧
              (etherType f = 0x88B5 →
                exec (.netFrameRx p f bad) s = .next { s with lane := { s.lane with spineRx := s.lane.spineRx ++ [f.take (f.length - 4)] } }) ∧
              (etherType f ≠ 0x8808 ∧ etherType f ≠ 0x88B5 →
                exec (.netFrameRx p f bad) s = .next { s.rxPass p f with pending := s.pending }))))))

/-- A ninth lane's steering from request to end, its reversal and its refusals (R45–R48). -/
def Obligations.NinthLaneSteering : Prop :=
  (∀ (n w : Nat) (s : State), s.writable = true → bit w 8 = true → bit w 4 = false →
    let u := ((s.set (Reg.LANE_SPARE_CTRL_JIG_ALLOW n) (bits w 16 16)).set (Reg.LANE_SPARE_CTRL_PAIR_MODE n) (bits w 4 4)).set
      (Reg.LANE_SPARE_CTRL_TARGET n) (bits w 2 0)
    (u.spareState n = 0 → exec (.spareSteerGo n w) s = .next
      { ((u.setSteer n (Steer.mk (bits w 2 0) false false false false 0 false false)).set (Reg.LANE_SPARE_CTRL_GO n) 1).set (Reg.LANE_SPARE_STATUS_STATE n) 1 with pending := s.pending }) ∧
    (u.spareState n ≠ 0 → exec (.spareSteerGo n w) s = .next
      { u.set (Reg.LANE_SPARE_STATUS_REFUSED n) 1 with pending := s.pending })) ∧
  (∀ (n : Nat) (x : Steer) (s : State), s.running = true → s.steer n = some x → s.spareState n = 1 → x.pair = false →
    exec (.spareAdaptConverged n) s = .next { s.setSteer n { x with loaded := true } with pending := s.pending }) ∧
  (∀ (n unc : Nat) (x : Steer) (s : State), s.running = true → s.steer n = some x → s.spareState n = 1 → x.loaded = true →
    s.octRole n = 1 → s.laneBusy n x.lane = true →
    exec (.spareChangeover n unc) s = .next
      { ((s.bump (Reg.n_fec_uncorrected_cw (s.lanePort n x.lane)) (min 2 unc)).bump (Reg.n_spare_switch_loss (s.lanePort n x.lane))
          (min 2 unc)).set (Reg.LANE_SPARE_STATUS_STATE n) 2 with pending := s.pending }) ∧
  (∀ (n unc : Nat) (x : Steer) (s : State), s.running = true → s.steer n = some x → s.spareState n = 1 → x.loaded = true →
    s.laneBusy n x.lane = false →
    exec (.spareChangeover n unc) s = .next { s.spareDone n x with pending := s.pending }) ∧
  (∀ (n sym : Nat) (good : Bool) (x : Steer) (s : State), s.running = true → s.steer n = some x → s.spareState n = 2 → x.reverse = false →
    exec (.spareVerifyEnd n good sym) s = .next
      { (if good then
           ((((s.set (Reg.LANE_SPARE_STATUS_IN_USE n) 1).set (Reg.LANE_SPARE_STATUS_IN_USE_FOR n) x.lane).bump
             Reg.n_spares_substituted).spareIdle n).raise EV_lane_spare_steered n [x.lane, b2n x.pair, b2n x.byJig]
         else (s.spareIdle n).raise EV_lane_spare_failed n [x.lane, sym]) with pending := s.pending }) ∧
  (∀ (n : Nat) (s : State), s.writable = true → s.spareState n = 3 →
    let k := s.get (Reg.LANE_SPARE_STATUS_IN_USE_FOR n)
    (bit (s.get (Reg.LANE_SPARE_STATUS_RETIRED n)) k = false → exec (.spareRevert n) s = .next
      { ((s.setSteer n (Steer.mk k (s.on (Reg.LANE_SPARE_CTRL_PAIR_MODE n)) false true false 0 false true)).set (Reg.LANE_SPARE_CTRL_REVERT n) 1).set (Reg.LANE_SPARE_STATUS_STATE n) 1 with
          pending := s.pending }) ∧
    (bit (s.get (Reg.LANE_SPARE_STATUS_RETIRED n)) k = true → exec (.spareRevert n) s = .next
      { s.set (Reg.LANE_SPARE_STATUS_REFUSED n) 1 with pending := s.pending }))

/-- Signal detect, the windows of the FEC decoder, the two writes that move device time, and a network reference that returns (R41, R44,
R51, R544). -/
def Obligations.LaneSignalsAndTime : Prop :=
  (∀ (n k : Nat) (s : State), s.octRole n ≠ 0 → exec (.signalDetectChange n k false) s = .next
    { s.set (Reg.LANE_OCT_STATUS_SIGNAL_DETECT n) (putBits (s.get (Reg.LANE_OCT_STATUS_SIGNAL_DETECT n)) k k 0) with
      pending := s.pending }) ∧
  (∀ (n k : Nat) (up : Bool) (s : State), s.octRole n = 0 → exec (.signalDetectChange n k up) s = .next s) ∧
  (∀ (l sym corr unc : Nat) (s : State), s.running = true → s.octRole (l / 8) = 1 →
    let p := s.lanePort (l / 8) (l % 8)
    let u := ((s.bump (Reg.n_fec_corrected_symbols p) sym).bump (Reg.n_fec_corrected_cw p) corr).bump (Reg.n_fec_uncorrected_cw p) unc
    let win := max 1 (u.get Reg.LANE_FEC_DEGRADE_THR_WINDOWS)
    let o := if u.get Reg.LANE_FEC_DEGRADE_THR_SYMBOLS < sym then mgetD s.lane.overRun l 0 + 1 else 0
    let d := if sym < u.get Reg.LANE_FEC_DEGRADE_THR_SYMBOLS then mgetD s.lane.underRun l 0 + 1 else 0
    let v : State := { u with lane := { u.lane with overRun := mputD u.lane.overRun l (min o win) 0,
                                                    underRun := mputD u.lane.underRun l (min d win) 0 } }
    let is := bit (v.get (Reg.LANE_PORT_STATUS_DEGRADED_LANES p)) (l % 8)
    exec (.fecWindowEnd l sym corr unc) s = .next
      { (if win ≤ o ∧ is = false then v.degrade (l / 8) (l % 8) sym true
         else if win ≤ d ∧ is = true then v.degrade (l / 8) (l % 8) sym false else v) with pending := s.pending }) ∧
  (∀ (w : Nat) (s : State), s.writable = true → bit w 1 = true →
    let u := s.set Reg.LANE_TOD_CTRL_SRC (bits w 0 0)
    (u.follows = true → exec (.todStepGo w) s = .next { u.bump Reg.n_tod_write_ignored with pending := s.pending }) ∧
    (u.follows = false → exec (.todStepGo w) s = .next
      { (let v := u.timeMove (toSigned 64 (u.get Reg.LANE_TOD_STEP_STEP)); { v with lane := { v.lane with todSet := true } }) with
        pending := s.pending })) ∧
  (∀ (w : Nat) (s : State), s.writable = true →
    (s.follows = true → exec (.todRateWrite w) s = .next { s.bump Reg.n_tod_write_ignored with pending := s.pending }) ∧
    (s.follows = false → exec (.todRateWrite w) s = .next { s.set Reg.LANE_TOD_RATE_RATE w with pending := s.pending })) ∧
  (∀ (m : Nat) (s : State), s.running = true →
    let u : State := { s with lane := { s.lane with refLost := s.lane.refLost.filter (fun x => !decide (x = m)) } }
    exec (.netRefclkReturn m) s = .next
      { (u.refOctets m).foldl (fun (v : State) n =>
          if v.on (Reg.LANE_OCT_STATUS_APPLY_BUSY n) then v else (v.set (Reg.LANE_OCT_STATUS_PLL_LOCK n) 1).octWake n) u with
        pending := s.pending })

/-! ## Host ports (R55–R80, R531, R550, R551) -/

/-- A host port's link: training begins when R550 allows it, L0 sets LINK_UP and shows the link, host.link_up follows the rate change,
a link below 16 GT/s goes down, with the third time the port stays down (R56), and a retrain keeps LINK_UP (R551). ENABLE set and cleared,
the reference of a host octet that returns, CFG_READY, and a release of PERST_N, which is also a wake source (R74, R423, R544). -/
def Obligations.HostLinkComesUp : Prop :=
  (∀ (q : Nat) (s : State), s.mayTrain q = true →
    exec (.hostTrainingStart q) s = .next { s.setHport q { s.hport q with phase := .training } with pending := s.pending }) ∧
  (∀ (q v w : Nat) (fl : Bool) (s : State), (s.hport q).phase = .training →
    exec (.hostLinkL0 q v w fl) s = .next
      { ((((s.setHport q { s.hport q with phase := .l0, settled := false, stopped := false }).set (Reg.HOST_PORT_STATUS_LINK_UP q) 1).showLink
          q v w fl).wakeOff q).linkReady q with pending := s.pending }) ∧
  (∀ (q v w : Nat) (fl : Bool) (s : State), (s.hport q).phase = .l0 → (s.hport q).settled = false →
    exec (.hostRateChangeEnd q v w fl) s = .next
      { ((s.showLink q v w fl).setHport q { (s.showLink q v w fl).hport q with settled := true, attempts := 0 }).hostEvent q EV_host_link_up
          [v, w, b2n fl] with pending := s.pending }) ∧
  (∀ (q v : Nat) (s : State), (s.hport q).phase = .training → (s.hport q).settled = false →
    let u := (s.showLink q 0 0 false).set (Reg.HOST_PORT_STATUS_LINK_UP q) 0
    ((s.hport q).attempts < 2 → exec (.hostLinkSettledLow q v) s = .next
      { u.setHport q { u.hport q with phase := .training, attempts := (s.hport q).attempts + 1 } with pending := s.pending }) ∧
    (2 ≤ (s.hport q).attempts → exec (.hostLinkSettledLow q v) s = .next
      { ((u.setHport q { u.hport q with phase := .down, attempts := 3, gaveUp := true }).set (Reg.HOST_PORT_STATUS_LAST_DOWN q) 6).hostEvent
          q EV_host_speed_floor [v] with pending := s.pending })) ∧
  (∀ (q : Nat) (s : State), s.writable = true → (s.hport q).phase = .l0 →
    exec (.hostRetrain q) s = .next
      { (s.set (Reg.HOST_PORT_CTRL_RETRAIN q) 1).setHport q { s.hport q with phase := .recovery } with pending := s.pending }) ∧
  (∀ (q v w n : Nat) (fl : Bool) (s : State), (s.hport q).phase = .recovery →
    exec (.hostRetrainDone q v w fl n) s = .next
      { ((((s.setHport q { s.hport q with phase := .l0 }).set (Reg.HOST_PORT_CTRL_RETRAIN q) 0).showLink q v w fl).bump (Reg.n_flit_replay q)
          n).linkReady q with pending := s.pending }) ∧
  (∀ (q : Nat) (s : State), (s.hport q).phase = .l0 →
    exec (.hostLinkRecovery q) s = .next { s.setHport q { s.hport q with phase := .recovery } with pending := s.pending }) ∧
  (∀ (q : Nat) (s : State), s.writable = true →
    exec (.hostEnableSet q) s = .next { (s.set (Reg.HOST_PORT_CFG_ENABLE q) 1).setHport q
      { s.hport q with attempts := 0, gaveUp := false, disabled := false } with pending := s.pending }) ∧
  (∀ (q : Nat) (s : State), s.writable = true →
    let u := s.set (Reg.HOST_PORT_CFG_ENABLE q) 0
    (u.on (Reg.HOST_PORT_STATUS_LINK_UP q) = true →
      exec (.hostEnableClear q) s = .next { u.portReset q 3 with pending := s.pending }) ∧
    (u.on (Reg.HOST_PORT_STATUS_LINK_UP q) = false → (s.hport q).phase = .down →
      exec (.hostEnableClear q) s = .next { u with pending := s.pending })) ∧
  (∀ (n : Nat) (s : State), exec (.pcieRefclkReturn n) s = .next
    { s with lane := { s.lane with refLost := s.lane.refLost.filter (fun y => !decide (y = 256 + n)) } }) ∧
  (∀ (q : Nat) (s : State), s.hostExists q = true → s.on (Reg.HOST_PORT_STATUS_PERST_ASSERTED q) = false →
    exec (.cfgReady q) s = .next { (s.set (Reg.HOST_PORT_STATUS_CFG_READY q) 1).setReady (192 + q) true with pending := s.pending }) ∧
  (∀ (q : Nat) (s : State), exec (.perstRelease q) s = .next
    { (s.set (Reg.HOST_PORT_STATUS_PERST_ASSERTED q) 0).pwrWake 2 none with pending := s.pending })

/-- Writes that shape a port's functions: TOTAL_VFS within 256 per port and not under VF Enable (R58), ORDER_MODE (R67), MGR_PORT (R65), and
what the host itself writes: VF Enable, its count of VFs, and a configuration request (R60, R74, R82). -/
def Obligations.HostFunctions : Prop :=
  (∀ (q f w : Nat) (s : State), s.writable = true →
    let u := s.set (Reg.HOST_PF_CFG_PF_EN q f) (if f = 0 then 1 else bits w 24 24)
    bits w 8 0 ≠ u.get (Reg.HOST_PF_CFG_TOTAL_VFS q f) →
    (256 < bits w 8 0 + u.otherVfs q f ∨ (u.hport q).vfEn.contains f = true →
      exec (.totalVfsWrite q f w) s = .next
        { (u.set (Reg.HOST_PORT_STATUS_PF_REFUSED q) 1).hostEvent q EV_host_pf_refused [f, bits w 8 0] with pending := s.pending }) ∧
    (bits w 8 0 + u.otherVfs q f ≤ 256 → (u.hport q).vfEn.contains f = false →
      exec (.totalVfsWrite q f w) s = .next { u.set (Reg.HOST_PF_CFG_TOTAL_VFS q f) (bits w 8 0) with pending := s.pending })) ∧
  (∀ (q mode : Nat) (s : State), s.writable = true → mode ≠ s.get (Reg.HOST_PORT_CFG_ORDER_MODE q) →
    ((s.hport q).vfEn ≠ [] → exec (.orderModeWrite q mode) s = .next
      { (s.set (Reg.HOST_PORT_STATUS_ORDER_REFUSED q) 1).hostEvent q EV_host_order_refused [0] with pending := s.pending }) ∧
    ((s.hport q).vfEn = [] → s.mgrPort ≠ some q →
      exec (.orderModeWrite q mode) s = .next { s.set (Reg.HOST_PORT_CFG_ORDER_MODE q) mode with pending := s.pending })) ∧
  (∀ (v : Nat) (s : State), s.writable = true → exec (.mgrPortWrite v) s = .next
    { (let u := (s.set Reg.HOST_MGR_CFG_MGR_PORT v).mgrPlace
       u.set Reg.HOST_MGR_CFG_PENDING (if u.get Reg.HOST_MGR_CFG_MGR_PORT = u.get Reg.HOST_MGR_CFG_MGR_PORT_ACTIVE then 0 else 1)) with
      pending := s.pending }) ∧
  (∀ (s : State), s.get Reg.HOST_MGR_CFG_MGR_PORT ≠ 0x7F → 64 ≤ s.get Reg.HOST_MGR_CFG_MGR_PORT_ACTIVE →
    s.hostExists (s.get Reg.HOST_MGR_CFG_MGR_PORT) = true →
    exec .mgrPortPlace s = .next
      { (({ s with host := { s.host with mgrWaits := false } } : State).set Reg.HOST_MGR_CFG_MGR_PORT_ACTIVE
          (s.get Reg.HOST_MGR_CFG_MGR_PORT)).set Reg.HOST_MGR_CFG_PENDING 0 with pending := s.pending }) ∧
  (∀ (q f n : Nat) (s : State), s.running = true → (s.hport q).pfEn.contains f = true →
    exec (.vfEnableSet q f n) s = .next
      { (s.setHport q { s.hport q with vfEn := if (s.hport q).vfEn.contains f then (s.hport q).vfEn else (s.hport q).vfEn ++ [f],
                                       numVfs := mputD (s.hport q).numVfs f n 0 }).pfActive q f with pending := s.pending }) ∧
  (∀ (q f : Nat) (s : State), s.running = true →
    exec (.vfEnableClear q f) s = .next
      { (s.setHport q { s.hport q with vfEn := (s.hport q).vfEn.filter (fun x => !decide (x = f)) }).pfInactive q f with
        pending := s.pending }) ∧
  (∀ (q f n : Nat) (s : State), s.running = true →
    exec (.hostTotalVfsWrite q f n) s = .next
      { ((s.setHport q { s.hport q with numVfs := mputD (s.hport q).numVfs f n 0 }).pfInactive q f).pfActive q f with
        pending := s.pending }) ∧
  (∀ (q fn : Nat) (op : CfgOp) (s : State), s.on (Reg.HOST_PORT_STATUS_LINK_UP q) = true →
    (s.on (Reg.HOST_PORT_STATUS_CFG_READY q) = false →
      exec (.configRequest q fn op) s = .next { s.emit (.pcie q .cfgRetry) with pending := s.pending }) ∧
    (s.on (Reg.HOST_PORT_STATUS_CFG_READY q) = true → s.fnThere q fn = false →
      exec (.configRequest q fn op) s = .next { s.emit (.pcie q .unsupported) with pending := s.pending }) ∧
    (s.on (Reg.HOST_PORT_STATUS_CFG_READY q) = true → s.fnThere q fn = true →
      exec (.configRequest q fn op) s = .next { (s.cfgApply q fn op).emit (.pcie q .cfgOk) with pending := s.pending }))

/-- Memory requests to a port's BARs: Unsupported Request where the function does not answer, Completer Abort from a drawer's function in
a halt, zero and a count where no page defines the address, and the identity page of a VF without a drawer (R60, R63, R75); and a
consumer index of PF0's event log that does not pass the producer's (R531). -/
def Obligations.HostBarAccesses : Prop :=
  (∀ (q fn bar off len who : Nat) (s : State), s.regOpen = true → s.on (Reg.HOST_PORT_STATUS_LINK_UP q) = true → s.fnAnswers q fn = false →
    exec (.barMemoryRead q fn bar off len who) s = .next { s.emit (.reply 1 who 1 []) with pending := s.pending }) ∧
  (∀ (q fn bar off len who : Nat) (s : State), s.regOpen = true → s.on (Reg.HOST_PORT_STATUS_LINK_UP q) = true → s.fnAnswers q fn = true →
    off + len ≤ s.barSize fn bar → s.halted = true → 4 ≤ fn →
    exec (.barMemoryRead q fn bar off len who) s = .next { s.emit (.reply 1 who 4 []) with pending := s.pending }) ∧
  (∀ (q who : Nat) (s : State), s.regOpen = true → s.on (Reg.HOST_PORT_STATUS_LINK_UP q) = true → s.fnAnswers q 1 = true →
    exec (.barMemoryRead q 1 0 0x800 4 who) s = .next
      { (s.bump (Reg.n_bar_reserved_access q)).emit (.reply 1 who 0 [0, 0, 0, 0]) with pending := s.pending }) ∧
  (∀ (q fn bar off who : Nat) (l : List Byte) (s : State), s.regOpen = true → s.on (Reg.HOST_PORT_STATUS_LINK_UP q) = true →
    s.fnAnswers q fn = false →
    exec (.barMemoryWrite q fn bar off l who) s = .next { s.emit (.pcie q .unsupported) with pending := s.pending }) ∧
  (∀ (q fn bar off who : Nat) (l : List Byte) (s : State), s.regOpen = true → s.on (Reg.HOST_PORT_STATUS_LINK_UP q) = true →
    s.fnAnswers q fn = true → off + l.length ≤ s.barSize fn bar → s.halted = true → 4 ≤ fn →
    exec (.barMemoryWrite q fn bar off l who) s = .next s) ∧
  (∀ (q fn off d who : Nat) (l : List Byte) (s : State), s.regOpen = true → s.on (Reg.HOST_PORT_STATUS_LINK_UP q) = true →
    s.fnAnswers q fn = true → off + l.length ≤ s.barSize fn 2 → s.running = true → s.halted = false → 4 ≤ fn → s.fnDrawer q fn = some d →
    exec (.barMemoryWrite q fn 2 off l who) s = .next { s.barLost q (s.bellPut d off l) with pending := s.pending }) ∧
  (∀ (q v : Nat) (s : State), s.running = true →
    ((v + 2 ^ 32 - (s.hport q).logCons) % 2 ^ 32 ≤ (s.hport q).unread →
      exec (.pf0EvtConsWrite q v) s = .next { s.setHport q { s.hport q with logCons := v } with pending := s.pending }) ∧
    ((s.hport q).unread < (v + 2 ^ 32 - (s.hport q).logCons) % 2 ^ 32 → exec (.pf0EvtConsWrite q v) s = .next s))

/-- Ends of DMA reads and of translations (R68, R69), and the tolerance a port reports (R70): a read that fails ends its work with
HOST_ABORT or HOST_TIMEOUT, a completion that answers no read is discarded and counted, an invalidation stops the entries it covers and is
answered once no read uses them. -/
def Obligations.HostDmaAndTranslation : Prop :=
  (∀ (q tag : Nat) (good : Bool) (l : List Byte) (s : State), s.running = true →
    (s.hport q).reads.find? (fun r => decide (r.tag = tag) && r.issued && r.data.isNone) = none →
    exec (.hostDmaCompletion q tag good l) s = .next { s.bump (Reg.n_late_cpl_discard q) with pending := s.pending }) ∧
  (∀ (q tag : Nat) (l : List Byte) (r : DmaRead) (s : State), s.running = true →
    (s.hport q).reads.find? (fun r => decide (r.tag = tag) && r.issued && r.data.isNone) = some r →
    exec (.hostDmaCompletion q tag false l) s = .next
      { ((s.bump (Reg.n_host_abort q)).readFail q r 0x24).issueReads q with pending := s.pending }) ∧
  (∀ (q tag : Nat) (r : DmaRead) (s : State), s.running = true →
    (s.hport q).reads.find? (fun r => decide (r.tag = tag) && r.issued && r.data.isNone) = some r →
    exec (.hostDmaTimeout q tag) s = .next
      { (((s.bump (Reg.n_cpl_timeout q)).hostEvent q EV_host_cpl_timeout [r.drawer, tag]).readFail q r 0x25).issueReads q with
        pending := s.pending }) ∧
  (∀ (q fn page xl perm : Nat) (s : State), s.running = true →
    (s.hport q).atsWait.any (fun w => decide (w.fn = fn) && decide (w.page = page)) = true → (s.hport q).invalid fn page = true →
    exec (.atsTranslationReply q fn page xl perm) s = .next
      { (s.emit (.pcie q (.translationRequest (page * 4096)))).bump (Reg.n_ats_translations q) with pending := s.pending }) ∧
  (∀ (q tag fn page n : Nat) (s : State), s.running = true →
    exec (.atsInvalidationRequest q tag fn page n) s = .next
      { s.setHport q { s.hport q with
          invals := (s.hport q).invals ++ [{ tag := tag, fn := fn, page := page, pages := n }]
          cache := (s.hport q).cache.filter (fun e => !(decide (e.fn = fn) && decide (page ≤ e.page) && decide (e.page < page + n))) } with
        pending := s.pending }) ∧
  (∀ (q tag : Nat) (i : AtsInval) (s : State), s.running = true → (s.hport q).invals.find? (fun i => decide (i.tag = tag)) = some i →
    (s.hport q).reads = [] →
    exec (.atsInvalidationComplete q tag) s = .next
      { ((s.setHport q { s.hport q with invals := (s.hport q).invals.filter (fun i => !decide (i.tag = tag)) }).emit
          (.pcie q (.invalidationCompletion tag))).bump (Reg.n_ats_invalidations q) with pending := s.pending }) ∧
  (∀ (q : Nat) (s : State), s.running = true → (s.hport q).ltrEn = true → s.on (Reg.HOST_PORT_STATUS_LINK_UP q) = true →
    s.tolerance q ≠ (s.hport q).ltrLast → 100000 ≤ s.now - (s.hport q).ltrAt →
    exec (.ltrChange q) s = .next
      { (s.setHport q { s.hport q with ltrLast := s.tolerance q, ltrAt := s.now }).emit (.pcie q (.ltr (s.tolerance q))) with
        pending := s.pending })

/-- D3hot, PME_Turn_Off and L2, with the wake conditions of R73 before and in L2 (R71–R73). -/
def Obligations.HostLowPower : Prop :=
  (∀ (q fn : Nat) (s : State), s.fnThere q fn = true → s.fnDrawer q fn = none →
    exec (.d3hotEntry q fn) s = .next
      { s.setHport q { s.hport q with d3 := if (s.hport q).d3.contains fn then (s.hport q).d3 else (s.hport q).d3 ++ [fn] } with
        pending := s.pending }) ∧
  (∀ (q : Nat) (s : State), s.on (Reg.HOST_PORT_STATUS_LINK_UP q) = true →
    exec (.pmeTurnOff q) s = .next { s.setHport q { s.hport q with stopped := true, phase := .l2entry } with pending := s.pending }) ∧
  (∀ (q : Nat) (s : State), (s.hport q).phase = .l2entry → (s.hport q).reads = [] → (s.hport q).wakePend = none →
    exec (.l2EntryDone q) s = .next
      { (((((s.emit (.pcie q .pmeToAck)).setHport q { s.hport q with phase := .l2, wakePend := none }).showLink q 0 0 false).set
          (Reg.HOST_PORT_STATUS_LINK_UP q) 0).set (Reg.HOST_PORT_STATUS_L2 q) 1) with pending := s.pending }) ∧
  (∀ (q fn cond : Nat) (s : State), s.running = true → s.on (Reg.HOST_PORT_CFG_WAKE_EN q) = true → (s.hport q).pmeEn.contains fn = true →
    ((s.hport q).phase = .l2entry →
      exec (.wakeConditionL2 q fn cond) s = .next { s.setHport q { s.hport q with wakePend := some cond } with pending := s.pending }) ∧
    ((s.hport q).phase = .l2 → s.on (Reg.HOST_PORT_STATUS_WAKE_ASSERTED q) = false →
      exec (.wakeConditionL2 q fn cond) s = .next
        { ((s.set (Reg.HOST_PORT_STATUS_WAKE_ASSERTED q) 1).emit (.pin ("WAKE_N[" ++ toString q ++ "]") false)).hostEvent q EV_host_wake
            [cond] with pending := s.pending }))

/-- Resets of a host port and of its functions (R57, R75, R79), and its retirement, acknowledged or timed out (R76). -/
def Obligations.HostPortResets : Prop :=
  (∀ (q : Nat) (s : State), (s.set (Reg.HOST_PORT_STATUS_PERST_ASSERTED q) 1).hostExists q = true →
    exec (.perstAssert q) s = .next
      { (let u := (((s.set (Reg.HOST_PORT_STATUS_PERST_ASSERTED q) 1).portReset q 1).set (Reg.HOST_PORT_STATUS_CFG_READY q) 0).setReady
           (192 + q) false
         u.setHport q { u.hport q with attempts := 0, gaveUp := false }) with pending := s.pending }) ∧
  (∀ (q : Nat) (s : State), s.hostExists q = true →
    exec (.hotResetRx q) s = .next { s.portReset q 2 with pending := s.pending } ∧
    exec (.linkDisableRx q) s = .next { s.portReset q 3 with pending := s.pending }) ∧
  (∀ (q : Nat) (s : State), s.on (Reg.HOST_PORT_STATUS_PERST_ASSERTED q) = false → s.on (Reg.HOST_PORT_STATUS_LINK_UP q) = true →
    exec (.surpriseLoss q) s = .next
      { (let u := ((s.portReset q 4).bump (Reg.n_surprise_down_count q)).hostEvent q EV_host_surprise_down
           [((s.portDrawers q).filter (fun d => decide (2 ≤ s.drState d))).length]
         if (u.hport q).retiring then u.retired q 1 else u) with pending := s.pending }) ∧
  (∀ (q f v : Nat) (s : State), s.running = true → s.fnThere q (4 + 256 * f + v) = true → s.vfDrawer q f v = none →
    exec (.vfFlr q f v) s = .next
      { (s.setHport q ((s.hport q).clearFn (4 + 256 * f + v))).hostEvent q EV_host_flr [s.fnNumber q (4 + 256 * f + v), 0] with
        pending := s.pending }) ∧
  (∀ (q f v d : Nat) (s : State), s.running = true → s.fnThere q (4 + 256 * f + v) = true → s.vfDrawer q f v = some d →
    exec (.vfFlr q f v) s = .next
      { (let u := s.setHport q ((s.hport q).clearFn (4 + 256 * f + v))
         (u.setHport q { u.hport q with flrs := (u.hport q).flrs ++ [(s.fnNumber q (4 + 256 * f + v), [d], 1)] }).hostReset d 3) with
        pending := s.pending }) ∧
  (∀ (q f : Nat) (s : State), s.running = true → s.fnThere q f = true → f ≠ 0 →
    exec (.pfFlr q f) s = .next
      { (let h := (List.range 256).foldl (fun (h : HostPort) v => h.clearFn (4 + 256 * f + v)) ((s.hport q).clearFn f)
         (s.setHport q { h with vfEn := h.vfEn.filter (fun y => !decide (y = f)) }).flrBegin q f
           ((s.pfDrawers q f).filter (fun d => decide (2 ≤ s.drState d)))) with pending := s.pending }) ∧
  (∀ (q : Nat) (s : State), s.writable = true → s.hostExists q = true → (s.hport q).retiring = false →
    exec (.portRetire q) s = .next
      { (let u := (s.set (Reg.HOST_PORT_CTRL_RETIRE q) 1).set (Reg.HOST_PORT_STATUS_RETIRED q) 0
         let v := u.setHport q { u.hport q with retiring := true }
         v.logRecord q { code := EV_host_retired, source := q, time := v.now, dest := 0, detail := [2] }) with pending := s.pending }) ∧
  (∀ (q : Nat) (s : State), s.running = true → (s.hport q).retiring = true →
    exec (.retireAck q) s = .next { (s.portReset q 3).retired q 0 with pending := s.pending } ∧
    exec (.retireTimeout q) s = .next { (s.portReset q 3).retired q 1 with pending := s.pending })

/-! ## Drawers and fences (R82–R107) -/

/-- What every drawer command checks before it acts: an entry that breaks its format halts the device, a drawer in a sequence answers
DRAWER_BUSY, and a drawer in a state that the command does not accept answers DRAWER_STATE (R83, R84, R87). -/
def Obligations.DrawerCommandRefusals : Prop :=
  ∀ (op : Nat) (ok : List Nat) (c : Ref → List Byte → Instr),
    (op, ok, c) ∈ [(0x61, [1], Instr.drawerBind), (0x62, [2, 5], .drawerUnbind), (0x65, [5], .drawerResume),
      (0x67, [1, 5], .drawerDestroy)] →
    ∀ (r : Ref) (e : List Byte) (s : State), s.running = true → s.mayStart r = true →
      let u := s.markStarted r
      let d := leAt e 8 2
      (drFields op e = false → exec (c r e) s = .next { u.malformed r 4 op with pending := s.pending }) ∧
      (drFields op e = true → (mget u.drw.quiesce d).isSome = true →
        exec (c r e) s = .next { u.complete r ST_DRAWER_BUSY 0 [u.drGen d] with pending := s.pending }) ∧
      (drFields op e = true → mget u.drw.quiesce d = none → ok.contains (u.drState d) = false →
        exec (c r e) s = .next { u.complete r ST_DRAWER_STATE 0 [u.drGen d] with pending := s.pending })

/-- What a drawer command does that its checks let through (R83, R86, R88, R89): a granted list of shares makes a FREE drawer CREATED, a
failed grant names its position and pool, a binding that fits takes its VF, and so on through to DRAWER_DESTROY. -/
def Obligations.DrawerLifeCycle : Prop :=
  (∀ (r : Ref) (e : List Byte) (cs : List (List Byte)) (g : Grant) (v s : State), s.running = true → s.mayStart r = true →
    let u := s.markStarted r
    let d := leAt e 8 2
    drFields 0x60 e = true → sharesOk (decide (leAt e 10 1 = 1)) cs = true → mget u.drw.quiesce d = none → u.drState d = 0 →
    grantList d (decide (leAt e 10 1 = 1)) 0 { shares := [], ranges := u.tbl.ranges } (shareList cs) u = (.ok g, v) →
    exec (.drawerCreate r e cs) s = .next
      { (let w := ((((v.set (Reg.DRW_DRAWER_STATUS_KIND d) (leAt e 10 1)).set (Reg.DRW_DRAWER_STATUS_PERSONALITY d) (leAt e 11 1)).setDr d
           1).setShares d g)
         w.complete r 0 0 [w.drGen d]) with pending := s.pending }) ∧
  (∀ (r : Ref) (e : List Byte) (cs : List (List Byte)) (st pos pool : Nat) (v s : State), s.running = true → s.mayStart r = true →
    let u := s.markStarted r
    let d := leAt e 8 2
    drFields 0x60 e = true → sharesOk (decide (leAt e 10 1 = 1)) cs = true → mget u.drw.quiesce d = none → u.drState d = 0 →
    grantList d (decide (leAt e 10 1 = 1)) 0 { shares := [], ranges := u.tbl.ranges } (shareList cs) u = (.error (st, pos, pool), v) →
    exec (.drawerCreate r e cs) s = .next { v.complete r st (pos + pool * 2 ^ 32) [v.drGen d] with pending := s.pending }) ∧
  (∀ (r : Ref) (e : List Byte) (s : State), s.running = true → s.mayStart r = true →
    let u := s.markStarted r
    let d := leAt e 8 2
    let q := leAt e 12 1
    let f := leAt e 13 1
    let v := leAt e 14 2
    drFields 0x61 e = true → mget u.drw.quiesce d = none → u.drState d = 1 →
    (u.hostExists q = true → f = u.get (Reg.DRW_DRAWER_STATUS_PERSONALITY d) → (u.hport q).pfEn.contains f = true → v < 256 →
      u.vfDrawer q f v = none →
      exec (.drawerBind r e) s = .next
        { (let b := (((u.set (Reg.DRW_DRAWER_BIND_BOUND d) 1).set (Reg.DRW_DRAWER_BIND_PORT d) q).set (Reg.DRW_DRAWER_BIND_PF d) f).set
             (Reg.DRW_DRAWER_BIND_VF d) v
           let b := b.setDr d (if b.vfLive d then 3 else 2)
           b.complete r 0 0 [b.drGen d]) with pending := s.pending }) ∧
    (u.hostExists q = false →
      exec (.drawerBind r e) s = .next { u.complete r ST_BIND_CONFLICT 0 [u.drGen d] with pending := s.pending })) ∧
  (∀ (r : Ref) (e : List Byte) (s : State), s.running = true → s.mayStart r = true →
    let u := s.markStarted r
    let d := leAt e 8 2
    drFields 0x62 e = true → mget u.drw.quiesce d = none → (u.drState d = 2 ∨ u.drState d = 5) →
    exec (.drawerUnbind r e) s = .next
      { (let w := ((u.ringsGone d).unbind d).setDr d 1; w.complete r 0 0 [w.drGen d]) with pending := s.pending }) ∧
  (∀ (r : Ref) (e : List Byte) (s : State), s.running = true → s.mayStart r = true →
    let u := s.markStarted r
    let d := leAt e 8 2
    drFields 0x65 e = true → mget u.drw.quiesce d = none → u.drState d = 5 →
    exec (.drawerResume r e) s = .next
      { (let w := (u.setDr d (if u.vfLive d then 3 else 2)).replayBells d; w.complete r 0 0 [w.drGen d]) with pending := s.pending }) ∧
  (∀ (r : Ref) (e : List Byte) (cs : List (List Byte)) (g : Grant) (v s : State), s.running = true → s.mayStart r = true →
    let u := s.markStarted r
    let d := leAt e 8 2
    drFields 0x66 e = true → sharesOk (u.sealed d) cs = true → mget u.drw.quiesce d = none → (u.drState d = 1 ∨ u.drState d = 5) →
    grantList d (u.sealed d) 0 { shares := u.sharesOf d, ranges := u.tbl.ranges } (shareList cs) u = (.ok g, v) →
    exec (.drawerResize r e cs) s = .next
      { (v.setShares d g).complete r 0 0 [(v.setShares d g).drGen d] with pending := s.pending }) ∧
  (∀ (r : Ref) (e : List Byte) (s : State), s.running = true → s.mayStart r = true →
    let u := s.markStarted r
    let d := leAt e 8 2
    drFields 0x67 e = true → mget u.drw.quiesce d = none → (u.drState d = 1 ∨ u.drState d = 5) →
    (u.exactFences d).any (fun e => e.2.lock) = true →
    exec (.drawerDestroy r e) s = .next { u.complete r ST_FENCE_LOCKED 0 [u.drGen d, 0] with pending := s.pending }) ∧
  (∀ (r : Ref) (e : List Byte) (s : State), s.running = true → s.mayStart r = true →
    let u := s.markStarted r
    let d := leAt e 8 2
    drFields 0x67 e = true → mget u.drw.quiesce d = none → (u.drState d = 1 ∨ u.drState d = 5) →
    (u.exactFences d).any (fun e => e.2.lock) = false →
    exec (.drawerDestroy r e) s = .next
      { ((u.drGone d).setDr d 0).complete r 0 0 [(u.drGone d).drGen d, (u.exactFences d).length] with pending := s.pending })

/-- A drawer's sequence from its command to its end, step by step (R104, R105): DRAWER_QUIESCE and DRAWER_RESET begin it, each engine's
report moves it on from the step it belongs to, and a report out of its step changes nothing. -/
def Obligations.QuiesceSequence : Prop :=
  (∀ (r : Ref) (e : List Byte) (s : State), s.running = true → s.mayStart r = true →
    let u := s.markStarted r
    let d := leAt e 8 2
    drFields 0x63 e = true → mget u.drw.quiesce d = none → (u.drState d = 2 ∨ u.drState d = 3) → leAt e 18 2 ≠ 0 →
    exec (.drawerQuiesce r e) s = .next
      { u.quiesceBegin d (Quiesce.fresh 0 [r] (bit (leAt e 16 1) 1) (bit (leAt e 16 1) 0) false (leAt e 18 2)) with pending := s.pending }) ∧
  (∀ (r : Ref) (e : List Byte) (s : State), s.running = true → s.mayStart r = true →
    let u := s.markStarted r
    let d := leAt e 8 2
    drFields 0x64 e = true → mget u.drw.quiesce d = none →
    (u.drState d = 5 → exec (.drawerReset r e) s = .next
      { u.quiesceBegin d (Quiesce.fresh 1 [r] true true false 0) with pending := s.pending }) ∧
    (u.drState d = 2 ∨ u.drState d = 3 → exec (.drawerReset r e) s = .next
      { ((u.bump Reg.n_reset_unquiesced).raise EV_drw_reset_unquiesced d [(u.drItems d).length]).quiesceBegin d
          (Quiesce.fresh 1 [r] true true false 0) with pending := s.pending })) ∧
  (∀ (d : Nat) (q : Quiesce) (s : State), s.running = true → mget s.drw.quiesce d = some q →
    (q.step = .fetch → exec (.quiesceFetchIdle d) s = .next
      { (if q.skipDrain then s.quiesceAbort d q else s.setQuiesce d { q with step := .drain }) with pending := s.pending }) ∧
    (q.step = .drain → (s.drainItems d).isEmpty = true →
      exec (.quiesceDrainDone d) s = .next { s.quiesceAbort d q with pending := s.pending }) ∧
    (q.step = .drain → exec (.quiesceDrainTimeout d) s = .next
      { ((s.bump Reg.n_quiesce_timeout).raise EV_drw_quiesce_timeout d [(s.drainItems d).length]).quiesceAbort d { q with timedOut := true } with
        pending := s.pending }) ∧
    (q.step = .abort → exec (.quiesceAbortDone d) s = .next
      { (s.set (Reg.DRW_DRAWER_STATUS_GENERATION d) ((s.drGen d + 1) % 2 ^ 16)).setQuiesce d { q with step := .purge } with
        pending := s.pending }) ∧
    (q.step = .purge → q.fromQ = false → s.drLink d = true → exec (.generationPurgeDone d) s = .next
      { (s.emit (.pcie ((s.drPort d).getD 0) .flushRead)).setQuiesce d { q with step := .flush } with pending := s.pending }) ∧
    (q.step = .purge → q.fromQ = true → exec (.generationPurgeDone d) s = .next { s.resetBegin d q with pending := s.pending }) ∧
    (q.step = .flush → q.doReset = false → q.ringOnly = false → exec (.quiesceFlushReadDone d) s = .next
      { ((s.setDr d 5).raise EV_drw_quiesced d [s.drGen d, q.aborted]).quiesceEnd d q with pending := s.pending }) ∧
    (q.step = .reset → (s.tablesOf d).any (fun t => s.sweeping t) = false →
      exec (.resetStepDone d) s = .next { s.resetEnd d q with pending := s.pending }) ∧
    (q.step ≠ .fetch → exec (.quiesceFetchIdle d) s = .next s) ∧ (q.step ≠ .abort → exec (.quiesceAbortDone d) s = .next s))

/-- FENCE_SET and FENCE_CLEAR (R95–R99): a malformed entry halts, a locked entry refuses both, an overlap is refused while disjointness
is enforced, and otherwise the entries named are written, or invalid, with DISJOINT following. -/
def Obligations.FenceEntries : Prop :=
  (∀ (r : Ref) (e : List Byte) (s : State), s.running = true → s.mayStart r = true →
    let u := s.markStarted r
    let locked := (fenceKeys e).any (fun k => ((mget u.drw.fences k).map (·.lock)).getD false)
    (fenceOk e = false → exec (.fenceSet r e) s = .next { u.malformed r 4 0x70 with pending := s.pending }) ∧
    (fenceOk e = true → locked = true → exec (.fenceSet r e) s = .next { u.complete r ST_FENCE_LOCKED 0 [] with pending := s.pending }) ∧
    (fenceOk e = true → locked = false → u.on Reg.DRW_CFG_DISJOINT_ENFORCE = false → exec (.fenceSet r e) s = .next
      { ({ u with drw := { u.drw with fences := (fenceKeys e).foldl (fun m k => mput m k (fenceOf e)) u.drw.fences } } : State).fenceSync.complete
          r 0 0 [] with pending := s.pending }) ∧
    (∀ d, fenceOk e = true → locked = false → u.on Reg.DRW_CFG_DISJOINT_ENFORCE = true → u.fenceClash (fenceKeys e) (fenceOf e) = some d →
      exec (.fenceSet r e) s = .next
        { ((u.bump Reg.n_fence_overlap_refused).raise EV_drw_fence_overlap 0xFFFF [leAt e 8 2, leAt e 10 2, d]).complete r ST_FENCE_OVERLAP 0
            [] with pending := s.pending })) ∧
  (∀ (r : Ref) (e : List Byte) (s : State), s.running = true → s.mayStart r = true →
    let u := s.markStarted r
    let locked := (fenceKeys e).any (fun k => ((mget u.drw.fences k).map (·.lock)).getD false)
    (fenceOk e = true → locked = true → exec (.fenceClear r e) s = .next { u.complete r ST_FENCE_LOCKED 0 [] with pending := s.pending }) ∧
    (fenceOk e = true → locked = false → exec (.fenceClear r e) s = .next
      { ({ u with drw := { u.drw with fences := (fenceKeys e).foldl (fun m k => mdel m k) u.drw.fences } } : State).fenceSync.complete r 0 0
          [] with pending := s.pending }))

/-- Refusals at targets (R100): each increments fence_denied_total, one of a drawer's master that drawer's fence_denied too, and
drw.fence_denied is raised unless it was raised for the same master less than a millisecond ago. -/
def Obligations.FenceRefusalsAreCounted : Prop :=
  ∀ (tg m a n perm arg : Nat) (s : State), s.running = true → s.targetAdmits tg m a n perm = false →
    let u := s.bump Reg.n_fence_denied_total
    let v := if m / 4096 = 1 then u.bump (Reg.n_fence_denied (m % 4096)) else u
    v.rd64 Reg.n_fence_denied_total = (s.rd64 Reg.n_fence_denied_total + 1) % 2 ^ 64 ∧
    (m / 4096 = 1 → v.rd64 (Reg.n_fence_denied (m % 4096)) = (s.rd64 (Reg.n_fence_denied (m % 4096)) + 1) % 2 ^ 64) ∧
    v.events = s.events ∧
    ((∀ t, mget s.drw.denied m = some t → 1000000 ≤ s.now - t) →
      let w := v.raise EV_drw_fence_denied 0xFFFF [tg, m, a % 2 ^ 48, perm]
      exec (.nocTargetAccess tg m a n perm 0 arg) s = .next
        { w with drw := { w.drw with denied := mput w.drw.denied m s.now }, pending := s.pending }) ∧
    (∀ t, mget s.drw.denied m = some t → s.now - t < 1000000 →
      exec (.nocTargetAccess tg m a n perm 0 arg) s = .next { v with pending := s.pending })

/-- A warm reset returns every drawer to FREE, releases every share, and clears every fence entry, locked ones included, so that no entry
admits anyone and only the fixed rules of R94 are left (R109). -/
def Obligations.WarmResetFreesDrawers : Prop :=
  ∀ (c pg : Nat) (s : State), s.err.phase = .clearing c →
    ∃ t, exec (.warmResetCleared pg) s = .next t ∧ (∀ d, d < 4096 → t.drState d = 0) ∧ t.drw.shares = [] ∧ t.drw.fences = [] ∧
      (∀ kind inst m a n perm, t.fenceAdmits kind inst m a n perm = false) ∧
      (∀ tg m a n perm, tg / 4096 ≤ 2 → m / 4096 = 1 → t.targetAdmits tg m a n perm = false)

/-! ## NVM Express and virtio-net drawers (R91–R93, R146) -/

/-- The controller of an NVM Express drawer (R91): CC.EN cleared is a host-triggered reset, a shutdown request runs the quiesce sequence in
drain mode, and a doorbell moves its queue's index round the queue, a value beyond the queue being dropped. -/
def Obligations.NvmeController : Prop :=
  (∀ (d : Nat) (s : State), s.running = true → s.isNvme d = true → bit (s.person d).cc 0 = true →
    exec (.nvmeCcEnClear d) s = .next
      { (s.setPerson d { s.person d with cc := putBits (s.person d).cc 0 0 0 }).hostReset d 4 with pending := s.pending }) ∧
  (∀ (d mode : Nat) (s : State), s.running = true → s.isNvme d = true → mode ≠ 0 → (s.person d).shst = 0 →
    let u := s.setPerson d { s.person d with cc := putBits (s.person d).cc 15 14 mode }
    u.drState d = 3 → mget u.drw.quiesce d = none →
    exec (.nvmeShutdown d mode) s = .next
      { (u.setPerson d { u.person d with shst := 1 }).quiesceBegin d (Quiesce.fresh 0 [] false false true
          (max 1 ((u.setPerson d { u.person d with shst := 1 }).get Reg.DRW_CFG_DRAIN_TIMEOUT))) with pending := s.pending }) ∧
  (∀ (d y v q : Nat) (s : State), s.running = true → s.isNvme d = true → s.drPort d = some q →
    let u := s.bump (Reg.n_doorbells_rx q)
    let r := u.ring (sqKey d y)
    u.quiescing d = false →
    (r.st = .active → v < r.nv → exec (.nvmeDoorbell d y false v []) s = .next
      { u.setRing (sqKey d y) { r with peer := (r.peer + (v + r.nv - r.peer % r.nv) % r.nv) % 2 ^ 32,
                                       limit := (r.peer + (v + r.nv - r.peer % r.nv) % r.nv) % 2 ^ 32 } with pending := s.pending }) ∧
    (r.nv ≤ v → exec (.nvmeDoorbell d y false v []) s = .next { u.bellDropped d with pending := s.pending }))

/-- Admin commands of a controller whose admin queue is ready (R92): each takes its entry, acts as the table lets it, and ends with its
status and dword 0; an identifier that the table does not name ends with Invalid Field in Command. -/
def Obligations.NvmeAdminCommands : Prop :=
  ∀ (d cid : Nat) (s : State), s.running = true → s.nvReady d 0 = true →
    let u := s.nvTaken d 0 cid
    (∀ base qid size cqid, (cqid ≠ 0 ∧ (u.ring (cqKey d cqid)).st ≠ .absent) → (qid ≠ 0 ∧ qid ≤ u.nvPairs d ∧
        (u.ring (sqKey d qid)).st = .absent) → size ≠ 0 → base % 4096 = 0 →
      exec (.nvmeCreateIoSq d cid base qid size true cqid) s = .next
        { (u.setRing (sqKey d qid) (Ring.stdQueue .sub base (cqKey d cqid) (size + 1) none (u.drGen d))).nvDone (sqKey d 0) cid 0 0 with
          pending := s.pending }) ∧
    (∀ base qid size pc, exec (.nvmeCreateIoSq d cid base qid size pc 0) s = .next
      { u.nvDone (sqKey d 0) cid NV_CQ_INVALID 0 with pending := s.pending }) ∧
    (∀ base qid size iv, qid ≠ 0 ∧ qid ≤ u.nvPairs d ∧ (u.ring (cqKey d qid)).st = .absent → size ≠ 0 → base % 4096 = 0 → iv < 128 →
      exec (.nvmeCreateIoCq d cid base qid size true true iv) s = .next
        { (u.setRing (cqKey d qid) { Ring.stdQueue .cpl base 0 (size + 1) (some iv) (u.drGen d) with
            modCount := mgetD (u.person d).feats 8 0 % 256 + 1
            modUsec := mgetD (u.person d).feats 8 0 / 256 % 256 * 100 }).nvDone (sqKey d 0) cid 0 0 with pending := s.pending }) ∧
    (∀ qid, u.nvHas (sqKey d qid) qid = false →
      exec (.nvmeDeleteIoSq d cid qid) s = .next { u.nvDone (sqKey d 0) cid NV_QID 0 with pending := s.pending }) ∧
    (∀ qid, u.nvHas (sqKey d qid) qid = true → (u.ring (sqKey d qid)).items = [] →
      exec (.nvmeDeleteIoSq d cid qid) s = .next
        { (({ u with acc := { u.acc with vols := u.acc.vols.map (fun (e : Nat × Vol) => (e.1, { e.2 with
            flushes := e.2.flushes.filter (fun f => !decide (f.ring = sqKey d qid)) })) } } : State).setRing (sqKey d qid) Ring.absent).nvDone
            (sqKey d 0) cid 0 0 with pending := s.pending }) ∧
    (∀ qid, u.nvHas (cqKey d qid) qid = true → u.rings.any (fun e => decide (e.2.kind = .sub) && decide (e.2.link = cqKey d qid)) = false →
      exec (.nvmeDeleteIoCq d cid qid) s = .next
        { (u.setRing (cqKey d qid) Ring.absent).nvDone (sqKey d 0) cid 0 0 with pending := s.pending }) ∧
    (∀ qid, u.nvHas (cqKey d qid) qid = true → u.rings.any (fun e => decide (e.2.kind = .sub) && decide (e.2.link = cqKey d qid)) = true →
      exec (.nvmeDeleteIoCq d cid qid) s = .next { u.nvDone (sqKey d 0) cid NV_DELETION 0 with pending := s.pending }) ∧
    (∀ lid len segs, lid ≠ 1 ∧ lid ≠ 2 →
      exec (.nvmeGetLogPage d cid lid len segs) s = .next { u.nvDone (sqKey d 0) cid NV_FIELD 0 with pending := s.pending }) ∧
    (∀ lid len segs, lid = 1 ∨ lid = 2 → exec (.nvmeGetLogPage d cid lid len segs) s = .next
      { ((u.freePageWith len []).2.nvGive d segs (u.freePageWith len []).1).nvDone (sqKey d 0) cid 0 0 with pending := s.pending }) ∧
    (∀ nsid segs, exec (.nvmeIdentify d cid nsid 2 segs) s = .next
      { (u.nvGive d segs (slice (((u.nvSpaces d).filter (fun n => decide (nsid < n))).flatMap (leBytes 4)) 0 4096)).nvDone (sqKey d 0) cid 0 0
          with pending := s.pending }) ∧
    (∀ nsid cns segs, 3 ≤ cns →
      exec (.nvmeIdentify d cid nsid cns segs) s = .next { u.nvDone (sqKey d 0) cid NV_FIELD 0 with pending := s.pending }) ∧
    (∀ sqid acid, (u.ring (sqKey d sqid)).items.any (fun i => decide (i.tag = acid)) = false →
      exec (.nvmeAbort d cid sqid acid) s = .next { u.nvDone (sqKey d 0) cid 0 1 with pending := s.pending }) ∧
    (∀ v, exec (.nvmeSetFeatures d cid 0xB v) s = .next
      { (u.setPerson d { u.person d with feats := mput (u.person d).feats 0xB v }).nvDone (sqKey d 0) cid 0 0 with pending := s.pending }) ∧
    (∀ fid v, nvFeature fid = false →
      exec (.nvmeSetFeatures d cid fid v) s = .next { u.nvDone (sqKey d 0) cid NV_FIELD 0 with pending := s.pending } ∧
      exec (.nvmeGetFeatures d cid fid) s = .next { u.nvDone (sqKey d 0) cid NV_FIELD 0 with pending := s.pending }) ∧
    exec (.nvmeGetFeatures d cid 7) s = .next
      { u.nvDone (sqKey d 0) cid 0 (u.nvPairs d - 1 + (u.nvPairs d - 1) * 2 ^ 16) with pending := s.pending } ∧
    (4 ≤ (u.person d).aers.length →
      exec (.nvmeAsyncEventRequest d cid) s = .next { u.nvDone (sqKey d 0) cid NV_AER_LIMIT 0 with pending := s.pending }) ∧
    ((u.person d).aers.length < 4 → exec (.nvmeAsyncEventRequest d cid) s = .next
      { (u.setRing (sqKey d 0) { u.ring (sqKey d 0) with items := (u.ring (sqKey d 0)).items.map (fun i => if i.tag = cid then
          { i with posted := true } else i) }).setPerson d { u.person d with aers := (u.person d).aers ++ [cid] } with pending := s.pending })

/-- I/O commands of an I/O queue that is ready (R92, R356–R360): each takes its entry; a namespace that does not exist and a range beyond
the volume end with the status that says so, and else the command does its work on the volume and ends with its status, a read or write
that ends well being counted. -/
def Obligations.NvmeIoCommands : Prop :=
  ∀ (d y cid : Nat) (s : State), s.running = true → y ≠ 0 → s.nvReady d y = true →
    let u := s.nvTaken d y cid
    (∀ nsid st, u.nvVol d nsid = .error st →
      exec (.nvmeFlush d y cid nsid) s = .next { u.nvDone (sqKey d y) cid st 0 with pending := s.pending } ∧
      exec (.nvmeDatasetManagement d y cid nsid) s = .next { u.nvDone (sqKey d y) cid st 0 with pending := s.pending }) ∧
    (∀ nsid x, u.nvVol d nsid = .ok x →
      exec (.nvmeDatasetManagement d y cid nsid) s = .next { u.nvDone (sqKey d y) cid 0 0 with pending := s.pending }) ∧
    (∀ nsid x, u.nvVol d nsid = .ok x → x.targets.any (fun e => !e.2.failed) = true →
      exec (.nvmeFlush d y cid nsid) s = .next
        { (let ts := x.targets.filter (fun e => !e.2.failed)
           ts.foldl (fun (v : State) e => v.emit (.spline e.2.conn 0x30 0 0 16 (leBytes 8 x.seq ++ leBytes 8 0)))
             (u.setVol (volKey d nsid) { x with
               seq := x.seq + 1
               flushes := x.flushes ++ [{ seq := x.seq, waiting := ts.map (·.1), good := 0, ring := sqKey d y, tag := cid }] })) with
          pending := s.pending }) ∧
    (∀ nsid slba nlb x, u.nvVol d nsid = .ok x → x.blocks < slba + (nlb + 1) →
      (∀ hit poison io segs, exec (.nvmeRead d y cid nsid slba nlb hit poison io segs) s = .next
        { u.nvDone (sqKey d y) cid NV_LBA_RANGE 0 with pending := s.pending }) ∧
      (∀ host io refuse, exec (.nvmeWrite d y cid nsid slba nlb host io refuse) s = .next
        { u.nvDone (sqKey d y) cid NV_LBA_RANGE 0 with pending := s.pending })) ∧
    (∀ nsid slba nlb x io segs, u.nvVol d nsid = .ok x → slba + (nlb + 1) ≤ x.blocks →
      ((List.range (nlb + 1)).map (fun i => mget x.cache (slba + i))).all (·.isSome) = true →
      exec (.nvmeRead d y cid nsid slba nlb true false io segs) s = .next
        { (((u.bump Reg.n_bs_cache_hits (nlb + 1)).dmaWrite d (placeSegs segs 0
            (((List.range (nlb + 1)).map (fun i => mget x.cache (slba + i))).flatMap (·.getD [])))).bump Reg.n_bs_reads).nvDone (sqKey d y) cid 0 0
          with pending := s.pending }) ∧
    (∀ nsid slba nlb x host io refuse, u.nvVol d nsid = .ok x → slba + (nlb + 1) ≤ x.blocks → host.st ≠ 0 →
      exec (.nvmeWrite d y cid nsid slba nlb host io refuse) s = .next
        { u.nvDone (sqKey d y) cid NV_TRANSFER 0 with pending := s.pending }) ∧
    (∀ nsid slba nlb host io refuse q x, u.nvVol d nsid = .ok x → slba + (nlb + 1) ≤ x.blocks → host.st = 0 → u.drPort d = some q →
      exec (.nvmeWrite d y cid nsid slba nlb host io refuse) s = .next
        { (let r := (u.bump (Reg.n_dma_read_bytes q) ((nlb + 1) * 4096)).nvWrite d nsid slba (slice host.data 0 ((nlb + 1) * 4096)) io refuse
           (if r.1 = 0 then r.2.bump Reg.n_bs_writes else r.2).nvDone (sqKey d y) cid r.1 0) with pending := s.pending }) ∧
    (∀ nsid slba nlb io refuse, exec (.nvmeWriteZeroes d y cid nsid slba nlb io refuse) s = .next
      { (let r := u.nvWrite d nsid slba (List.replicate ((nlb + 1) * 4096) 0) io refuse
         (if r.1 = 0 then r.2.bump Reg.n_bs_writes else r.2).nvDone (sqKey d y) cid r.1 0) with pending := s.pending })

/-- A virtio-net drawer (R93, R146): a 0 in device_status is a host-triggered reset, a notification counts as a doorbell and its queue's
buffers are taken, a control command is acknowledged with OK only where it sets a number of queue pairs that the drawer has. -/
def Obligations.VirtioNet : Prop :=
  (∀ (d : Nat) (s : State), s.running = true → s.isVirtio d = true →
    exec (.virtioDeviceStatusReset d) s = .next { s.hostReset d 4 with pending := s.pending }) ∧
  (∀ (d y cnt usec q : Nat) (bufs : List VBuf) (s : State), s.running = true → s.isVirtio d = true → s.drPort d = some q →
    let u := s.bump (Reg.n_doorbells_rx q)
    u.drPort d = some q → u.vioFetches d y = true → y < u.vioCtl d →
    exec (.virtioNotify d y cnt usec bufs) s = .next
      { bufs.foldl (fun (v : State) b => v.vioBuffer q d y b)
          (u.setRing (cqKey d y) { u.ring (cqKey d y) with modCount := cnt, modUsec := usec }) with pending := s.pending }) ∧
  (∀ (d y cnt usec : Nat) (bufs : List VBuf) (s : State), s.running = true → s.isVirtio d = false →
    exec (.virtioNotify d y cnt usec bufs) s = .next s) ∧
  (∀ (d id pairs addr : Nat) (r : Ref) (v s : State), s.running = true → 1 ≤ pairs → pairs ≤ s.vioPairs d →
    s.vioFetches d (s.vioCtl d) = true →
    s.vioTake d (s.vioCtl d) { id := id, segs := [], data := { st := 0, data := [] } } false = some (r, v) →
    exec (.virtioNetCtrlMqVqPairsSet d id pairs addr) s = .next
      { ((v.setPerson d { v.person d with vqPairs := pairs }).dmaWrite d [(addr, [0])]).complete r 0 1 [] with pending := s.pending }) ∧
  (∀ (d id pairs addr : Nat) (r : Ref) (v s : State), s.running = true → s.vioFetches d (s.vioCtl d) = true →
    s.vioTake d (s.vioCtl d) { id := id, segs := [], data := { st := 0, data := [] } } false = some (r, v) →
    (s.vioPairs d < pairs → exec (.virtioNetCtrlMqVqPairsSet d id pairs addr) s = .next
      { (v.dmaWrite d [(addr, [1])]).complete r 0 1 [] with pending := s.pending }) ∧
    exec (.virtioCtrlOther d id addr) s = .next { (v.dmaWrite d [(addr, [1])]).complete r 0 1 [] with pending := s.pending })

/-! ## Rings, slips and completions (R114–R149) -/

/-- A doorbell moves the producer index of a submission ring, or the consumer index of another, or is dropped and counted (R121, R122); it is
only recorded during a quiesce (R104). A slip that is whole carries a doorbell and its descriptors, one that is split only the doorbell,
one that breaks the format nothing (R64, R123). An attach slip makes the admin ring pair, or is refused with its reason (R124). -/
def Obligations.DoorbellsAndSlips : Prop :=
  (∀ (who w q : Nat) (s : State), s.running = true → who < 4096 → s.drPort who = some q → bits w 63 57 = 0 → bits w 55 48 = 0 →
    bits w 31 24 = 0 → bit w 56 = false → bit w 63 = false →
    let u := s.bump (Reg.n_doorbells_rx q)
    let k := ringKey who (w % 2 ^ 24)
    let r := u.ring k
    let new := (r.peer + (bits w 47 32 + 2 ^ 16 - r.peer % 2 ^ 16) % 2 ^ 16) % 2 ^ 32
    u.quiescing who = false → r.st = .active → r.nv = 0 → r.kind = .sub →
    (idxLe new r.dev = true ∨ idxSub new r.dev ≤ r.size → exec (.doorbell who w) s = .next
      { u.setRing k { r with peer := new, limit := new } with pending := s.pending }) ∧
    (idxLe new r.dev = false → r.size < idxSub new r.dev → exec (.doorbell who w) s = .next
      { (u.bump (Reg.n_doorbell_dropped who)).raiseRing k EV_ring_doorbell_overrun [bits w 47 32, r.peer] with pending := s.pending })) ∧
  (∀ (who w q : Nat) (s : State), s.running = true → who < 4096 → s.drPort who = some q → bit w 63 = false →
    let u := s.bump (Reg.n_doorbells_rx q)
    (u.quiescing who = true → exec (.doorbell who w) s = .next
      { ({ u with drw := { u.drw with bells := mput u.drw.bells who (mgetD u.drw.bells who [] ++ [(w % 2 ^ 24, w)]) } } : State) with
        pending := s.pending }) ∧
    (u.quiescing who = false → (u.ring (ringKey who (w % 2 ^ 24))).st ≠ .active → exec (.doorbell who w) s = .next
      { u.bump (Reg.n_doorbell_dropped who) with pending := s.pending })) ∧
  (∀ (who off : Nat) (whole : Bool) (b : List Byte) (s : State), s.running = true → who < 4096 →
    off ≠ 0 ∨ b = [] ∨ b.length % 64 ≠ 0 ∨ 8 < b.length / 64 →
    exec (.slip who off whole b) s = .next { s.bump (Reg.n_slip_malformed who) with pending := s.pending }) ∧
  (∀ (who q : Nat) (b : List Byte) (s : State), s.running = true → who < 4096 → s.drPort who = some q → b.length = 128 →
    bit (leAt b 0 8) 63 = false →
    let u := (s.bump (Reg.n_slips_rx q)).doorbell who (leAt b 0 8)
    exec (.slip who 0 true b) s = .next
      { u.2.slipDescs who (leAt b 0 8) (leAt b 8 4) (zeroBut (b.take 64) [(0, 12)]) u.1 [slice b 64 64] with pending := s.pending } ∧
    exec (.slip who 0 false b) s = .next { ((s.bump (Reg.n_slip_split q)).doorbell who (leAt b 0 8)).2 with pending := s.pending }) ∧
  (∀ (d : Nat) (b : List Byte) (s : State), s.running = true → s.drPort d = none ∧ d < 4096 →
    (s.drState d ≠ 3 → exec (.attachSlip d 0 true b) s = .next
      { (s.bump (Reg.n_attach_refused d)).raiseTo d EV_ring_attach_refused d [0] with pending := s.pending }) ∧
    (s.drState d = 3 → s.get (Reg.DRW_DRAWER_STATUS_PERSONALITY d) = 0 → (s.ring (ringKey d 0)).st = .absent →
      (b.length = 64 → attachFields b = true → exec (.attachSlip d 0 true b) s = .next
        { ((s.setRing (ringKey d 0) (Ring.fresh .sub (leAt b 24 1) (leAt b 8 8) (ringKey d (2 ^ 22)) none (s.drGen d))).setRing
            (ringKey d (2 ^ 22)) (Ring.fresh .cpl (leAt b 25 1) (leAt b 16 8) 0 (vecOf (leAt b 26 2)) (s.drGen d))) with
          pending := s.pending }) ∧
      (exec (.attachSlip d 0 false b) s = .next
        { (s.bump (Reg.n_attach_refused d)).raiseTo d EV_ring_attach_refused d [1] with pending := s.pending }) ∧
      (b.length = 64 → attachFields b = false → exec (.attachSlip d 0 true b) s = .next
        { (s.bump (Reg.n_attach_refused d)).raiseTo d EV_ring_attach_refused d [2] with pending := s.pending })))

/-- The commands of a drawer's admin ring (R125, R126): each makes, changes, stops or removes a ring and completes OK, or completes with the
first of its statuses that holds, with its head index in the detail. -/
def Obligations.AdminRingCommands : Prop :=
  ∀ (r : Ref) (e : List Byte) (s : State), s.running = true → s.mayStart r = true → isCtl r.ring = false →
    let u := s.markStarted r
    let d := ringDrawer r.ring
    let k := ringKey d (leAt e 8 4)
    let c := ringKey d (2 ^ 22 + leAt e 14 2)
    (zeroBut e [(0, 8)] = true → exec (.nop r e) s = .next { u.complete r 0 0 [] with pending := s.pending }) ∧
    (zeroBut e [(0, 8)] = false → exec (.nop r e) s = .next { (u.bump (Reg.n_malformed_entries d)).complete r ST_BAD_FLAGS 0 [r.index] with pending := s.pending }) ∧
    (leAt e 12 1 < 6 ∨ 16 < leAt e 12 1 →
      exec (.ringCreate r e) s = .next { (u.bump (Reg.n_malformed_entries d)).complete r ST_BAD_LENGTH 0 [r.index] with pending := s.pending } ∧
      exec (.cplCreate r e) s = .next { (u.bump (Reg.n_malformed_entries d)).complete r ST_BAD_LENGTH 0 [r.index] with pending := s.pending }) ∧
    (6 ≤ leAt e 12 1 → leAt e 12 1 ≤ 16 → leAt e 16 8 % 4096 = 0 → leAt e 13 1 = 0 → zeroBut e [(0, 32)] = true → leAt e 8 4 < 2 ^ 22 →
      leAt e 8 4 ≠ 0 → u.ringGranted d (leAt e 8 4) = true → (u.ring k).st = .absent → (u.ring c).st = .active → (u.ring c).kind = .cpl →
      exec (.ringCreate r e) s = .next
        { ((u.setRing k (Ring.fresh .sub (leAt e 12 1) (leAt e 16 8) c none (u.drGen d))).connRings k).complete r 0 0 [] with
          pending := s.pending }) ∧
    (6 ≤ leAt e 12 1 → leAt e 12 1 ≤ 16 → leAt e 16 8 % 4096 = 0 → leAt e 13 1 = 0 → zeroBut e [(0, 24), (32, 4)] = true →
      leAt e 14 2 < 128 → leAt e 8 4 / 2 ^ 22 = 1 → u.ringGranted d (leAt e 8 4) = true → (u.ring k).st = .absent →
      exec (.cplCreate r e) s = .next
        { (u.setRing k { Ring.fresh .cpl (leAt e 12 1) (leAt e 16 8) 0 (some (leAt e 14 2)) (u.drGen d) with
            modCount := leAt e 32 2, modUsec := leAt e 34 2 }).complete r 0 0 [] with pending := s.pending }) ∧
    (zeroBut e [(0, 12)] = true → leAt e 8 4 < 2 ^ 24 →
      (leAt e 8 4 ≠ 0 → (u.ring k).kind = .sub → (u.ring k).st = .active → exec (.ringDisable r e) s = .next
        { ((u.setRing k { u.ring k with
            st := .flushing, slips := []
            waitQuit := some { index := r.index, opcode := 4, tag := r.tag, cplReq := r.cplReq, order := false, flags := 0, chain := 0,
                               started := true, posted := false, segs := [], body := [] } }).connStop k).flushItems k with
          pending := s.pending }) ∧
      ((u.ring k).st = .stopped → (u.ring k).kind = .sub → leAt e 8 4 ≠ 0 → exec (.ringDestroy r e) s = .next
        { ((u.connGone k).setRing k Ring.absent).complete r 0 0 [] with pending := s.pending }) ∧
      ((u.ring k).st = .active → (u.ring k).kind = .sub → leAt e 8 4 ≠ 0 → exec (.ringDestroy r e) s = .next
        { (u.bump (Reg.n_malformed_entries d)).complete r ST_BAD_RING_REF 0 [r.index] with pending := s.pending })) ∧
    (zeroBut e [(0, 12), (32, 4)] = true → leAt e 8 4 < 2 ^ 24 →
      ((u.ring k).st ≠ .absent → (u.ring k).kind ≠ .sub → exec (.cplModerate r e) s = .next
        { ((u.setRing k { u.ring k with modCount := leAt e 32 2, modUsec := leAt e 34 2 }).signal k).complete r 0 0 [] with
          pending := s.pending }) ∧
      ((u.ring k).st = .absent → exec (.cplModerate r e) s = .next
        { (u.bump (Reg.n_malformed_entries d)).complete r ST_BAD_RING_REF 0 [r.index] with pending := s.pending }))

/-- The ring engine at work on one ring (R68, R126, R127, R132–R137): an entry that is read with its mark and a credit is acted on, a read
that failed ends its item or stops its slot, and each timer does what its rule gives it. -/
def Obligations.RingEngine : Prop :=
  (∀ (k : Nat) (e : List Byte) (s : State), s.running = true → s.fetches k = true → (s.ring k).slips = [] →
    idxLe (s.ring k).limit (s.ring k).dev = false → entryMark e = ownerMark (s.ring k).log2 (s.ring k).dev → itemChain k e = 0 →
    (s.ring (s.ring k).link).credits ≠ 0 → slotWanted k e [] = none →
    (s.actOn k e []).fetches k = false ∨ entryFrom ((s.actOn k e []).ring k) (s.ring k).dev [e] ((s.actOn k e []).ring k).dev = none →
    exec (.ringFetch k 0 [e]) s = .next { s.actOn k e [] with pending := s.pending }) ∧
  (∀ (k st : Nat) (l : List (List Byte)) (s : State), s.running = true → s.fetches k = true → st ≠ 0 → (s.ring k).waiting ≠ 0 →
    ((s.ring (s.ring k).link).credits ≠ 0 → isCtl k = true → exec (.ringFetch k st l) s = .next
      { (s.setRing k { s.ring k with st := .stopped, lastStat := st }).raise EV_ring_control_stopped 0xFFFF
          [ringNum k, (s.ring k).dev, st] with pending := s.pending }) ∧
    ((s.ring (s.ring k).link).credits = 0 → (s.ring k).starved = false → exec (.ringFetch k st l) s = .next
      { s.setRing k { s.ring k with starved := true, oldest := s.now } with pending := s.pending })) ∧
  (∀ (k : Nat) (s : State), s.running = true → (s.ring k).st = .flushing → (s.ring k).items = [] → (s.ring k).waitQuit = none →
    exec (.ringStopped k) s = .next { s.setRing k { s.ring k with st := .stopped, waitQuit := none } with pending := s.pending }) ∧
  (∀ (k n : Nat) (s : State), s.running = true → s.fetches k = true → (s.ring k).waiting ≠ 0 → 100 ≤ n → isCtl k = false →
    exec (.ownerStaleRetry k n) s = .next
      { ((s.setRing k { s.ring k with limit := (s.ring k).dev }).bump (Reg.n_owner_stale (ringDrawer k))).raiseRing k EV_ring_owner_stale
          [(s.ring k).dev] with pending := s.pending }) ∧
  (∀ (k a : Nat) (s : State), s.running = true → (s.ring k).mirrorAt ≠ (s.ring k).dev → (s.ring k).mirror = some a →
    exec (.headMirrorTimer k) s = .next
      { (s.setRing k { s.ring k with mirrorAt := (s.ring k).dev }).emit (.mirror k (s.ring k).dev) with pending := s.pending }) ∧
  (∀ (k : Nat) (s : State), s.running = true → (s.ring k).starved = true → (s.ring (s.ring k).link).starveUp = false →
    (s.ring k).waiting ≠ 0 → isCtl k = false →
    exec (.cqStarveTimer k) s = .next
      { ((s.setRing (s.ring k).link { s.ring (s.ring k).link with starveUp := true }).bump (Reg.n_cq_starved_count (ringDrawer k))).raiseRing
          (s.ring k).link EV_ring_cq_starved [ringNum k, (s.ring k).waiting] with pending := s.pending }) ∧
  (∀ (k : Nat) (s : State), s.running = true → (s.ring k).armed = true → 0 < (s.ring k).unsig →
    exec (.msixModTimer k) s = .next { s.sendSignal k with pending := s.pending })

/-- Frames on a drawer's general rings, and the control slots' own registers (R128–R131, R149). -/
def Obligations.FramesAndControlSlots : Prop :=
  (∀ (r : Ref) (e : List Byte) (cs : List (List Byte)) (s : State), s.running = true → s.mayStart r = true →
    let u := s.markStarted r
    (∀ st, frameSegs e cs = .error st →
      exec (.frameSend r e cs) s = .next { u.complete r st 0 [r.index] with pending := s.pending } ∧
      exec (.frameRecv r e cs) s = .next { u.complete r st 0 [r.index] with pending := s.pending }) ∧
    (∀ l q, frameSegs e cs = .ok l → u.drPort (ringDrawer r.ring) = some q →
      exec (.frameSend r e cs) s = .next { u.queueReads q (ringDrawer r.ring) r .frame l with pending := s.pending }) ∧
    (∀ l, frameSegs e cs = .ok l →
      exec (.frameRecv r e cs) s = .next { u.postItem r 0x11 l with pending := s.pending })) ∧
  (∀ (v : Nat) (s : State), s.writable = true →
    exec (.controlDoorbellReg v) s = .next
      { (let u := s.wr (Reg.RING_DOORBELL + 4) v; (u.bell 4096 (2 ^ 32 * v + u.rd Reg.RING_DOORBELL)).2) with pending := s.pending }) ∧
  (∀ (c v : Nat) (s : State), s.writable = true → 8 ≤ c → s.on (Reg.RING_CTL_CFG_ENABLE c) = false → (s.ring (ctlKey c)).st ≠ .flushing →
    (slotOk c v (s.get (Reg.RING_CTL_BASE_BASE c)) = false → exec (.controlSlotEnable c v) s = .next
      { (s.wr (Reg.RING_CTL_CFG c) (Nat.land (putBits v 31 31 0 % 2 ^ 32) 0x391F3FFF)).setRing (ctlKey c)
          { s.ring (ctlKey c) with lastStat := ST_BAD_FLAGS } with pending := s.pending }) ∧
    (slotOk c v (s.get (Reg.RING_CTL_BASE_BASE c)) = true → bits v 29 28 = 0 → exec (.controlSlotEnable c v) s = .next
      { (let u := s.wr (Reg.RING_CTL_CFG c) (Nat.land v 0xB91F3FFF)
         u.setRing (ctlKey c) { Ring.fresh .sub (bits v 20 16) (s.get (Reg.RING_CTL_BASE_BASE c)) (ctlKey (bits v 13 8))
             (if bit v 24 then some (bits v 7 0) else none) 0 with
           inDev := bit v 27
           modCount := u.get (Reg.RING_CTL_MOD_MOD_COUNT c)
           modUsec := u.get (Reg.RING_CTL_MOD_MOD_USEC c) }) with pending := s.pending })) ∧
  (∀ (c v : Nat) (s : State), s.writable = true → 8 ≤ c →
    (s.on (Reg.RING_CTL_CFG_ENABLE c) = false → exec (.controlSlotDisable c v) s = .next
      { s.wr (Reg.RING_CTL_CFG c) (Nat.land v 0x391F3FFF) with pending := s.pending }) ∧
    (s.on (Reg.RING_CTL_CFG_ENABLE c) = true → (s.ring (ctlKey c)).st = .active → (s.ring (ctlKey c)).kind = .sub →
      exec (.controlSlotDisable c v) s = .next
        { ((s.set (Reg.RING_CTL_CFG_ENABLE c) 0).setRing (ctlKey c) { s.ring (ctlKey c) with st := .flushing, slips := [] }).flushItems
            (ctlKey c) with pending := s.pending }))

/-! ## Parsing and tables (R150–R201) -/

/-- The parser's banks and tables (R155, R156, R165, R166, R168) and a pipeline's next frame (R150, R154, R167): a switch is validated
before it is made, a bank in force is not written, and a frame is dropped, trapped or classified. -/
def Obligations.ParserAndPipelines : Prop :=
  (∀ s : State, s.writable = true →
    (s.on Reg.PRS_STATUS_SWITCH_BUSY = true → exec .bankSwitch s = .next
      { (s.set Reg.PRS_STATUS_FAIL_REASON 2).bankRefused with pending := s.pending }) ∧
    (s.on Reg.PRS_STATUS_SWITCH_BUSY = false → exec .bankSwitch s = .next
      { (s.set Reg.PRS_STATUS_SWITCH_BUSY 1).set Reg.PRS_BANK_CTRL_SWITCH 1 with
        prs := { s.prs with phase := .validating }, pending := s.pending }) ∧
    (s.on Reg.PRS_STATUS_SWITCH_BUSY = false → exec .forceIsolate s = .next
      { s.set Reg.PRS_CFG_FORCE_ISOLATE 1 with pending := s.pending })) ∧
  (∀ s : State, s.running = true →
    let z := (s.set Reg.PRS_STATUS_SWITCH_BUSY 0).set Reg.PRS_BANK_CTRL_SWITCH 0
    let b := 1 - s.activeBank
    (s.prs.phase = .validating → s.bankFail b = none → exec .bankValidateDone s = .next
      { s with prs := { s.prs with phase := .changing }, pending := s.pending }) ∧
    (∀ k i r, s.prs.phase = .validating → s.bankFail b = some (k, i, r) → exec .bankValidateDone s = .next
      { (((((({ z with prs := { s.prs with phase := .idle } } : State).set Reg.PRS_STATUS_FAIL_REASON 1).set Reg.PRS_STATUS_BAD_KIND k).set
          Reg.PRS_STATUS_BAD_INDEX i).set Reg.PRS_STATUS_BAD_RULE r).bankRefused) with pending := s.pending }) ∧
    (s.prs.phase = .changing → exec .bankSwitchDone s = .next
      { ((({ z with prs := { s.prs with phase := .idle } } : State).set Reg.PRS_STATUS_ACTIVE_BANK b).set Reg.PRS_STATUS_PROGRAMMED 1).raise
          EV_prs_bank_switched 0xFFFF [b] with pending := s.pending }) ∧
    (s.on Reg.PRS_CFG_FORCE_ISOLATE = true → exec .forceIsolateDone s = .next
      { ((s.set Reg.PRS_CFG_FORCE_ISOLATE 0).set Reg.PRS_STATUS_PROGRAMMED 0).raise EV_prs_isolate 0xFFFF [] with
        pending := s.pending }) ∧
    (∀ x, s.prs.bad.contains x = false → exec (.prsParityScan [x]) s = .next
      { ({ s with prs := { s.prs with bad := s.prs.bad ++ [x] } } : State).raise EV_prs_parity 0xFFFF [x.1, x.2.1, x.2.2] with
        pending := s.pending })) ∧
  (∀ (a v b k i : Nat) (s : State), s.writable = true → bankEntry a = some (b, k, i) →
    (s.on Reg.PRS_STATUS_PROGRAMMED = true ∧ b = s.activeBank ∨ s.on Reg.PRS_STATUS_SWITCH_BUSY = true ∧ b ≠ s.activeBank →
      exec (.prsBankWrite a v) s = .next { s.bump Reg.n_bank_write_refused with pending := s.pending }) ∧
    (s.on Reg.PRS_STATUS_PROGRAMMED = false → s.on Reg.PRS_STATUS_SWITCH_BUSY = false → (rowAt a).isSome = true →
      exec (.prsBankWrite a v) s = .next
        { s.wr a v with
          prs := { s.prs with bad := s.prs.bad.filter (fun x => !decide (x = (k, b, i))) }
          pending := s.pending })) ∧
  (∀ (i : Nat) (s : State), s.writable = true →
    let u := (s.set Reg.PRS_ACT_COMMIT_INDEX (i % 4096)).set Reg.PRS_ACT_COMMIT_GO 0
    let e := (s.set Reg.PRS_EDIT_COMMIT_INDEX (i % 256)).set Reg.PRS_EDIT_COMMIT_GO 0
    let w := (List.range 32).map (fun j => e.rd (Reg.PRS_EDIT_STAGE j))
    (i % 4096 = 0 ∨ actionOk (((List.range 4).map (fun j => leBytes 4 (u.rd (Reg.PRS_ACT_STAGE j)))).flatten) = false →
      exec (.prsActCommitGo i) s = .next { u.set Reg.PRS_ACT_COMMIT_REFUSED 1 with pending := s.pending }) ∧
    (i % 4096 ≠ 0 → actionOk (((List.range 4).map (fun j => leBytes 4 (u.rd (Reg.PRS_ACT_STAGE j)))).flatten) = true →
      exec (.prsActCommitGo i) s = .next
        { ((((u.wr (Reg.PRS_ACTION (i % 4096) 0) (u.rd (Reg.PRS_ACT_STAGE 0))).wr (Reg.PRS_ACTION (i % 4096) 1)
            (u.rd (Reg.PRS_ACT_STAGE 1))).wr (Reg.PRS_ACTION (i % 4096) 2) (u.rd (Reg.PRS_ACT_STAGE 2))).wr (Reg.PRS_ACTION (i % 4096) 3)
            (u.rd (Reg.PRS_ACT_STAGE 3))).prsMend 2 0 (i % 4096) with pending := s.pending }) ∧
    (i % 256 = 0 ∨ editBad w = true →
      exec (.prsEditCommitGo i) s = .next { e.set Reg.PRS_EDIT_COMMIT_REFUSED 1 with pending := s.pending }) ∧
    (i % 256 ≠ 0 → editBad w = false →
      exec (.prsEditCommitGo i) s = .next
        { ((List.range 32).foldl (fun (v : State) (j : Nat) => v.wr (Reg.PRS_EDIT (i % 256) j) (w.getD j 0)) e).prsMend 3 0 (i % 256) with
          pending := s.pending })) ∧
  (∀ (p o : Nat) (f : Frame) (t : List Frame) (s : State), s.running = true → s.pipeNext p = some o → mgetD s.tm.ingress o [] = f :: t →
    let u := s.pipeTake p o t
    let data := u.quireData f.quire
    (2 ≤ s.domState (16 + p) → exec (.pipelineFrame p) s = .next { s.domWake (16 + p) with pending := s.pending }) ∧
    (s.domState (16 + p) < 2 → u.inReset 5 p = true → exec (.pipelineFrame p) s = .next
      { ((u.bump (Reg.n_pipe_reset_drop p)).dropFrame f 2).retryAll with pending := s.pending }) ∧
    (s.domState (16 + p) < 2 → u.inReset 5 p = false → u.on Reg.PRS_STATUS_PROGRAMMED = false →
      (u.on Reg.PRS_ISOLATE_TRAP_EN = false ∨ f.kind = 1 ∨ trapped data = false → exec (.pipelineFrame p) s = .next
        { ((u.bump (Reg.n_parse_isolate_drop p)).dropFrame f 2).retryAll with pending := s.pending }) ∧
      (u.on Reg.PRS_ISOLATE_TRAP_EN = true → f.kind ≠ 1 → trapped data = true → exec (.pipelineFrame p) s = .next
        { (u.admitFrame f (u.get Reg.PRS_ISOLATE_TRAP_QUEUE) none).retryAll with pending := s.pending })) ∧
    (s.domState (16 + p) < 2 → u.inReset 5 p = false → u.on Reg.PRS_STATUS_PROGRAMMED = true →
      let w := u.walk u.activeBank data (u.metadata f data.length 0) 8 (if f.kind = 0 then 0 else if f.kind = 1 then 1 else 2)
      (∀ i, w = .template i → exec (.pipelineFrame p) s = .next
        { (u.classified p f u.activeBank i data).retryAll with pending := s.pending }) ∧
      (w = .noArm → exec (.pipelineFrame p) s = .next
        { ((((u.bump (Reg.n_parse_no_arm p)).bump (Reg.n_parse_unmatched p)).unmatchedEvent p f data).actIndex p f
            (u.get Reg.PRS_CFG_UNMATCHED_ACTION) none).retryAll with pending := s.pending })))

/-- The commands of the table rings (R181, R184–R189, R194). Each of the seven halts the device when it is malformed, waits behind a
flush or a rebalance, completes with the first status that holds, or takes effect and completes with the entry's place and its record
before. -/
def Obligations.TableCommands : Prop :=
  (∀ (i : Instr) (c : TblCmd) (s : State), tblCmdOf i = some c → s.running = true → s.mayStart c.ref = true →
    let u := s.markStarted c.ref
    (c.malformed = true → exec i s = .next { u.malformed c.ref 4 c.opcode with pending := s.pending }) ∧
    (c.malformed = false → u.inReset 6 (u.tShard c.table) = false →
      (u.tblHeld c = true → exec i s = .next
        { ({ u with tbl := { u.tbl with held := mput u.tbl.held c.ref.ring (mgetD u.tbl.held c.ref.ring [] ++ [c]) } } : State) with
          pending := s.pending }) ∧
      (u.tblHeld c = false → u.tblStatus c ≠ 0 → exec i s = .next
        { u.tblDone c (u.tblStatus c) 0 [] with pending := s.pending }))) ∧
  (∀ (i : Instr) (c : TblCmd) (s : State), tblCmdOf i = some c → s.running = true → s.mayStart c.ref = true →
    let u := s.markStarted c.ref
    u.tblTakes c = true →
    (∀ k e, c.opcode = 0x80 → u.findKey c.table c.keyOf = some (k, e) → e.learned = false → exec i s = .next
      { u.tblDone c ST_ENTRY_EXISTS 0 [] with pending := s.pending }) ∧
    (∀ st, c.opcode = 0x80 → u.findKey c.table c.keyOf = none → u.badMet c.table c.keyOf = [] →
      u.placeEm c.table c.keyOf (bits c.flags 2 1) = .error st → exec i s = .next { u.tblDone c st 0 [] with pending := s.pending }) ∧
    (∀ k, c.opcode = 0x80 → u.findKey c.table c.keyOf = none → u.badMet c.table c.keyOf = [] →
      u.placeEm c.table c.keyOf (bits c.flags 2 1) = .ok k → exec i s = .next
        { (u.newEntry k {
            table := c.table, key := c.keyOf, action := c.action, hit := false, learned := false,
            static := bit c.flags 0, wide := decide (10 < c.keyOf.length), second := false, settled := false, idle := 0, port := 0,
            time := u.learnTime }).tblDone c ST_OK (emCount k none) [] with pending := s.pending }) ∧
    (∀ k e, u.findKey c.table c.keyOf = some (k, e) →
      (c.opcode = 0x81 → exec i s = .next
        { (u.putEntry k { e with action := c.action, learned := false }).tblDone c ST_OK (emCount k (some e)) e.action with
          pending := s.pending }) ∧
      (c.opcode = 0x82 → exec i s = .next { (u.delEntry k).tblDone c ST_OK (emCount k (some e)) e.action with pending := s.pending }) ∧
      (c.opcode = 0x83 → exec i s = .next { u.tblDone c ST_OK (emCount k (some e)) e.action with pending := s.pending })) ∧
    (u.findKey c.table c.keyOf = none → u.badMet c.table c.keyOf = [] → 0x81 ≤ c.opcode → c.opcode ≤ 0x83 → exec i s = .next
      { u.tblDone c ST_ENTRY_ABSENT 0 [] with pending := s.pending })) ∧
  (∀ (i : Instr) (c : TblCmd) (s : State), tblCmdOf i = some c → s.running = true → s.mayStart c.ref = true →
    let u := s.markStarted c.ref
    let v := lpmCut (lpmWord c.keyOf) c.plen
    u.tblTakes c = true →
    (∀ j e, u.lpmFind c.table v c.plen = some (j, e) →
      (c.opcode = 0x84 → exec i s = .next
        { ({ u with tbl := { u.tbl with tcam := mput u.tbl.tcam j { e with action := c.action } } } : State).tblDone c ST_OK j e.action with
          pending := s.pending }) ∧
      (c.opcode = 0x85 → exec i s = .next { (u.delTcam j).tblDone c ST_OK j e.action with pending := s.pending })) ∧
    (∀ j m, c.opcode = 0x84 → u.lpmFind c.table v c.plen = none → u.tOwner c.table = none →
      u.tbl.tcam.length + 1 + u.lpmHeld none ≤ tcamSize → lpmRoom u.tbl.tcam c.plen = some (j, m, 0) → exec i s = .next
        { ((({ u with tbl := { u.tbl with
              tcam := mput m j { table := c.table, value := v, len := c.plen, action := c.action, bad := false, hidden := false } } } :
                State).inc Reg.TBL_LPM_STATUS_USED).inc (Reg.TBL_TABLE_ENTRIES_ENTRIES c.table)).tblDone c ST_OK j [] with
          pending := s.pending }) ∧
    (c.opcode = 0x85 → u.lpmFind c.table v c.plen = none → u.tbl.tcam.any (fun e => e.2.bad) = false → exec i s = .next
      { u.tblDone c ST_ENTRY_ABSENT 0 [] with pending := s.pending }) ∧
    (c.opcode = 0x86 → exec i s = .next { u.sweep c.table (!bit c.flags 3) 1 [c.ref] with pending := s.pending }))

/-- The table engine's own work and its registers (R174, R176, R182, R190–R197, R201). -/
def Obligations.TableUpkeep : Prop :=
  (∀ (h : Nat) (x : LearnReq) (t : List LearnReq) (s : State), s.running = true → mgetD s.tbl.learnQ h [] = x :: t →
    let u := ({ s with tbl := { s.tbl with learnQ := mputD s.tbl.learnQ h t [] } } : State).learnSync h
    (u.sweeping x.table = true → exec (.learnCommit h) s = .next { u.bump (Reg.n_learn_blocked h) with pending := s.pending }) ∧
    (∀ k e, u.sweeping x.table = false → u.findKey x.table x.key = some (k, e) →
      (e.learned = false → exec (.learnCommit h) s = .next { u.bump (Reg.n_learn_static h) with pending := s.pending }) ∧
      (e.learned = true → e.port = x.port → exec (.learnCommit h) s = .next
        { (u.putEntry k { e with hit := true }).bump (Reg.n_learn_redundant h) with pending := s.pending })) ∧
    (∀ k, u.sweeping x.table = false → u.findKey x.table x.key = none → u.badMet x.table x.key = [] → u.tKind x.table ≠ 2 →
      u.placeEm x.table x.key 1 = .ok k → exec (.learnCommit h) s = .next
        { (u.newEntry k {
            table := x.table, key := x.key, action := u.learnRecord x.table x.port, hit := true, learned := true, static := false,
            wide := decide (10 < x.key.length), second := false, settled := false, idle := 0, port := x.port,
            time := u.learnTime }).bump (Reg.n_learn_commit h) with pending := s.pending })) ∧
  (∀ (tier i : Nat) (race : Bool) (s : State), s.running = true →
    let k := slotKey tier i
    (s.tbl.bad.contains k = false → exec (.scannerVisit tier i true race) s = .next
      { ({ s with tbl := { s.tbl with bad := s.tbl.bad ++ [k] } } : State) with pending := s.pending }) ∧
    (∀ e, mget s.tbl.slots k = some e → e.second = false → s.blind k = false → e.learned = true → e.settled = true → e.static = false →
      s.on (Reg.TBL_TABLE_LEARN_AGE_EN e.table) = true →
      (e.hit = true → exec (.scannerVisit tier i false race) s = .next
        { s.putEntry k { e with hit := race, idle := 0 } with pending := s.pending }) ∧
      (e.hit = false → max 1 (s.get (Reg.TBL_TABLE_LEARN_AGE_PASSES e.table)) ≤ e.idle + 1 →
        exec (.scannerVisit tier i false false) s = .next
          { (s.delEntry k).bump (Reg.n_age_deleted (s.tShard e.table)) with pending := s.pending })) ∧
    (exec (.tableParityInvalidate tier i false) s = .next { s.invalidate k with pending := s.pending }) ∧
    (∀ e, mget s.tbl.tcam i = some e → exec (.tableParityInvalidate tier i true) s = .next
      { ((s.delTcam i).bump Reg.n_lpm_parity).tblEvent EV_table_parity 0xFFFF [0, i, e.table, 0] with pending := s.pending })) ∧
  (∀ (t : Nat) (w : Sweep) (s : State), s.running = true → s.tbl.sweeps.find? (fun w => decide (w.table = t)) = some w →
    exec (.sweepEnd t) s = .next
      { (w.ref.foldl (fun (v : State) (r : Ref) =>
          (v.bump (Reg.n_write_commands (v.tShard t))).complete r ST_OK (s.sweepDone w).1 []) (s.sweepDone w).2).tblResume with
        pending := s.pending }) ∧
  (∀ (gap : Nat) (s : State),
    (s.writable = true → (s.set Reg.TBL_LPM_CFG_GAP_MODE gap).on Reg.TBL_LPM_STATUS_REBALANCING = false →
      exec (.lpmRebalanceGo gap) s = .next
        { ((s.set Reg.TBL_LPM_CFG_GAP_MODE gap).set Reg.TBL_LPM_CFG_REBALANCE 1).set Reg.TBL_LPM_STATUS_REBALANCING 1 with
          pending := s.pending }) ∧
    (s.running = true → s.on Reg.TBL_LPM_STATUS_REBALANCING = true →
      let m := lpmLayout (s.get Reg.TBL_LPM_CFG_GAP_MODE) s.tbl.tcam ((List.range 161).reverse) 0
      m.filter (fun e => !s.tbl.tcam.contains e) = [] → exec .lpmRebalanceEnd s = .next
        { (((({ s with tbl := { s.tbl with tcam := m } } : State).set Reg.TBL_LPM_CFG_REBALANCE 0).set Reg.TBL_LPM_STATUS_REBALANCING 0).tblEvent
            EV_table_lpm_rebalanced 0xFFFF [0]).tblResume with pending := s.pending })) ∧
  (∀ (bad : List Nat) (s : State), s.running = true → exec (.tcamScrub bad) s = .next
    { ({ s with tbl := { s.tbl with
        tcam := s.tbl.tcam.map (fun e => if bad.contains e.1 then (e.1, { e.2 with bad := true }) else e) } } : State) with
      pending := s.pending }) ∧
  (∀ (th ep h t w : Nat) (key : List Nat) (s : State), s.running = true →
    let reply := fun (v : State) st count (a : List Byte) =>
      v.engineReply th (0x4100 + h) ep ([st, count % 2 ^ 32, count / 2 ^ 32] ++ actionWords a)
    let k := (key ++ List.replicate w 0).take w
    let ok := s.fenceAdmits 3 6 (thrMaster th) (Reg.TBL_TABLE_CFG t % 2 ^ 20) 4 0
    (ok = false → exec (.fwTableLookup th ep h t w key) s = .next { reply s ST_TABLE_DENIED 0 [] with pending := s.pending }) ∧
    (ok = true → s.tKind t = 0 → exec (.fwTableLookup th ep h t w key) s = .next
      { reply s ST_NO_TABLE 0 [] with pending := s.pending }) ∧
    (ok = true → s.tKind t ≠ 0 → s.tShard t ≠ h → exec (.fwTableLookup th ep h t w key) s = .next
      { reply s ST_KEY_MISMATCH 0 [] with pending := s.pending }) ∧
    (∀ f v, ok = true → s.tKind t ≠ 0 → s.tShard t = h → s.lookup (s.tKind t) t k = (some f, v) →
      exec (.fwTableLookup th ep h t w key) s = .next { reply v ST_OK f.count f.action with pending := s.pending })) ∧
  (∀ (area v : Nat) (s : State), s.writable = true → area < 4 →
    (bits v 7 0 ≤ 128 → s.areaEmpty area true = true → exec (.tblSplitWrite area v) s = .next
      { s.set (Reg.TBL_SHARD_SPLIT_SPLIT area) (bits v 7 0) with pending := s.pending }) ∧
    (128 < bits v 7 0 ∨ s.areaEmpty area true = false → exec (.tblSplitWrite area v) s = .next
      { s.set (Reg.TBL_SHARD_STATUS_SPLIT_REFUSED area) 1 with pending := s.pending }) ∧
    (s.areaEmpty area false = true → exec (.tblSeedWrite area false v) s = .next
      { s.wr (Reg.TBL_SHARD_SEED_DIE area) v with pending := s.pending }) ∧
    (s.areaEmpty area false = false → exec (.tblSeedWrite area false v) s = .next
      { s.set (Reg.TBL_SHARD_STATUS_SEED_REFUSED area) 1 with pending := s.pending })) ∧
  (∀ (v : Nat) (s : State),
    let u := s.set Reg.TBL_CFG_JIG_SCAN (bits v 8 8)
    (s.writable = true → (List.range 256).any (fun t => decide (u.tKind t = 2)) = true → exec (.tblHbmEnWrite v) s = .next
      { u with pending := s.pending }) ∧
    (s.writable = true → (List.range 256).any (fun t => decide (u.tKind t = 2)) = false → bits v 0 0 ≠ u.get Reg.TBL_CFG_HBM_EN →
      exec (.tblHbmEnWrite v) s = .next
        { (u.set Reg.TBL_CFG_HBM_EN (bits v 0 0)).set Reg.TBL_STATUS_HBM_READY 0 with
          tbl := { u.tbl with clearing := decide (bits v 0 0 = 1) }
          pending := s.pending }) ∧
    (s.running = true → s.tbl.clearing = true → exec .tblHbmClearDone s = .next
      { s.set Reg.TBL_STATUS_HBM_READY 1 with tbl := { s.tbl with clearing := false }, pending := s.pending })) ∧
  (∀ (t v : Nat) (s : State), s.writable = true →
    let old := s.rd (Reg.TBL_TABLE_CFG t)
    let same := bits old 29 28 = bits v 29 28 ∧ bits old 25 24 = bits v 25 24 ∧ bits old 20 15 = bits v 20 15 ∧ bits old 11 0 = bits v 11 0
    let u := s.set (Reg.TBL_TABLE_CFG_ENABLE t) (bits v 31 31)
    (same → exec (.tblTableCfgWrite t v) s = .next { u with pending := s.pending }) ∧
    (¬ same → bit old 31 = true ∨ s.get (Reg.TBL_TABLE_ENTRIES_ENTRIES t) ≠ 0 → exec (.tblTableCfgWrite t v) s = .next
      { u.set (Reg.TBL_TABLE_STATUS_CFG_REFUSED t) 1 with pending := s.pending }) ∧
    (¬ same → bit old 31 = false → s.get (Reg.TBL_TABLE_ENTRIES_ENTRIES t) = 0 → exec (.tblTableCfgWrite t v) s = .next
      { ((((u.set (Reg.TBL_TABLE_CFG_KIND t) (bits v 29 28)).set (Reg.TBL_TABLE_CFG_SHARD t) (bits v 25 24)).set
          (Reg.TBL_TABLE_CFG_KEY_WORDS t) (bits v 20 16)).set (Reg.TBL_TABLE_CFG_OWNED t) (bits v 15 15)).set
          (Reg.TBL_TABLE_CFG_OWNER t) (bits v 11 0) with pending := s.pending }))

/-! ## Leaves and the traffic manager (R202–R246) -/

/-- Firmware's operations on quires (R204, R210–R213, R220): each answers OK with its effect, or the status of the first check that fails;
a pointer that fails a check is counted and reported. The copy of a moved quire ends its wait (R218). CELL_INSPECT reads one leaf, and
CELL_HEADROOM takes only a value in its range (R224). -/
def Obligations.CellCommands : Prop :=
  (∀ (t rep p off len : Nat) (data : List Nat) (i : Instr) (s : State), s.running = true → s.ptrCheck (thrMaster t) p ≠ 0 →
    i ∈ [Instr.cellHold t rep p, .cellRelease t rep p, .cellRead t rep p off len, .cellWrite t rep p off len data, .cellStat t rep p] →
    exec i s = .next
      { (s.badPointer (thrMaster t) p (s.ptrCheck (thrMaster t) p)).cellReply t rep (checkStatus (s.ptrCheck (thrMaster t) p)) p [] with
        pending := s.pending }) ∧
  (∀ (t rep len : Nat) (s : State), s.running = true →
    (s.dieGrant (thrMaster t) (quireLeaves len) = false → exec (.cellAlloc t rep 0 len) s = .next
      { s.cellReply t rep ST_NO_LEAF 0 [] with pending := s.pending }) ∧
    (∀ p v, s.allocDie (thrMaster t) s.now (List.replicate len 0) = some (p, v) → exec (.cellAlloc t rep 0 len) s = .next
      { v.cellReply t rep ST_OK p [] with pending := s.pending }) ∧
    (∀ p v, s.allocHbm (thrMaster t) s.now (List.replicate len 0) false = some (p, v) → exec (.cellAlloc t rep 1 len) s = .next
      { v.cellReply t rep ST_OK p [] with pending := s.pending }) ∧
    (s.allocHbm (thrMaster t) s.now (List.replicate len 0) false = none → exec (.cellAlloc t rep 1 len) s = .next
      { s.cellReply t rep ST_NO_LEAF 0 [] with pending := s.pending })) ∧
  (∀ (t rep p : Nat) (q : Quire) (s : State), s.running = true → s.ptrCheck (thrMaster t) p = 0 → s.quire p = some q →
    (q.refcnt < 255 → exec (.cellHold t rep p) s = .next
      { (s.setQuire p { q with refcnt := q.refcnt + 1 }).cellReply t rep ST_OK p [] with pending := s.pending }) ∧
    (∀ x, 255 ≤ q.refcnt → s.cell.satAt = some x → s.now - x < 1000000 → exec (.cellHold t rep p) s = .next
      { (s.bump Reg.n_refcnt_saturated).cellReply t rep ST_REFCNT_FULL p [] with pending := s.pending }) ∧
    (1 < q.refcnt → exec (.cellRelease t rep p) s = .next
      { (s.setQuire p { q with refcnt := q.refcnt - 1 }).cellReply t rep ST_OK p [] with pending := s.pending }) ∧
    (q.refcnt ≤ 1 → exec (.cellRelease t rep p) s = .next
      { (s.freeQuire p).cellReply t rep ST_OK p [] with pending := s.pending }) ∧
    (exec (.cellStat t rep p) s = .next
      { s.cellReply t rep ST_OK p (wordsOf ((headLeaf q).take 16)) with pending := s.pending }) ∧
    (∀ off len, spanBad off len q.data.length = 0 → exec (.cellRead t rep p off len) s = .next
      { s.cellReply t rep ST_OK p (wordsOf (slice q.data off len)) with pending := s.pending }) ∧
    (∀ off len, spanBad off len q.data.length ≠ 0 → exec (.cellRead t rep p off len) s = .next
      { s.cellReply t rep (spanBad off len q.data.length) p [] with pending := s.pending }) ∧
    (∀ off len data, spanBad off len (64 * dataLeaves q.data.length) = 0 → 1 < q.refcnt → exec (.cellWrite t rep p off len data) s = .next
      { (s.bump Reg.n_shared_write_refused).cellReply t rep ST_QUIRE_SHARED p [] with pending := s.pending }) ∧
    (∀ off len data, spanBad off len (64 * dataLeaves q.data.length) = 0 → q.refcnt ≤ 1 →
      let all := overlay (slice (q.data ++ q.tail) 0 (64 * dataLeaves q.data.length)) off (slice ((data.map (leBytes 4)).flatten) 0 len)
      exec (.cellWrite t rep p off len data) s = .next
        { (s.setQuire p { q with data := all.take q.data.length, tail := all.drop q.data.length }).cellReply t rep ST_OK p [] with
          pending := s.pending }) ∧
    (∀ off len data, spanBad off len (64 * dataLeaves q.data.length) ≠ 0 → exec (.cellWrite t rep p off len data) s = .next
      { s.cellReply t rep (spanBad off len (64 * dataLeaves q.data.length)) p [] with pending := s.pending })) ∧
  (∀ (p : Nat) (q : Quire) (s : State), s.running = true → s.quire p = some q →
    exec (.spillCopyWritten p) s = .next { s.setQuire p { q with copying := false } with pending := s.pending }) ∧
  (∀ (v : Nat) (s : State), s.writable = true →
    let u := s.wr Reg.CELL_INSPECT_PTR v
    let read := fun (u : State) (l : List Byte) =>
      (List.range 16).foldl (fun (u : State) i => u.wr (Reg.CELL_INSPECT_DATA i) (leAt l (4 * i) 4)) u
    (∀ l, u.ptrForm v = 0 → u.leafBytes v = some l → exec (.cellInspect v) s = .next { read u l with pending := s.pending }) ∧
    (u.ptrForm v ≠ 0 → exec (.cellInspect v) s = .next { read (u.badPointer 0 v (u.ptrForm v)) [] with pending := s.pending }) ∧
    (16384 ≤ v → v ≤ 524288 → v + s.sealedReserve ≤ 2097152 → exec (.cellHeadroomWrite v) s = .next
      { (s.set Reg.CELL_HEADROOM_HEADROOM v).cellSync with pending := s.pending }) ∧
    (v < 16384 ∨ 524288 < v ∧ v < 2 ^ 22 → exec (.cellHeadroomWrite v) s = .next
      { s.set Reg.CELL_STATUS_HEADROOM_REFUSED 1 with pending := s.pending }))

/-- Commits of the traffic manager's objects (R231, R232, R237, R239, R242, R246) and writes of its port modes (R239): a refusal sets its
reason and changes nothing else, an accepted commit gives the object its staged words. -/
def Obligations.TrafficCommits : Prop :=
  (∀ (kind index : Nat) (flush : Bool) (i : Instr) (s : State), s.writable = true →
    (i, kind, flush) ∈ [(Instr.tmCommitQueue index flush, 0, flush), (.tmCommitSubscriber index, 1, false), (.tmCommitGroup index, 2, false),
      (.tmCommitShaper index, 3, false), (.tmCommitPolicer index, 4, false), (.tmCommitReplList index, 5, false)] →
    let n := s.tmName kind index flush
    let u := n.set Reg.TM_COMMIT_REASON (n.tmReason kind index)
    (n.tmReason kind index ≠ 0 → exec i s = .next { u.set Reg.TM_COMMIT_REFUSED 1 with pending := s.pending }) ∧
    (n.tmReason kind index = 0 →
      (kind ≤ 2 → flush = false → exec i s = .next { u.tmApply kind index with pending := s.pending }) ∧
      (kind = 0 → flush = true → exec i s = .next { (u.tmApply 0 index).flushQueue index with pending := s.pending }) ∧
      (kind = 3 ∨ kind = 4 →
        let w := { u with tm := { u.tm with objs := mput u.tm.objs (tmKey kind index) ((List.range 4).map u.stage ++
          (if kind = 4 then [u.stage 4] else [])) } }
        exec i s = .next { w.setBucket kind index (w.fullBucket kind index) with pending := s.pending }) ∧
      (kind = 5 → exec i s = .next
        { u with tm := { u.tm with objs := mput u.tm.objs (tmKey 5 index) ((List.range 17).map u.stage) }, pending := s.pending }))) ∧
  (∀ (kind index : Nat) (clear : Bool) (s : State), s.writable = true →
    let n := s.tmNameRead kind index clear
    let u := (List.range (tmConfWords kind)).foldl (fun (v : State) (j : Nat) => v.wr (Reg.TM_STAGE j) (v.tmWord kind index j)) n
    (tmCount kind ≤ index → exec (.tmCommitRead kind index clear) s = .next
      { (n.set Reg.TM_COMMIT_REASON 1).set Reg.TM_COMMIT_REFUSED 1 with pending := s.pending }) ∧
    (index < tmCount kind → clear = false ∨ kind ≠ 0 → exec (.tmCommitRead kind index clear) s = .next
      { (u.stageState kind index).set Reg.TM_COMMIT_REASON 0 with pending := s.pending }) ∧
    (index < tmCount 0 → kind = 0 → clear = true → exec (.tmCommitRead kind index clear) s = .next
      { (let v := (u.stageState 0 index).set Reg.TM_COMMIT_REASON 0
         v.setTmQueue index { v.tmQueue index with depthMax := 0, delayMax := 0 }) with pending := s.pending })) ∧
  (∀ (p v : Nat) (s : State), s.writable = true → p < 512 →
    let u := (s.set (Reg.TM_PORT_CFG_OVERHEAD p) (bits v 7 0)).set (Reg.TM_PORT_CFG_DOWN_ACTION p) (bits v 9 9)
    (bits v 8 8 = u.get (Reg.TM_PORT_CFG_MODE p) → exec (.tmPortModeWrite p v) s = .next { u with pending := s.pending }) ∧
    (bits v 8 8 ≠ u.get (Reg.TM_PORT_CFG_MODE p) →
      (bits v 8 8 = 1 → 0 < u.portSealed p → exec (.tmPortModeWrite p v) s = .next
        { (u.set (Reg.TM_PORT_STATUS_MODE_REFUSED p) 1).set (Reg.TM_PORT_STATUS_MODE_REASON p) 1 with pending := s.pending }) ∧
      (u.portSealed p = 0 → u.portBacklog p = true → exec (.tmPortModeWrite p v) s = .next
        { (u.set (Reg.TM_PORT_STATUS_MODE_REFUSED p) 1).set (Reg.TM_PORT_STATUS_MODE_REASON p) 2 with pending := s.pending }) ∧
      (u.portSealed p = 0 → u.portBacklog p = false → exec (.tmPortModeWrite p v) s = .next
        { u.set (Reg.TM_PORT_CFG_MODE p) (bits v 8 8) with pending := s.pending })))

/-- The traffic manager's own work: a node's calendar slot (R238), a queue's sample (R243), a port's next frame (R234–R236, R218) and a
cluster's delivery (R226, R326). -/
def Obligations.TrafficWork : Prop :=
  (∀ (kind index t : Nat) (s : State), s.running = true → (s.tmNode kind index).slot = some t →
    let nd := s.tmNode kind index
    let e := nd.nextAt / 128
    (e ≤ t → exec (.calendarSlotReached kind index) s = .next
      { s.setTmNode kind index { nd with slot := none } with pending := s.pending }) ∧
    (t < e → e < t + 65536 → exec (.calendarSlotReached kind index) s = .next
      { s.setTmNode kind index { nd with slot := some e } with pending := s.pending }) ∧
    (t + 65536 ≤ e → exec (.calendarSlotReached kind index) s = .next
      { (s.setTmNode kind index { nd with slot := some (t + 65535) }).bump Reg.n_cal_lap with pending := s.pending })) ∧
  (∀ (q : Nat) (s : State), s.running = true →
    let x := s.tmQueue q
    let y := { x with depthMax := max x.depthMax x.frames.length, delayMax := max x.delayMax (s.headDelay q) }
    let alarm := bits (s.tmWord 0 q 5) 15 0
    (s.backlogged q = false → s.paused q = false → exec (.queueSample q) s = .next s) ∧
    (s.backlogged q = true → alarm = 0 ∨ s.headDelay q ≤ alarm * 1000 → exec (.queueSample q) s = .next
      { s.setTmQueue q y with pending := s.pending }) ∧
    (s.backlogged q = true → 0 < alarm → alarm * 1000 < s.headDelay q → x.alarm = none → exec (.queueSample q) s = .next
      { (s.setTmQueue q { y with alarm := some s.now }).raise EV_tm_queue_delay (q % 2 ^ 16) [q, s.headDelay q, x.frames.length] with
        pending := s.pending })) ∧
  (∀ (p : Nat) (s : State), s.running = true → s.portTakes p = false ∨ s.selectQueue p false = none →
    exec (.portDequeue p) s = .next s) ∧
  (∀ (p q : Nat) (h : Held) (t : List Held) (x : Quire) (s v : State), s.running = true → p < 576 → s.portTakes p = true →
    s.selectQueue p false = some (q, v) → (s.tmQueue q).frames = h :: t → s.quire h.frame.quire = some x → h.frame.drawer = 0 →
    (x.copying = true → exec (.portDequeue p) s = .next s) ∧
    (∀ u w, x.copying = false → x.poison = false → p < 512 → s.portUp p = false → v.dequeue q = some (h, u) →
      (u.bump Reg.n_port_down_drop).unsent h.frame = w → exec (.portDequeue p) s = .next { w.retryAll with pending := s.pending }) ∧
    (∀ r u b, x.copying = false → 512 ≤ p ∨ s.portUp p = true → s.selectQueue p true = some (r, u) → u.dequeue q = some (h, b) →
      (x.poison = true → exec (.portDequeue p) s = .next { (b.unsent h.frame).retryAll with pending := s.pending }) ∧
      (x.poison = false → exec (.portDequeue p) s = .next { (b.depart p q h.frame).retryAll with pending := s.pending }))) ∧
  (∀ (n e : Nat) (f : Frame) (rest : List (Frame × Nat)) (s : State), s.running = true →
    s.coreHead (mgetD s.tm.coreQ n []) [] [] = some (f, e, rest) → s.domState (32 + n) < 2 → f.drawer = 0 →
    let u := s.coreLeave n rest
    let owner := ((u.quire f.quire).map (·.owner)).getD 0
    (u.epOn e = false ∨ bit (u.epAccept e) 3 = false → exec (.coreDelivery n) s = .next
      { ((u.release f.quire).bump (Reg.n_deliver_drop n)).coreEvent (0x20000 + e) EV_core_deliver_drop n [e, owner] with
        pending := s.pending }) ∧
    (u.epOn e = true → bit (u.epAccept e) 3 = true → exec (.coreDelivery n) s = .next
      { u.send { id := 0, src := owner, dest := e, reply := 0xFFFF, words := u.coreWords f } with pending := s.pending }))

/-! ## Transport (R247–R302) -/

/-- The commands of a connection's rings other than its operations (R248, R251–R253, R256, R258): each completes with the first status that
holds, or has its effect. An item of a ring without a connection completes CONN_STATE. -/
def Obligations.ConnectionCommands : Prop :=
  (∀ (r : Ref) (e : List Byte) (cs : List (List Byte)) (i : Instr) (s : State), s.running = true → s.mayStart r = true →
    (s.markStarted r).ringConn r.ring = none →
    i ∈ [Instr.send r e cs, .write r e cs, .read r e cs, .fetchAdd r e, .compSwap r e, .connConnect r e, .connClose r e, .connReset r e,
      .connQuery r e, .recv r e cs] →
    exec i s = .next { (s.markStarted r).complete r ST_CONN_STATE 0 [] with pending := s.pending }) ∧
  (∀ (r : Ref) (e : List Byte) (c : Nat) (s : State), s.running = true → s.mayStart r = true → (s.markStarted r).atConn r c = true →
    isCtl r.ring = false →
    let w := (s.markStarted r).connUsed c
    let x := w.conn c
    (x.st = 1 → w.connectBad e = false → w.connectDenied x.drawer e = true → exec (.connConnect r e) s = .next
      { w.complete r ST_CONN_DENIED 0 [] with pending := s.pending }) ∧
    (x.st = 1 → w.connectBad e = false → w.connectDenied x.drawer e = false → bit (leAt e 35 1) 1 = false →
      exec (.connConnect r e) s = .next { (w.connected c e).complete r ST_OK 0 [] with pending := s.pending }) ∧
    (x.st ≠ 4 → w.connectBad e = true → exec (.connConnect r e) s = .next
      { (w.bump (Reg.n_malformed_entries (ringDrawer r.ring))).complete r ST_BAD_FLAGS 0 [r.index] with pending := s.pending }) ∧
    (x.st = 2 ∨ x.st = 3 → w.connectBad e = false → exec (.connConnect r e) s = .next
      { w.complete r ST_CONN_STATE 0 [] with pending := s.pending }) ∧
    (zeroBut e [(0, 8)] = true →
      (x.st = 2 → exec (.connClose r e) s = .next
        { w.setConn c { x with st := 3, closeRef := some r } with pending := s.pending }) ∧
      (x.st = 1 ∨ x.st = 3 → exec (.connClose r e) s = .next { w.complete r ST_CONN_STATE 0 [] with pending := s.pending }) ∧
      (x.st = 1 ∨ x.st = 4 → exec (.connReset r e) s = .next { (w.toReady c).complete r ST_OK 0 [] with pending := s.pending }) ∧
      (x.st = 2 ∨ x.st = 3 → exec (.connReset r e) s = .next { w.complete r ST_CONN_STATE 0 [] with pending := s.pending }) ∧
      (exec (.connQuery r e) s = .next
        { w.complete r ST_OK (c + x.st * 2 ^ 32) [x.ltoken, x.msn, x.recvs.length, x.tracks.length] with pending := s.pending })) ∧
    (zeroBut e [(0, 8)] = false → exec (.connQuery r e) s = .next
      { (w.bump (Reg.n_malformed_entries (ringDrawer r.ring))).complete r ST_BAD_FLAGS 0 [r.index] with pending := s.pending }) ∧
    (∀ cs l, x.st = 1 ∨ x.st = 2 → zeroBut e [(0, 24)] = true → leAt e 20 4 ≤ 2147483648 →
      segList (leAt e 8 8) (leAt e 16 4) (leAt e 20 4) cs = .ok l → exec (.recv r e cs) s = .next
        { (w.setConn c { x with
            recvs := x.recvs ++ [{ seq := x.recvNext, ref := r, cap := leAt e 20 4, segs := l }]
            recvNext := x.recvNext + 1 }).postItem r 0x40 l with pending := s.pending }) ∧
    (∀ cs, x.st = 4 → exec (.recv r e cs) s = .next { w.complete r ST_FLUSHED 0 [] with pending := s.pending })) ∧
  (∀ (c : Nat) (s : State), s.running = true →
    let x := s.conn c
    (x.st = 3 → x.ops = [] → x.tracks = [] → exec (.connDrainEnd c) s = .next { s.toReady c with pending := s.pending }) ∧
    (x.st = 3 → exec (.closeMsExpire c) s = .next { s.toReady c with pending := s.pending }) ∧
    (s.xpt.fetching.contains c = true → exec (.contextFetchDone c false) s = .next { s.cacheIn c with pending := s.pending }) ∧
    (s.xpt.fetching.contains c = true →
      let u := (s.cacheIn c).raise EV_xpt_context_poison 0xFFFF [c, ((s.cacheIn c).conn c).drawer]
      exec (.contextFetchDone c true) s = .next
        { u.connFail c 4 ST_MEM_UNCORRECTABLE (((u.conn c).ops.head?).map (·.ref.index)) with pending := s.pending }))

/-- Operations of a send ring and their packets (R254–R258, R278, R289, R293), region keys (R262–R264), and a connection's timers (R281,
R285, R292, R293) and snapshots (R249, R274). -/
def Obligations.OperationsAndKeys : Prop :=
  (∀ (r : Ref) (e : List Byte) (cs : List (List Byte)) (c op : Nat) (ks : List (List Byte)) (i : Instr) (s : State),
    s.running = true → s.mayStart r = true → (s.markStarted r).atConn r c = true → isCtl r.ring = false →
    (i, op, ks) ∈ [(Instr.send r e cs, 0x30, cs), (.write r e cs, 0x31, cs), (.read r e cs, 0x32, cs), (.fetchAdd r e, 0x33, []),
      (.compSwap r e, 0x34, [])] →
    let w := (s.markStarted r).connUsed c
    let x := w.conn c
    let segs := if 0x33 ≤ op then .ok [] else segList (leAt e 32 8) (leAt e 40 4) (leAt e 8 4) ks
    (x.st = 4 → exec i s = .next { w.complete r ST_FLUSHED 0 [] with pending := s.pending }) ∧
    (x.st ≠ 4 → opZero op (leAt e 1 1 % 32) e = false → exec i s = .next
      { (w.bump (Reg.n_malformed_entries (ringDrawer r.ring))).complete r ST_BAD_FLAGS 0 [r.index] with pending := s.pending }) ∧
    (x.st ≠ 4 → opZero op (leAt e 1 1 % 32) e = true → x.roce = false →
      (x.st ≠ 2 → exec i s = .next { w.complete r ST_CONN_STATE 0 [] with pending := s.pending }) ∧
      (x.st = 2 → 2147483648 < leAt e 8 4 ∨ 0x33 ≤ op ∧ leAt e 8 4 ≠ 8 → exec i s = .next
        { (w.bump (Reg.n_malformed_entries (ringDrawer r.ring))).complete r ST_BAD_LENGTH 0 [r.index] with pending := s.pending }) ∧
      (∀ l, x.st = 2 → leAt e 8 4 ≤ 2147483648 → op < 0x33 ∨ leAt e 8 4 = 8 → segs = .ok l →
        op ≠ 0x31 ∨ bit (leAt e 1 1 % 32) 1 = false → op < 0x33 ∨ leAt e 24 8 % 8 = 0 →
        let u := w.setConn c { x with wait := x.wait ++ [xopOf r op e l] }
        exec i s = .next { (if x.wait.isEmpty then u.startOp c else u) with pending := s.pending }))) ∧
  (∀ (c : Nat) (o : XOp) (t : List XOp) (s : State), s.running = true →
    let x := s.conn c
    x.wait = o :: t → x.st = 2 →
    (x.mayStart o = false → exec (.xptOpStart c) s = .next s) ∧
    (x.mayStart o = true → o.takesRecv = true → exec (.xptOpStart c) s = .next
      { s.setConn c { x with
          wait := t
          ops := x.ops ++ [{ o with seq := x.msn }]
          msn := (x.msn + 1) % 2 ^ 32 } with pending := s.pending }) ∧
    (x.mayStart o = true → o.takesRecv = false → exec (.xptOpStart c) s = .next
      { s.setConn c { x with
          wait := t
          ops := x.ops ++ [{ o with seq := x.onum }]
          onum := (x.onum + 1) % 2 ^ 32 } with pending := s.pending })) ∧
  (∀ (c st : Nat) (d : List Byte) (s : State), s.running = true →
    let x := s.conn c
    liveConn x.st = true → x.vol = false →
    (∀ u, x.nextRtx = some u → exec (.packetSend c d st) s = .next { s.resend c u with pending := s.pending }) ∧
    (x.nextRtx = none → 256 ≤ idxSub x.sndNxt x.sndUna → exec (.packetSend c d st) s = .next s) ∧
    (∀ o, x.nextRtx = none → idxSub x.sndNxt x.sndUna < 256 → x.ctl = [] → x.ops.find? (fun o => !o.sent && !o.stopped) = some o →
      x.unackedBytes + (if o.opcode ≤ 0x31 then min x.mtu (o.len - o.next) else 0) ≤ x.cwnd →
      (st ≠ 0 → exec (.packetSend c d st) s = .next { s.opRefused c o st with pending := s.pending }) ∧
      (st = 0 → exec (.packetSend c d st) s = .next { s.sendChunk c o d with pending := s.pending }))) ∧
  (∀ (r : Ref) (e : List Byte) (i : Nat) (s : State), s.running = true → s.mayStart r = true →
    let u := s.markStarted r
    u.keyIndex (ringDrawer r.ring) (leAt e 8 4) = some i → leAt e 8 4 < 2 ^ 22 →
    (zeroBut e [(0, 14), (16, 4), (24, 16)] = true → leAt e 12 1 < 8 → leAt e 13 1 = 0 → leAt e 16 4 < 2 ^ 20 →
      ((u.key i).st = 0 → leAt e 32 8 ≠ 0 → leAt e 32 8 ≤ 2 ^ 48 → exec (.keyRegister r e) s = .next
        { (u.setKey i { u.key i with
            st := 1, tag := ((u.key i).tag + 1) % 1024, base := leAt e 24 8, len := leAt e 32 8, perm := leAt e 12 1,
            drawer := ringDrawer r.ring, scopeEn := false, scope := 0, inflight := 0, ref := none, slow := false }).complete r ST_OK
              (((u.key i).tag + 1) % 1024 * 2 ^ 22 + i) [] with pending := s.pending }) ∧
      ((u.key i).st ≠ 0 → exec (.keyRegister r e) s = .next { u.complete r ST_KEY_STATE 0 [] with pending := s.pending })) ∧
    (zeroBut e [(0, 12)] = true →
      ((u.key i).st = 1 → exec (.keyRevoke r e) s = .next
        { u.setKey i { u.key i with st := 2, ref := some r } with pending := s.pending }) ∧
      ((u.key i).st ≠ 1 → exec (.keyRevoke r e) s = .next { u.complete r ST_KEY_STATE 0 [] with pending := s.pending }))) ∧
  (∀ (i : Nat) (s : State), s.running = true → (s.key i).st = 2 →
    (∀ r, (s.key i).inflight = 0 → (s.key i).ref = some r → exec (.keyRevokeDone i) s = .next
      { (s.setKey i { s.key i with st := 0, ref := none, slow := false }).complete r ST_OK 0 [] with pending := s.pending }) ∧
    ((s.key i).inflight ≠ 0 → exec (.keyRevokeDone i) s = .next s) ∧
    ((s.key i).slow = false →
      let u := s.setKey i { s.key i with slow := true }
      exec (.revokeSlowTimer i) s = .next
        { u.raiseTo (s.key i).drawer EV_xpt_revoke_slow (s.key i).drawer [u.keyLocal i, (s.key i).inflight] with pending := s.pending })) ∧
  (∀ (c : Nat) (s : State), s.running = true →
    let x := s.conn c
    (liveConn x.st = true →
      (0 < x.ackCnt → exec (.ackDelayExpire c) s = .next { s.sendAck c with pending := s.pending }) ∧
      (exec (.pathHoldExpire c) s = .next { s.pathsUp c with pending := s.pending }) ∧
      (x.unacks = [] → exec (.rtoExpire c) s = .next s) ∧
      (x.unacks ≠ [] → x.roce = false →
        let u := (s.setConn c { x with
          rtx := x.unacks.map (fun u => u.psn), rto := min s.rtoMax (2 * x.rto), cwnd := x.mtu, retries := x.retries + 1 }).bump
            Reg.n_retx_timeout
        let una := x.unacks.find? (fun u => decide (u.psn = x.sndUna))
        (x.retryLim < x.retries + 1 → exec (.rtoExpire c) s = .next
          { u.connFail c 1 ST_RETRY_EXHAUSTED (una.bind (·.item)) with pending := s.pending }) ∧
        (∀ p, x.retries + 1 ≤ x.retryLim → una = some p → exec (.rtoExpire c) s = .next
          { u.blame c p.path with pending := s.pending }))) ∧
    (∀ o q, x.ops.find? (fun o => o.stopped && o.takesRecv && decide (o.seq = q)) = some o →
      let mine := (x.unacks.filter (fun u => decide (u.item = some o.ref.index))).map (fun u => u.psn)
      let u := s.setConn c { x with
        rnrs := x.rnrs + 1
        rtx := x.rtx.filter (fun p => !mine.contains p) ++ mine
        ops := x.ops.map (fun e => if e.ref.index = o.ref.index then { e with stopped := false } else e) }
      (x.rnrLim = 7 ∨ x.rnrs + 1 ≤ x.rnrLim → exec (.rnrWaitExpire c q) s = .next { u with pending := s.pending }) ∧
      (x.rnrLim ≠ 7 → x.rnrLim < x.rnrs + 1 → exec (.rnrWaitExpire c q) s = .next
        { u.connFail c 2 ST_RNR_EXHAUSTED (some o.ref.index) with pending := s.pending }))) ∧
  (∀ (v : Nat) (s : State), s.writable = true →
    (bit v 31 = true →
      let u := s.set Reg.XPT_CONN_SEL_CONN (v % 2 ^ 20)
      exec (.xptConnSnapshot v) s = .next
        { u.copyWords (Reg.XPT_CONN_DATA 0) (u.connBytes (v % 2 ^ 20)) with pending := s.pending }) ∧
    (bit v 31 = true →
      let u := s.set Reg.XPT_KEY_SEL_KEY (v % 2 ^ 22)
      exec (.xptKeySnapshot v) s = .next
        { u.copyWords (Reg.XPT_KEY_DATA 0) (u.key (v % 2 ^ 22)).bytes with pending := s.pending }) ∧
    (bit v 31 = false → exec (.xptConnSnapshot v) s = .next { s.set Reg.XPT_CONN_SEL_CONN (v % 2 ^ 20) with pending := s.pending }))

/-- Packets that arrive at the transport engine (R259–R261, R268, R269, R282–R287, R298): one that its connection accepts leaves its
delivery queue, meets the window and is handled by its opcode, and its quire is released. -/
def Obligations.TransportArrivals : Prop :=
  (∀ (p : Nat) (auth : Bool) (f : Frame) (rest : List (Frame × Nat)) (u : XPkt) (i : Instr) (wire : Nat)
    (go : Nat → XIn → State → Bool × State) (s v : State), s.running = true →
    State.xptPick (mgetD s.tm.xptQ p []) [] s = (some (f, 0, rest), v) → parseUdp (v.frameBytes f) = some u →
    v.splAccepts (beAt u.pl 4 4) u = true → beAt u.pl 1 1 = wire →
    (i, wire, go) ∈ [(Instr.sendData p auth, 1, fun c k z => z.recvIn c k 0x30 none), (.writeData p auth, 2, fun c k z => z.writeIn c k),
      (.readReq p auth, 3, fun c k z => z.reqIn c k), (.readResp p auth, 4, fun c k z => z.readIn c k),
      (.fetchAddReq p auth, 5, fun c k z => z.reqIn c k), (.compSwapReq p auth, 6, fun c k z => z.reqIn c k),
      (.atomicResp p auth, 7, fun c k z => z.atomicIn c k), (.abandon p auth, 0x0E, fun c k z => z.abandonIn c k),
      (.fill p auth, 0x0F, fun _ _ z => (true, z))] →
    let c := beAt u.pl 4 4
    let k := splIn u f.quire (splBody u)
    let w := v.xptLeave p rest
    let x := w.conn c
    let d := idxSub k.psn x.rcvBase
    (2 ^ 31 ≤ d ∨ 0 < d ∧ bit x.rcvMap (d - 1) = true → exec i s = .next
      { (((w.setConn c { x with ackPath := k.path }).sendAck c).bump Reg.n_dup_drop).release f.quire with pending := s.pending }) ∧
    (256 ≤ d → d < 2 ^ 31 → bit x.rcvMap (d - 1) = false → exec i s = .next
      { (w.bump Reg.n_window_drop).release f.quire with pending := s.pending }) ∧
    (d < 256 → d = 0 ∨ bit x.rcvMap (d - 1) = false →
      let z := if k.ce then (w.bump Reg.n_rx_data_pkts).bump Reg.n_ce_received else w.bump Reg.n_rx_data_pkts
      exec i s = .next
        { (if (go c k z).1 then (go c k z).2.marked c k d else (go c k z).2).release f.quire with pending := s.pending })) ∧
  (∀ (p : Nat) (auth : Bool) (f : Frame) (rest : List (Frame × Nat)) (u : XPkt) (s v : State), s.running = true →
    State.xptPick (mgetD s.tm.xptQ p []) [] s = (some (f, 0, rest), v) → parseUdp (v.frameBytes f) = some u →
    v.splAccepts (beAt u.pl 4 4) u = true →
    let c := beAt u.pl 4 4
    let w := v.xptLeave p rest
    let l := w.udpOf f.quire
    (beAt u.pl 1 1 = 0x10 → exec (.ack p auth) s = .next
      { (w.ackIn c (beAt l 32 4) (beAt l 36 2) (beAt l 38 2) (beAt l 40 8) (beAt l 48 32)).release f.quire with pending := s.pending }) ∧
    (beAt u.pl 1 1 = 0x11 → exec (.nak p auth) s = .next
      { (w.nakIn c (beAt l 32 4) (beAt l 36 1)).release f.quire with pending := s.pending }) ∧
    (beAt u.pl 1 1 = 0x12 → exec (.resetNotice p) s = .next
      { (w.connFail c 3 ST_CONN_BROKEN (((w.conn c).ops.head?).map (·.ref.index))).release f.quire with pending := s.pending })) ∧
  (∀ (p : Nat) (f : Frame) (rest : List (Frame × Nat)) (u : XPkt) (s v : State), s.running = true →
    State.xptPick (mgetD s.tm.xptQ p []) [] s = (some (f, 1, rest), v) → parseUdp (v.frameBytes f) = some u →
    v.roceAccepts u = true →
    (beAt u.pl 0 1 ≠ 0x81 → exec (.rocePacket p true) s = .next
      { ((v.xptLeave p rest).roceIn (beAt u.pl 5 3) u).release f.quire with pending := s.pending }) ∧
    (beAt u.pl 0 1 = 0x81 → exec (.cnp p true) s = .next
      { ((v.xptLeave p rest).windowEnd (beAt u.pl 5 3) true).release f.quire with pending := s.pending }) ∧
    (beAt u.pl 0 1 ≠ 0x81 → exec (.rocePacket p false) s = .next
      { ((v.xptLeave p rest).bump Reg.n_icrc_error).release f.quire with pending := s.pending }))

/-! ## Threads and channels (R303–R336) -/

/-- One instruction of a thread (R304, R307, R309): an interrupt that stands is taken, an odd pc traps, and an instruction whose two parcels
the fetch delivers executes. Integer results, jumps, branches, loads, stores and traps follow the RISC-V specifications, which the spec
names and does not print (PRESUMED, log entry 27). -/
def Obligations.ThreadInstructions : Prop :=
  (∀ (t c : Nat) (s : State), s.running = true → s.rvIssues t = true → (s.thread t).irq = some c →
    exec (.baseInstruction t) s = .next { (s.setThread t ((s.thread t).interrupt c)).stepped with pending := s.pending }) ∧
  (∀ (t : Nat) (s : State), s.running = true → s.rvIssues t = true → (s.thread t).irq = none → (s.thread t).pc % 2 = 1 →
    exec (.baseInstruction t) s = .next
      { (s.setThread t ((s.thread t).trap 0 (s.thread t).pc)).stepped with pending := s.pending }) ∧
  (∀ (t h c : Nat) (s u : State), s.running = true → s.rvIssues t = true → (s.thread t).irq = none → (s.thread t).pc % 2 = 0 →
    s.rvParcel t (s.thread t).pc = (some h, u) → h % 4 ≠ 3 →
    (expandC h = some c → exec (.baseInstruction t) s = .next { (u.rvExec t ⟨c, h, 2⟩).stepped with pending := s.pending }) ∧
    (expandC h = none → exec (.baseInstruction t) s = .next
      { (u.setThread t ((u.thread t).trap 2 h)).stepped with pending := s.pending })) ∧
  (∀ (t h g : Nat) (s u v : State), s.running = true → s.rvIssues t = true → (s.thread t).irq = none → (s.thread t).pc % 2 = 0 →
    s.rvParcel t (s.thread t).pc = (some h, u) → h % 4 = 3 → u.rvParcel t (((s.thread t).pc + 2) % 2 ^ 64) = (some g, v) →
    let w := h + g * 2 ^ 16
    let x := v.thread t
    let a := x.getX (bits w 19 15)
    let b := x.getX (bits w 24 20)
    let puts := fun r : Nat => exec (.baseInstruction t) s = .next
      { (v.setThread t { (x.setX (bits w 11 7) r).retired with pc := (x.pc + 4) % 2 ^ 64 }).stepped with pending := s.pending }
    let goes := fun (y : Thread) (pc : Nat) => exec (.baseInstruction t) s = .next
      { (v.setThread t { y.retired with pc := pc % 2 ^ 64 }).stepped with pending := s.pending }
    let traps := fun cause tval : Nat => exec (.baseInstruction t) s = .next
      { (v.setThread t (x.trap cause tval)).stepped with pending := s.pending }
    (∀ r, w % 128 = 0x13 → aluI (bits w 14 12) (bits w 31 20) a = some r → puts r) ∧
    (∀ r, w % 128 = 0x33 → aluR (bits w 31 25) (bits w 14 12) a b = some r → puts r) ∧
    (w % 128 = 0x33 → aluR (bits w 31 25) (bits w 14 12) a b = none → traps 2 w) ∧
    (w % 128 = 0x37 → puts (immU w)) ∧ (w % 128 = 0x17 → puts (x.pc + immU w)) ∧
    (w % 128 = 0x6F → goes (x.setX (bits w 11 7) (x.pc + 4)) ((x.pc + immJ w) % 2 ^ 64 / 2 * 2)) ∧
    (w % 128 = 0x67 → bits w 14 12 = 0 → goes (x.setX (bits w 11 7) (x.pc + 4)) ((a + immI w) % 2 ^ 64 / 2 * 2)) ∧
    (∀ taken, w % 128 = 0x63 → branchTaken (bits w 14 12) a b = some taken →
      goes x (if taken then x.pc + immB w else x.pc + 4)) ∧
    (∀ z l, w % 128 = 0x03 → bits w 14 12 < 4 → v.rvLoad t ((a + immI w) % 2 ^ 64) (2 ^ (bits w 14 12)) = (some l, z) →
      exec (.baseInstruction t) s = .next
        { (z.setThread t { ((z.thread t).setX (bits w 11 7) (sextW (8 * 2 ^ (bits w 14 12)) (leNat l))).retired with
            pc := ((z.thread t).pc + 4) % 2 ^ 64 }).stepped with pending := s.pending }) ∧
    (w % 128 = 0x23 → bits w 14 12 < 4 → exec (.baseInstruction t) s = .next
      { (v.rvStore t ((a + immS w) % 2 ^ 64) (leBytes (2 ^ (bits w 14 12)) b)
          (fun z => z.setThread t { (z.thread t).retired with pc := (x.pc + 4) % 2 ^ 64 })).stepped with pending := s.pending }) ∧
    (w = 0x73 → traps (8 + x.priv) 0) ∧ (w = 0x100073 → traps 3 x.pc))

/-- Sending (R313–R315, R321, R322): words of one message gather in the staging slot, and a mismatch or a 33rd word discards it. The last
word commits: a refusal is counted and reported, a blocking commit waits, a non-blocking one with no room leaves the slot as it is. A
refused store's fault comes first (R309), and a thread that does not run executes nothing. -/
def Obligations.ThreadSends : Prop :=
  (∀ (t rd rs1 rs2 : Nat) (i : Instr) (s : State), s.running = true →
    i ∈ [Instr.chput t rd rs1 rs2, .chputl t rd rs1 rs2, .chputln t rd rs1 rs2] →
    let x := s.thread t
    (s.thState t ≠ 1 → exec i s = .next s) ∧
    (∀ a why l, s.thState t = 1 → x.fault = (a, why) :: l → exec i s = .next
      { (s.setThread t { x with fault := l }).accessFault t 7 a why with pending := s.pending }) ∧
    (∀ d r l, s.thState t = 1 → x.fault = [] → x.stage = some (d, r, l) →
      d ≠ x.getX rs1 % 2 ^ 16 ∨ r ≠ bits (x.getX rs1) 31 16 ∨ 32 ≤ l.length → exec i s = .next
        { (s.setThread t { x with stage := none }).retire t rd (failed 6) with pending := s.pending })) ∧
  (∀ (t rd rs1 rs2 : Nat) (l : List Nat) (s : State), s.running = true → s.thState t = 1 → (s.thread t).fault = [] →
    let x := s.thread t
    let d := x.getX rs1 % 2 ^ 16
    let r := bits (x.getX rs1) 31 16
    let words := l ++ [x.getX rs2 % 2 ^ 32]
    let m : Msg := { id := 0, src := 0x2000 + t, dest := d, reply := r, words := words }
    x.stage = none ∧ l = [] ∨ x.stage = some (d, r, l) ∧ l.length < 32 →
    exec (.chput t rd rs1 rs2) s = .next { (s.setThread t { x with stage := some (d, r, words) }).retire t rd 0 with pending := s.pending } ∧
    (s.coreReset d = true → ∀ i ∈ [Instr.chputl t rd rs1 rs2, .chputln t rd rs1 rs2], exec i s = .next
      { ((s.resetHit 10 (epCl d)).setThread t { x with stage := none }).retire t rd (failed 7) with pending := s.pending }) ∧
    (∀ why, s.coreReset d = false → s.chRefusal t d r = some why → ∀ i ∈ [Instr.chputl t rd rs1 rs2, .chputln t rd rs1 rs2],
      exec i s = .next
        { ((((s.setThread t { x with stage := none }).bump (Reg.n_ch_refused (t / 64))).coreEvent (t / 64) EV_core_ch_refused (t / 64)
            [0x2000 + t, d, why]).retire t rd (failed 5)) with pending := s.pending }) ∧
    (s.coreReset d = false → s.chRefusal t d r = none →
      exec (.chputl t rd rs1 rs2) s = .next
        { (s.setThread t { x with stage := none }).block t 3 0 rd 0 false (some m) with pending := s.pending } ∧
      (s.commitRoom m = true → exec (.chputln t rd rs1 rs2) s = .next
        { ((s.setThread t { x with stage := none }).send m).retire t rd 0 with pending := s.pending }) ∧
      (s.commitRoom m = false → exec (.chputln t rd rs1 rs2) s = .next
        { s.retire t rd (failed 4) with pending := s.pending }))) ∧
  (∀ (t : Nat) (w : ThreadWait) (m : Msg) (s : State), s.running = true → (s.thread t).wait = some w → w.commit = some m → s.thState t = 2 →
    (s.commitRoom m = true → exec (.chCommitDelivered t) s = .next { (s.send m).threadResult t 0 with pending := s.pending }) ∧
    (s.commitRoom m = false → exec (.chCommitDelivered t) s = .next { s with pending := s.pending }))

/-- Reading endpoints and ports (R314, R320, R323, R327): what an endpoint or port does not admit is refused, the head message's header or next
word is returned, and an empty one blocks the thread or answers EMPTY. -/
def Obligations.ThreadReads : Prop :=
  (∀ (t rd rs1 rs2 : Nat) (s : State), s.running = true → s.thState t = 1 → (s.thread t).fault = [] →
    let x := s.thread t
    let e := x.getX rs1 % 64
    let y := s.endp (ownEp t e)
    let tmo := timeoutOf (x.getX rs2)
    (s.mayRead t e = false → ∀ i ∈ [Instr.chrecv t rd rs1 rs2, .chrecvn t rd rs1, .chhdr t rd rs1 rs2, .chhdrn t rd rs1, .chskip t rd rs1],
      exec i s = .next { s.retire t rd (failed 5) with pending := s.pending }) ∧
    (s.mayRead t e = true → y.msgs = [] →
      exec (.chrecv t rd rs1 rs2) s = .next { s.block t 1 e rd tmo false none with pending := s.pending } ∧
      exec (.chhdr t rd rs1 rs2) s = .next { s.block t 1 e rd tmo true none with pending := s.pending } ∧
      ∀ i ∈ [Instr.chrecvn t rd rs1, .chhdrn t rd rs1, .chskip t rd rs1],
        exec i s = .next { s.retire t rd (failed 3) with pending := s.pending }) ∧
    (∀ m l, s.mayRead t e = true → y.msgs = m :: l →
      (∀ i ∈ [Instr.chhdr t rd rs1 rs2, .chhdrn t rd rs1], exec i s = .next
        { s.retire t rd ((m.words.length - 1) % 32 * 2 ^ 56 + m.reply % 2 ^ 16 * 2 ^ 16 + m.src % 2 ^ 16) with pending := s.pending }) ∧
      exec (.chskip t rd rs1) s = .next { (s.setEndp (ownEp t e) { y with msgs := l, read := 0 }).retire t rd 0 with pending := s.pending } ∧
      let first := if y.read = 0 then 2 ^ 61 else 0
      (y.read + 1 < m.words.length → ∀ i ∈ [Instr.chrecv t rd rs1 rs2, .chrecvn t rd rs1], exec i s = .next
        { (s.setEndp (ownEp t e) { y with read := y.read + 1 }).retire t rd (first + m.words.getD y.read 0 % 2 ^ 32) with
          pending := s.pending }) ∧
      (m.words.length ≤ y.read + 1 → ∀ i ∈ [Instr.chrecv t rd rs1 rs2, .chrecvn t rd rs1], exec i s = .next
        { (s.setEndp (ownEp t e) { y with msgs := l, read := 0 }).retire t rd (2 ^ 62 + first + m.words.getD y.read 0 % 2 ^ 32) with
          pending := s.pending }))) ∧
  (∀ (t rd rs1 rs2 : Nat) (s : State), s.running = true → s.thState t = 1 → (s.thread t).fault = [] →
    let x := s.thread t
    let p := x.getX rs1 % 64
    let f := Reg.CORE_PORT_VALUE_VALUE (t / 64) p
    (s.portAdmits t p = false → ∀ i ∈ [Instr.pwait t rd rs1 rs2, .pwaitn t rd rs1, .pset t rd rs1 rs2], exec i s = .next
      { s.retire t rd (failed 5) with pending := s.pending }) ∧
    (s.portAdmits t p = true →
      (s.get f ≠ 0 → ∀ i ∈ [Instr.pwait t rd rs1 rs2, .pwaitn t rd rs1], exec i s = .next
        { (s.set f 0).retire t rd (s.get f) with pending := s.pending }) ∧
      (s.get f = 0 → exec (.pwait t rd rs1 rs2) s = .next
        { s.block t 2 p rd (timeoutOf (x.getX rs2)) false none with pending := s.pending }) ∧
      (s.get f = 0 → exec (.pwaitn t rd rs1) s = .next { s.retire t rd (failed 3) with pending := s.pending }) ∧
      (exec (.pset t rd rs1 rs2) s = .next { (s.retire t rd 0).portSet (t / 64) p (x.getX rs2) with pending := s.pending }))) ∧
  (∀ (src dest : Nat) (m : Msg) (s : State), s.running = true → s.core.flight.find? (msgHit src dest) = some m →
    let u := { s with core := { s.core with flight := s.core.flight.eraseP (msgHit src dest) } }
    (dest < 2 ^ 14 → epCl dest < 24 → 2 ≤ s.domState (32 + epCl dest) → exec (.chMessageArrival src dest) s = .next
      { s.domWake (32 + epCl dest) with pending := s.pending }) ∧
    (dest < 2 ^ 14 → epCl dest < 24 → s.domState (32 + epCl dest) < 2 → s.epOn dest = true → exec (.chMessageArrival src dest) s = .next
      { ((u.setEndp dest { u.endp dest with msgs := (u.endp dest).msgs ++ [m] }).bump (Reg.n_ch_messages (epCl dest))).wake dest with
        pending := s.pending }) ∧
    (dest < 2 ^ 14 → epCl dest < 24 → s.domState (32 + epCl dest) < 2 → s.epOn dest = false →
      (2 ^ 16 ≤ m.src → exec (.chMessageArrival src dest) s = .next
        { u.bump (Reg.n_reply_discard (epCl dest)) with pending := s.pending }) ∧
      (m.src < 2 ^ 16 → exec (.chMessageArrival src dest) s = .next { u with pending := s.pending }))) ∧
  (∀ (t : Nat) (w : ThreadWait) (s : State), s.running = true → (s.thread t).wait = some w → s.thState t = 2 → w.commit = none →
    (w.timeout ≠ 0 → exec (.threadWaitTimeout t) s = .next
      { (s.bump (Reg.n_ch_timeouts (t / 64))).threadResult t (failed 2) with pending := s.pending }) ∧
    (w.timeout = 0 → exec (.threadWaitTimeout t) s = .next s)) ∧
  (∀ (m : Nat) (s : State), s.running = true → (s.members m).contains m = true →
    ((s.members m).all (fun t => s.waitsInside m t) = true →
      let u := (s.threadResult m (failed 1)).bump (Reg.n_wait_all_count (m / 64))
      exec (.waitAllDetect m) s = .next
        { u.raise EV_core_wait_all m [(s.members m).foldl (fun a t => a + 2 ^ (t % 64)) 0, u.get (Reg.CORE_CL_STATUS_FREQ_MHZ (m / 64))] with
          pending := s.pending }) ∧
    ((s.members m).all (fun t => s.waitsInside m t) = false → exec (.waitAllDetect m) s = .next s))

/-- Starts, releases, groups and the core array's registers (R305, R315–R319, R331, R336). -/
def Obligations.ThreadGroups : Prop :=
  (∀ (t rd rs1 rs2 : Nat) (s : State), s.running = true → s.thState t = 1 → (s.thread t).fault = [] →
    let x := s.thread t
    let u := x.getX rs1 % 2 ^ 11
    (s.startAdmits t u = false → exec (.tstart t rd rs1 rs2) s = .next { s.retire t rd (failed 5) with pending := s.pending }) ∧
    (s.startAdmits t u = true → s.live u = true ∨ s.startHeld u = true → exec (.tstart t rd rs1 rs2) s = .next
      { s.retire t rd (failed 8) with pending := s.pending }) ∧
    (s.startAdmits t u = true → s.live u = false → s.startHeld u = false →
      let y := { ((Thread.reset.setX 10 (bits (x.getX rs1) 63 32)).setX 11 t) with pc := x.getX rs2, priv := x.priv }
      exec (.tstart t rd rs1 rs2) s = .next
        { (s.startThread u (if u / 64 = t / 64 then t else u) (y.setCsr 0x180 (x.csrOf 0x180))).retire t rd 0 with pending := s.pending }) ∧
    (s.ownMember t u = true → exec (.trelease t rd rs1) s = .next
      { ((s.stopThread u).bump (Reg.n_thread_releases (u / 64))).retire t rd 0 with pending := s.pending }) ∧
    (s.ownMember t u = false → exec (.trelease t rd rs1) s = .next { s.retire t rd (failed 5) with pending := s.pending }) ∧
    (s.hasMembers t = true → ∀ i ∈ [Instr.texit t rd, .tgroup t rd], exec i s = .next
      { s.retire t rd (failed 8) with pending := s.pending }) ∧
    (s.hasMembers t = false →
      exec (.texit t rd) s = .next { (s.stopThread t).bump (Reg.n_thread_releases (t / 64)) with pending := s.pending } ∧
      exec (.tgroup t rd) s = .next
        { (s.set (Reg.CORE_THREAD_STATUS_MASTER t) (t % 64)).retire t rd 0 with pending := s.pending }) ∧
    exec (.tinfo t rd) s = .next { s.retire t rd (s.master t * 2 ^ 32 + t) with pending := s.pending }) ∧
  (∀ (t v : Nat) (s : State), s.writable = true →
    let w := (if bit v 29 then s.set (Reg.CORE_THREAD_CTL_START_REFUSED t) 0 else s).set (Reg.CORE_THREAD_CTL_START_MODE t) (v % 4)
    (w.live t = true ∨ w.startHeld t = true → exec (.threadStartReg t v) s = .next
      { w.set (Reg.CORE_THREAD_CTL_START_REFUSED t) 1 with pending := s.pending }) ∧
    (w.live t = false → w.startHeld t = false →
      let m := w.get (Reg.CORE_THREAD_CTL_START_MODE t)
      let x := (Thread.reset.setX 10 (w.get (Reg.CORE_THREAD_ARG_ARG t))).setX 11 (2 ^ 64 - 1)
      exec (.threadStartReg t v) s = .next
        { w.startThread t t { x with pc := w.get (Reg.CORE_THREAD_PC_PC t), priv := if m = 2 then 3 else m } with
          pending := s.pending }) ∧
    (let l := if w.live t ∧ w.master t = t then w.members t else []
     let z := ((w.stopThread t).set (Reg.CORE_THREAD_CTL_START_REFUSED t) 0).set (Reg.CORE_THREAD_CTL_START_MODE t) 3
     exec (.threadReset t v) s = .next
       { ((z.set (Reg.CORE_THREAD_SHARE_SHARE_REFUSED t) 0).set (Reg.CORE_THREAD_SHARE_SHARE t) 0).newMaster t l with
         pending := s.pending })) ∧
  (∀ (v : Nat) (s : State), s.writable = true →
    let w := if bit v 30 then s.set Reg.CORE_STAGE_CTL_DISCARD_REFUSED 0 else s
    let t := w.get Reg.CORE_STAGE_SEL_THREAD
    (w.thState t ≠ 3 → exec (.stageDiscard v) s = .next { w.set Reg.CORE_STAGE_CTL_DISCARD_REFUSED 1 with pending := s.pending }) ∧
    (∀ d r l, w.thState t = 3 → (w.thread t).stage = some (d, r, l) → exec (.stageDiscard v) s = .next
      { (w.setThread t { w.thread t with stage := none }).raise EV_core_stage_discard t [d, l.length] with pending := s.pending }) ∧
    (w.thState t = 3 → (w.thread t).stage = none → exec (.stageDiscard v) s = .next { w with pending := s.pending })) ∧
  (∀ (n c e v : Nat) (s : State), s.writable = true →
    let id := n * 512 + c * 64 + e
    (bit v 31 = true → (s.endp id).msgs ≠ [] → exec (.epCfgWrite n c e v) s = .next { s with pending := s.pending }) ∧
    (bit v 31 = true → (s.endp id).msgs = [] → exec (.epCfgWrite n c e v) s = .next
      { s.wr (Reg.CORE_EP_CFG n c e) (Nat.land v 0x8F000007) with pending := s.pending }) ∧
    (bit v 31 = false → exec (.epCfgWrite n c e v) s = .next
      { (s.wr (Reg.CORE_EP_CFG n c e) (Nat.land v 0x8F000007)).setEndp id { s.endp id with msgs := [], read := 0 } with
        pending := s.pending })) ∧
  (∀ (t v : Nat) (s : State), s.writable = true →
    let w := if bit v 31 then s.set (Reg.CORE_THREAD_SHARE_SHARE_REFUSED t) 0 else s
    let others := ((List.range 8).map (fun j => t / 8 * 8 + j)).filter (fun u => !decide (u = t))
    let sum := others.foldl (fun a u => a + w.get (Reg.CORE_THREAD_SHARE_SHARE u)) 0
    (v % 128 ≤ 64 → sum + v % 128 ≤ 192 → exec (.threadShareWrite t v) s = .next
      { w.set (Reg.CORE_THREAD_SHARE_SHARE t) (v % 128) with pending := s.pending }) ∧
    (64 < v % 128 ∨ 192 < sum + v % 128 → exec (.threadShareWrite t v) s = .next
      { w.set (Reg.CORE_THREAD_SHARE_SHARE_REFUSED t) 1 with pending := s.pending }))

/-! ## Accelerators and the block service (R337–R364) -/

/-- Jobs (R339–R342, R346, R361): a job waits while its bank sleeps, ends with TARGET_RESET in a block reset, and is checked before it runs.
Then its key and buffers are found, its result is written to its destination, and it ends with status and COUNT. What a cipher, a
compressor, a signature or a key encapsulation computes is a constant of the model; digests and erasure codes are written out. -/
def Obligations.AcceleratorJobs : Prop :=
  (∀ (r : Ref) (e b : List Byte) (conts cs : List (List Byte)) (host hs : List HostIn) (op : Nat) (i : Instr) (s : State),
    s.running = true → s.mayStart r = true →
    (op, b, cs, hs, i) ∈ [(0x48, withBit e 1 false, [], [], Instr.sealBind r e), (0x48, withBit e 1 true, [], [], .sealUnbind r e),
      (0x50, e, [], host, .cipher r e host), (0x51, e, [], host, .digest r e host), (0x52, e, [], host, .compress r e host),
      (0x53, e, [], host, .decompress r e host), (0x54, e, conts, host, .ecEncode r e conts host),
      (0x55, e, conts, host, .ecDecode r e conts host), (0x56, e, conts, [], .keyLoad r e conts), (0x57, e, [], [], .keyGen r e),
      (0x58, e, [], [], .keyClear r e), (0x59, e, [], host, .sign r e host), (0x5A, e, [], host, .verify r e host),
      (0x5B, withBit e 45 false, [], host, .kemEncapsulate r e host), (0x5B, withBit e 45 true, [], host, .kemDecapsulate r e host),
      (0x5C, e, [], [], .sealOpen r e), (0x5D, e, [], host, .sealAppend r e host), (0x5E, e, [], [], .sealCheckpoint r e)] →
    let u := s.markStarted r
    (2 ≤ u.domState 5 → exec i s = .next { u.domWake 5 with pending := s.pending }) ∧
    (u.domState 5 < 2 → u.inReset 11 0 = true → exec i s = .next
      { (u.resetHit 11 0).jobEnd (envOf r) ST_TARGET_RESET 0 with pending := s.pending }) ∧
    (∀ st, u.domState 5 < 2 → u.inReset 11 0 = false → jobBad op b cs = st → st ≠ 0 →
      (isCtl r.ring = true → exec i s = .next { u.malformed r 4 op with pending := s.pending }) ∧
      (isCtl r.ring = false → exec i s = .next { u.jobEnd (envOf r) st 0 with pending := s.pending }))) ∧
  (∀ (r : Ref) (e : List Byte) (host : List HostIn) (s : State), s.running = true → s.mayStart r = true →
    let u := s.markStarted r
    let v := envOf r
    let alg := leAt e 44 1
    let h := host.getD 0 ⟨0, []⟩
    let ends := fun (i : Instr) (w : State) => exec i s = .next { w with pending := s.pending }
    u.domState 5 < 2 → u.inReset 11 0 = false →
    (jobBad 0x50 e [] = 0 →
      let types := if alg = 0 then [1, 2] else [3]
      let iv := slice e 48 12
      let n := leAt e 60 4
      (u.jobKey v (keyOf e) types = none → ends (.cipher r e host) (u.jobEnd v ST_KEY_ABSENT 0)) ∧
      (∀ g st l w, u.jobKey v (keyOf e) types = some g → u.bufRead v (srcOf e) h = (st, l, w) → st ≠ 0 →
        ends (.cipher r e host) (w.jobEnd v st 0)) ∧
      (∀ g l w, u.jobKey v (keyOf e) types = some g → u.bufRead v (srcOf e) h = (0, l, w) →
        let k := (u.ktEntry g).key (keyLen (u.ktEntry g).type)
        (bit (leAt e 45 1) 0 = false → ends (.cipher r e host)
          (w.jobOutEnd v (dstOf e) (slice (Config.aeadSeal alg k iv (l.take n) (l.drop n)) 0 ((l.drop n).length + 16)))) ∧
        (bit (leAt e 45 1) 0 = true → ends (.cipher r e host)
          (match Config.aeadOpen alg k iv (l.take n) (l.drop n) with
            | some p => w.jobOutEnd v (dstOf e) (slice p 0 ((l.drop n).length - 16))
            | none => (w.spoil v (dstOf e) (min (dstOf e).len ((l.drop n).length - 16))).jobEnd v ST_AUTH_FAIL 0)))) ∧
    (∀ l w, u.bufRead v (srcOf e) h = (0, l, w) →
      (jobBad 0x51 e [] = 0 → alg = 0 → ends (.digest r e host) (w.jobOutEnd v (dstOf e) (sha256 l))) ∧
      (jobBad 0x51 e [] = 0 → alg = 1 → ends (.digest r e host) (w.jobOutEnd v (dstOf e) (sha384 l))) ∧
      (jobBad 0x51 e [] = 0 → alg = 2 → ends (.digest r e host) (w.jobOutEnd v (dstOf e) (sha3 l))) ∧
      (∀ g, jobBad 0x51 e [] = 0 → u.jobKey v (keyOf e) [4] = some g →
        (alg = 3 → ends (.digest r e host) (w.jobOutEnd v (dstOf e) (hmac sha256 64 ((u.ktEntry g).key 64) l))) ∧
        (alg = 4 → ends (.digest r e host) (w.jobOutEnd v (dstOf e) (hmac sha384 128 ((u.ktEntry g).key 64) l)))) ∧
      (jobBad 0x52 e [] = 0 → ends (.compress r e host) (w.jobOutEnd v (dstOf e) (Config.compress alg (leAt e 45 1) l))) ∧
      (jobBad 0x53 e [] = 0 → ends (.decompress r e host)
        (match Config.decompress alg l with
          | some p => w.jobOutEnd v (dstOf e) p
          | none => w.jobEnd v ST_ACC_DATA_ERROR 0)) ∧
      (∀ g, jobBad 0x59 e [] = 0 → u.jobKey v (keyOf e) [alg] = some g → ends (.sign r e host)
        ((w.signWith g l).2.jobOutEnd v (dstOf e) (w.signWith g l).1))) ∧
    (∀ g l w, jobBad 0x5B (withBit e 45 true) [] = 0 → 46 ≤ e.length → u.jobKey v (keyOf (withBit e 45 true)) [11] = some g →
      u.bufRead v (srcOf (withBit e 45 true)) h = (0, l, w) → ends (.kemDecapsulate r e host)
        (w.jobOutEnd v (dstOf (withBit e 45 true)) (slice (Config.kemOpen (u.ktEntry g).secret l) 0 32))) ∧
    (jobBad 0x51 e [] = 0 → 3 ≤ alg → u.jobKey v (keyOf e) [4] = none → ends (.digest r e host) (u.jobEnd v ST_KEY_ABSENT 0)) ∧
    (jobBad 0x59 e [] = 0 → u.jobKey v (keyOf e) [alg] = none → ends (.sign r e host) (u.jobEnd v ST_KEY_ABSENT 0)) ∧
    (∀ l w, jobBad 0x5B (withBit e 45 false) [] = 0 → 46 ≤ e.length →
      ({ u with freeCtr := u.freeCtr + 1 } : State).bufRead v (srcOf (withBit e 45 false)) h = (0, l, w) →
      ends (.kemEncapsulate r e host) (w.jobOutEnd v (dstOf (withBit e 45 false)) (slice (Config.kemSeal l u.freeCtr) 0 1120))) ∧
    (∀ msg pub sig w x y, jobBad 0x5A e [] = 0 → u.bufRead v (srcOf e) h = (0, msg, w) →
      w.bufRead v (dstOf e) (host.getD 1 ⟨0, []⟩) = (0, pub, x) → x.bufRead v (bufAt e 48) ⟨0, []⟩ = (0, sig, y) →
      ends (.verify r e host) (y.jobEnd v (if Config.verifies alg pub msg sig then ST_OK else ST_AUTH_FAIL) 0))) ∧
  (∀ (r : Ref) (e : List Byte) (conts : List (List Byte)) (host : List HostIn) (op present want : Nat) (i : Instr) (s : State),
    s.running = true → s.mayStart r = true →
    (op, present, want, i) ∈ [(0x54, 2 ^ leAt e 44 1 - 1, 2 ^ (leAt e 44 1 + leAt e 45 1) - 2 ^ leAt e 44 1, Instr.ecEncode r e conts host),
      (0x55, leAt e 52 4, leAt e 56 4, .ecDecode r e conts host)] →
    let u := s.markStarted r
    let v := envOf r
    let k := leAt e 44 1
    let m := leAt e 45 1
    let bufs := (((ecSlots e conts).map (fun x => bufAt x.1 x.2)).zipIdx).map (fun x => (x.2, x.1))
    let src := bufs.filter (fun x => decide (x.1 < k + m) && bit present x.1)
    let dst := bufs.filter (fun x => decide (x.1 < k + m) && bit want x.1)
    u.domState 5 < 2 → u.inReset 11 0 = false → jobBad op e conts = 0 →
    (src.length < k → exec i s = .next { u.jobEnd v ST_EC_UNRECOVERABLE 0 with pending := s.pending }) ∧
    (∀ got w, k ≤ src.length → u.readChunks v host src = (0, got, w) → exec i s = .next
      { jobResEnd (w.writeChunks v (dst.map (fun x => (x.2, ecChunk k m got x.1))) 0) v with pending := s.pending }) ∧
    (∀ st got w, k ≤ src.length → u.readChunks v host src = (st, got, w) → st ≠ 0 → exec i s = .next
      { w.jobEnd v st 0 with pending := s.pending }))

/-- The key table and the seal streams (R345, R348, R349, R351, R353, R354): keys are loaded, drawn and cleared, streams opened, appended to,
checkpointed and bound to connections. An append with no credit waits, and so does a checkpoint that asks to wait for its boundary. -/
def Obligations.KeysAndSeals : Prop :=
  (∀ (r : Ref) (e : List Byte) (conts : List (List Byte)) (s : State), s.running = true → s.mayStart r = true →
    let u := s.markStarted r
    let v := envOf r
    let ends := fun (i : Instr) (w : State) => exec i s = .next { w with pending := s.pending }
    u.domState 5 < 2 → u.inReset 11 0 = false →
    (u.ktIndex v.owner (keyOf e) = none →
      (jobBad 0x56 e conts = 0 → ends (.keyLoad r e conts) (u.jobEnd v ST_KEY_ABSENT 0)) ∧
      (jobBad 0x57 e [] = 0 → ends (.keyGen r e) (u.jobEnd v ST_KEY_ABSENT 0)) ∧
      (jobBad 0x58 e [] = 0 → ends (.keyClear r e) (u.jobEnd v ST_KEY_ABSENT 0))) ∧
    (∀ g, u.ktIndex v.owner (keyOf e) = some g → (u.ktEntry g).type ≠ 0 →
      (jobBad 0x56 e conts = 0 → ends (.keyLoad r e conts) (u.jobEnd v ST_KEY_IN_USE 0)) ∧
      (jobBad 0x57 e [] = 0 → ends (.keyGen r e) (u.jobEnd v ST_KEY_IN_USE 0)) ∧
      (jobBad 0x58 e [] = 0 → 0 < (u.ktEntry g).users → ends (.keyClear r e) (u.jobEnd v ST_KEY_IN_USE 0)) ∧
      (jobBad 0x58 e [] = 0 → (u.ktEntry g).users = 0 → (u.ktEntry g).type ≠ 12 → ends (.keyClear r e)
        ((u.setKt g { type := 0, users := 0, secret := [] }).jobEnd v ST_OK 0)) ∧
      (jobBad 0x58 e [] = 0 → (u.ktEntry g).users = 0 → (u.ktEntry g).type = 12 →
        (u.streamBound g = true → ends (.keyClear r e) (u.jobEnd v ST_KEY_IN_USE 0)) ∧
        (u.streamBound g = false → ends (.keyClear r e) ((u.closeStream g).jobEnd v ST_OK 0)))) ∧
    (∀ g, u.ktIndex v.owner (keyOf e) = some g → (u.ktEntry g).type = 0 →
      (jobBad 0x58 e [] = 0 → ends (.keyClear r e) (u.jobEnd v ST_KEY_ABSENT 0)) ∧
      (jobBad 0x56 e conts = 0 → ends (.keyLoad r e conts)
        ((u.setKt g { type := leAt e 44 1, users := 0, secret := slice e 48 16 ++ slice (conts.headD []) 8 48 }).jobEnd v ST_OK 0)) ∧
      (jobBad 0x57 e [] = 0 →
        let n := pubLen (leAt e 44 1)
        let w := ({ u with freeCtr := u.freeCtr + 1 } : State).setKt g
          { type := leAt e 44 1, users := 0, secret := slice (Config.freeBytes u.freeCtr 64) 0 64 }
        ((dstOf e).len < n → ends (.keyGen r e) ((u.spoil v (dstOf e) (dstOf e).len).jobEnd v ST_OUTPUT_SHORT n)) ∧
        (∀ m z, n ≤ (dstOf e).len → w.jobOut v (dstOf e) (w.pubOf g) = (some (0, m), z) → ends (.keyGen r e) (z.jobEnd v ST_OK m)) ∧
        (∀ st m z, n ≤ (dstOf e).len → w.jobOut v (dstOf e) (w.pubOf g) = (some (st, m), z) → st ≠ 0 →
          ends (.keyGen r e) ((z.setKt g { type := 0, users := 0, secret := [] }).jobEnd v st m))))) ∧
  (∀ (r : Ref) (e : List Byte) (g sg k : Nat) (s : State), s.running = true → s.mayStart r = true →
    let u := s.markStarted r
    let v := envOf r
    let hyb := bit (leAt e 62 1) 0
    u.domState 5 < 2 → u.inReset 11 0 = false → jobBad 0x5C e [] = 0 → u.ktIndex v.owner (keyOf e) = some g → (u.ktEntry g).type = 0 →
    u.jobKey v (leAt e 48 4) (if hyb then [7] else [7, 9]) = some sg →
    (hyb = false ∨ (u.jobKey v (leAt e 8 4) [9]).isSome = true) →
    (u.sealRing v (leAt e 60 2) = none → exec (.sealOpen r e) s = .next { u.jobEnd v ST_BAD_RING_REF 0 with pending := s.pending }) ∧
    (u.sealRing v (leAt e 60 2) = some k →
      let x : SealStream := {
        next := 0, last := 0, lastTime := u.now, link := u.firstLink g sg, sign := leAt e 48 4
        hybrid := (if hyb then some (leAt e 8 4) else none)
        records := leAt e 52 4, millis := leAt e 56 4, ring := k, gap := false, overdue := false, wait := [] }
      exec (.sealOpen r e) s = .next
        { ((((u.setKt g { type := 12, users := 0, secret := [] }).setStream g x).streamUsers x true).jobEnd v ST_OK 0) with
          pending := s.pending })) ∧
  (∀ (r : Ref) (e : List Byte) (host : List HostIn) (s : State), s.running = true → s.mayStart r = true →
    let u := s.markStarted r
    let v := envOf r
    let ends := fun (i : Instr) (w : State) => exec i s = .next { w with pending := s.pending }
    u.domState 5 < 2 → u.inReset 11 0 = false →
    (u.jobKey v (keyOf e) [12] = none →
      (jobBad 0x5D e [] = 0 → ends (.sealAppend r e host) (u.jobEnd v ST_KEY_ABSENT 0)) ∧
      (jobBad 0x5E e [] = 0 → ends (.sealCheckpoint r e) (u.jobEnd v ST_KEY_ABSENT 0))) ∧
    (∀ g data w, jobBad 0x5D e [] = 0 → u.jobKey v (keyOf e) [12] = some g →
      u.bufRead v (srcOf e) (host.getD 0 ⟨0, []⟩) = (0, data, w) →
      (∀ z, w.sealCredit g = some z → ends (.sealAppend r e host)
        ((z.sealRecord g (ownerRing v.owner) 0xFFFFFFFF r.tag data false).jobEnd v ST_OK 0)) ∧
      (w.sealCredit g = none → ends (.sealAppend r e host) w)) ∧
    (∀ g x, jobBad 0x5E e [] = 0 → u.jobKey v (keyOf e) [12] = some g → u.stream g = some x →
      (bit (leAt e 1 1) 0 = true → x.overdue = false → ends (.sealCheckpoint r e) (u.setStream g
        { x with wait := x.wait ++ [⟨v, (dstOf e).addr, (dstOf e).len, (dstOf e).space, bit (leAt e 1 1) 1⟩] })) ∧
      (bit (leAt e 1 1) 0 = false ∨ x.overdue = true → ends (.sealCheckpoint r e)
        (jobResEnd (u.checkpoint v g (dstOf e) (bit (leAt e 1 1) 1)) v)))) ∧
  (∀ (r : Ref) (e b : List Byte) (undo : Bool) (i : Instr) (g c : Nat) (s : State), s.running = true → s.mayStart r = true →
    (b, undo, i) ∈ [(withBit e 1 false, false, Instr.sealBind r e), (withBit e 1 true, true, .sealUnbind r e)] → 2 ≤ e.length →
    let u := s.markStarted r
    let v := envOf r
    let x := u.conn c
    let bound := x.sealTo.isSome && (!x.unbind || x.tracks.any (·.sealed))
    u.domState 5 < 2 → u.inReset 11 0 = false → jobBad 0x48 b [] = 0 → u.jobKey v (keyOf b) [12] = some g →
    v.owner.bind (fun d => nthIndex (u.extents d 9 64) (leAt b 48 4)) = some c →
    (undo = false → x.st ≠ 0 → bound = false → exec i s = .next
      { (u.setConn c { x with sealTo := some g, unbind := false }).jobEnd v ST_OK 0 with pending := s.pending }) ∧
    (undo = true → x.st ≠ 0 → bound = true → x.sealTo = some g → exec i s = .next
      { (u.setConn c { x with unbind := true }).jobEnd v ST_OK 0 with pending := s.pending }) ∧
    (x.st = 0 ∨ undo = false ∧ bound = true ∨ undo = true ∧ (bound = false ∨ x.sealTo ≠ some g) → exec i s = .next
      { u.jobEnd v ST_SEAL_STATE 0 with pending := s.pending })) ∧
  (∀ (g : Nat) (x : SealStream) (s : State), s.running = true → s.stream g = some x →
    (x.next - x.last < x.records → s.now - x.lastTime < x.millis * 1000000 → exec (.sealIntervalBoundary g) s = .next s) ∧
    (∀ w t, x.records ≤ x.next - x.last ∨ x.millis * 1000000 ≤ s.now - x.lastTime → x.wait = w :: t →
      exec (.sealIntervalBoundary g) s = .next
        { jobResEnd ((s.setStream g { x with wait := t }).checkpoint w.env g ⟨w.addr, w.len, w.space⟩ w.fin) w.env with
          pending := s.pending }) ∧
    (∀ d, x.records ≤ x.next - x.last ∨ x.millis * 1000000 ≤ s.now - x.lastTime → x.wait = [] → x.overdue = false → x.owner = some d →
      exec (.sealIntervalBoundary g) s = .next
        { ((s.setStream g { x with overdue := true }).bump Reg.n_seal_overdue).raiseTo d EV_acc_seal_overdue d [g, x.next - x.last] with
          pending := s.pending }))

/-- Job slots, the accelerator endpoint, and the block service's volumes (R338, R355–R359, R361, R363, R364). -/
def Obligations.SlotsAndVolumes : Prop :=
  (∀ (k : Nat) (s : State), s.running = true →
    (s.slotNext = some k → exec .jobSlotFreed s = .next
      { ({ s.slotGot k with acc := { (s.slotGot k).acc with granted := (s.slotGot k).acc.granted ++ [k] } } : State) with
        pending := s.pending }) ∧
    (s.slotNext = none → exec .jobSlotFreed s = .next s) ∧
    (s.acc.waiting.contains k = true → s.acc.starved.contains k = false → exec (.slotStarveTimer k) s = .next
      { ({ s with acc := { s.acc with starved := s.acc.starved ++ [k] } } : State).raise EV_acc_slot_starved
          (if isCtl k then 0xFFFF else ringDrawer k) [ringNum k] with pending := s.pending })) ∧
  (∀ (r : Ref) (e : List Byte) (s : State), s.running = true → s.mayStart r = true →
    let u := s.markStarted r
    let d := leAt e 8 2
    let key := volKey d (leAt e 10 1)
    let x : Vol := {
      k := leAt e 11 1, m := leAt e 12 1, clog := leAt e 13 1, blocks := leAt e 16 8, targets := [], cache := [], flushes := [], seq := 1 }
    (zeroBut e [(0, 14), (16, 8)] = true → volHead e = true → 1 ≤ x.k → x.k ≤ 16 → x.m ≤ 4 → 14 ≤ x.clog → x.clog ≤ 20 → x.blocks ≠ 0 →
      (u.isNvme d = false → exec (.volCreate r e) s = .next { u.complete r ST_DRAWER_STATE 0 [] with pending := s.pending }) ∧
      (u.isNvme d = true → (u.vol key).isSome = true → exec (.volCreate r e) s = .next
        { u.complete r ST_VOL_STATE 0 [] with pending := s.pending }) ∧
      (u.isNvme d = true → u.vol key = none → exec (.volCreate r e) s = .next
        { (u.setVol key x).complete r ST_OK 0 [] with pending := s.pending })) ∧
    (volHead e = false ∨ x.k = 0 ∨ 16 < x.k ∨ 4 < x.m ∨ x.clog < 14 ∨ 20 < x.clog ∨ x.blocks = 0 → exec (.volCreate r e) s = .next
      { u.malformed r 4 0xA0 with pending := s.pending }) ∧
    (∀ y, zeroBut e [(0, 11)] = true → volHead e = true → u.isNvme d = true → u.vol key = some y →
      let w := y.flushes.foldl (fun (u : State) (f : VolFlush) => u.nvDone f.ring f.tag 0x006 0) u
      let z := y.targets.foldl (fun (u : State) (t : Nat × VolTarget) => u.volRelease t.2.conn) w
      exec (.volDestroy r e) s = .next
        { ({ z with acc := { z.acc with vols := mdel z.acc.vols key } } : State).complete r ST_OK 0 [] with pending := s.pending }) ∧
    (zeroBut e [(0, 11)] = true → volHead e = true → u.isNvme d = true → u.vol key = none → exec (.volDestroy r e) s = .next
      { u.complete r ST_VOL_STATE 0 [] with pending := s.pending })) ∧
  (∀ (r : Ref) (e b : List Byte) (l : List (List Byte)) (x : Vol) (s : State), s.running = true → s.mayStart r = true →
    let u := s.markStarted r
    let d := leAt e 8 2
    let key := volKey d (leAt e 10 1)
    let t := leAt e 11 1
    let c := leAt e 16 4
    zeroBut e [(0, 13), (16, 16)] = true → volHead e = true → leAt e 12 1 ≤ 1 → c < 1048576 → u.connectBad b = false →
    bit (leAt b 35 1) 1 = false → u.isNvme d = true → u.vol key = some x →
    (x.k + x.m ≤ t → exec (.volTarget r e (b :: l)) s = .next { u.complete r ST_VOL_STATE 0 [] with pending := s.pending }) ∧
    (t < x.k + x.m → u.connGranted c = true ∨ (u.conn c).st ≠ 0 → exec (.volTarget r e (b :: l)) s = .next
      { u.complete r ST_POOL_EXHAUSTED 0 [] with pending := s.pending }) ∧
    (t < x.k + x.m → u.connGranted c = false → (u.conn c).st = 0 → u.connectDenied d b = true → exec (.volTarget r e (b :: l)) s = .next
      { u.complete r ST_CONN_DENIED 0 [] with pending := s.pending }) ∧
    (t < x.k + x.m → u.connGranted c = false → (u.conn c).st = 0 → u.connectDenied d b = false →
      let w := (u.drawToken 0).2.setConn c { Conn.unused with st := 1, drawer := d, ltoken := (u.drawToken 0).1, vol := true }
      exec (.volTarget r e (b :: l)) s = .next
        { (((w.connected c b).cacheIn c).setTarget key t c x e).complete r ST_OK 0 [] with pending := s.pending })) ∧
  (∀ (d nsid t seq status : Nat) (x : Vol) (s : State), s.running = true → s.vol (volKey d nsid) = some x →
    (x.flushes.any (fun f => decide (f.seq = seq) && f.waiting.contains t) = true →
      (status ≠ 0 → exec (.commitAnswer d nsid t seq status) s = .next { s.targetFail (volKey d nsid) t 3 with pending := s.pending }) ∧
      (status = 0 →
        let fl := x.flushes.map (fun f => if f.seq = seq then
          { f with waiting := f.waiting.filter (fun j => !decide (j = t)), good := f.good + 1 } else f)
        exec (.commitAnswer d nsid t seq status) s = .next
          { (s.setVol (volKey d nsid) { x with flushes := fl }).flushesDone (volKey d nsid) with pending := s.pending }) ∧
      exec (.flushMsExpire d nsid t seq) s = .next { s.targetFail (volKey d nsid) t 3 with pending := s.pending }) ∧
    (x.flushes.any (fun f => decide (f.seq = seq) && f.waiting.contains t) = false →
      exec (.commitAnswer d nsid t seq status) s = .next s ∧ exec (.flushMsExpire d nsid t seq) s = .next s)) ∧
  (∀ (d nsid t c : Nat) (chunks : List (List Byte)) (x : Vol) (y : VolTarget) (s : State), s.running = true →
    s.vol (volKey d nsid) = some x → mget x.targets t = some y → y.cursor = some c →
    let asked := x.asked c t
    let refused := asked.filter (fun j => (chunks.getD j []).isEmpty)
    let u := asked.foldl (fun (u : State) j => u.chunkOp x 0x32 c j 0 x.chunk []) s
    (asked.length = x.k → refused = [] → exec (.rebuildStripe d nsid t chunks) s = .next
      { u.rebuilt (volKey d nsid) t c x y chunks with pending := s.pending }) ∧
    (asked.length < x.k ∨ refused ≠ [] → exec (.rebuildStripe d nsid t chunks) s = .next
      { refused.foldl (fun (u : State) j => u.targetFail (volKey d nsid) (x.targetOf c j) 2) u with pending := s.pending })) ∧
  (∀ (t rep : Nat) (words : List Nat) (s : State), s.running = true →
    let b := (words.map (leBytes 4)).flatten
    let e := slice b 0 64
    let conts := if 16 < words.length then [slice b 64 64] else []
    let v : JobEnv := {
      owner := none, master := thrMaster t, ref := { ring := 0, index := 0, tag := leAt e 4 4, cplReq := true }, thread := some (t, rep) }
    let bad := firstBad [msgBad e conts, jobBad (leAt e 0 1) e conts]
    (2 ≤ s.domState 5 → exec (.accEndpointJob t rep words) s = .next { s.domWake 5 with pending := s.pending }) ∧
    (s.domState 5 < 2 → s.jobSlotFree 0 = false → exec (.accEndpointJob t rep words) s = .next s) ∧
    (s.domState 5 < 2 → s.jobSlotFree 0 = true → s.inReset 11 0 = false → bad ≠ 0 → exec (.accEndpointJob t rep words) s = .next
      { s.jobEnd v bad 0 with pending := s.pending }) ∧
    (s.domState 5 < 2 → s.jobSlotFree 0 = true → s.inReset 11 0 = false → bad = 0 → exec (.accEndpointJob t rep words) s = .next
      { jobResEnd (s.jobRun v (leAt e 0 1) e conts []) v with pending := s.pending })) ∧
  (∀ (v : Nat) (s : State), s.writable = true →
    let w := (if s.on Reg.ACC_CFG_ENABLE = true ∨ 1024 < bits v 10 0 then s else s.set Reg.ACC_CFG_KT_COUNT (bits v 10 0)).set
      Reg.ACC_CFG_ENABLE (bits v 31 31)
    (bit v 31 = true → w.acc.opened = false → exec (.accEnable v) s = .next
      { ({ w with acc := { w.acc with opened := true, keys := [] } } : State) with pending := s.pending }) ∧
    (bit v 31 = false ∨ w.acc.opened = true → exec (.accEnable v) s = .next { w with pending := s.pending })) ∧
  (∀ s : State, s.running = true → s.acc.opened = true → exec .ktClearDone s = .next
    { s.set Reg.ACC_STATUS_KT_READY 1 with pending := s.pending })

/-! ## Memory (R365–R389) -/

/-- Bring-up, scrubbing, regions, repair, spares and injection (R375, R378–R386): a stack calibrates, trains with one retry, and clears; a
scrubbed word is corrected or poisoned; sizes, repairs, spares and faults are set, or refused with their bit. -/
def Obligations.MemoryCommands : Prop :=
  (∀ (k pc sp : Nat) (s : State),
    (s.stackPhase k = 1 → exec (.hbmCalibrated k) s = .next { s.setPhase k 2 with pending := s.pending }) ∧
    (s.stackPhase k ≠ 1 → exec (.hbmCalibrated k) s = .next s) ∧
    (s.stackPhase k = 2 →
      let u := (List.range 2).foldl (fun (s : State) i => if bit sp i then s.set (Reg.MEM_PC_SPARE_UNUSABLE k i) 1 else s) s
      exec (.hbmTrained k true pc sp) s = .next
        { (((u.setBit Reg.MEM_STATUS_TRAINED k true).setBit Reg.MEM_STATUS_TRAIN_FAIL k false).setPhase k 3).clearSync with
          pending := s.pending }) ∧
    (s.stackPhase k = 2 →
      let n := mgetD s.mem.tries k 0 + 1
      let u := { s with mem := { s.mem with tries := mputD s.mem.tries k n 0 } }
      (n < 2 → exec (.hbmTrained k false pc sp) s = .next { u.setPhase k 1 with pending := s.pending }) ∧
      (2 ≤ n → exec (.hbmTrained k false pc sp) s = .next
        { (((u.setBit Reg.MEM_STATUS_TRAIN_FAIL k true).setPhase k 5).trainSync).raise EV_mem_train_fail k [k, pc] with
          pending := s.pending })) ∧
    (s.stackPhase k = 3 →
      let u := { s with mem := { s.mem with
        bytes := s.mem.bytes.filter (fun e => !s.clears k e.1), poison := s.mem.poison.filter (fun w => !s.clears k (32 * w)),
        errs := s.mem.errs.filter (fun e => !s.clears k (32 * e.1)) } }
      exec (.hbmCleared k) s = .next
        { (((u.setPhase k 4).setReady (12 + k) true).clearSync).trainSync.hbmStep5 with pending := s.pending }) ∧
    (s.stackPhase k ≠ 3 → exec (.hbmCleared k) s = .next s)) ∧
  (∀ (v : Nat) (s : State), s.writable = true →
    let l := (List.range 4).filter (fun k => decide (s.stackPhase k = 5))
    (bit v 0 = true → l ≠ [] → exec (.hbmRetrain v) s = .next
      { l.foldl (fun (s : State) k => { (s.setPhase k 1) with mem := { (s.setPhase k 1).mem with tries := mdel s.mem.tries k } })
          (s.set Reg.MEM_HBM_CTRL_TRAIN 1) with pending := s.pending }) ∧
    (bit v 0 = false ∨ l = [] → exec (.hbmRetrain v) s = .next { s with pending := s.pending })) ∧
  (∀ (a : Nat) (bad : List Nat) (s : State), s.running = true →
    (s.hbmReady = true → exec (.hbmScrub a bad) s = .next
      { ((s.arise (a / 32) bad).touchWord (a / 32) (0x3010 + (hbmWhere a).1)).bump (Reg.n_hbm_scrub_bytes (hbmWhere a).1) 32 with
        pending := s.pending }) ∧
    (s.hbmReady = false → exec (.hbmScrub a bad) s = .next s)) ∧
  (∀ (bank off leaf : Nat) (bad : List Nat) (s : State), s.running = true → bank % 4096 < bankCount (bank / 4096) →
    let a := sramAddr bank (off / 32 * 32)
    let m := 0x3020 + bank / 4096
    let u := (s.arise (a / 32) bad).touchWord (a / 32) m
    (isParity bank = true → bad = [] → exec (.sramScrub bank off bad leaf) s = .next s) ∧
    (isParity bank = true → bad ≠ [] → exec (.sramScrub bank off bad leaf) s = .next
      { (s.bump (Reg.n_sram_uncorrectable (bank / 4096))).uncEvent a m 1 with pending := s.pending }) ∧
    (isParity bank = false → s.mem.poison.contains (a / 32) = true ∨ u.mem.poison.contains (a / 32) = false →
      exec (.sramScrub bank off bad leaf) s = .next { u with pending := s.pending }) ∧
    (isParity bank = false → s.mem.poison.contains (a / 32) = false → u.mem.poison.contains (a / 32) = true →
      (bank / 4096 = 1 → exec (.sramScrub bank off bad leaf) s = .next { u.poisonLeaf leaf with pending := s.pending }) ∧
      (bank = 0x7005 → exec (.sramScrub bank off bad leaf) s = .next
        { u.halt 7 [0x3000 + 6 * 2 ^ 16, 0, off, 0] with pending := s.pending }) ∧
      (bank = 0x7008 → exec (.sramScrub bank off bad leaf) s = .next { u.set Reg.JIG_STATUS_RUNNING 0 with pending := s.pending }))) ∧
  (∀ s : State, s.running = true →
    let u := (List.range 4).foldl (fun (s : State) k =>
      (List.range 34).foldl (fun (s : State) c => s.set (Reg.MEM_PC_CE_COUNT k c) 0) s) s
    exec .wearWindowEnd s = .next { ({ u with mem := { u.mem with rows := [], corr := [] } } : State) with pending := s.pending }) ∧
  (∀ (v : Nat) (s : State), s.writable = true →
    (s.regionBad (bits v 20 16) (bits v 13 8) = true → exec (.memRegionCfgWrite v) s = .next
      { s.set Reg.MEM_STATUS_SIZE_REFUSED 1 with pending := s.pending }) ∧
    (s.regionBad (bits v 20 16) (bits v 13 8) = false → exec (.memRegionCfgWrite v) s = .next
      { s.setRegions (bits v 20 16) (bits v 13 8) with pending := s.pending })) ∧
  (∀ (v : Nat) (s : State), s.writable = true →
    let u := (s.set Reg.MEM_ROW_REPAIR_ROW (bits v 24 16)).set Reg.MEM_ROW_REPAIR_BANK (bits v 15 0)
    (bit v 31 = false → exec (.rowRepairGo v) s = .next { u with pending := s.pending }) ∧
    (bit v 31 = true → u.rowBad (bits v 15 0) (bits v 24 16) = true → exec (.rowRepairGo v) s = .next
      { u.set Reg.MEM_ROW_STATUS_REFUSED 1 with pending := s.pending }) ∧
    (∀ j, bit v 31 = true → u.rowBad (bits v 15 0) (bits v 24 16) = false → u.freeRow (bits v 15 0) = some j →
      let w := u.copyRow (bits v 15 0) (bits v 24 16)
      let x := { w with mem := { w.mem with subst := mput w.mem.subst (bits v 15 0) (w.spareRows (bits v 15 0) ++ [(j, bits v 24 16, false)]) } }
      exec (.rowRepairGo v) s = .next
        { (x.bump Reg.n_spares_substituted).raise EV_mem_row_repaired (bits v 15 0) [bits v 15 0, bits v 24 16, j] with
          pending := s.pending })) ∧
  (∀ (k i v : Nat) (s : State), s.writable = true →
    let st := bits v 29 28
    let f := Reg.MEM_PC_SPARE_STATE k i
    let u := if bit v 27 then s.set (Reg.MEM_PC_SPARE_STATE_REFUSED k i) 0 else s
    let w := if u.get f = 0 then u.set (Reg.MEM_PC_SPARE_TARGET k i) (v % 32) else u
    (st = w.get f → exec (.pcSpareStateWrite k i v) s = .next { w with pending := s.pending }) ∧
    (st ≠ w.get f → w.spareBad k i st = true → exec (.pcSpareStateWrite k i v) s = .next
      { w.set (Reg.MEM_PC_SPARE_STATE_REFUSED k i) 1 with pending := s.pending }) ∧
    (0 ≠ w.get f → st = 0 → w.spareBad k i 0 = false → exec (.pcSpareStateWrite k i v) s = .next
      { w.set f 0 with pending := s.pending }) ∧
    (1 ≠ w.get f → st = 1 → w.spareBad k i 1 = false → w.mem.mirrored.contains (2 * k + i) = false →
      exec (.pcSpareStateWrite k i v) s = .next
        { ({ w with mem := { w.mem with mirrored := w.mem.mirrored ++ [2 * k + i] } } : State).set f 1 with pending := s.pending }) ∧
    (1 ≠ w.get f → st = 1 → w.spareBad k i 1 = false → w.mem.mirrored.contains (2 * k + i) = true →
      exec (.pcSpareStateWrite k i v) s = .next { w.set f 1 with pending := s.pending }) ∧
    (2 ≠ w.get f → st = 2 → w.spareBad k i 2 = false → exec (.pcSpareStateWrite k i v) s = .next
      { (w.bump Reg.n_spares_substituted).set f 2 with pending := s.pending })) ∧
  (∀ (v : Nat) (s : State), s.writable = true →
    (bit v 31 = true → s.on Reg.DBG_STATUS_UNLOCKED = false → exec (.errorInjectArm v) s = .next
      { s.set Reg.MEM_INJECT_HIGH_INJECT_REFUSED 1 with pending := s.pending }) ∧
    (bit v 31 = false ∨ s.on Reg.DBG_STATUS_UNLOCKED = true →
      let u := if bit v 30 then s.set Reg.MEM_INJECT_HIGH_INJECT_REFUSED 0 else s
      let w := (((u.set Reg.MEM_INJECT_HIGH_SRAM (bits v 29 29)).set Reg.MEM_INJECT_HIGH_SYMBOLS (bits v 25 24))).set
        Reg.MEM_INJECT_HIGH_ADDR_HIGH (v % 2 ^ 16)
      exec (.errorInjectArm v) s = .next
        { (if bit v 31 then w.set Reg.MEM_INJECT_HIGH_ARM 1 else w) with pending := s.pending }))

/-! ## Cascade (R390–R413) -/

/-- Winak links (R391–R395): bring-up runs step by step to UP, a step that fails or a link that is lost begins again, heartbeats go out and
are read, and flits are checked, put in order and acknowledged before what they carry is done; so are the four flits of a pair replacement. -/
def Obligations.WinakLinks : Prop :=
  (∀ (l : Nat) (s : State), s.running = true →
    (∀ i k, (i, k) ∈ [(Instr.casTrainingDone l, 2), (.casPcsLock l, 3), (.flitAligned l, 4)] →
      ((s.casLink l).step = k → exec i s = .next { s.casStep l (k + 1) with pending := s.pending }) ∧
      ((s.casLink l).step ≠ k → exec i s = .next s)) ∧
    (∀ p, (s.casLink l).peer = some p → (s.casLink l).step = 5 → s.on Reg.CAS_DEV_ID_ID_VALID = true → p.valid = true → p.dev ≠ s.devId →
      let u := ((s.casStep l 6).set (Reg.CAS_LINK_STATUS_PEER_ID l) p.dev).set (Reg.CAS_LINK_STATUS_PEER_LINK l) p.link
      let w := (u.set Reg.CAS_STATUS_LINKS_UP (putBits (u.get Reg.CAS_STATUS_LINKS_UP) l l 1)).setPortUp (8 * (56 + l)) true
      exec (.helloDone l) s = .next
        { ((w.raise EV_cas_link_up l [p.dev, p.link]).egressEvent (8 * (56 + l)) true).elect with pending := s.pending }) ∧
    (let st := (s.casLink l).step
     (2 ≤ st → st ≠ 6 → (st = 5 → (s.casLink l).peer = none) → exec (.casStepTimeout l) s = .next
       { (s.set (Reg.CAS_LINK_STATUS_LAST_LOSS l) (if st = 5 then 2 else 1)).casBegin l with pending := s.pending })) ∧
    (5 ≤ (s.casLink l).step → exec (.heartbeatSend l) s = .next { s.flitOut l 2 0 false (s.beatBody l) with pending := s.pending }) ∧
    (s.casUp l = true → exec (.heartbeatLoss l) s = .next { s.casLost l 2 with pending := s.pending }) ∧
    (s.casUp l = false → exec (.heartbeatLoss l) s = .next s) ∧
    (exec (.casLockLoss l) s = .next { s.casLost l 1 with pending := s.pending })) ∧
  (∀ (l k : Nat) (f : List Byte) (i : Instr) (s : State), s.running = true →
    (k, i) ∈ [(0, Instr.idleFlit l f), (1, .dataFlit l f), (2, .heartbeatFlit l f), (4, .spareReq l f), (4, .spareAck l f), (4, .spareNak l f),
      (4, .spareGo l f), (3, .remoteReadRequest l f), (3, .remoteResponse l f)] →
    ((s.casLink l).step < 5 → exec i s = .next s) ∧
    (5 ≤ (s.casLink l).step → flitOk f = false → exec i s = .next { (s.bump (Reg.n_crc_error l)).nakOut l with pending := s.pending }) ∧
    (∀ v, k = 1 ∨ k = 3 ∨ k = 4 → 5 ≤ (s.casLink l).step → flitOk f = true → beAt f 0 2 / 2 ^ 12 = k → s.casAckIn l f = v →
      5 ≤ (v.casLink l).step → beAt f 0 2 % 2 ^ 12 ≠ (v.casLink l).rxSeq → exec i s = .next { v.nakOut l with pending := s.pending })) ∧
  (∀ (l : Nat) (f : List Byte) (s : State), s.running = true → 5 ≤ (s.casLink l).step → flitOk f = true →
    (beAt f 0 2 / 2 ^ 12 = 0 → exec (.idleFlit l f) s = .next { s.casAckIn l f with pending := s.pending }) ∧
    (beAt f 0 2 / 2 ^ 12 = 2 → exec (.heartbeatFlit l f) s = .next { (s.casAckIn l f).beatIn l f with pending := s.pending }) ∧
    (∀ v, s.casAckIn l f = v → 5 ≤ (v.casLink l).step → beAt f 0 2 % 2 ^ 12 = (v.casLink l).rxSeq →
      let u := v.flitTaken l
      (beAt f 0 2 / 2 ^ 12 = 1 →
        (u.pwr.closed = false → exec (.dataFlit l f) s = .next { u.casData l f with pending := s.pending }) ∧
        (u.pwr.closed = true → exec (.dataFlit l f) s = .next { u.bump Reg.n_deep_ingress_drop with pending := s.pending })) ∧
      (beAt f 0 2 / 2 ^ 12 = 4 →
        (beAt f 4 1 = 1 → beAt f 5 1 ≤ 7 → u.steer (56 + l) = none →
          exec (.spareReq l f) s = .next { u.spareAnswer l (beAt f 5 1) (decide (u.spareState (56 + l) = 0)) with pending := s.pending }) ∧
        (∀ x, beAt f 4 1 = 1 → beAt f 5 1 ≤ 7 → u.steer (56 + l) = some x → x.pair = true → x.answer = false → x.acked = false →
          x.reverse = false →
          (u.devId < u.get (Reg.CAS_LINK_STATUS_PEER_ID l) → exec (.spareReq l f) s = .next { u with pending := s.pending }) ∧
          (u.get (Reg.CAS_LINK_STATUS_PEER_ID l) ≤ u.devId → exec (.spareReq l f) s = .next
            { u.spareAnswer l (beAt f 5 1) true with pending := s.pending })) ∧
        (∀ x, u.spareAsked l f = some x →
          (beAt f 4 1 = 2 → exec (.spareAck l f) s = .next { u.setSteer (56 + l) { x with acked := true } with pending := s.pending }) ∧
          (beAt f 4 1 = 3 → exec (.spareNak l f) s = .next
            { (u.spareIdle (56 + l)).raise EV_lane_spare_failed (56 + l) [x.lane, 0] with pending := s.pending })) ∧
        (∀ x, beAt f 4 1 = 4 → u.steer (56 + l) = some x → x.pair = true → x.answer = true → x.lane = beAt f 5 1 →
          exec (.spareGo l f) s = .next { u.setSteer (56 + l) { x with loaded := true } with pending := s.pending }))))

/-- The stack (R403, R406, R407, R410): a device ID changes only while the engine is off, a remote access is sent to its target or ends
unreachable, a tail carries one out for its head and answers, and only the answer that is awaited is taken. -/
def Obligations.StackAccesses : Prop :=
  (∀ (w : Nat) (write : Bool) (i : Instr) (s : State), s.writable = true →
    (i, write) ∈ [(Instr.remoteAccessReadGo w, false), (.remoteAccessWriteGo w, true)] →
    let g := goWord w write
    let near := fun (u : State) => (List.range 8).find? (fun l => u.casUp l && decide (u.get (Reg.CAS_LINK_STATUS_PEER_ID l) = bits g 15 0))
    (∀ t, s.cas.remote = some t → exec i s = .next { s with pending := s.pending }) ∧
    (s.cas.remote = none → near (s.remoteFields g) = none → exec i s = .next
      { (s.remoteFields g).remoteEnd ST_CASC_UNREACHABLE with pending := s.pending }) ∧
    (∀ l, s.cas.remote = none → near (s.remoteFields g) = some l → exec i s = .next
      { (s.remoteFields g).remoteSend g l with pending := s.pending })) ∧
  (∀ (l op : Nat) (f : List Byte) (i : Instr) (s v : State), s.running = true →
    (op, i) ∈ [(1, Instr.remoteReadRequest l f), (2, .remoteWriteRequest l f)] → 5 ≤ (s.casLink l).step → flitOk f = true →
    beAt f 0 2 / 2 ^ 12 = 3 → s.casAckIn l f = v → 5 ≤ (v.casLink l).step → beAt f 0 2 % 2 ^ 12 = (v.casLink l).rxSeq → beAt f 4 1 = op →
    let u := v.flitTaken l
    let answer := fun (w : State) (d st : Nat) => w.casSend l 3
      (beBytes 1 3 ++ slice f 5 3 ++ beBytes 2 w.devId ++ slice f 8 2 ++ [0, 0, 0, 0] ++ slice f 16 8 ++ beBytes 8 d ++ beBytes 1 st) 0
    let done := fun w : State => if op = 2 then w.stepped else w
    (u.remoteAdmits l f = false → exec i s = .next
      { done (answer (u.bump Reg.n_remote_refused) 0 ST_FENCE_DENIED) with pending := s.pending }) ∧
    (∀ st d w, u.remoteAdmits l f = true → u.remoteAccess f = (st, d, w) → exec i s = .next
      { done (answer w d st) with pending := s.pending })) ∧
  (∀ (l : Nat) (f : List Byte) (s v : State), s.running = true → 5 ≤ (s.casLink l).step → flitOk f = true →
    beAt f 0 2 / 2 ^ 12 = 3 → s.casAckIn l f = v → 5 ≤ (v.casLink l).step → beAt f 0 2 % 2 ^ 12 = (v.casLink l).rxSeq →
    let u := v.flitTaken l
    (beAt f 4 1 = 3 → u.cas.remote = some (beAt f 6 2) → beAt f 8 2 = u.get Reg.CAS_REMOTE_CTRL_TARGET →
      (u.on Reg.CAS_REMOTE_CTRL_WRITE = true ∨ beAt f 32 1 ≠ 0 → exec (.remoteResponse l f) s = .next
        { u.remoteEnd (beAt f 32 1) with pending := s.pending }) ∧
      (u.on Reg.CAS_REMOTE_CTRL_WRITE = false → beAt f 32 1 = 0 → exec (.remoteResponse l f) s = .next
        { (u.set Reg.CAS_REMOTE_DATA_DATA (if u.on Reg.CAS_REMOTE_CTRL_SIZE8 then beAt f 24 8 else beAt f 28 4)).remoteEnd 0 with
          pending := s.pending })) ∧
    (beAt f 4 1 ≠ 3 ∨ u.cas.remote ≠ some (beAt f 6 2) ∨ beAt f 8 2 ≠ u.get Reg.CAS_REMOTE_CTRL_TARGET →
      exec (.remoteResponse l f) s = .next { u with pending := s.pending })) ∧
  (∀ s : State, s.running = true →
    (∀ t, s.cas.remote = some t → exec .remoteAccessTimeout s = .next { s.remoteEnd ST_CASC_UNREACHABLE with pending := s.pending }) ∧
    (s.cas.remote = none → exec .remoteAccessTimeout s = .next s) ∧
    (∀ x, exec (.altHoldExpire x) s = .next { s.set (Reg.CAS_ROUTE_USE_ALT x) 0 with pending := s.pending })) ∧
  (∀ (v : Nat) (s : State), s.writable = true →
    let u := if bit v 30 then s.set Reg.CAS_DEV_ID_ID_REFUSED 0 else s
    (u.on Reg.CAS_CFG_ENABLE = false → exec (.casDevIdWrite v) s = .next
      { ((u.set Reg.CAS_DEV_ID_ID_VALID (bits v 31 31)).set Reg.CAS_DEV_ID_ID (bits v 15 0)).elect with pending := s.pending }) ∧
    (u.on Reg.CAS_CFG_ENABLE = true →
      (bits v 31 31 = u.get Reg.CAS_DEV_ID_ID_VALID ∧ bits v 15 0 = u.devId → exec (.casDevIdWrite v) s = .next
        { u with pending := s.pending }) ∧
      (bits v 31 31 ≠ u.get Reg.CAS_DEV_ID_ID_VALID ∨ bits v 15 0 ≠ u.devId → exec (.casDevIdWrite v) s = .next
        { u.set Reg.CAS_DEV_ID_ID_REFUSED 1 with pending := s.pending })))

/-! ## Power (R414–R436) -/

/-- States of domains and of the device (R414–R426, R431): requests are refused with their reason or begun, each step of an entry or exit acts
and the next one runs, and the last one leaves the device where the transition goes. -/
def Obligations.PowerTransitions : Prop :=
  (∀ (i : Instr) (k : Nat) (s : State), s.writable = true →
    (i, k) ∈ [(Instr.pwrReqRun, 0), (.pwrReqIdle, 1), (.pwrReqSleep, 2), (.pwrReqDeep, 3), (.pwrReqOff, 4)] →
    let u := s.set Reg.PWR_STATE_REQ_TARGET k
    (∀ r, u.pwrRefusal k = some r →
      let w := ((u.set Reg.PWR_STATE_REQ_GO 0).set Reg.PWR_STATE_REQ_REFUSED 1).set Reg.PWR_STATE_REQ_REASON r
      exec i s = .next { (w.raise EV_pwr_refused 0xFFFF [k, r, 0]) with pending := s.pending }) ∧
    (u.pwrRefusal k = none → k = u.devState → exec i s = .next { u with pending := s.pending }) ∧
    (u.pwrRefusal k = none → k ≠ u.devState → exec i s = .next
      { (u.set Reg.PWR_STATE_REQ_GO 1).pwrBegin k false none with pending := s.pending })) ∧
  (∀ (d w : Nat) (s : State), s.writable = true → isDom d = true →
    let st := bits w 25 24
    let v := (s.set (Reg.PWR_DOMAIN_JIG_ALLOW d) (bits w 29 29)).set (Reg.PWR_DOMAIN_REQ d) st
    let u := if bit w 27 then v.set (Reg.PWR_DOMAIN_REFUSED d) 0 else v
    u.on (Reg.PWR_DOMAIN_GO d) = false →
    (u.domAllowed d st = false → exec (.domainStateGo d w) s = .next
      { (u.raise EV_pwr_refused 0xFFFF [d, 0, 0]).set (Reg.PWR_DOMAIN_REFUSED d) 1 with pending := s.pending }) ∧
    (u.domAllowed d st = true → st = u.domState d → exec (.domainStateGo d w) s = .next { u with pending := s.pending }) ∧
    (u.domAllowed d st = true → st ≠ u.domState d → exec (.domainStateGo d w) s = .next { (u.domBegin d st 0).set (Reg.PWR_DOMAIN_GO d) 1 with pending := s.pending })) ∧
  (∀ (t : Trans) (s : State), s.running = true → s.pwr.trans = some t →
    (t.src = 0 → t.dst = 1 →
      let u := s.domsTo [0] 1
      exec .idleTransitionDone s = .next
        { ((({ u with jig := { u.jig with idleAt := u.now } } : State).devStateTo t 1).pwrEnd) with pending := s.pending }) ∧
    (t.src = 1 → t.dst = 0 → exec .idleTransitionDone s = .next { (((s.domsTo [1] 0).devStateTo t 0).pwrEnd) with pending := s.pending }) ∧
    (t.dst = 2 → exec .sleepEntryDone s = .next
      { ((((List.range 64).foldl (fun (s : State) n => s.octPark n) (s.domsTo [0, 1] 2)).devStateTo t 2).pwrEnd).pwrEntered with
        pending := s.pending }) ∧
    (t.src = 2 → t.dst < 2 → t.named = none → exec .sleepExitDone s = .next
      { ((s.domsTo [2] t.dst).octsWake).arrived t t.dst with pending := s.pending }) ∧
    (∀ m, t.src = 2 → t.dst < 2 → t.named = some m → exec .sleepExitDone s = .next
      { ((6 :: 8 :: 9 :: 10 :: 11 :: namedDomains m).foldl (fun (s : State) d => if s.domState d = 2 then s.setDom d 0 else s) s).arrived t 1 with
        pending := s.pending })) ∧
  (∀ (t : Trans) (s : State), s.err.phase = .none → s.pwr.trans = some t →
    let goes := fun (i : Instr) (w : State) => exec i s = .next { w with pending := s.pending }
    let calm := fun (u : State) => u.halted = false ∧ u.err.phase = .none
    (t.dst = 3 ∨ t.dst = 4 →
      (let u := s.withPwr (fun p => { p with closed := true })
       t.step = 1 → calm u → goes .deepAdmissionClosed (u.pwrStep t 2)) ∧
      (let u := s.xptMove
       u.pwr.trans = some t → u.xptHolds.any (fun p => (u.quire p).isSome && decide (ptrTier p = 0)) = false → t.step = 2 → calm u →
         goes .deepDrainDone (u.pwrStep t 3)) ∧
      (let u := s.xptMove
       u.xptHolds.any (fun p => (u.quire p).isSome && decide (ptrTier p = 0)) = true → goes .deepDrainDone u) ∧
      (t.step = 2 → calm s →
        let u := (((s.withPwr (fun p => { p with closed := false })).bump Reg.n_deep_abandoned).set Reg.PWR_STATUS_WAKE_PENDING 0).pwrEnd
        goes .deepDrainTimeout ((if t.src = 0 then u else ((u.domsTo [1, 2] 0).octsWake).devStateTo t 0).pwrRefuse t.dst 5 t.jig)) ∧
      (t.step = 3 → calm s.parked → goes .deepParked (s.parked.pwrStep t 4))) ∧
    (t.dst = 3 →
      (∀ mib, t.step = 4 → calm (s.set Reg.PWR_FLYLEAF_STATUS_EXTENT_MIB mib) →
        goes (.deepSaveDone mib) ((s.set Reg.PWR_FLYLEAF_STATUS_EXTENT_MIB mib).pwrStep t 5)) ∧
      (t.step = 5 → calm (s.set Reg.MEM_STATUS_HBM_READY 0) → goes .deepSelfRefreshDone ((s.set Reg.MEM_STATUS_HBM_READY 0).pwrStep t 6)) ∧
      (let u := s.railsOff (s.railMask Reg.PWR_RAIL_CFG_DEEP_OFF)
       t.step = 6 → calm u → goes .deepRailsOff (State.deepEntered t u))) ∧
    (t.dst = 4 → t.step = 4 → calm s →
      let u := s.devStateTo t 4
      goes .offEntryDone (((u.powerOn .off).set Reg.PWR_RAIL_STATUS_EN (0xFFF - u.railMask Reg.PWR_RAIL_CFG_OFF_OFF)).set
        Reg.PWR_STATUS_DEV_STATE 4)) ∧
    (t.src = 3 → t.dst = 0 →
      (∀ pg, s.pgGood pg = true → t.step = 1 → calm ((s.railsOn).set Reg.PWR_RAIL_STATUS_PG pg) →
        goes (.deepExitRailsGood pg) (((s.railsOn).set Reg.PWR_RAIL_STATUS_PG pg).pwrStep t 2)) ∧
      (∀ pg, s.pgGood pg = false → goes (.deepExitRailsGood pg) s) ∧
      (t.step = 2 → calm (s.domsTo [3] 0) → goes .deepExitPllLock ((s.domsTo [3] 0).pwrStep t 3)) ∧
      (∀ badP badW, t.step = 3 → calm (s.hbmBack badP badW) → goes (.deepExitHbmReady badP badW) ((s.hbmBack badP badW).pwrStep t 4)) ∧
      (∀ bad, t.step = 4 →
        let u := s.set Reg.PWR_FLYLEAF_STATUS_EXTENT_OK (b2n (!bad))
        calm u → goes (.deepExitRestoreDone bad) (u.deepBack t bad))))

/-- Wake sources, cold power-on, supplies and clocks (R40, R422–R428, R544): a wake is taken from the state it works in, power-on runs step by
step, a supply that fails halts the device, and POR_N or the loss of the reference begins power-on again. -/
def Obligations.WakeAndSupplies : Prop :=
  (∀ s : State,
    (s.pwr.phase = .off → exec .wakeInFall s = .next { s.powerOn .supplies with pending := s.pending }) ∧
    (s.pwr.phase = .supplies → 3 ≤ s.pwr.tries → exec .wakeInFall s = .next
      { (s.withPwr (fun p => { p with tries := 0 })).railsOn with pending := s.pending }) ∧
    (s.pwr.phase = .up → exec .wakeInFall s = .next { s.pwrWake 3 none with pending := s.pending }) ∧
    (s.rd64 Reg.PWR_ALARM ≤ s.now → exec .alarmReached s = .next { s.pwrWake 6 none with pending := s.pending }) ∧
    (s.now < s.rd64 Reg.PWR_ALARM → exec .alarmReached s = .next s) ∧
    (exec .mgmtSignalDetect s = .next { s.pwrWake 4 none with pending := s.pending })) ∧
  (∀ (f b : List Byte) (s : State), s.running = true → bit (s.get Reg.PWR_WAKE_EN_ENABLE) 1 = true → s.mgmtBody f = some b →
    (s.devState = 2 → exec (.wakeFrame true f) s = .next { s.wakeBody b with pending := s.pending }) ∧
    (s.devState ≠ 2 → exec (.wakeFrame true f) s = .next { s with pending := s.pending })) ∧
  (∀ (f g : List Byte) (l : List (List Byte)) (s : State), s.running = true → s.lane.spineRx = g :: l →
    let u : State := { s with lane := { s.lane with spineRx := l } }
    (bit (s.get Reg.PWR_WAKE_EN_ENABLE) 1 = true → s.devState ≤ 1 → exec (.wakeFrame false f) s = .next
      { u.wakeBody (g.drop (if beAt g 12 2 = 0x8100 then 18 else 14)) with pending := s.pending }) ∧
    (bit (s.get Reg.PWR_WAKE_EN_ENABLE) 1 = false → exec (.wakeFrame false f) s = .next { u with pending := s.pending })) ∧
  (∀ (pg : Nat) (s : State),
    let into := fun (w : State) (p : PowerPhase) => w.withPwr (fun x => { x with phase := p })
    (s.pwr.phase = .standby → exec .standbyGood s = .next { into s .supplies with pending := s.pending }) ∧
    (s.pwr.phase ≠ .standby → exec .standbyGood s = .next s) ∧
    (exec .standbyRailLoss s = .next { s.powerOn .standby with pending := s.pending }) ∧
    (s.pwr.phase = .supplies → s.pwr.porLow = false → s.get Reg.PWR_RAIL_STATUS_EN ≠ 0 → s.pgGood pg = true →
      exec (.suppliesGood pg) s = .next { into (s.set Reg.PWR_RAIL_STATUS_PG pg) .refclk with pending := s.pending }) ∧
    (s.pwr.phase = .supplies → s.get Reg.PWR_RAIL_STATUS_EN ≠ 0 →
      let i := ((List.range 12).find? (fun i => s.on (Reg.PWR_RAIL_CFG_PG_EN i) && !bit (s.get Reg.PWR_RAIL_STATUS_PG) i)).getD 0
      exec .supplyTimeout s = .next
        { (((s.supplyFault i 0).set Reg.PWR_STATUS_SUPPLY_FAULT 1).set Reg.PWR_RAIL_STATUS_EN 0).withPwr (fun p => { p with tries := p.tries + 1 }) with
          pending := s.pending }) ∧
    (s.pwr.phase = .supplies → s.get Reg.PWR_RAIL_STATUS_EN = 0 →
      (s.pwr.tries < 3 → exec .supplyRetryRelease s = .next { s.railsOn with pending := s.pending }) ∧
      (3 ≤ s.pwr.tries → exec .supplyRetryRelease s = .next s)) ∧
    (s.pwr.phase = .refclk → exec .sysRefclkStable s = .next { into s .fuses with pending := s.pending }) ∧
    (∀ l, s.pwr.phase = .fuses →
      let u := into ((((l.foldl (fun (s : State) e => s.loadFuse e) s).applyFuses).newChallenge).setReady 0 true) .up
      exec (.fuseSenseDone l) s = .next
        { ({ u with mem := { u.mem with phase := [(0, 1), (1, 1), (2, 1), (3, 1)], cause := 0 } } : State).loaderStart 0 with
          pending := s.pending }) ∧
    (∀ l, s.pwr.phase ≠ .fuses → exec (.fuseSenseDone l) s = .next s) ∧
    (s.pwr.phase ≠ .off → s.pwr.phase ≠ .standby →
      exec .porNAssert s = .next { (s.powerOn .supplies).withPwr (fun p => { p with porLow := true }) with pending := s.pending } ∧
      exec .sysRefclkLoss s = .next { s.powerOn .supplies with pending := s.pending }) ∧
    (s.pwr.phase = .off ∨ s.pwr.phase = .standby → exec .porNAssert s = .next s ∧ exec .sysRefclkLoss s = .next s) ∧
    (exec .porNRelease s = .next { s.withPwr (fun p => { p with porLow := false }) with pending := s.pending })) ∧
  (∀ (i : Nat) (s : State),
    let u := s.set Reg.PWR_RAIL_STATUS_PG (putBits (s.get Reg.PWR_RAIL_STATUS_PG) i i 0)
    let fails := fun (w : State) (phase : Nat) =>
      (w.supplyFault i phase).halt 2 [i + bits ((w.supplyFault i phase).get Reg.PWR_RAIL_STATUS_PG) i i * 2 ^ 8 + phase * 2 ^ 16, 0, 0, 0]
    (u.pwr.phase = .up → bit (s.get Reg.PWR_RAIL_STATUS_EN) i = true → u.on (Reg.PWR_RAIL_CFG_PG_EN i) = true →
      exec (.pgInFall i) s = .next { fails u 2 with pending := s.pending }) ∧
    (bit (s.get Reg.PWR_RAIL_STATUS_EN) i = false → exec (.pgInFall i) s = .next { u with pending := s.pending }) ∧
    (∀ t, s.pwr.trans = some t → t.src = 3 → t.dst = 0 → t.step = 1 → s.on (Reg.PWR_RAIL_CFG_PG_EN i) = true →
      bit (s.get Reg.PWR_RAIL_STATUS_PG) i = false → exec (.railPgTimeout i) s = .next { fails s 1 with pending := s.pending }) ∧
    (s.pwr.trans = none → exec (.railPgTimeout i) s = .next s)) ∧
  (∀ (m : Nat) (s : State),
    (s.lane.refLost.contains m = false → exec (.netRefclkLoss m) s = .next
      { (s.refOctets m).foldl (fun (s : State) n => s.octRefLost n) { s with lane := { s.lane with refLost := m :: s.lane.refLost } } with
        pending := s.pending }) ∧
    (s.lane.refLost.contains m = true → exec (.netRefclkLoss m) s = .next s) ∧
    (s.octRole m = 2 → (s.octPlan m).sris = false →
      let u : State := { s with lane := { s.lane with refLost := (256 + m) :: s.lane.refLost.filter (fun x => !decide (x = 256 + m)) } }
      exec (.pcieRefclkLoss m) s = .next
        { ([2 * m, 2 * m + 1].filter (fun q => u.on (Reg.HOST_PORT_STATUS_LINK_UP q))).foldl (fun (s : State) q => s.surprise q) u with
          pending := s.pending }) ∧
    (s.octRole m ≠ 2 → exec (.pcieRefclkLoss m) s = .next s))

/-! ## The jig (R437–R457) -/

/-- The jig (R438–R445, R447, R449, R451–R454, R542): a decision that it may not make is not made, one outside the stops is refused, one on a
stale value is turned away, one that passes is written, stamped and recorded; spares come into service step by step; a burn ends in a
record of the array; heat halves the clocks or halts the device. -/
def Obligations.JigWork : Prop :=
  (∀ (h : List (Nat × Nat)) (d : JigDecision) (s : State), s.running = true →
    let u := (h.filter (fun e => isHealth e.1)).foldl (fun (s : State) (e : Nat × Nat) => s.wr e.1 e.2) s
    let v := u.subsSync.remapCheck
    let goes := fun (w : State) => exec (.jigTick h [d]) s = .next { w with pending := s.pending }
    (u.on Reg.JIG_STATUS_RUNNING = false → goes u) ∧
    (u.on Reg.JIG_STATUS_RUNNING = true →
      exec (.jigTick h []) s = .next { v with pending := s.pending } ∧
      (v.jigMakes d = false → goes v) ∧
      (v.jigMakes d = true → v.jigFree = 0 →
        let w := v.bump Reg.n_jig_deferred
        (v.jig.fullUp = true → goes w) ∧
        (v.jig.fullUp = false → goes ((w.raise EV_jig_log_full 0xFFFF [w.rd64 Reg.n_jig_deferred]).withJig (fun j => { j with fullUp := true })))) ∧
      (v.jigMakes d = true → 0 < v.jigFree →
        let t := decisionTarget d
        ((v.jigAllowed d.kind d.target && v.inStop d) = false → goes (v.jigLog d.kind 1 t d.old d.new d.cause)) ∧
        ((v.jigAllowed d.kind d.target && v.inStop d) = true →
          (v.jigField d ≠ d.old → goes (v.jigLog d.kind 2 t d.old d.new d.cause)) ∧
          (v.jigField d = d.old →
            (∀ w, d.kind < 8 → v.jigWrite d = (true, w) →
              goes ((w.withJig (fun j => { j with lastAt := mput j.lastAt (d.kind * 2 ^ 16 + d.target) w.now })).jigLog d.kind 0 t d.old d.new d.cause)) ∧
            (∀ w, d.kind < 8 → v.jigWrite d = (false, w) → goes (w.jigLog d.kind 2 t d.old d.new d.cause)) ∧
            (d.kind = 8 →
              let no := v.on (Reg.JIG_CORE_SPARE_IN_USE d.target) || v.on (Reg.JIG_CORE_SPARE_PENDING d.target) ||
                v.on (Reg.JIG_CORE_SPARE_SPARE_FAILED d.target) || decide (8 ≤ d.new)
              (no = true → goes ((v.jigLog 8 2 d.target 0 d.new d.cause).exhausted 8 d.target)) ∧
              (no = false →
                let w := (v.set (Reg.JIG_CORE_SPARE_PENDING d.target) 1).set (Reg.JIG_CORE_SPARE_FOR_CORE d.target) d.new
                goes (((w.raise EV_jig_core_pending 0xFFFF [d.target, d.new, w.get (Reg.JIG_CORE_HEALTH_MARGIN d.target d.new),
                  w.get (Reg.JIG_CORE_HEALTH_AGE_PPM d.target d.new)]).jigLog 8 4 d.target 0 d.new d.cause).jigReserve))) ∧
            (d.kind = 9 →
              (v.freeRow d.target = none → goes ((v.jigLog 9 2 d.target d.old d.new d.cause).exhausted 9 d.target)) ∧
              (v.freeRow d.target ≠ none → v.rowBad d.target d.new = true → goes (v.jigLog 9 2 d.target d.old d.new d.cause)) ∧
              (v.freeRow d.target ≠ none → v.rowBad d.target d.new = false →
                goes ((v.repairRow d.target d.new).jigLog 9 0 d.target d.old d.new d.cause))) ∧
            (d.kind = 10 →
              (v.remapOn = true → goes (v.withJig (fun j => { j with pcWait := j.pcWait ++ [(d.target, d.cause)] }))) ∧
              (v.remapOn = false →
                let st := d.target / 256
                (v.remapSpare st = none → goes ((v.jigLog 10 3 d.target 0 0 d.cause).exhausted 10 d.target)) ∧
                (∀ k, v.remapSpare st = some k →
                  let w := (v.set (Reg.MEM_PC_SPARE_TARGET st k) (d.target % 256)).moveSpare st k 1
                  let w := ((w.set Reg.JIG_COPY_STATUS_STACK st).set Reg.JIG_COPY_STATUS_SPARE k).set Reg.JIG_COPY_STATUS_TARGET (d.target % 256)
                  goes ((((w.cursor 1 0).withJig (fun j => { j with remap := true })).jigLog 10 4 d.target 0 1 d.cause).jigReserve)))) ∧
            (∀ x, d.kind = 11 → v.jig.subs[d.target]? = some x →
              let early := v.jig.burn.isSome || decide (v.now - x.since < v.get Reg.JIG_STOP6_FUSE_HOLD_H * 3600000000000)
              (early = true → goes (v.jigLog 11 1 x.logTarget d.old d.new d.cause)) ∧
              (early = false → 512 ≤ v.jig.fuses.length →
                goes ((v.jigLog 11 3 x.logTarget d.old d.new d.cause).raise EV_jig_fuse_full 0xFFFF [v.jig.subs.length])) ∧
              (early = false → v.jig.fuses.length < 512 →
                goes ((v.withJig (fun j => { j with burn := some { sub := x, pos := j.fuses.length, again := false } })).jigReserve)))))))) ∧
  (∀ (c : Nat) (s : State), s.writable = true →
    ((c + 2 ^ 32 - s.get Reg.JIG_LOG_CONS_CONS) % 2 ^ 32 ≤ s.jigUsed →
      let u := s.set Reg.JIG_LOG_CONS_CONS c
      exec (.jigLogConsWrite c) s = .next
        { ((u.withJig (fun j => { j with fullUp := j.fullUp && decide (u.jigFree = 0) })).jigSync) with pending := s.pending }) ∧
    (s.jigUsed < (c + 2 ^ 32 - s.get Reg.JIG_LOG_CONS_CONS) % 2 ^ 32 → exec (.jigLogConsWrite c) s = .next s)) ∧
  (∀ (p : List (Option Nat)) (s : State), s.running = true →
    exec (.pmbusPoll p) s = .next
      { s with jig := { s.jig with power := (railTdp.zipIdx).foldl (fun a e => a + ((p[e.2]?.getD none).getD e.1)) 0 } } ∧
    (s.jig.unsig = 0 ∨ s.on Reg.JIG_CFG_VEC_EN = false → exec .jigLogSignalTimer s = .next s) ∧
    (0 < s.jig.unsig → s.on Reg.JIG_CFG_VEC_EN = true → ∀ q, s.mgrPort = some q → exec .jigLogSignalTimer s = .next
      { (({ s with jig := { s.jig with unsig := 0 } } : State).sendVec (2 ^ 41) q 3 (s.get Reg.JIG_CFG_VECTOR)) with pending := s.pending })) ∧
  (∀ (i temp : Nat) (s : State),
    let clocks := List.range 24
    (s.on Reg.JIG_STATUS_THROTTLED = false →
      let u : State := { s with jig := { s.jig with clock := clocks.map (fun n => (n, s.get (Reg.CORE_CL_STATUS_FREQ_MHZ n))) } }
      let u := clocks.foldl (fun (s : State) n => s.set (Reg.CORE_CL_STATUS_FREQ_MHZ n) (s.get (Reg.CORE_CL_STATUS_FREQ_MHZ n) / 2)) u
      exec (.thermalThrottle i temp) s = .next
        { ((((u.set Reg.JIG_STATUS_THROTTLED 1).emit (.pin "ALERT_N" false)).bump Reg.n_throttle_count).raise EV_jig_throttle 0xFFFF [i, temp]) with
          pending := s.pending } ∧
      exec (.throttleRelease i temp) s = .next s) ∧
    (s.on Reg.JIG_STATUS_THROTTLED = true →
      let u := s.jig.clock.foldl (fun (s : State) (e : Nat × Nat) => s.set (Reg.CORE_CL_STATUS_FREQ_MHZ e.1) e.2) s
      let u := (u.withJig (fun j => { j with clock := [] })).set Reg.JIG_STATUS_THROTTLED 0
      exec (.throttleRelease i temp) s = .next { ((u.emit (.pin "ALERT_N" true)).raise EV_jig_throttle 0xFFFF [i, temp]) with pending := s.pending } ∧
      exec (.thermalThrottle i temp) s = .next s) ∧
    exec (.thermtrip i temp) s = .next
      { ((s.emit (.pin "THERMTRIP_N" false)).halt 8 [i + temp * 256, 0, 0, 0]) with pending := s.pending }) ∧
  (∀ (n : Nat) (s : State), s.running = true →
    let c := s.get (Reg.JIG_CORE_SPARE_FOR_CORE n)
    let still := s.on (Reg.JIG_CORE_SPARE_PENDING n) && !s.jig.testing.contains n && (List.range 8).all (fun i => !s.live (64 * n + 8 * c + i))
    (still = true → exec (.coreSpareIdle n) s = .next { s with jig := { s.jig with testing := n :: s.jig.testing } }) ∧
    (still = false → exec (.coreSpareIdle n) s = .next s) ∧
    (s.jig.testing.contains n = false → ∀ ok, exec (.coreSpareSelftestDone n ok) s = .next s) ∧
    (s.jig.testing.contains n = true →
      let u := (s.withJig (fun j => { j with testing := j.testing.filter (fun x => !decide (x = n)) })).set (Reg.JIG_CORE_SPARE_PENDING n) 0
      let c := u.get (Reg.JIG_CORE_SPARE_FOR_CORE n)
      exec (.coreSpareSelftestDone n true) s = .next
        { (((u.set (Reg.JIG_CORE_SPARE_IN_USE n) 1).bump Reg.n_spares_substituted).jigEnd 8 0 n c 1 0) with pending := s.pending } ∧
      exec (.coreSpareSelftestDone n false) s = .next
        { (((u.set (Reg.JIG_CORE_SPARE_SPARE_FAILED n) 1).jigEnd 8 3 n c 0 0).exhausted 8 n) with pending := s.pending })) ∧
  (∀ s : State, s.running = true →
    let n := s.jig.line + 16384
    let st := s.get Reg.JIG_COPY_STATUS_STACK
    let k := s.get Reg.JIG_COPY_STATUS_SPARE
    ((s.remapRuns 1 || s.remapRuns 2) = true → n < 12582912 →
      exec .remapCursorSave s = .next { (s.cursor (s.get Reg.JIG_COPY_STATUS_PHASE) n) with pending := s.pending }) ∧
    (s.remapRuns 1 = true → exec .remapCopyDone s = .next { (s.cursor 2 0) with pending := s.pending }) ∧
    (s.remapRuns 1 = false → exec .remapCopyDone s = .next s) ∧
    (s.remapRuns 2 = false → ∀ ok, exec (.remapVerifyDone ok) s = .next s) ∧
    (s.remapRuns 2 = true →
      (let u := ((s.moveSpare st k 2).cursor 3 0).withJig (fun j => { j with remap := false })
       let v := u.jigEnd 10 0 u.remapTarget 1 2 0
       (v.jig.pcWait = [] → exec (.remapVerifyDone true) s = .next { v with pending := s.pending }) ∧
       (∀ e l, v.jig.pcWait = e :: l → exec (.remapVerifyDone true) s = .next
         { ((v.withJig (fun j => { j with pcWait := l })).jigSlot (·.remapBegin e.1 e.2)) with pending := s.pending })) ∧
      (let bad := 2 * st + k
       let u := (s.moveSpare st k 0).set Reg.JIG_COPY_STATUS_PC_FAILED (putBits (s.get Reg.JIG_COPY_STATUS_PC_FAILED) bad bad 1)
       exec (.remapVerifyDone false) s = .next { ((u.remapStop 3).jigSlot (·.remapBegin s.remapTarget 0)) with pending := s.pending }))) ∧
  (∀ (ok : Bool) (s : State), s.running = true →
    (s.jig.burn = none → exec (.fuseBurnDone ok) s = .next s) ∧
    (∀ b, s.jig.burn = some b →
      let r : FuseRec := { kind := b.sub.kind, target := b.sub.target, info := b.sub.info, valid := ok }
      let u := (s.withJig (fun j => { j with burn := none, fuses := j.fuses ++ [r] })).fuseSync
      let f := (u.jigEnd 11 3 b.sub.logTarget 0 1 b.sub.kind).raise EV_jig_fuse_fail 0xFFFF [b.pos, b.sub.kind]
      let f := f.withJig (fun j => { j with subs := j.subs.map (fun (x : Subst) => if x = b.sub then { x with since := f.now } else x) })
      (ok = true → exec (.fuseBurnDone ok) s = .next
        { ((((u.applyFuse r).bump Reg.n_fuses_burned).jigEnd 11 0 b.sub.logTarget 0 1 b.sub.kind).subsSync) with pending := s.pending }) ∧
      (ok = false → b.again = true → exec (.fuseBurnDone ok) s = .next { f with pending := s.pending }) ∧
      (ok = false → b.again = false →
        (512 ≤ f.jig.fuses.length → exec (.fuseBurnDone ok) s = .next { (f.raise EV_jig_fuse_full 0xFFFF [f.jig.subs.length]) with pending := s.pending }) ∧
        (f.jig.fuses.length < 512 → exec (.fuseBurnDone ok) s = .next { (f.jigSlot (·.burnBegin b.sub true)) with pending := s.pending }))))

/-! ## Boot (R458–R486) -/

/-- The loader (R461, R464, R467–R473, R478, R481): each step runs in its turn, a candidate that fails a check is rejected and the next one
tried, and the last step starts stage 1. Confirming, abandoning, staging, the directory and the burns (R460, R475–R480). -/
def Obligations.BootSteps : Prop :=
  (∀ (i : Instr) (k : Nat) (d0 d1 x y z : HostIn) (s : State), s.running = true →
    (i, k) ∈ [(Instr.loaderDirectoryRead d0 d1, 1), (.loaderFrontChecked x, 2), (.loaderSectionsCopied x y z, 3), (.loaderReadbackChecked, 4),
      (.stage1Start, 5)] → s.boot.step ≠ k → exec i s = .next s) ∧
  (∀ (d0 d1 : HostIn) (s : State), s.running = true → s.boot.step = 1 →
    let u := ((s.withBoot (fun b => { b with dir := dirInForce (dirOf 0 d0) (dirOf 1 d1) })).showDir).uartLine
    let goes := fun (w : State) => exec (.loaderDirectoryRead d0 d1) s = .next { w with pending := s.pending }
    (u.on Reg.BOOT_CTRL_RECOVER = true → goes ((u.set Reg.BOOT_CTRL_RECOVER 0).recovery 3)) ∧
    (u.on Reg.BOOT_CTRL_RECOVER = false →
      (u.boot.dir = none → goes (u.recovery 2)) ∧
      (∀ d, u.boot.dir = some d →
        let bad := fun (k : Nat) => decide ((d.slot k).st = 0) || decide ((d.slot k).st = 3)
        let v := if bad 0 then u.set Reg.BOOT_STATUS_REASON_A 1 else u
        let v := if bad 1 then v.set Reg.BOOT_STATUS_REASON_B 1 else v
        (v.bootOrder d = [] → goes ((v.withBoot (fun b => { b with todo := [] })).recovery 1)) ∧
        (∀ k l, v.bootOrder d = k :: l →
          goes (v.withBoot (fun b => { b with step := 2, cur := k, todo := l, front := [], jigMem := [] })))))) ∧
  (∀ (front x y z : HostIn) (s : State), s.running = true →
    let f := slice front.data 0 (48 * 1024)
    let len := fun k => ((sectionOf s.boot.front k).map (·.len)).getD 0
    (s.boot.step = 2 →
      (front.st ≠ 0 → exec (.loaderFrontChecked front) s = .next { ((s.rejected s.boot.cur 11).nextCandidate) with pending := s.pending }) ∧
      (front.st = 0 →
        let u := match s.frontCheck f s.curSize with
          | some r => (s.rejected s.boot.cur r).nextCandidate
          | none => ((s.withBoot (fun b => { b with step := 3, front := f })).memPut (bootBase + 0xC4000) f).uartLine
        exec (.loaderFrontChecked front) s = .next { u with pending := s.pending })) ∧
    (s.boot.step = 3 →
      (x.st = 0 → y.st = 0 → z.st = 0 →
        let u := (s.memPut bootBase (slice x.data 0 (len 1))).memPut (bootBase + 0xC0000) (slice y.data 0 (len 3))
        exec (.loaderSectionsCopied x y z) s = .next
          { ((u.withBoot (fun b => { b with step := 4, jigMem := slice z.data 0 (len 2) })).uartLine) with pending := s.pending }) ∧
      (x.st ≠ 0 ∨ y.st ≠ 0 ∨ z.st ≠ 0 →
        exec (.loaderSectionsCopied x y z) s = .next { ((s.rejected s.boot.cur 11).nextCandidate) with pending := s.pending })) ∧
    (s.boot.step = 4 →
      let plan := s.memGet (bootBase + 0xC0000) (len 3)
      let parts := (sectionsOf s.boot.front).filterMap (fun x =>
        if x.kind = 1 then some (x, s.memGet bootBase x.len) else if x.kind = 3 then some (x, plan)
        else if x.kind = 2 then some (x, s.boot.jigMem) else none)
      let u := match bodyCheck s.boot.front plan parts with
        | some r => (s.rejected s.boot.cur r).nextCandidate
        | none => (((s.setRegions (leAt plan 4 1) (leAt plan 5 1)).withBoot (fun b => { b with step := 5 })).uartLine).hbmStep5
      exec .loaderReadbackChecked s = .next { u with pending := s.pending })) ∧
  (∀ s : State, s.running = true → s.boot.step = 5 →
    let start := fun (u : State) => ((u.startThread 0 0 { (Thread.reset.setX 10 (bootBase + 0xC4000)).setX 11 (u.rd Reg.BOOT_STATUS) with
      pc := bootBase, priv := 3 }).setReady 1 true).uartLine
    let begun := (s.withBoot (fun b => { b with step := 0 })).set Reg.BOOT_STATUS_MODE 1
    let shown := fun (proof : Nat) => (((begun.set Reg.BOOT_STATUS_SLOT begun.boot.cur).set Reg.BOOT_STATUS_PROOF proof).set
      Reg.BOOT_STATUS_SVN (leAt begun.boot.front 12 4)).loaderProtect
    (s.get Reg.BOOT_STATUS_CAUSE = 2 → exec .stage1Start s = .next { start begun with pending := s.pending }) ∧
    (∀ d, s.get Reg.BOOT_STATUS_CAUSE ≠ 2 → s.boot.dir = some d →
      (let u := start (shown 0)
       (d.slot s.boot.cur).st ≠ 1 → u.burnFuses.boot.dir = some d →
         exec .stage1Start s = .next { (u.burnFuses).markRejected d with pending := s.pending }) ∧
      (let u := start (shown 1)
       let w := leAt u.boot.front 32 4
       let x := (u.withBoot (fun b => { b with wdtLeft := w * 1000000000 })).set Reg.BOOT_WDT_RUNNING 1
       let v := (x.set Reg.BOOT_WDT_REMAINING_S w).raise EV_boot_proof_started 0xFFFF [x.boot.cur, leAt x.boot.front 12 4, w]
       (d.slot s.boot.cur).st = 1 → v.boot.dir = some d → exec .stage1Start s = .next { v.markRejected d with pending := s.pending }))) ∧
  (∀ (k : Nat) (s : State), s.writable = true →
    let refuse := fun (s : State) (why : Nat) => (s.set Reg.BOOT_CTRL_CTRL_REFUSED 1).set Reg.BOOT_CTRL_CTRL_REASON why
    exec .recover s = .next { s.set Reg.BOOT_CTRL_RECOVER 1 with pending := s.pending } ∧
    (s.boot.dir = none ∨ s.proving = false → exec .confirm s = .next { refuse s 14 with pending := s.pending }) ∧
    (∀ d, s.boot.dir = some d → s.proving = true →
      (s.boot.update ≠ none → exec .confirm s = .next { refuse s 12 with pending := s.pending }) ∧
      (s.boot.update = none → exec .confirm s = .next
        { (((s.set Reg.BOOT_WDT_RUNNING 0).set Reg.BOOT_CTRL_CONFIRM 1).dirUpdate
            (d.setSlot s.boot.cur { d.slot s.boot.cur with st := 2, gen := (max d.a.gen d.b.gen + 1) % 2 ^ 32 }) .confirmed) with
          pending := s.pending })) ∧
    (s.proving = true → exec .proofAbandon s = .next { (s.set Reg.BOOT_CTRL_ABANDON 1).proofFail 1 with pending := s.pending }) ∧
    (s.proving = false → exec .proofAbandon s = .next { refuse s 14 with pending := s.pending }) ∧
    (s.get Reg.BOOT_STATUS_MODE = 1 → s.on Reg.BOOT_STATUS_HANDOFF = false → exec .handoff s = .next { s.handover with pending := s.pending }) ∧
    (s.on Reg.BOOT_STATUS_HANDOFF = true → exec .handoff s = .next s) ∧
    (let u := s.set Reg.BOOT_CTRL_STAGE_SLOT k
     u.on Reg.BOOT_CTRL_STAGE = false →
      (∀ r, u.stageRefusal k = some r → exec (.stage k) s = .next { refuse u r with pending := s.pending }) ∧
      (u.stageRefusal k = none → exec (.stage k) s = .next
        { (((u.withBoot (fun b => { b with stage := some k })).set Reg.BOOT_CTRL_STAGE 1).set Reg.BOOT_STAGE_STATUS_BUSY 1) with
          pending := s.pending }))) ∧
  (∀ (front : HostIn) (secs : List HostIn) (k : Nat) (d : Dir) (s : State), s.running = true → s.boot.stage = some k → s.boot.dir = some d →
    s.boot.update = none →
    let u := match s.imageCheck front secs (d.slot k).size with
      | some r => ((s.withBoot (fun b => if k = 0 then { b with lastA := r } else { b with lastB := r })).stageEnd r).raise
          EV_boot_image_rejected 0xFFFF [k, r]
      | none => s.dirUpdate (d.setSlot k { d.slot k with st := 1 }) .staged
    exec (.stageCheckDone front secs) s = .next { u with pending := s.pending }) ∧
  (∀ s : State, s.running = true →
    (s.proving = true → s.devState ≤ 1 → exec .proofWatchdogExpire s = .next { s.proofFail 0 with pending := s.pending }) ∧
    (s.proving = false ∨ 1 < s.devState → exec .proofWatchdogExpire s = .next s) ∧
    (s.boot.update = none → exec .directoryUpdateDone s = .next s) ∧
    (∀ d why, s.boot.update = some (d, why) →
      let u := (s.withBoot (fun b => { b with update := none })).dirWritten d
      let u := u.set Reg.BOOT_FLASH_CTRL_BUSY (b2n u.boot.op.isSome)
      let v := (u.set Reg.BOOT_STATUS_PROOF 0).burnFuses
      (why = .staged → exec .directoryUpdateDone s = .next { u.stageEnd 0 with pending := s.pending }) ∧
      (why = .confirmed → v.boot.burning ≠ none → exec .directoryUpdateDone s = .next { v with pending := s.pending }) ∧
      (why = .confirmed → v.boot.burning = none → exec .directoryUpdateDone s = .next
        { ((v.set Reg.BOOT_CTRL_CONFIRM 0).raise EV_boot_confirmed 0xFFFF
            [v.boot.cur, (v.boot.dir.map (fun d => (d.slot v.boot.cur).gen)).getD 0]) with pending := s.pending }) ∧
      (why = .rejected ∨ why = .recovery → exec .directoryUpdateDone s = .next { u with pending := s.pending })) ∧
    (s.boot.burning = none → exec .loaderFuseBurnDone s = .next s) ∧
    (∀ floor roots keys, s.boot.burning = some (floor, roots, keys) →
      let u := ((s.set Reg.BOOT_FUSE_ERRATA_SVN_FLOOR floor).set Reg.BOOT_FUSE_ERRATA_ROOT_REVOKED roots).set Reg.BOOT_FUSE_KEYREV_KEY_REVOKED keys
      let u := (u.withBoot (fun b => { b with burning := none })).raise EV_boot_fuse_burned 0xFFFF [floor, roots, keys]
      (u.on Reg.BOOT_CTRL_CONFIRM = false → exec .loaderFuseBurnDone s = .next { u with pending := s.pending }) ∧
      (u.on Reg.BOOT_CTRL_CONFIRM = true → exec .loaderFuseBurnDone s = .next { u.confirmed with pending := s.pending })))

/-- Flash operations, digests and the recovery agent (R477, R482, R483, R486): GO starts an operation whose parameters and range are in order,
its end leaves RESULT and the data; the agent answers each command of the mailbox or of a frame, and touches the flash only where it may. -/
def Obligations.FlashAndRecovery : Prop :=
  (∀ (i : Instr) (op : Nat) (s : State), s.writable = true →
    (i, op) ∈ [(Instr.flashRead, 1), (.flashProgram, 2), (.flashErase, 3), (.flashCopy, 4)] →
    let u := s.set Reg.BOOT_FLASH_CTRL_OP op
    let a := u.get Reg.BOOT_FLASH_ADDR_ADDR
    let n := u.get Reg.BOOT_FLASH_LEN_LEN
    let hbm := u.get Reg.BOOT_FLASH_HBM_HBM
    let guarded := (decide (op = 2) || decide (op = 3)) && u.flashProtected a n
    (u.on Reg.BOOT_FLASH_CTRL_GO = true → exec i s = .next { u with pending := s.pending }) ∧
    (u.on Reg.BOOT_FLASH_CTRL_GO = false → u.loaderBusy = true → exec i s = .next { u.flashEnd 12 with pending := s.pending }) ∧
    (u.on Reg.BOOT_FLASH_CTRL_GO = false → u.loaderBusy = false → flashForm op a n hbm = false → exec i s = .next
      { u.flashEnd 11 with pending := s.pending }) ∧
    (u.on Reg.BOOT_FLASH_CTRL_GO = false → u.loaderBusy = false → flashForm op a n hbm = true → guarded = true →
      exec i s = .next { u.flashEnd 13 with pending := s.pending }) ∧
    (u.on Reg.BOOT_FLASH_CTRL_GO = false → u.loaderBusy = false → flashForm op a n hbm = true → guarded = false → exec i s = .next
      { (((u.withBoot (fun b => { b with op := some (op, a, n, hbm) })).set Reg.BOOT_FLASH_CTRL_GO 1).set Reg.BOOT_FLASH_CTRL_BUSY 1) with
        pending := s.pending })) ∧
  (∀ (h : HostIn) (op a n hbm : Nat) (s : State), s.running = true → s.boot.op = some (op, a, n, hbm) →
    let goes := fun (w : State) => exec (.flashOpDone h) s = .next { w with pending := s.pending }
    (h.st ≠ 0 → goes (s.flashEnd 11)) ∧
    (h.st = 0 →
      (op = 1 → goes ((s.setWindow (slice h.data 0 n)).flashEnd 0)) ∧
      (op = 2 → goes ((s.emit (.program a (s.flashWindow n))).flashEnd 0)) ∧
      (op = 3 → goes ((s.emit (.erase a (n / 0x10000))).flashEnd 0)) ∧
      (op = 4 → goes ((s.memWrite 0x3003 hbm (slice h.data 0 n)).2.flashEnd 0)))) ∧
  (∀ s : State,
    (s.running = true → s.boot.op = none → ∀ h, exec (.flashOpDone h) s = .next s) ∧
    (s.running = true → s.boot.digest = none → exec .bootDigestDone s = .next s) ∧
    (s.writable = true → s.on Reg.BOOT_DIGEST_CTRL_GO = true → exec .bootDigestGo s = .next s) ∧
    (s.writable = true → s.on Reg.BOOT_DIGEST_CTRL_GO = false → exec .bootDigestGo s = .next
      { ((s.withBoot (fun b => { b with digest := some (s.get Reg.BOOT_DIGEST_ADDR_ADDR, s.get Reg.BOOT_DIGEST_LEN_LEN) })).set
          Reg.BOOT_DIGEST_CTRL_GO 1) with pending := s.pending })) ∧
  (∀ (a n : Nat) (bad : Bool) (l : List Byte) (v s : State), s.running = true → s.boot.digest = some (a, n) →
    s.memRead 0x3003 a (min n (2 ^ 28)) = (bad, l, v) →
    let u := (List.range 12).foldl (fun (s : State) w => s.wr (Reg.BOOT_DIGEST_DATA w) (leAt (sha384 l) (4 * w) 4)) v
    exec .bootDigestDone s = .next
      { (((u.withBoot (fun b => { b with digest := none })).set Reg.BOOT_DIGEST_CTRL_GO 0).set Reg.BOOT_DIGEST_CTRL_DONE 1) with
        pending := s.pending }) ∧
  (∀ (i : Instr) (op path : Nat) (f : List Byte) (ok : Bool) (h : HostIn) (hs : List HostIn) (s : State), s.running = true →
    (i, op) ∈ [(Instr.recoveryIdent path f, 1), (.recoveryErase path f ok, 2), (.recoveryWrite path f ok, 3), (.recoveryRead path f h, 4),
      (.recoveryStage path f h hs, 5), (.recoveryReset path f, 6)] →
    s.recCmd op path f = none → exec i s = .next s) ∧
  (∀ (path : Nat) (f : List Byte) (h : HostIn) (hs : List HostIn) (c : RecCmd) (s : State), s.running = true →
    let ans := fun (s : State) (r : Nat) => ({ s.recReply c r [] [] with pending := s.pending } : State)
    (s.recCmd 1 path f = some c → exec (.recoveryIdent path f) s = .next { s.recReply c 0 s.recInfo [] with pending := s.pending }) ∧
    (s.recCmd 2 path f = some c →
      let no := decide (c.arg0 % 0x10000 ≠ 0) || s.flashProtected c.arg0 (c.arg1 * 0x10000)
      (no = true → ∀ ok, exec (.recoveryErase path f ok) s = .next (ans s 13)) ∧
      (no = false → exec (.recoveryErase path f false) s = .next (ans s 11)) ∧
      (no = false → exec (.recoveryErase path f true) s = .next (ans (s.emit (.erase c.arg0 c.arg1)) 0))) ∧
    (s.recCmd 3 path f = some c →
      let no := decide (c.arg0 % 256 ≠ 0) || decide (c.arg1 % 256 ≠ 0) || decide (c.most < c.arg1) || s.flashProtected c.arg0 c.arg1
      (no = true → ∀ ok, exec (.recoveryWrite path f ok) s = .next (ans s 13)) ∧
      (no = false → exec (.recoveryWrite path f false) s = .next (ans s 11)) ∧
      (no = false → exec (.recoveryWrite path f true) s = .next (ans (s.emit (.program c.arg0 (slice c.data 0 c.arg1))) 0))) ∧
    (s.recCmd 4 path f = some c →
      let no := decide (c.arg0 % 256 ≠ 0) || decide (c.arg1 % 256 ≠ 0) || decide (c.most < c.arg1)
      (no = true → exec (.recoveryRead path f h) s = .next (ans s 13)) ∧
      (no = false → h.st ≠ 0 → exec (.recoveryRead path f h) s = .next (ans s 11)) ∧
      (no = false → h.st = 0 → exec (.recoveryRead path f h) s = .next
        { s.recReply c 0 [] (slice h.data 0 c.arg1) with pending := s.pending })) ∧
    (∀ d, s.recCmd 5 path f = some c → s.boot.dir = some d →
      let k := c.arg0 % 2
      let x := if c.arg1 = 0 then d.slot k else { d.slot k with base := c.arg1 % 2 ^ 32, size := c.arg1 / 2 ^ 32 }
      let no := decide (1 < c.arg0) || !boundsOk x (d.slot (1 - k))
      (no = true → exec (.recoveryStage path f h hs) s = .next (ans s 13)) ∧
      (no = false →
        let u := match s.imageCheck h hs x.size with
          | some r => (s.rejected k r).recReply c r [] []
          | none => (s.dirWritten (d.setSlot k { x with st := 1 }).next).recReply c 0 [] []
        exec (.recoveryStage path f h hs) s = .next { u with pending := s.pending })) ∧
    (s.recCmd 6 path f = some c → exec (.recoveryReset path f) s = .next
      { (s.recReply c 0 [] []).warmTrigger 2 with pending := s.pending }))

/-- What flash keeps from being changed (R477): ERASE and PROGRAM of a directory sector, of the slot that runs, of the BOUND slot during a
proof, and of anything outside both slots end with PROTECTED and reach no flash; no operation starts while the loader copies, checks or
updates the directory, and such a one ends with BUSY. -/
def Obligations.FlashIsProtected : Prop :=
  ∀ (i : Instr) (op : Nat) (s : State), s.writable = true →
    (i, op) ∈ [(Instr.flashRead, 1), (.flashProgram, 2), (.flashErase, 3), (.flashCopy, 4)] →
    let u := s.set Reg.BOOT_FLASH_CTRL_OP op
    let a := u.get Reg.BOOT_FLASH_ADDR_ADDR
    let n := u.get Reg.BOOT_FLASH_LEN_LEN
    let meets := fun (x : DirSlot) => a < x.base + x.size ∧ x.base < a + n
    let within := fun (x : DirSlot) => x.base ≤ a ∧ a + n ≤ x.base + x.size
    let busy := u.boot.step ≠ 0 ∨ u.boot.stage ≠ none ∨ u.boot.update ≠ none
    u.on Reg.BOOT_FLASH_CTRL_GO = false → u.boot.op = none →
    (busy → ∃ t, exec i s = .next t ∧ t.out = s.out ∧ t.boot.op = none ∧ t.get Reg.BOOT_FLASH_CTRL_RESULT = 12) ∧
    (∀ d, op = 2 ∨ op = 3 → ¬ busy → flashForm op a n (u.get Reg.BOOT_FLASH_HBM_HBM) = true → u.boot.dir = some d →
      let run := d.slot (u.get Reg.BOOT_STATUS_SLOT)
      let other := d.slot (1 - u.get Reg.BOOT_STATUS_SLOT)
      a < 0x20000 ∨ (u.get Reg.BOOT_STATUS_MODE ≠ 2 ∧ meets run) ∨
        (u.get Reg.BOOT_STATUS_MODE ≠ 2 ∧ u.on Reg.BOOT_STATUS_PROOF = true ∧ other.st = 2 ∧ meets other) ∨ (¬ within d.a ∧ ¬ within d.b) →
      ∃ t, exec i s = .next t ∧ t.out = s.out ∧ t.boot.op = none ∧ t.get Reg.BOOT_FLASH_CTRL_RESULT = 13)

/-! ## Resets, the halt and the watchdog (R487–R500) -/

/-- Readiness, resets, halts and the watchdog (R487–R500): a readiness bit that is late is reported once; a warm reset begins at once, or waits for
a colophon or for the safe point of a transition, clears the device and starts the loader; a halt ends in a dump; a block reset
acts, is refused, or joins one that runs. -/
def Obligations.ResetsAndHalts : Prop :=
  (∀ (b : Nat) (s : State), s.running = true →
    (readyBound b (decide (s.get Reg.ERR_STATUS_RESET_CAUSE ≠ 0)) = none → exec (.readyBoundCheck b) s = .next s) ∧
    (∀ ms, readyBound b (decide (s.get Reg.ERR_STATUS_RESET_CAUSE ≠ 0)) = some ms →
      let fine := s.readyBit b || !s.instPresent b || s.err.lateSeen.contains b
      (fine = true → exec (.readyBoundCheck b) s = .next s) ∧
      (fine = false → exec (.readyBoundCheck b) s = .next
        { (({ s with err := { s.err with lateSeen := s.err.lateSeen ++ [b] } } : State).raise EV_err_ready_late 0xFFFF [b, ms]) with
          pending := s.pending })) ∧
    (s.mayReady b = false → exec (.instanceReady b) s = .next s) ∧
    (s.mayReady b = true →
      let u := s.setReady b true
      (b = 4 → exec (.instanceReady b) s = .next { u.set Reg.JIG_STATUS_RUNNING 1 with pending := s.pending }) ∧
      (b ≠ 4 → b < 128 → exec (.instanceReady b) s = .next { u with pending := s.pending }) ∧
      (128 ≤ b → u.octRole (b - 128) ≠ 0 →
        let n := b - 128
        let lost := decide (u.octRole n ≠ 2) && u.lane.refLost.contains (n / 4)
        exec (.instanceReady b) s = .next { ((u.set (Reg.LANE_OCT_STATUS_PLL_LOCK n) (b2n (!lost))).octWake n) with pending := s.pending }))) ∧
  (∀ (s : State), s.err.phase = .none → s.pwr.phase = .up →
    let u := ({ s with err := { s.err with pinLow := true } } : State).set Reg.ERR_STATUS_RESET_CAUSE 1
    let v := if u.devState = 2 ∨ u.devState = 3 then u.wakeSeen 7 true else u
    let into := fun (p : ResetPhase) => ({ v with err := { v.err with phase := p } } : State)
    let waits := v.halted && v.on Reg.ERR_COLO_STATUS_WRITING
    (waits = true → exec .warmRstNAssert s = .next { into (.waitHalt 1) with pending := s.pending }) ∧
    (waits = false → v.deepMoves = true →
      ((into (.waitStep 1)).pwr.trans.isNone = true → exec .warmRstNAssert s = .next { (into (.waitStep 1)).pwrBegin 0 false none with pending := s.pending }) ∧
      ((into (.waitStep 1)).pwr.trans.isNone = false → exec .warmRstNAssert s = .next { into (.waitStep 1) with pending := s.pending })) ∧
    (waits = false → v.deepMoves = false → exec .warmRstNAssert s = .next { v.warmBegin 1 with pending := s.pending })) ∧
  (∀ (w : Nat) (s : State),
    (s.err.phase ≠ .none ∨ s.pwr.phase ≠ .up → exec .warmRstNAssert s = .next { s with err := { s.err with pinLow := true } }) ∧
    (s.regOpen = true →
      (bits w 31 24 = 0xA5 → bit w 0 = true → exec (.errWarmResetWrite w) s = .next { s.warmTrigger 2 with pending := s.pending }) ∧
      (bits w 31 24 ≠ 0xA5 ∨ bit w 0 = false → exec (.errWarmResetWrite w) s = .next s)) ∧
    (let u : State := { s with err := { s.err with pinLow := false } }
     (s.err.phase = .waitPin → exec .warmRstNRelease s = .next
       { (({ u with err := { u.err with phase := .none } } : State).loaderStart (if 3 ≤ s.get Reg.ERR_STATUS_RESET_CAUSE then 3 else 1)) with
         pending := s.pending }) ∧
     (s.err.phase ≠ .waitPin → exec .warmRstNRelease s = .next u)) ∧
    (s.writable = true →
      (bits w 31 24 = 0x5A → bit w 0 = true → exec (.managerHalt w) s = .next { s.halt 5 [0, 0, 0, 0] with pending := s.pending }) ∧
      (bits w 31 24 ≠ 0x5A ∨ bit w 0 = false → exec (.managerHalt w) s = .next s))) ∧
  (∀ (c pg : Nat) (s : State), s.err.phase = .clearing c →
    let u := ((s.warmClear pg).warmMgr).newChallenge
    let v := if s.on Reg.DBG_STATUS_UNLOCKED then u.raise EV_drw_debug_unlock 0xFFFF [1] else u
    (v.err.pinLow = true → exec (.warmResetCleared pg) s = .next { v with err := { v.err with phase := .waitPin }, pending := s.pending }) ∧
    (v.err.pinLow = false → exec (.warmResetCleared pg) s = .next { v.loaderStart (if 3 ≤ c then 3 else 1) with pending := s.pending })) ∧
  (∀ (failed : Nat) (s : State),
    let done := fun (w : State) =>
      let w := w.set Reg.ERR_COLO_STATUS_WRITING 0
      match w.err.phase with
      | .waitHalt c => w.warmBegin c
      | _ => if w.err.wdtHalt then w.warmTrigger 3 else w
    ((s.halted && s.on Reg.ERR_COLO_STATUS_WRITING) = false → exec (.colophonComplete failed) s = .next s) ∧
    (∀ d, s.halted = true → s.on Reg.ERR_COLO_STATUS_WRITING = true → s.err.short = some d →
      (s.hbmReady = false ∨ 2 ≤ failed → exec (.colophonComplete failed) s = .next
        { done (s.set Reg.ERR_COLO_STATUS_SHORT_ONLY 1) with pending := s.pending }) ∧
      (s.hbmReady = true → failed < 2 →
        let u := (writeSections dumpSections s).2
        let h := u.dumpEnd d true (decide (failed = 1))
        let v := u.headerWrite h (writeSections dumpSections s).1
        let v := (v.set Reg.ERR_COLO_STATUS_SHORT_ONLY 0).set Reg.ERR_COLO_STATUS_NEWEST_HALF v.err.half
        exec (.colophonComplete failed) s = .next { done (v.set Reg.ERR_COLO_STATUS_NEWEST_SEQ (h.seq % 2 ^ 16)) with pending := s.pending })) ∧
    (∀ c d, s.err.phase = .waitHalt c → s.err.short = some d → s.on Reg.ERR_COLO_STATUS_WRITING = true →
      (s.hbmReady = true → exec .colophonTruncated s = .next { done (s.headerWrite (s.dumpEnd d false false) []) with pending := s.pending }) ∧
      (s.hbmReady = false → exec .colophonTruncated s = .next { done (s.set Reg.ERR_COLO_STATUS_SHORT_ONLY 1) with pending := s.pending })) ∧
    (s.err.phase = .none → exec .colophonTruncated s = .next s)) ∧
  (∀ (v : Nat) (s : State),
    (s.writable = true →
      (v = 0x4B43 → s.on Reg.ERR_WDT_CFG_ENABLE = true → exec (.wdtKick v) s = .next
        { s with err := { s.err with kickAt := s.now, warned := false } }) ∧
      (v ≠ 0x4B43 ∨ s.on Reg.ERR_WDT_CFG_ENABLE = false → exec (.wdtKick v) s = .next s)) ∧
    (s.running = true →
      (s.wdtCounts = true → s.err.warned = false → exec .wdtHalf s = .next
        { (({ s with err := { s.err with warned := true } } : State).raise EV_err_wdt_warning 0xFFFF [s.now - s.err.kickAt]) with
          pending := s.pending }) ∧
      (s.err.warned = true → exec .wdtHalf s = .next s) ∧
      (s.wdtCounts = true →
        let u := s.halt 4 [s.err.kickAt % 2 ^ 32, s.err.kickAt / 2 ^ 32, 0, 0]
        exec .wdtExpire s = .next { u with err := { u.err with wdtHalt := true }, pending := s.pending }) ∧
      (s.wdtCounts = false → exec .wdtExpire s = .next s ∧ exec .wdtHalf s = .next s)) ∧
    (s.halted = true → s.regOpen = true → s.wdtCounts = true → exec .wdtExpire s = .next
      { s.halt 4 [s.err.kickAt % 2 ^ 32, s.err.kickAt / 2 ^ 32, 0, 0] with pending := s.pending })) ∧
  (∀ (w : Nat) (s : State), s.writable = true →
    let b := bits w 20 16
    let i := bits w 11 0
    let u := if bit w 30 then s.set Reg.ERR_BLOCK_RESET_REFUSED 0 else s
    let u := (u.set Reg.ERR_BLOCK_RESET_BLOCK b).set Reg.ERR_BLOCK_RESET_INSTANCE i
    (bit w 31 = false → exec (.blockReset w) s = .next { u with pending := s.pending }) ∧
    (bit w 31 = true → blkCount b ≤ i → exec (.blockReset w) s = .next { u.set Reg.ERR_BLOCK_RESET_REFUSED 1 with pending := s.pending }) ∧
    (bit w 31 = true → i < blkCount b → u.err.phase = .none →
      (u.inReset b i = true → exec (.blockReset w) s = .next { u with pending := s.pending }) ∧
      (u.inReset b i = false → exec (.blockReset w) s = .next { u.blkStart b i with pending := s.pending }))) ∧
  (∀ s : State, s.running = true →
    let u := (s.err.blk.filter (fun x => s.blkOver x)).foldl (fun (s : State) (x : BlockReset) => s.blkEnd x) s
    (u.err.blk = [] → exec .blockResetDone s = .next
      { (u.set Reg.ERR_BLOCK_RESET_GO 0).set Reg.ERR_BLOCK_RESET_BUSY 0 with pending := s.pending }) ∧
    (u.err.blk ≠ [] → exec .blockResetDone s = .next { u with pending := s.pending }))

/-! ## Debug, the spine and the paths to the registers (R502–R529) -/

/-- Debug, the UART, PPS, the management target and port, and accesses from outside (R502–R504, R511–R519, R526–R529): each path carries out what it
admits and answers it; a thread control acts while unlocked; a read of a pair latches its other half. -/
def Obligations.DebugAndPaths : Prop :=
  (∀ (i : Instr) (k : Nat) (req : List Byte) (s u : State) (st : Nat) (data : List Byte), s.regOpen = true →
    (i, k) ∈ [(Instr.lamiskRegisterRead 0 req, 1), (.lamiskRegisterWrite 0 req, 2), (.lamiskMemoryRead 0 req, 3), (.lamiskMemoryWrite 0 req, 4)] →
    s.on Reg.DBG_STATUS_SESSION = true → s.get Reg.DBG_STATUS_TRANSPORT = 0 → beAt req 4 1 = k →
    (s.lamiskReaches k (beAt req 8 8) (beAt req 16 2) = false → s.err.stepReq = none → exec i s = .next
      { s.emit (.reply 3 0 0 (slice req 0 4 ++ beBytes 1 (k + 0x80) ++ beBytes 1 ST_FENCE_DENIED ++ slice req 6 12 ++ [])) with
        pending := s.pending }) ∧
    (s.lamiskReaches k (beAt req 8 8) (beAt req 16 2) = true →
      s.access 0x4000 k (beAt req 8 8) (beAt req 16 2) (req.drop 18) = (st, data, u) → u.err.stepReq = none → exec i s = .next
        { u.emit (.reply 3 0 0 (slice req 0 4 ++ beBytes 1 (k + 0x80) ++ beBytes 1 st ++ slice req 6 12 ++ data)) with
          pending := s.pending })) ∧
  (∀ (lam : Bool) (s : State),
    (s.on Reg.DBG_STATUS_UNLOCKED = true →
      let u := s.unlockOver
      exec .debugUnlockExpire s = .next { u.sessionClose with pending := s.pending }) ∧
    (s.on Reg.DBG_STATUS_UNLOCKED = false → exec .debugUnlockExpire s = .next { s.sessionClose with pending := s.pending }) ∧
    (s.writable = true →
      let u := s.newChallenge
      let v := ((u.set Reg.DBG_STATUS_UNLOCKED 1).set Reg.DRW_STATUS_DEBUG_UNLOCKED 1).set Reg.DBG_STATUS_LAST_REFUSE 0
      let w := if s.tokenCheck s.token = 0 then
          ({ v with err := { v.err with unlockEnd := v.now + leAt s.token 48 4 * 1000000000 } } : State).raise EV_drw_debug_unlock 0xFFFF [0]
        else (u.set Reg.DBG_STATUS_LAST_REFUSE (s.tokenCheck s.token)).raise EV_dbg_unlock_refused 0xFFFF [s.tokenCheck s.token]
      exec (.debugTokenSubmit lam) s = .next { w with pending := s.pending } ∧
      (s.on Reg.DBG_STATUS_UNLOCKED = true → exec (.debugLock lam) s = .next { s.unlockOver.sessionClose with pending := s.pending }) ∧
      ((lam && s.on Reg.DBG_STATUS_UNLOCKED) = true → exec (.debugHaltDevice lam) s = .next { s.halt 6 [0, 0, 0, 0] with pending := s.pending }) ∧
      ((lam && s.on Reg.DBG_STATUS_UNLOCKED) = false → exec (.debugHaltDevice lam) s = .next s))) ∧
  (∀ (lam : Bool) (s : State), s.writable = true →
    let t := s.get Reg.DBG_THREAD_SEL_THREAD
    (s.on Reg.DBG_STATUS_UNLOCKED = false →
      let u := s.set Reg.DBG_THREAD_CTL_THREAD_REFUSED 1
      exec (.dbgThreadHalt lam) s = .next { u with pending := s.pending } ∧ exec (.dbgThreadResume lam) s = .next { u with pending := s.pending }) ∧
    (s.on Reg.DBG_STATUS_UNLOCKED = true → t < 1536 →
      (s.thState t = 1 ∨ s.thState t = 2 → exec (.dbgThreadHalt lam) s = .next
        { (((s.setThread t { s.thread t with was := s.thState t }).setThState t 3).raise EV_dbg_thread_halt 0xFFFF [t, 0]) with
          pending := s.pending }) ∧
      (s.thState t = 3 → (s.thread t).was = 1 → (s.setThState t 1).get (Reg.CORE_THREAD_STATUS_BLOCK_KIND t) = 0 → exec (.dbgThreadResume lam) s = .next
        { ((s.setThState t 1).raise EV_dbg_thread_halt 0xFFFF [t, 1]) with pending := s.pending }) ∧
      (s.thState t = 3 → (s.thread t).was = 1 → s.running = true →
        let u := (({ s with err := { s.err with stepReq := none } } : State).setThState t 1).rvStep t
        u.thState t = 1 → exec (.dbgThreadStep lam) s = .next
          { ((u.setThread t { u.thread t with was := 1 }).setThState t 3) with pending := s.pending }))) ∧
  (∀ (m a : Nat) (l : List Byte) (s : State), s.regOpen = true →
    let reply := fun (i : Instr) (a : Nat) =>
      exec i s = .next { (s.readWord m a).2.emit (.reply 0 m 0 (leBytes 4 (s.readWord m a).1)) with pending := s.pending }
    reply (.pairLowRead m a) (a - a % 8) ∧ reply (.glbSyncRead m) Reg.GLB_SYNC ∧ reply (.uartRxRead m) Reg.GLB_UART_RX ∧
    (s.regAdmits m a l.length 1 = true → (s.regWrite m a l).2.err.stepReq = none →
      exec (.registerWrite m a l) s = .next { (s.regWrite m a l).2 with pending := s.pending }) ∧
    (s.regAdmits m a l.length 1 = false → (s.denied (3 * 4096 + a / 0x100000) m (a % 0x100000) 1).err.stepReq = none →
      exec (.registerWrite m a l) s = .next { s.denied (3 * 4096 + a / 0x100000) m (a % 0x100000) 1 with pending := s.pending })) ∧
  (∀ (v p n : Nat) (s : State),
    (s.writable = true →
      (s.glb.uartTx.length < 64 → exec (.uartTxWrite v) s = .next { s with glb := { s.glb with
        uartTx := s.glb.uartTx ++ [BitVec.ofNat 8 v], uartAt := if s.glb.uartTx.isEmpty then s.now else s.glb.uartAt } }) ∧
      (64 ≤ s.glb.uartTx.length → exec (.uartTxWrite v) s = .next s)) ∧
    (s.spineUp = true →
      (s.glb.uartRx.length < 64 → exec (.uartRxByte v) s = .next { s with glb := { s.glb with uartRx := s.glb.uartRx ++ [BitVec.ofNat 8 v] } }) ∧
      (64 ≤ s.glb.uartRx.length → exec (.uartRxByte v) s = .next { s.set Reg.GLB_UART_STATUS_RX_OVERRUN 1 with pending := s.pending }) ∧
      (s.on Reg.GLB_PPS_CFG_IN_EN = true → exec .ppsInEdge s = .next
        { (s.wr64 Reg.GLB_PPS_IN_TIME s.now).set Reg.GLB_PPS_CFG_IN_NEW 1 with pending := s.pending }) ∧
      (s.on Reg.GLB_PPS_CFG_IN_EN = false → exec .ppsInEdge s = .next s) ∧
      (s.on Reg.GLB_PPS_CFG_OUT_EN = true → exec .ppsOutSecond s = .next
        { s with out := s.out ++ [.pin "PPS_OUT" true] ++ [.pin "PPS_OUT" false] }) ∧
      (s.on Reg.GLB_PPS_CFG_OUT_EN = false → exec .ppsOutSecond s = .next s) ∧
      exec (.i3cAddressAssign p) s = .next { s with glb := { s.glb with i3cAddr := some p } } ∧
      exec (.i3cPointerWrite p) s = .next { (({ s with glb := { s.glb with i3cPtr := p } } : State).pwrWake 5 none) with pending := s.pending } ∧
      (0x80 ≤ p → p < 0xA0 → p % 4 = 0 → exec (.i3cRegisterWrite p v) s = .next
        { ((({ s with glb := { s.glb with i3cPtr := p } } : State).regPut 0x3006 p v).pwrWake 5 none) with pending := s.pending }) ∧
      (p % 4 ≠ 0 → exec (.i3cRegisterWrite p v) s = .next
        { ((({ s with glb := { s.glb with i3cPtr := p } } : State).bump Reg.n_reg_cond_drop).pwrWake 5 none) with pending := s.pending }) ∧
      (let q := s.glb.i3cPtr
       let data := (List.range n).flatMap (fun i => leBytes 4 (if s.i3cReads ((q + 4 * i) % 2 ^ 32) then s.view ((q + 4 * i) % 2 ^ 32) else 0))
       let u := s.emit (.reply 2 q 0 data)
       exec (.i3cRead n) s = .next
         { (({ u with glb := { u.glb with i3cPtr := (q + 4 * n) % 2 ^ 32 } } : State).pwrWake 5 none) with pending := s.pending }))) ∧
  (∀ (i : Instr) (k : Nat) (f b : List Byte) (s : State), s.regOpen = true →
    (i, k) ∈ [(Instr.mgmtRegisterRead f, 1), (.mgmtRegisterWrite f, 2), (.mgmtMemoryRead f, 3), (.mgmtMemoryWrite f, 4)] →
    s.err.stepReq = none → s.glb.mgmtUp = true → s.mgmtBody f = some b → beAt b 0 4 = 0x534B4D47 → beAt b 4 1 = k →
    s.get Reg.BOOT_STATUS_MODE ≠ 2 →
    (s.on Reg.GLB_MGMT_CFG_MGR_EN = false → exec i s = .next { s.bump Reg.n_mgmt_frame_refused with pending := s.pending }) ∧
    (s.on Reg.GLB_MGMT_CFG_MGR_EN = true → s.on Reg.GLB_MGMT_CFG_PEER_EN = false →
      s.glb.kept.find? (fun e => decide (e.1 = slice b 0 18)) = none →
      ∀ st data u, s.access 0 k (beAt b 8 8) (beAt b 16 2) (b.drop 18) = (st, data, u) → u.err.stepReq = none →
        let r := b.take 4 ++ beBytes 1 (k + 0x80) ++ beBytes 1 st ++ slice b 6 12 ++ data
        let v := u.keepReply (slice b 0 18) r
        exec i s = .next { v.emit (.mgmt (v.mgmtFrame (frameSource f) r)) with pending := s.pending })) ∧
  (∀ (q m v : Nat) (s : State),
    (s.regOpen = true → exec .mgmtLinkUp s = .next { s with glb := { s.glb with mgmtUp := true } }) ∧
    (s.running = true →
      ((v + 2 ^ 32 - (s.hport q).logCons) % 2 ^ 32 ≤ (s.hport q).unread → exec (.pf0EvtConsWrite q v) s = .next
        { s.setHport q { s.hport q with logCons := v } with pending := s.pending }) ∧
      ((s.hport q).unread < (v + 2 ^ 32 - (s.hport q).logCons) % 2 ^ 32 → exec (.pf0EvtConsWrite q v) s = .next s) ∧
      (let u : State := { s with lane := { s.lane with refLost := s.lane.refLost.filter (fun x => !decide (x = m)) } }
       exec (.netRefclkReturn m) s = .next
         { (u.refOctets m).foldl (fun (s : State) n =>
             if s.on (Reg.LANE_OCT_STATUS_APPLY_BUSY n) then s else (s.set (Reg.LANE_OCT_STATUS_PLL_LOCK n) 1).octWake n) u with
           pending := s.pending })))
end

