-- ==== Sys2Proof/Laws/Accel.lean ====
section
/-! SUPPORT. Accelerator jobs: what a job does once its body is good. -/

namespace Sys2Proof.Machine

/-- A job with a good body on an awake bank outside a block reset runs, and ends unless it waits. -/
theorem State.job_good {s : State} {r : Ref} {op : Nat} {e : List Byte} {conts : List (List Byte)} {host : List HostIn}
    (h1 : s.domState 5 < 2) (h2 : s.inReset 11 0 = false) (h3 : jobBad op e conts = 0) :
    s.job r op e conts host = jobResEnd (s.jobRun (envOf r) op e conts host) (envOf r) := by
  have h : ¬ 2 ≤ s.domState 5 := by omega
  simp only [State.job, h, h2, h3, if_false]
  rfl

/-- A byte laid over a string reads back. -/
theorem leAt_overlay_one (l : List Byte) (i : Nat) (b : Byte) (h : i < l.length) : leAt (overlay l i [b]) i 1 = b.toNat := by
  have e : overlay l i [b] = l.take i ++ b :: l.drop (i + 1) := by
    have : [b].take (l.length - i) = [b] := List.take_of_length_le (by simp; omega)
    simp [overlay, this]
  have d : (overlay l i [b]).drop i = b :: l.drop (i + 1) := by
    rw [e, List.drop_append_of_le_length (by simp; omega)]
    simp
  simp [leAt, slice, d, leNat]

/-- The flag that tells two commands of one opcode apart. -/
theorem withBit_bit (e : List Byte) (i : Nat) (b : Bool) (h : i < e.length) : bit (leAt (withBit e i b) i 1) 0 = b := by
  rw [withBit, show leBytes 1 (putBits (leAt e i 1) 0 0 (b2n b)) = [BitVec.ofNat 8 (putBits (leAt e i 1) 0 0 (b2n b))] from rfl,
    leAt_overlay_one e i _ h]
  cases b <;> simp [bit, putBits, b2n] <;> omega

end Sys2Proof.Machine
end

