-- ==== Sys2Proof/Laws/Answers.lean ====
section
/-! SUPPORT. What the wrappers of the meanings answer: when the guard of each holds, the next state is the effect with the queue as it
stood. A proof about a command cites these and never unfolds a wrapper. -/

namespace Sys2Proof.Machine

/-- A command whose effect depends on no guard. -/
theorem always_answers {s t u : State} (e : t = u) : s.always t = .next { u with pending := s.pending } := by
  subst e; rfl

/-- Work of a running device has its effect. -/
theorem run_answers {s t u : State} (h : s.running = true) (e : t = u) : s.run t = .next { u with pending := s.pending } := by
  subst e; simp [State.run, State.always, h]

/-- Work of a device that does not run has none. -/
theorem run_still {s t : State} (h : s.running = false) : s.run t = .next s := by
  simp [State.run, State.always, h]

/-- A register write acts while a path is open and the device is not halted. -/
theorem write_answers {s t u : State} (h : s.writable = true) (e : t = u) : s.write t = .next { u with pending := s.pending } := by
  subst e
  simp only [State.writable, Bool.and_eq_true, Bool.not_eq_true'] at h
  simp [State.write, State.always, h.1, h.2]

/-- During a halt a register write is counted and has no other effect (R519). -/
theorem write_halted {s t : State} (h : s.regOpen = true) (k : s.halted = true) :
    s.write t = .next { s.bump Reg.n_halt_write_drop with pending := s.pending } := by
  simp [State.write, State.always, h, k]

/-- Without a path a register write has no effect. -/
theorem write_closed {s t : State} (h : s.regOpen = false) : s.write t = .next s := by
  simp [State.write, State.always, h]

/-- What a path does for itself. -/
theorem path_answers {s t u : State} (h : s.regOpen = true) (e : t = u) : s.path t = .next { u with pending := s.pending } := by
  subst e; simp [State.path, State.always, h]

/-- Without a path nothing. -/
theorem path_closed {s t : State} (h : s.regOpen = false) : s.path t = .next s := by
  simp [State.path, State.always, h]

/-- What the spine does while it is powered. -/
theorem spine_answers {s t u : State} (h : s.spineUp = true) (e : t = u) : s.spine t = .next { u with pending := s.pending } := by
  subst e; simp [State.spine, State.always, h]

/-- A step of a power transition outside a warm reset. -/
theorem stepping_answers {s t u : State} (h : s.err.phase = .none) (e : t = u) :
    s.stepping t = .next { u with pending := s.pending } := by
  subst e; simp [State.stepping, State.always, h]

/-- A write that a debug session or the manager makes while no halt is in force. -/
theorem dbgWrite_answers {s t u : State} {lam : Bool} (h : s.writable = true) (e : t = u) :
    s.dbgWrite lam t = .next { u with pending := s.pending } := by
  subst e
  simp only [State.writable, Bool.and_eq_true, Bool.not_eq_true'] at h
  simp [State.dbgWrite, State.path, State.always, h.1, h.2]

/-- A command of a ring runs when its item may start (R120). -/
theorem work_starts {s : State} {r : Ref} {f : State → State} (h : s.mayStart r = true) : s.work r f = f (s.markStarted r) := by
  simp [State.work, h]

/-- A command of work is the wrapper of work around some effect, so what holds of the wrapper holds of every such command. -/
theorem exec_work {c : Instr} (h : cmdKind c = .work) (s : State) : ∃ t, exec c s = s.run t := by
  cases c <;> first | (cases h; done) | exact ⟨_, rfl⟩

/-- A register write is the wrapper of writes around some effect. -/
theorem exec_store {c : Instr} (h : cmdKind c = .store) (s : State) : ∃ t, exec c s = s.write t := by
  cases c <;> first | (cases h; done) | exact ⟨_, rfl⟩

end Sys2Proof.Machine
end

