-- ==== Sys2Proof/Laws/State.lean ====
section
/-! SUPPORT. What the basic updates of the state leave alone: one lemma for each field and update, and what each writes to the
field it is about. -/

namespace Sys2Proof.Machine

/-! ## wr -/

@[simp] theorem wr_events (s : State) (a v : Nat) : (s.wr a v).events = s.events := rfl
@[simp] theorem wr_out (s : State) (a v : Nat) : (s.wr a v).out = s.out := rfl
@[simp] theorem wr_rings (s : State) (a v : Nat) : (s.wr a v).rings = s.rings := rfl
@[simp] theorem wr_drw (s : State) (a v : Nat) : (s.wr a v).drw = s.drw := rfl
@[simp] theorem wr_lane (s : State) (a v : Nat) : (s.wr a v).lane = s.lane := rfl
@[simp] theorem wr_host (s : State) (a v : Nat) : (s.wr a v).host = s.host := rfl
@[simp] theorem wr_cell (s : State) (a v : Nat) : (s.wr a v).cell = s.cell := rfl
@[simp] theorem wr_tm (s : State) (a v : Nat) : (s.wr a v).tm = s.tm := rfl
@[simp] theorem wr_prs (s : State) (a v : Nat) : (s.wr a v).prs = s.prs := rfl
@[simp] theorem wr_tbl (s : State) (a v : Nat) : (s.wr a v).tbl = s.tbl := rfl
@[simp] theorem wr_xpt (s : State) (a v : Nat) : (s.wr a v).xpt = s.xpt := rfl
@[simp] theorem wr_core (s : State) (a v : Nat) : (s.wr a v).core = s.core := rfl
@[simp] theorem wr_acc (s : State) (a v : Nat) : (s.wr a v).acc = s.acc := rfl
@[simp] theorem wr_mem (s : State) (a v : Nat) : (s.wr a v).mem = s.mem := rfl
@[simp] theorem wr_cas (s : State) (a v : Nat) : (s.wr a v).cas = s.cas := rfl
@[simp] theorem wr_pwr (s : State) (a v : Nat) : (s.wr a v).pwr = s.pwr := rfl
@[simp] theorem wr_jig (s : State) (a v : Nat) : (s.wr a v).jig = s.jig := rfl
@[simp] theorem wr_boot (s : State) (a v : Nat) : (s.wr a v).boot = s.boot := rfl
@[simp] theorem wr_err (s : State) (a v : Nat) : (s.wr a v).err = s.err := rfl
@[simp] theorem wr_glb (s : State) (a v : Nat) : (s.wr a v).glb = s.glb := rfl
@[simp] theorem wr_freeCtr (s : State) (a v : Nat) : (s.wr a v).freeCtr = s.freeCtr := rfl
@[simp] theorem wr_todFrac (s : State) (a v : Nat) : (s.wr a v).todFrac = s.todFrac := rfl
@[simp] theorem wr_pending (s : State) (a v : Nat) : (s.wr a v).pending = s.pending := rfl

/-! ## wr64 -/

@[simp] theorem wr64_events (s : State) (a v : Nat) : (s.wr64 a v).events = s.events := by simp only [State.wr64, wr_events]
@[simp] theorem wr64_out (s : State) (a v : Nat) : (s.wr64 a v).out = s.out := by simp only [State.wr64, wr_out]
@[simp] theorem wr64_rings (s : State) (a v : Nat) : (s.wr64 a v).rings = s.rings := by simp only [State.wr64, wr_rings]
@[simp] theorem wr64_drw (s : State) (a v : Nat) : (s.wr64 a v).drw = s.drw := by simp only [State.wr64, wr_drw]
@[simp] theorem wr64_lane (s : State) (a v : Nat) : (s.wr64 a v).lane = s.lane := by simp only [State.wr64, wr_lane]
@[simp] theorem wr64_host (s : State) (a v : Nat) : (s.wr64 a v).host = s.host := by simp only [State.wr64, wr_host]
@[simp] theorem wr64_cell (s : State) (a v : Nat) : (s.wr64 a v).cell = s.cell := by simp only [State.wr64, wr_cell]
@[simp] theorem wr64_tm (s : State) (a v : Nat) : (s.wr64 a v).tm = s.tm := by simp only [State.wr64, wr_tm]
@[simp] theorem wr64_prs (s : State) (a v : Nat) : (s.wr64 a v).prs = s.prs := by simp only [State.wr64, wr_prs]
@[simp] theorem wr64_tbl (s : State) (a v : Nat) : (s.wr64 a v).tbl = s.tbl := by simp only [State.wr64, wr_tbl]
@[simp] theorem wr64_xpt (s : State) (a v : Nat) : (s.wr64 a v).xpt = s.xpt := by simp only [State.wr64, wr_xpt]
@[simp] theorem wr64_core (s : State) (a v : Nat) : (s.wr64 a v).core = s.core := by simp only [State.wr64, wr_core]
@[simp] theorem wr64_acc (s : State) (a v : Nat) : (s.wr64 a v).acc = s.acc := by simp only [State.wr64, wr_acc]
@[simp] theorem wr64_mem (s : State) (a v : Nat) : (s.wr64 a v).mem = s.mem := by simp only [State.wr64, wr_mem]
@[simp] theorem wr64_cas (s : State) (a v : Nat) : (s.wr64 a v).cas = s.cas := by simp only [State.wr64, wr_cas]
@[simp] theorem wr64_pwr (s : State) (a v : Nat) : (s.wr64 a v).pwr = s.pwr := by simp only [State.wr64, wr_pwr]
@[simp] theorem wr64_jig (s : State) (a v : Nat) : (s.wr64 a v).jig = s.jig := by simp only [State.wr64, wr_jig]
@[simp] theorem wr64_boot (s : State) (a v : Nat) : (s.wr64 a v).boot = s.boot := by simp only [State.wr64, wr_boot]
@[simp] theorem wr64_err (s : State) (a v : Nat) : (s.wr64 a v).err = s.err := by simp only [State.wr64, wr_err]
@[simp] theorem wr64_glb (s : State) (a v : Nat) : (s.wr64 a v).glb = s.glb := by simp only [State.wr64, wr_glb]
@[simp] theorem wr64_freeCtr (s : State) (a v : Nat) : (s.wr64 a v).freeCtr = s.freeCtr := by simp only [State.wr64, wr_freeCtr]
@[simp] theorem wr64_todFrac (s : State) (a v : Nat) : (s.wr64 a v).todFrac = s.todFrac := by simp only [State.wr64, wr_todFrac]
@[simp] theorem wr64_pending (s : State) (a v : Nat) : (s.wr64 a v).pending = s.pending := by simp only [State.wr64, wr_pending]

/-! ## set -/

@[simp] theorem set_events (s : State) (f : Fld) (v : Nat) : (s.set f v).events = s.events := by unfold State.set; split <;> simp only [wr_events, wr64_events]
@[simp] theorem set_out (s : State) (f : Fld) (v : Nat) : (s.set f v).out = s.out := by unfold State.set; split <;> simp only [wr_out, wr64_out]
@[simp] theorem set_rings (s : State) (f : Fld) (v : Nat) : (s.set f v).rings = s.rings := by unfold State.set; split <;> simp only [wr_rings, wr64_rings]
@[simp] theorem set_drw (s : State) (f : Fld) (v : Nat) : (s.set f v).drw = s.drw := by unfold State.set; split <;> simp only [wr_drw, wr64_drw]
@[simp] theorem set_lane (s : State) (f : Fld) (v : Nat) : (s.set f v).lane = s.lane := by unfold State.set; split <;> simp only [wr_lane, wr64_lane]
@[simp] theorem set_host (s : State) (f : Fld) (v : Nat) : (s.set f v).host = s.host := by unfold State.set; split <;> simp only [wr_host, wr64_host]
@[simp] theorem set_cell (s : State) (f : Fld) (v : Nat) : (s.set f v).cell = s.cell := by unfold State.set; split <;> simp only [wr_cell, wr64_cell]
@[simp] theorem set_tm (s : State) (f : Fld) (v : Nat) : (s.set f v).tm = s.tm := by unfold State.set; split <;> simp only [wr_tm, wr64_tm]
@[simp] theorem set_prs (s : State) (f : Fld) (v : Nat) : (s.set f v).prs = s.prs := by unfold State.set; split <;> simp only [wr_prs, wr64_prs]
@[simp] theorem set_tbl (s : State) (f : Fld) (v : Nat) : (s.set f v).tbl = s.tbl := by unfold State.set; split <;> simp only [wr_tbl, wr64_tbl]
@[simp] theorem set_xpt (s : State) (f : Fld) (v : Nat) : (s.set f v).xpt = s.xpt := by unfold State.set; split <;> simp only [wr_xpt, wr64_xpt]
@[simp] theorem set_core (s : State) (f : Fld) (v : Nat) : (s.set f v).core = s.core := by unfold State.set; split <;> simp only [wr_core, wr64_core]
@[simp] theorem set_acc (s : State) (f : Fld) (v : Nat) : (s.set f v).acc = s.acc := by unfold State.set; split <;> simp only [wr_acc, wr64_acc]
@[simp] theorem set_mem (s : State) (f : Fld) (v : Nat) : (s.set f v).mem = s.mem := by unfold State.set; split <;> simp only [wr_mem, wr64_mem]
@[simp] theorem set_cas (s : State) (f : Fld) (v : Nat) : (s.set f v).cas = s.cas := by unfold State.set; split <;> simp only [wr_cas, wr64_cas]
@[simp] theorem set_pwr (s : State) (f : Fld) (v : Nat) : (s.set f v).pwr = s.pwr := by unfold State.set; split <;> simp only [wr_pwr, wr64_pwr]
@[simp] theorem set_jig (s : State) (f : Fld) (v : Nat) : (s.set f v).jig = s.jig := by unfold State.set; split <;> simp only [wr_jig, wr64_jig]
@[simp] theorem set_boot (s : State) (f : Fld) (v : Nat) : (s.set f v).boot = s.boot := by unfold State.set; split <;> simp only [wr_boot, wr64_boot]
@[simp] theorem set_err (s : State) (f : Fld) (v : Nat) : (s.set f v).err = s.err := by unfold State.set; split <;> simp only [wr_err, wr64_err]
@[simp] theorem set_glb (s : State) (f : Fld) (v : Nat) : (s.set f v).glb = s.glb := by unfold State.set; split <;> simp only [wr_glb, wr64_glb]
@[simp] theorem set_freeCtr (s : State) (f : Fld) (v : Nat) : (s.set f v).freeCtr = s.freeCtr := by unfold State.set; split <;> simp only [wr_freeCtr, wr64_freeCtr]
@[simp] theorem set_todFrac (s : State) (f : Fld) (v : Nat) : (s.set f v).todFrac = s.todFrac := by unfold State.set; split <;> simp only [wr_todFrac, wr64_todFrac]
@[simp] theorem set_pending (s : State) (f : Fld) (v : Nat) : (s.set f v).pending = s.pending := by unfold State.set; split <;> simp only [wr_pending, wr64_pending]

/-! ## bump -/

@[simp] theorem bump_events (s : State) (a n : Nat) : (s.bump a n).events = s.events := wr64_events s _ _
@[simp] theorem bump_out (s : State) (a n : Nat) : (s.bump a n).out = s.out := wr64_out s _ _
@[simp] theorem bump_rings (s : State) (a n : Nat) : (s.bump a n).rings = s.rings := wr64_rings s _ _
@[simp] theorem bump_drw (s : State) (a n : Nat) : (s.bump a n).drw = s.drw := wr64_drw s _ _
@[simp] theorem bump_lane (s : State) (a n : Nat) : (s.bump a n).lane = s.lane := wr64_lane s _ _
@[simp] theorem bump_host (s : State) (a n : Nat) : (s.bump a n).host = s.host := wr64_host s _ _
@[simp] theorem bump_cell (s : State) (a n : Nat) : (s.bump a n).cell = s.cell := wr64_cell s _ _
@[simp] theorem bump_tm (s : State) (a n : Nat) : (s.bump a n).tm = s.tm := wr64_tm s _ _
@[simp] theorem bump_prs (s : State) (a n : Nat) : (s.bump a n).prs = s.prs := wr64_prs s _ _
@[simp] theorem bump_tbl (s : State) (a n : Nat) : (s.bump a n).tbl = s.tbl := wr64_tbl s _ _
@[simp] theorem bump_xpt (s : State) (a n : Nat) : (s.bump a n).xpt = s.xpt := wr64_xpt s _ _
@[simp] theorem bump_core (s : State) (a n : Nat) : (s.bump a n).core = s.core := wr64_core s _ _
@[simp] theorem bump_acc (s : State) (a n : Nat) : (s.bump a n).acc = s.acc := wr64_acc s _ _
@[simp] theorem bump_mem (s : State) (a n : Nat) : (s.bump a n).mem = s.mem := wr64_mem s _ _
@[simp] theorem bump_cas (s : State) (a n : Nat) : (s.bump a n).cas = s.cas := wr64_cas s _ _
@[simp] theorem bump_pwr (s : State) (a n : Nat) : (s.bump a n).pwr = s.pwr := wr64_pwr s _ _
@[simp] theorem bump_jig (s : State) (a n : Nat) : (s.bump a n).jig = s.jig := wr64_jig s _ _
@[simp] theorem bump_boot (s : State) (a n : Nat) : (s.bump a n).boot = s.boot := wr64_boot s _ _
@[simp] theorem bump_err (s : State) (a n : Nat) : (s.bump a n).err = s.err := wr64_err s _ _
@[simp] theorem bump_glb (s : State) (a n : Nat) : (s.bump a n).glb = s.glb := wr64_glb s _ _
@[simp] theorem bump_freeCtr (s : State) (a n : Nat) : (s.bump a n).freeCtr = s.freeCtr := wr64_freeCtr s _ _
@[simp] theorem bump_todFrac (s : State) (a n : Nat) : (s.bump a n).todFrac = s.todFrac := wr64_todFrac s _ _
@[simp] theorem bump_pending (s : State) (a n : Nat) : (s.bump a n).pending = s.pending := wr64_pending s _ _

/-! ## inc -/

@[simp] theorem inc_events (s : State) (f : Fld) (n : Nat) : (s.inc f n).events = s.events := set_events s f _
@[simp] theorem inc_out (s : State) (f : Fld) (n : Nat) : (s.inc f n).out = s.out := set_out s f _
@[simp] theorem inc_rings (s : State) (f : Fld) (n : Nat) : (s.inc f n).rings = s.rings := set_rings s f _
@[simp] theorem inc_drw (s : State) (f : Fld) (n : Nat) : (s.inc f n).drw = s.drw := set_drw s f _
@[simp] theorem inc_lane (s : State) (f : Fld) (n : Nat) : (s.inc f n).lane = s.lane := set_lane s f _
@[simp] theorem inc_host (s : State) (f : Fld) (n : Nat) : (s.inc f n).host = s.host := set_host s f _
@[simp] theorem inc_cell (s : State) (f : Fld) (n : Nat) : (s.inc f n).cell = s.cell := set_cell s f _
@[simp] theorem inc_tm (s : State) (f : Fld) (n : Nat) : (s.inc f n).tm = s.tm := set_tm s f _
@[simp] theorem inc_prs (s : State) (f : Fld) (n : Nat) : (s.inc f n).prs = s.prs := set_prs s f _
@[simp] theorem inc_tbl (s : State) (f : Fld) (n : Nat) : (s.inc f n).tbl = s.tbl := set_tbl s f _
@[simp] theorem inc_xpt (s : State) (f : Fld) (n : Nat) : (s.inc f n).xpt = s.xpt := set_xpt s f _
@[simp] theorem inc_core (s : State) (f : Fld) (n : Nat) : (s.inc f n).core = s.core := set_core s f _
@[simp] theorem inc_acc (s : State) (f : Fld) (n : Nat) : (s.inc f n).acc = s.acc := set_acc s f _
@[simp] theorem inc_mem (s : State) (f : Fld) (n : Nat) : (s.inc f n).mem = s.mem := set_mem s f _
@[simp] theorem inc_cas (s : State) (f : Fld) (n : Nat) : (s.inc f n).cas = s.cas := set_cas s f _
@[simp] theorem inc_pwr (s : State) (f : Fld) (n : Nat) : (s.inc f n).pwr = s.pwr := set_pwr s f _
@[simp] theorem inc_jig (s : State) (f : Fld) (n : Nat) : (s.inc f n).jig = s.jig := set_jig s f _
@[simp] theorem inc_boot (s : State) (f : Fld) (n : Nat) : (s.inc f n).boot = s.boot := set_boot s f _
@[simp] theorem inc_err (s : State) (f : Fld) (n : Nat) : (s.inc f n).err = s.err := set_err s f _
@[simp] theorem inc_glb (s : State) (f : Fld) (n : Nat) : (s.inc f n).glb = s.glb := set_glb s f _
@[simp] theorem inc_freeCtr (s : State) (f : Fld) (n : Nat) : (s.inc f n).freeCtr = s.freeCtr := set_freeCtr s f _
@[simp] theorem inc_todFrac (s : State) (f : Fld) (n : Nat) : (s.inc f n).todFrac = s.todFrac := set_todFrac s f _
@[simp] theorem inc_pending (s : State) (f : Fld) (n : Nat) : (s.inc f n).pending = s.pending := set_pending s f _

/-! ## dec -/

@[simp] theorem dec_events (s : State) (f : Fld) (n : Nat) : (s.dec f n).events = s.events := set_events s f _
@[simp] theorem dec_out (s : State) (f : Fld) (n : Nat) : (s.dec f n).out = s.out := set_out s f _
@[simp] theorem dec_rings (s : State) (f : Fld) (n : Nat) : (s.dec f n).rings = s.rings := set_rings s f _
@[simp] theorem dec_drw (s : State) (f : Fld) (n : Nat) : (s.dec f n).drw = s.drw := set_drw s f _
@[simp] theorem dec_lane (s : State) (f : Fld) (n : Nat) : (s.dec f n).lane = s.lane := set_lane s f _
@[simp] theorem dec_host (s : State) (f : Fld) (n : Nat) : (s.dec f n).host = s.host := set_host s f _
@[simp] theorem dec_cell (s : State) (f : Fld) (n : Nat) : (s.dec f n).cell = s.cell := set_cell s f _
@[simp] theorem dec_tm (s : State) (f : Fld) (n : Nat) : (s.dec f n).tm = s.tm := set_tm s f _
@[simp] theorem dec_prs (s : State) (f : Fld) (n : Nat) : (s.dec f n).prs = s.prs := set_prs s f _
@[simp] theorem dec_tbl (s : State) (f : Fld) (n : Nat) : (s.dec f n).tbl = s.tbl := set_tbl s f _
@[simp] theorem dec_xpt (s : State) (f : Fld) (n : Nat) : (s.dec f n).xpt = s.xpt := set_xpt s f _
@[simp] theorem dec_core (s : State) (f : Fld) (n : Nat) : (s.dec f n).core = s.core := set_core s f _
@[simp] theorem dec_acc (s : State) (f : Fld) (n : Nat) : (s.dec f n).acc = s.acc := set_acc s f _
@[simp] theorem dec_mem (s : State) (f : Fld) (n : Nat) : (s.dec f n).mem = s.mem := set_mem s f _
@[simp] theorem dec_cas (s : State) (f : Fld) (n : Nat) : (s.dec f n).cas = s.cas := set_cas s f _
@[simp] theorem dec_pwr (s : State) (f : Fld) (n : Nat) : (s.dec f n).pwr = s.pwr := set_pwr s f _
@[simp] theorem dec_jig (s : State) (f : Fld) (n : Nat) : (s.dec f n).jig = s.jig := set_jig s f _
@[simp] theorem dec_boot (s : State) (f : Fld) (n : Nat) : (s.dec f n).boot = s.boot := set_boot s f _
@[simp] theorem dec_err (s : State) (f : Fld) (n : Nat) : (s.dec f n).err = s.err := set_err s f _
@[simp] theorem dec_glb (s : State) (f : Fld) (n : Nat) : (s.dec f n).glb = s.glb := set_glb s f _
@[simp] theorem dec_freeCtr (s : State) (f : Fld) (n : Nat) : (s.dec f n).freeCtr = s.freeCtr := set_freeCtr s f _
@[simp] theorem dec_todFrac (s : State) (f : Fld) (n : Nat) : (s.dec f n).todFrac = s.todFrac := set_todFrac s f _
@[simp] theorem dec_pending (s : State) (f : Fld) (n : Nat) : (s.dec f n).pending = s.pending := set_pending s f _

/-! ## emit -/

@[simp] theorem emit_regs (s : State) (o : Out) : (s.emit o).regs = s.regs := rfl
@[simp] theorem emit_events (s : State) (o : Out) : (s.emit o).events = s.events := rfl
@[simp] theorem emit_rings (s : State) (o : Out) : (s.emit o).rings = s.rings := rfl
@[simp] theorem emit_drw (s : State) (o : Out) : (s.emit o).drw = s.drw := rfl
@[simp] theorem emit_lane (s : State) (o : Out) : (s.emit o).lane = s.lane := rfl
@[simp] theorem emit_host (s : State) (o : Out) : (s.emit o).host = s.host := rfl
@[simp] theorem emit_cell (s : State) (o : Out) : (s.emit o).cell = s.cell := rfl
@[simp] theorem emit_tm (s : State) (o : Out) : (s.emit o).tm = s.tm := rfl
@[simp] theorem emit_prs (s : State) (o : Out) : (s.emit o).prs = s.prs := rfl
@[simp] theorem emit_tbl (s : State) (o : Out) : (s.emit o).tbl = s.tbl := rfl
@[simp] theorem emit_xpt (s : State) (o : Out) : (s.emit o).xpt = s.xpt := rfl
@[simp] theorem emit_core (s : State) (o : Out) : (s.emit o).core = s.core := rfl
@[simp] theorem emit_acc (s : State) (o : Out) : (s.emit o).acc = s.acc := rfl
@[simp] theorem emit_mem (s : State) (o : Out) : (s.emit o).mem = s.mem := rfl
@[simp] theorem emit_cas (s : State) (o : Out) : (s.emit o).cas = s.cas := rfl
@[simp] theorem emit_pwr (s : State) (o : Out) : (s.emit o).pwr = s.pwr := rfl
@[simp] theorem emit_jig (s : State) (o : Out) : (s.emit o).jig = s.jig := rfl
@[simp] theorem emit_boot (s : State) (o : Out) : (s.emit o).boot = s.boot := rfl
@[simp] theorem emit_err (s : State) (o : Out) : (s.emit o).err = s.err := rfl
@[simp] theorem emit_glb (s : State) (o : Out) : (s.emit o).glb = s.glb := rfl
@[simp] theorem emit_freeCtr (s : State) (o : Out) : (s.emit o).freeCtr = s.freeCtr := rfl
@[simp] theorem emit_todFrac (s : State) (o : Out) : (s.emit o).todFrac = s.todFrac := rfl
@[simp] theorem emit_pending (s : State) (o : Out) : (s.emit o).pending = s.pending := rfl

/-! ## setRing -/

@[simp] theorem setRing_regs (s : State) (k : Nat) (r : Ring) : (s.setRing k r).regs = s.regs := rfl
@[simp] theorem setRing_events (s : State) (k : Nat) (r : Ring) : (s.setRing k r).events = s.events := rfl
@[simp] theorem setRing_out (s : State) (k : Nat) (r : Ring) : (s.setRing k r).out = s.out := rfl
@[simp] theorem setRing_drw (s : State) (k : Nat) (r : Ring) : (s.setRing k r).drw = s.drw := rfl
@[simp] theorem setRing_lane (s : State) (k : Nat) (r : Ring) : (s.setRing k r).lane = s.lane := rfl
@[simp] theorem setRing_host (s : State) (k : Nat) (r : Ring) : (s.setRing k r).host = s.host := rfl
@[simp] theorem setRing_cell (s : State) (k : Nat) (r : Ring) : (s.setRing k r).cell = s.cell := rfl
@[simp] theorem setRing_tm (s : State) (k : Nat) (r : Ring) : (s.setRing k r).tm = s.tm := rfl
@[simp] theorem setRing_prs (s : State) (k : Nat) (r : Ring) : (s.setRing k r).prs = s.prs := rfl
@[simp] theorem setRing_tbl (s : State) (k : Nat) (r : Ring) : (s.setRing k r).tbl = s.tbl := rfl
@[simp] theorem setRing_xpt (s : State) (k : Nat) (r : Ring) : (s.setRing k r).xpt = s.xpt := rfl
@[simp] theorem setRing_core (s : State) (k : Nat) (r : Ring) : (s.setRing k r).core = s.core := rfl
@[simp] theorem setRing_acc (s : State) (k : Nat) (r : Ring) : (s.setRing k r).acc = s.acc := rfl
@[simp] theorem setRing_mem (s : State) (k : Nat) (r : Ring) : (s.setRing k r).mem = s.mem := rfl
@[simp] theorem setRing_cas (s : State) (k : Nat) (r : Ring) : (s.setRing k r).cas = s.cas := rfl
@[simp] theorem setRing_pwr (s : State) (k : Nat) (r : Ring) : (s.setRing k r).pwr = s.pwr := rfl
@[simp] theorem setRing_jig (s : State) (k : Nat) (r : Ring) : (s.setRing k r).jig = s.jig := rfl
@[simp] theorem setRing_boot (s : State) (k : Nat) (r : Ring) : (s.setRing k r).boot = s.boot := rfl
@[simp] theorem setRing_err (s : State) (k : Nat) (r : Ring) : (s.setRing k r).err = s.err := rfl
@[simp] theorem setRing_glb (s : State) (k : Nat) (r : Ring) : (s.setRing k r).glb = s.glb := rfl
@[simp] theorem setRing_freeCtr (s : State) (k : Nat) (r : Ring) : (s.setRing k r).freeCtr = s.freeCtr := rfl
@[simp] theorem setRing_todFrac (s : State) (k : Nat) (r : Ring) : (s.setRing k r).todFrac = s.todFrac := rfl
@[simp] theorem setRing_pending (s : State) (k : Nat) (r : Ring) : (s.setRing k r).pending = s.pending := rfl

/-! ## setHport -/

@[simp] theorem setHport_regs (s : State) (q : Nat) (x : HostPort) : (s.setHport q x).regs = s.regs := rfl
@[simp] theorem setHport_events (s : State) (q : Nat) (x : HostPort) : (s.setHport q x).events = s.events := rfl
@[simp] theorem setHport_out (s : State) (q : Nat) (x : HostPort) : (s.setHport q x).out = s.out := rfl
@[simp] theorem setHport_rings (s : State) (q : Nat) (x : HostPort) : (s.setHport q x).rings = s.rings := rfl
@[simp] theorem setHport_drw (s : State) (q : Nat) (x : HostPort) : (s.setHport q x).drw = s.drw := rfl
@[simp] theorem setHport_lane (s : State) (q : Nat) (x : HostPort) : (s.setHport q x).lane = s.lane := rfl
@[simp] theorem setHport_cell (s : State) (q : Nat) (x : HostPort) : (s.setHport q x).cell = s.cell := rfl
@[simp] theorem setHport_tm (s : State) (q : Nat) (x : HostPort) : (s.setHport q x).tm = s.tm := rfl
@[simp] theorem setHport_prs (s : State) (q : Nat) (x : HostPort) : (s.setHport q x).prs = s.prs := rfl
@[simp] theorem setHport_tbl (s : State) (q : Nat) (x : HostPort) : (s.setHport q x).tbl = s.tbl := rfl
@[simp] theorem setHport_xpt (s : State) (q : Nat) (x : HostPort) : (s.setHport q x).xpt = s.xpt := rfl
@[simp] theorem setHport_core (s : State) (q : Nat) (x : HostPort) : (s.setHport q x).core = s.core := rfl
@[simp] theorem setHport_acc (s : State) (q : Nat) (x : HostPort) : (s.setHport q x).acc = s.acc := rfl
@[simp] theorem setHport_mem (s : State) (q : Nat) (x : HostPort) : (s.setHport q x).mem = s.mem := rfl
@[simp] theorem setHport_cas (s : State) (q : Nat) (x : HostPort) : (s.setHport q x).cas = s.cas := rfl
@[simp] theorem setHport_pwr (s : State) (q : Nat) (x : HostPort) : (s.setHport q x).pwr = s.pwr := rfl
@[simp] theorem setHport_jig (s : State) (q : Nat) (x : HostPort) : (s.setHport q x).jig = s.jig := rfl
@[simp] theorem setHport_boot (s : State) (q : Nat) (x : HostPort) : (s.setHport q x).boot = s.boot := rfl
@[simp] theorem setHport_err (s : State) (q : Nat) (x : HostPort) : (s.setHport q x).err = s.err := rfl
@[simp] theorem setHport_glb (s : State) (q : Nat) (x : HostPort) : (s.setHport q x).glb = s.glb := rfl
@[simp] theorem setHport_freeCtr (s : State) (q : Nat) (x : HostPort) : (s.setHport q x).freeCtr = s.freeCtr := rfl
@[simp] theorem setHport_todFrac (s : State) (q : Nat) (x : HostPort) : (s.setHport q x).todFrac = s.todFrac := rfl
@[simp] theorem setHport_pending (s : State) (q : Nat) (x : HostPort) : (s.setHport q x).pending = s.pending := rfl

/-! ## setThread -/

@[simp] theorem setThread_regs (s : State) (t : Nat) (x : Thread) : (s.setThread t x).regs = s.regs := rfl
@[simp] theorem setThread_events (s : State) (t : Nat) (x : Thread) : (s.setThread t x).events = s.events := rfl
@[simp] theorem setThread_out (s : State) (t : Nat) (x : Thread) : (s.setThread t x).out = s.out := rfl
@[simp] theorem setThread_rings (s : State) (t : Nat) (x : Thread) : (s.setThread t x).rings = s.rings := rfl
@[simp] theorem setThread_drw (s : State) (t : Nat) (x : Thread) : (s.setThread t x).drw = s.drw := rfl
@[simp] theorem setThread_lane (s : State) (t : Nat) (x : Thread) : (s.setThread t x).lane = s.lane := rfl
@[simp] theorem setThread_host (s : State) (t : Nat) (x : Thread) : (s.setThread t x).host = s.host := rfl
@[simp] theorem setThread_cell (s : State) (t : Nat) (x : Thread) : (s.setThread t x).cell = s.cell := rfl
@[simp] theorem setThread_tm (s : State) (t : Nat) (x : Thread) : (s.setThread t x).tm = s.tm := rfl
@[simp] theorem setThread_prs (s : State) (t : Nat) (x : Thread) : (s.setThread t x).prs = s.prs := rfl
@[simp] theorem setThread_tbl (s : State) (t : Nat) (x : Thread) : (s.setThread t x).tbl = s.tbl := rfl
@[simp] theorem setThread_xpt (s : State) (t : Nat) (x : Thread) : (s.setThread t x).xpt = s.xpt := rfl
@[simp] theorem setThread_acc (s : State) (t : Nat) (x : Thread) : (s.setThread t x).acc = s.acc := rfl
@[simp] theorem setThread_mem (s : State) (t : Nat) (x : Thread) : (s.setThread t x).mem = s.mem := rfl
@[simp] theorem setThread_cas (s : State) (t : Nat) (x : Thread) : (s.setThread t x).cas = s.cas := rfl
@[simp] theorem setThread_pwr (s : State) (t : Nat) (x : Thread) : (s.setThread t x).pwr = s.pwr := rfl
@[simp] theorem setThread_jig (s : State) (t : Nat) (x : Thread) : (s.setThread t x).jig = s.jig := rfl
@[simp] theorem setThread_boot (s : State) (t : Nat) (x : Thread) : (s.setThread t x).boot = s.boot := rfl
@[simp] theorem setThread_err (s : State) (t : Nat) (x : Thread) : (s.setThread t x).err = s.err := rfl
@[simp] theorem setThread_glb (s : State) (t : Nat) (x : Thread) : (s.setThread t x).glb = s.glb := rfl
@[simp] theorem setThread_freeCtr (s : State) (t : Nat) (x : Thread) : (s.setThread t x).freeCtr = s.freeCtr := rfl
@[simp] theorem setThread_todFrac (s : State) (t : Nat) (x : Thread) : (s.setThread t x).todFrac = s.todFrac := rfl
@[simp] theorem setThread_pending (s : State) (t : Nat) (x : Thread) : (s.setThread t x).pending = s.pending := rfl

/-! ## withPwr -/

@[simp] theorem withPwr_regs (s : State) (f : PwrSt → PwrSt) : (s.withPwr f).regs = s.regs := rfl
@[simp] theorem withPwr_events (s : State) (f : PwrSt → PwrSt) : (s.withPwr f).events = s.events := rfl
@[simp] theorem withPwr_out (s : State) (f : PwrSt → PwrSt) : (s.withPwr f).out = s.out := rfl
@[simp] theorem withPwr_rings (s : State) (f : PwrSt → PwrSt) : (s.withPwr f).rings = s.rings := rfl
@[simp] theorem withPwr_drw (s : State) (f : PwrSt → PwrSt) : (s.withPwr f).drw = s.drw := rfl
@[simp] theorem withPwr_lane (s : State) (f : PwrSt → PwrSt) : (s.withPwr f).lane = s.lane := rfl
@[simp] theorem withPwr_host (s : State) (f : PwrSt → PwrSt) : (s.withPwr f).host = s.host := rfl
@[simp] theorem withPwr_cell (s : State) (f : PwrSt → PwrSt) : (s.withPwr f).cell = s.cell := rfl
@[simp] theorem withPwr_tm (s : State) (f : PwrSt → PwrSt) : (s.withPwr f).tm = s.tm := rfl
@[simp] theorem withPwr_prs (s : State) (f : PwrSt → PwrSt) : (s.withPwr f).prs = s.prs := rfl
@[simp] theorem withPwr_tbl (s : State) (f : PwrSt → PwrSt) : (s.withPwr f).tbl = s.tbl := rfl
@[simp] theorem withPwr_xpt (s : State) (f : PwrSt → PwrSt) : (s.withPwr f).xpt = s.xpt := rfl
@[simp] theorem withPwr_core (s : State) (f : PwrSt → PwrSt) : (s.withPwr f).core = s.core := rfl
@[simp] theorem withPwr_acc (s : State) (f : PwrSt → PwrSt) : (s.withPwr f).acc = s.acc := rfl
@[simp] theorem withPwr_mem (s : State) (f : PwrSt → PwrSt) : (s.withPwr f).mem = s.mem := rfl
@[simp] theorem withPwr_cas (s : State) (f : PwrSt → PwrSt) : (s.withPwr f).cas = s.cas := rfl
@[simp] theorem withPwr_jig (s : State) (f : PwrSt → PwrSt) : (s.withPwr f).jig = s.jig := rfl
@[simp] theorem withPwr_boot (s : State) (f : PwrSt → PwrSt) : (s.withPwr f).boot = s.boot := rfl
@[simp] theorem withPwr_err (s : State) (f : PwrSt → PwrSt) : (s.withPwr f).err = s.err := rfl
@[simp] theorem withPwr_glb (s : State) (f : PwrSt → PwrSt) : (s.withPwr f).glb = s.glb := rfl
@[simp] theorem withPwr_freeCtr (s : State) (f : PwrSt → PwrSt) : (s.withPwr f).freeCtr = s.freeCtr := rfl
@[simp] theorem withPwr_todFrac (s : State) (f : PwrSt → PwrSt) : (s.withPwr f).todFrac = s.todFrac := rfl
@[simp] theorem withPwr_pending (s : State) (f : PwrSt → PwrSt) : (s.withPwr f).pending = s.pending := rfl

/-! ## setDom -/

@[simp] theorem setDom_events (s : State) (d st : Nat) : (s.setDom d st).events = s.events := set_events s _ _
@[simp] theorem setDom_out (s : State) (d st : Nat) : (s.setDom d st).out = s.out := set_out s _ _
@[simp] theorem setDom_rings (s : State) (d st : Nat) : (s.setDom d st).rings = s.rings := set_rings s _ _
@[simp] theorem setDom_drw (s : State) (d st : Nat) : (s.setDom d st).drw = s.drw := set_drw s _ _
@[simp] theorem setDom_lane (s : State) (d st : Nat) : (s.setDom d st).lane = s.lane := set_lane s _ _
@[simp] theorem setDom_host (s : State) (d st : Nat) : (s.setDom d st).host = s.host := set_host s _ _
@[simp] theorem setDom_cell (s : State) (d st : Nat) : (s.setDom d st).cell = s.cell := set_cell s _ _
@[simp] theorem setDom_tm (s : State) (d st : Nat) : (s.setDom d st).tm = s.tm := set_tm s _ _
@[simp] theorem setDom_prs (s : State) (d st : Nat) : (s.setDom d st).prs = s.prs := set_prs s _ _
@[simp] theorem setDom_tbl (s : State) (d st : Nat) : (s.setDom d st).tbl = s.tbl := set_tbl s _ _
@[simp] theorem setDom_xpt (s : State) (d st : Nat) : (s.setDom d st).xpt = s.xpt := set_xpt s _ _
@[simp] theorem setDom_core (s : State) (d st : Nat) : (s.setDom d st).core = s.core := set_core s _ _
@[simp] theorem setDom_acc (s : State) (d st : Nat) : (s.setDom d st).acc = s.acc := set_acc s _ _
@[simp] theorem setDom_mem (s : State) (d st : Nat) : (s.setDom d st).mem = s.mem := set_mem s _ _
@[simp] theorem setDom_cas (s : State) (d st : Nat) : (s.setDom d st).cas = s.cas := set_cas s _ _
@[simp] theorem setDom_pwr (s : State) (d st : Nat) : (s.setDom d st).pwr = s.pwr := set_pwr s _ _
@[simp] theorem setDom_jig (s : State) (d st : Nat) : (s.setDom d st).jig = s.jig := set_jig s _ _
@[simp] theorem setDom_boot (s : State) (d st : Nat) : (s.setDom d st).boot = s.boot := set_boot s _ _
@[simp] theorem setDom_err (s : State) (d st : Nat) : (s.setDom d st).err = s.err := set_err s _ _
@[simp] theorem setDom_glb (s : State) (d st : Nat) : (s.setDom d st).glb = s.glb := set_glb s _ _
@[simp] theorem setDom_freeCtr (s : State) (d st : Nat) : (s.setDom d st).freeCtr = s.freeCtr := set_freeCtr s _ _
@[simp] theorem setDom_todFrac (s : State) (d st : Nat) : (s.setDom d st).todFrac = s.todFrac := set_todFrac s _ _
@[simp] theorem setDom_pending (s : State) (d st : Nat) : (s.setDom d st).pending = s.pending := set_pending s _ _

@[simp] theorem emit_out (s : State) (o : Out) : (s.emit o).out = s.out ++ [o] := rfl
@[simp] theorem withPwr_pwr (s : State) (f : PwrSt → PwrSt) : (s.withPwr f).pwr = f s.pwr := rfl

/-! ## Reads through updates that leave the registers alone -/

theorem rd_congr {s t : State} (h : s.regs = t.regs) (a : Nat) : s.rd a = t.rd a := by simp only [State.rd, h]
theorem rd64_congr {s t : State} (h : s.regs = t.regs) (a : Nat) : s.rd64 a = t.rd64 a := by simp only [State.rd64, rd_congr h]
theorem get_congr {s t : State} (h : s.regs = t.regs) (f : Fld) : s.get f = t.get f := by
  simp only [State.get, rd_congr h, rd64_congr h]
theorem on_congr {s t : State} (h : s.regs = t.regs) (f : Fld) : s.on f = t.on f := by simp only [State.on, get_congr h]

@[simp] theorem emit_get (s : State) (o : Out) (f : Fld) : (s.emit o).get f = s.get f := get_congr rfl f
@[simp] theorem setRing_get (s : State) (k : Nat) (r : Ring) (f : Fld) : (s.setRing k r).get f = s.get f := get_congr rfl f
@[simp] theorem setHport_get (s : State) (q : Nat) (x : HostPort) (f : Fld) : (s.setHport q x).get f = s.get f := get_congr rfl f
@[simp] theorem setThread_get (s : State) (t : Nat) (x : Thread) (f : Fld) : (s.setThread t x).get f = s.get f := get_congr rfl f
@[simp] theorem withPwr_get (s : State) (g : PwrSt → PwrSt) (f : Fld) : (s.withPwr g).get f = s.get f := get_congr rfl f
@[simp] theorem emit_on (s : State) (o : Out) (f : Fld) : (s.emit o).on f = s.on f := on_congr rfl f
@[simp] theorem setRing_on (s : State) (k : Nat) (r : Ring) (f : Fld) : (s.setRing k r).on f = s.on f := on_congr rfl f
@[simp] theorem setHport_on (s : State) (q : Nat) (x : HostPort) (f : Fld) : (s.setHport q x).on f = s.on f := on_congr rfl f
@[simp] theorem setThread_on (s : State) (t : Nat) (x : Thread) (f : Fld) : (s.setThread t x).on f = s.on f := on_congr rfl f
@[simp] theorem withPwr_on (s : State) (g : PwrSt → PwrSt) (f : Fld) : (s.withPwr g).on f = s.on f := on_congr rfl f

/-! ## Records read back -/

@[simp] theorem set_ring (s : State) (f : Fld) (v k : Nat) : (s.set f v).ring k = s.ring k := by simp [State.ring]
@[simp] theorem set_hport (s : State) (f : Fld) (v q : Nat) : (s.set f v).hport q = s.hport q := by simp [State.hport]
@[simp] theorem set_thread (s : State) (f : Fld) (v t : Nat) : (s.set f v).thread t = s.thread t := by simp [State.thread]
@[simp] theorem bump_ring (s : State) (a n k : Nat) : (s.bump a n).ring k = s.ring k := by simp [State.ring]
@[simp] theorem bump_hport (s : State) (a n q : Nat) : (s.bump a n).hport q = s.hport q := by simp [State.hport]
@[simp] theorem emit_ring (s : State) (o : Out) (k : Nat) : (s.emit o).ring k = s.ring k := rfl
@[simp] theorem emit_hport (s : State) (o : Out) (q : Nat) : (s.emit o).hport q = s.hport q := rfl

end Sys2Proof.Machine
end

