-- ==== Sys2Proof/Laws/Boot.lean ====
section
/-! SUPPORT. Stage 1 starts: what the loader's last step does for a BOUND image. -/

namespace Sys2Proof.Machine

/-- Outside a proof the loader fills the status, protects the device, starts thread 0, and begins the burns and marks that the image
and the flyleaf ask for (R468, R471, R473, R478). -/
theorem stage1_bound {s u v : State} {d : Dir} (h3 : s.get Reg.BOOT_STATUS_CAUSE ≠ 2) (h4 : s.boot.dir = some d)
    (h5 : (d.slot s.boot.cur).st ≠ 1)
    (h6 : (((((s.withBoot (fun b => { b with step := 0 })).set Reg.BOOT_STATUS_MODE 1).set Reg.BOOT_STATUS_SLOT s.boot.cur).set
      Reg.BOOT_STATUS_PROOF 0).set Reg.BOOT_STATUS_SVN (leAt s.boot.front 12 4)).loaderProtect = u)
    (h7 : ((u.startThread 0 0 { (Thread.reset.setX 10 (bootBase + 0xC4000)).setX 11 (u.rd Reg.BOOT_STATUS) with
      pc := bootBase, priv := 3 }).setReady 1 true).uartLine.burnFuses = v) (h8 : v.boot.dir = some d) :
    s.stage1 = v.markRejected d := by
  subst h6
  have hc : ((s.withBoot (fun b => { b with step := 0 })).set Reg.BOOT_STATUS_MODE 1).boot.cur = s.boot.cur := by
    rw [set_boot]; rfl
  have hf : ((s.withBoot (fun b => { b with step := 0 })).set Reg.BOOT_STATUS_MODE 1).boot.front = s.boot.front := by
    rw [set_boot]; rfl
  unfold State.stage1
  simp only [h3, h4, decide_false, Bool.false_eq_true, if_false, Option.map_some, Option.getD_some, h5, b2n, hc, hf, h7, h8]

end Sys2Proof.Machine
end

