-- ==== Sys2Proof/Laws/Cascade.lean ====
section
/-! SUPPORT. The cascade engine: what an arriving flit does once it is whole. -/

namespace Sys2Proof.Machine

/-- A whole IDLE or HEARTBEAT flit is acknowledged against and handled. -/
theorem State.flitIn_open {s : State} {l kind : Nat} {f : List Byte} {go : State → State} (h1 : 5 ≤ (s.casLink l).step)
    (h2 : flitOk f = true) (h3 : beAt f 0 2 / 2 ^ 12 = kind) (h4 : kind = 0 ∨ kind = 2) :
    s.flitIn l kind f go = go (s.casAckIn l f) := by
  have b : ¬ (s.casLink l).step < 5 := by omega
  simp only [State.flitIn, b, h2, h3]
  simp [h4]

/-- A whole sequenced flit that is the next of its link is accepted and handled. -/
theorem State.flitIn_next {s v : State} {l kind : Nat} {f : List Byte} {go : State → State} (h1 : 5 ≤ (s.casLink l).step)
    (h2 : flitOk f = true) (h3 : beAt f 0 2 / 2 ^ 12 = kind) (h4 : ¬ (kind = 0 ∨ kind = 2)) (h5 : s.casAckIn l f = v)
    (h6 : 5 ≤ (v.casLink l).step) (h7 : beAt f 0 2 % 2 ^ 12 = (v.casLink l).rxSeq) :
    s.flitIn l kind f go = go (v.flitTaken l) := by
  have b : ¬ (s.casLink l).step < 5 := by omega
  have c : ¬ (v.casLink l).step < 5 := by omega
  simp only [State.flitIn, b, h2, h3, h4, h5, c, h7, State.flitTaken]
  simp

/-- The word of a remote access that is sent has GO set. -/
theorem goWord_go (w : Nat) (b : Bool) : bit (goWord w b) 31 = true := by
  have h : ∀ x v : Nat, v % 2 = v → putBits (putBits x 31 31 1) 30 30 v = x / 4294967296 * 4294967296 + 2147483648 + v * 1073741824 + x % 1073741824 := by
    intro x v hv
    simp only [putBits, Nat.reducePow, Nat.reduceAdd, Nat.reduceSub]
    omega
  rw [goWord, h w (b2n b) (by cases b <;> rfl)]
  simp only [bit, Nat.reducePow, decide_eq_true_eq]
  cases b <;> simp [b2n] <;> omega

end Sys2Proof.Machine
end

