-- ==== Sys2Proof/Laws/Debug.lean ====
section
/-! SUPPORT. A debugger's step of a halted thread. -/

namespace Sys2Proof.Machine

/-- The halted thread executes one instruction and, where it still runs after it, is HALTED again (R504). -/
theorem dbgStep_runs {s : State} (h2 : s.running = true) (h3 : s.on Reg.DBG_STATUS_UNLOCKED = true)
    (h5 : s.get Reg.DBG_THREAD_SEL_THREAD < 1536) (h6 : s.thState (s.get Reg.DBG_THREAD_SEL_THREAD) = 3)
    (h7 : (s.thread (s.get Reg.DBG_THREAD_SEL_THREAD)).was = 1)
    (h9 : ((({ s with err := { s.err with stepReq := none } } : State).setThState (s.get Reg.DBG_THREAD_SEL_THREAD) 1).rvStep
      (s.get Reg.DBG_THREAD_SEL_THREAD)).thState (s.get Reg.DBG_THREAD_SEL_THREAD) = 1) :
    (s.dbgThread dbgStep).stepped =
      (((({ s with err := { s.err with stepReq := none } } : State).setThState (s.get Reg.DBG_THREAD_SEL_THREAD) 1).rvStep
        (s.get Reg.DBG_THREAD_SEL_THREAD)).setThread (s.get Reg.DBG_THREAD_SEL_THREAD)
        { ((({ s with err := { s.err with stepReq := none } } : State).setThState (s.get Reg.DBG_THREAD_SEL_THREAD) 1).rvStep
          (s.get Reg.DBG_THREAD_SEL_THREAD)).thread (s.get Reg.DBG_THREAD_SEL_THREAD) with was := 1 }).setThState
        (s.get Reg.DBG_THREAD_SEL_THREAD) 3 := by
  generalize ht : s.get Reg.DBG_THREAD_SEL_THREAD = t at *
  have e1 : s.dbgThread dbgStep = { s with err := { s.err with stepReq := some t } } := by
    simp only [State.dbgThread, h3, ht, Bool.not_true, Bool.false_eq_true, if_false, h5, if_true, dbgStep, h6]
  rw [e1]
  unfold State.stepped
  have h6' : ({ s with err := { s.err with stepReq := none } } : State).thState t = 3 := h6
  have h7' : (({ s with err := { s.err with stepReq := none } } : State).thread t).was = 1 := h7
  have h2' : ({ s with err := { s.err with stepReq := none } } : State).running = true := h2
  simp only [h6', h7', h2', if_true, h9]
  simp

end Sys2Proof.Machine
end

