-- ==== Sys2Proof/Laws/Jig.lean ====
section
/-! SUPPORT. What a decision of the jig does once its checks pass, and when the jig works. -/

namespace Sys2Proof.Machine

/-- A decision that the checks let through and whose target takes the write: it is stamped and recorded as APPLIED (R440, R444). -/

theorem jigDecide_writes {s v : State} {d : JigDecision} (h1 : s.jigMakes d = true) (h2 : 0 < s.jigFree)
    (h3 : s.jigAllowed d.kind d.target = true) (h4 : s.inStop d = true) (h5 : s.jigField d = d.old) (h6 : d.kind < 8)
    (h7 : s.jigWrite d = (true, v)) :
    s.jigDecide d = (v.withJig (fun j => { j with lastAt := mput j.lastAt (d.kind * 2 ^ 16 + d.target) v.now })).jigLog d.kind 0
      (decisionTarget d) d.old d.new d.cause := by
  obtain ⟨k, t, o, n, c⟩ := d
  dsimp only at *
  unfold State.jigDecide
  simp only [h1, State.jigSlot, h2, h3, h4, h5, Bool.not_true, Bool.or_false, if_true, ne_eq, not_true, if_false, Bool.false_eq_true]
  split
  · omega
  · omega
  · omega
  · omega
  · simp only [h7]; rfl

end Sys2Proof.Machine
end

