-- ==== Sys2Proof/Laws/Maps.lean ====
section
/-! SUPPORT. Sparse tables and bit fields: reading after a write, and the canonical form kept. -/

namespace Sys2Proof.Machine

/-! ## Tables -/

@[simp] theorem mget_mput_same {α : Type} (m : SMap α) (k : Nat) (v : α) : mget (mput m k v) k = some v := by
  induction m with
  | nil => simp [mput, mget]
  | cons e t ih =>
    obtain ⟨j, w⟩ := e
    simp only [mput]
    split
    · simp [mget]
    · split
      · simp [mget]
      · rename_i h; simp [mget, h, ih]

theorem mget_mput_other {α : Type} (m : SMap α) {k j : Nat} (v : α) (h : j ≠ k) : mget (mput m k v) j = mget m j := by
  induction m with
  | nil => simp [mput, mget, h]
  | cons e t ih =>
    obtain ⟨i, w⟩ := e
    simp only [mput]
    split
    · simp [mget, h]
    · split
      · rename_i h2; subst h2; simp [mget, h]
      · simp [mget, ih]

@[simp] theorem mget_mdel_same {α : Type} (m : SMap α) (k : Nat) : mget (mdel m k) k = none := by
  induction m with
  | nil => rfl
  | cons e t ih =>
    obtain ⟨j, w⟩ := e
    by_cases h : j = k
    · simpa [mdel, h] using ih
    · have h' : ¬ k = j := fun x => h x.symm
      simp only [mdel, List.filter_cons, h, decide_false, Bool.not_false, if_true, mget, h', if_false]
      exact ih

theorem mget_mdel_other {α : Type} (m : SMap α) {k j : Nat} (h : j ≠ k) : mget (mdel m k) j = mget m j := by
  induction m with
  | nil => rfl
  | cons e t ih =>
    obtain ⟨i, w⟩ := e
    by_cases hi : i = k
    · subst hi; simp only [mdel, List.filter_cons, decide_true, Bool.not_true, Bool.false_eq_true, if_false, mget, h]; exact ih
    · simp only [mdel, List.filter_cons, hi, decide_false, Bool.not_false, if_true, mget]; split
      · rfl
      · exact ih

@[simp] theorem mgetD_mputD_same {α : Type} [DecidableEq α] (m : SMap α) (k : Nat) (v d : α) : mgetD (mputD m k v d) k d = v := by
  unfold mputD mgetD; split
  · rename_i h; simp [h]
  · simp

theorem mgetD_mputD_other {α : Type} [DecidableEq α] (m : SMap α) {k j : Nat} (v d e : α) (h : j ≠ k) :
    mgetD (mputD m k v d) j e = mgetD m j e := by
  unfold mputD mgetD; split
  · rw [mget_mdel_other m h]
  · rw [mget_mput_other m v h]

theorem sortedKeys_cons {α : Type} {a : Nat × α} {m : SMap α} :
    sortedKeys (a :: m) = true ↔ (∀ e ∈ m, a.1 < e.1) ∧ sortedKeys m = true := by
  induction m generalizing a with
  | nil => simp [sortedKeys]
  | cons b t ih =>
    simp only [sortedKeys, Bool.and_eq_true, decide_eq_true_eq, List.mem_cons, forall_eq_or_imp]
    constructor
    · rintro ⟨h1, h2⟩
      exact ⟨⟨h1, fun e he => Nat.lt_trans h1 ((ih.mp h2).1 e he)⟩, h2⟩
    · rintro ⟨⟨h1, _⟩, h2⟩
      exact ⟨h1, h2⟩

theorem mem_mput {α : Type} {m : SMap α} {k : Nat} {v : α} {e : Nat × α} (h : e ∈ mput m k v) : e = (k, v) ∨ e ∈ m := by
  induction m with
  | nil => simpa [mput] using h
  | cons x t ih =>
    obtain ⟨j, w⟩ := x
    simp only [mput] at h
    split at h
    · simpa using h
    · split at h
      · rcases List.mem_cons.mp h with h | h
        · exact Or.inl h
        · exact Or.inr (List.mem_cons_of_mem _ h)
      · rcases List.mem_cons.mp h with h | h
        · exact Or.inr (h ▸ List.mem_cons_self ..)
        · rcases ih h with h | h
          · exact Or.inl h
          · exact Or.inr (List.mem_cons_of_mem _ h)

theorem sortedKeys_mput {α : Type} {m : SMap α} {k : Nat} {v : α} (h : sortedKeys m = true) : sortedKeys (mput m k v) = true := by
  induction m with
  | nil => rfl
  | cons x t ih =>
    obtain ⟨j, w⟩ := x
    obtain ⟨h1, h2⟩ := sortedKeys_cons.mp h
    simp only [mput]
    split
    · rename_i hk
      refine sortedKeys_cons.mpr ⟨fun e he => ?_, h⟩
      rcases List.mem_cons.mp he with he | he
      · subst he; exact hk
      · exact Nat.lt_trans hk (h1 e he)
    · split
      · rename_i hk; subst hk; exact sortedKeys_cons.mpr ⟨h1, h2⟩
      · rename_i hk1 hk2
        refine sortedKeys_cons.mpr ⟨fun e he => ?_, ih h2⟩
        rcases mem_mput he with he | he
        · subst he; show j < k; omega
        · exact h1 e he

theorem sortedKeys_filter {α : Type} {m : SMap α} (p : Nat × α → Bool) (h : sortedKeys m = true) : sortedKeys (m.filter p) = true := by
  induction m with
  | nil => rfl
  | cons x t ih =>
    obtain ⟨h1, h2⟩ := sortedKeys_cons.mp h
    simp only [List.filter_cons]
    split
    · exact sortedKeys_cons.mpr ⟨fun e he => h1 e ((List.mem_filter.mp he).1), ih h2⟩
    · exact ih h2

theorem sortedKeys_mputD {α : Type} [DecidableEq α] {m : SMap α} {k : Nat} {v d : α} (h : sortedKeys m = true) :
    sortedKeys (mputD m k v d) = true := by
  unfold mputD; split
  · exact sortedKeys_filter _ h
  · exact sortedKeys_mput h

theorem mem_mputD {α : Type} [DecidableEq α] {m : SMap α} {k : Nat} {v d : α} {e : Nat × α} (h : e ∈ mputD m k v d) :
    (e = (k, v) ∧ v ≠ d) ∨ e ∈ m := by
  unfold mputD at h; split at h
  · exact Or.inr ((List.mem_filter.mp h).1)
  · rename_i hv
    rcases mem_mput h with h | h
    · exact Or.inl ⟨h, hv⟩
    · exact Or.inr h

/-! ## Bit fields -/

/-- A bit is a field of width one. -/
theorem bit_eq_bits (w i : Nat) : bit w i = decide (bits w i i = 1) := by
  unfold bits bit; simp

theorem testBit_bits (x hi lo i : Nat) : (bits x hi lo).testBit i = (decide (i < hi + 1 - lo) && x.testBit (lo + i)) := by
  simp [bits, Nat.testBit_mod_two_pow, Nat.testBit_div_two_pow, Nat.add_comm]

theorem testBit_putBits (x v : Nat) {hi lo : Nat} (h : lo ≤ hi) (i : Nat) :
    (putBits x hi lo v).testBit i = if i < lo then x.testBit i else if i ≤ hi then v.testBit (i - lo) else x.testBit i := by
  have e : putBits x hi lo v = 2 ^ (hi + 1) * (x / 2 ^ (hi + 1)) + (2 ^ lo * (v % 2 ^ (hi + 1 - lo)) + x % 2 ^ lo) := by
    simp only [putBits, Nat.mul_comm, Nat.add_assoc]
  have hp : (2 : Nat) ^ (hi + 1) = 2 ^ lo * 2 ^ (hi + 1 - lo) := by rw [← Nat.pow_add]; congr 1; omega
  have b1 : x % 2 ^ lo < 2 ^ lo := Nat.mod_lt _ (Nat.two_pow_pos _)
  have b2 : 2 ^ lo * (v % 2 ^ (hi + 1 - lo)) + x % 2 ^ lo < 2 ^ (hi + 1) := by
    rw [hp]
    have hv : v % 2 ^ (hi + 1 - lo) + 1 ≤ 2 ^ (hi + 1 - lo) := Nat.mod_lt _ (Nat.two_pow_pos _)
    calc 2 ^ lo * (v % 2 ^ (hi + 1 - lo)) + x % 2 ^ lo < 2 ^ lo * (v % 2 ^ (hi + 1 - lo)) + 2 ^ lo := Nat.add_lt_add_left b1 _
      _ = 2 ^ lo * (v % 2 ^ (hi + 1 - lo) + 1) := (Nat.mul_succ _ _).symm
      _ ≤ 2 ^ lo * 2 ^ (hi + 1 - lo) := Nat.mul_le_mul_left _ hv
  rw [e, Nat.testBit_two_pow_mul_add _ b2, Nat.testBit_two_pow_mul_add _ b1]
  simp only [Nat.testBit_mod_two_pow, Nat.testBit_div_two_pow]
  by_cases h1 : i < lo
  · have h2 : i < hi + 1 := by omega
    simp [h1, h2]
  · by_cases h2 : i ≤ hi
    · have h3 : i < hi + 1 := by omega
      have h4 : i - lo < hi + 1 - lo := by omega
      simp [h1, h2, h3, h4]
    · have h3 : ¬ i < hi + 1 := by omega
      simp [h1, h2, h3, show i - (hi + 1) + (hi + 1) = i from by omega]

/-- A field reads back as the part of the value that fits it. -/
theorem bits_putBits_same (x v : Nat) {hi lo : Nat} (h : lo ≤ hi) : bits (putBits x hi lo v) hi lo = v % 2 ^ (hi + 1 - lo) := by
  apply Nat.eq_of_testBit_eq; intro i
  rw [testBit_bits, testBit_putBits x v h, Nat.testBit_mod_two_pow]
  by_cases hi' : i < hi + 1 - lo
  · simp [hi', show ¬ lo + i < lo from by omega, show lo + i ≤ hi from by omega]
  · simp [hi']

/-- A field beside the one written keeps its value. -/
theorem bits_putBits_other (x v : Nat) {hi lo hi' lo' : Nat} (h : lo ≤ hi) (d : hi' < lo ∨ hi < lo') :
    bits (putBits x hi lo v) hi' lo' = bits x hi' lo' := by
  apply Nat.eq_of_testBit_eq; intro i
  rw [testBit_bits, testBit_bits, testBit_putBits x v h]
  by_cases hi2 : i < hi' + 1 - lo'
  · rcases d with d | d
    · simp [show lo' + i < lo from by omega]
    · simp [show ¬ lo' + i ≤ hi from by omega]
  · simp [hi2]

theorem putBits_lt (x v : Nat) {hi lo n : Nat} (h : lo ≤ hi) (hn : hi < n) (hx : x < 2 ^ n) : putBits x hi lo v < 2 ^ n := by
  apply Nat.lt_pow_two_of_testBit
  intro i hi'
  rw [testBit_putBits x v h]
  simp [show ¬ i < lo from by omega, show ¬ i ≤ hi from by omega,
    Nat.testBit_lt_two_pow (Nat.lt_of_lt_of_le hx (Nat.pow_le_pow_right (by decide) hi'))]

theorem bits_mod_two_pow (x : Nat) {hi lo n : Nat} (h : hi < n) : bits (x % 2 ^ n) hi lo = bits x hi lo := by
  apply Nat.eq_of_testBit_eq; intro i
  rw [testBit_bits, testBit_bits, Nat.testBit_mod_two_pow]
  by_cases h' : i < hi + 1 - lo
  · simp [show lo + i < n from by omega]
  · simp [h']

end Sys2Proof.Machine
end

