-- ==== Sys2Proof/Laws/Registers.lean ====
section
/-! SUPPORT. The register table's shape, and the register file: reading after a write, by word, by pair and by field. -/

namespace Sys2Proof.Machine

/-! ## The table -/

/-- A row's fields lie within 32 bits, apart from each other, and its reset word fits. -/
def fitRow (r : RegRow) : Bool :=
  r.fields.all (fun f => decide (f.lo ≤ f.hi) && decide (f.hi < 32)) && decide (r.fields.Pairwise (fun f g => f.hi < g.lo ∨ g.hi < f.lo)) &&
  decide (resetOf r < 2 ^ 32)

theorem rows_fit : (List.range 19).all (fun b => (rowsOf b).all fitRow) = true := by decide +kernel

theorem rowsOf_empty {b : Nat} (h : 19 ≤ b) : rowsOf b = [] := by
  unfold rowsOf; split <;> first | omega | rfl

theorem rowAt_fit {a : Nat} {r : RegRow} (h : rowAt a = some r) : fitRow r = true := by
  have hm : r ∈ rowsOf (a / 0x100000) := List.mem_of_find?_eq_some h
  by_cases hb : a / 0x100000 < 19
  · exact List.all_eq_true.mp (List.all_eq_true.mp rows_fit _ (List.mem_range.mpr hb)) r hm
  · rw [rowsOf_empty (Nat.le_of_not_lt hb)] at hm; simp at hm

theorem resetWord_lt (a : Nat) : resetWord a < 2 ^ 32 := by
  unfold resetWord
  split
  · rename_i r h
    have := rowAt_fit h
    simp only [fitRow, Bool.and_eq_true, decide_eq_true_eq] at this
    exact this.2
  · decide

/-! ## Words and pairs -/

theorem rd_lt (s : State) (a : Nat) : s.rd a < 2 ^ 32 := by
  unfold State.rd
  split
  · exact BitVec.isLt _
  · exact resetWord_lt a

@[simp] theorem rd_wr_same (s : State) (a v : Nat) : (s.wr a v).rd a = v % 2 ^ 32 := by
  simp only [State.rd, State.wr, mputD]
  by_cases h : BitVec.ofNat 32 v = BitVec.ofNat 32 (resetWord a)
  · have e := congrArg BitVec.toNat h
    simp only [BitVec.toNat_ofNat] at e
    rw [if_pos h, mget_mdel_same, e, Nat.mod_eq_of_lt (resetWord_lt a)]
  · rw [if_neg h, mget_mput_same]; rfl

theorem rd_wr_other (s : State) {a b : Nat} (v : Nat) (h : b ≠ a) : (s.wr a v).rd b = s.rd b := by
  simp only [State.rd, State.wr, mputD]
  by_cases hc : BitVec.ofNat 32 v = BitVec.ofNat 32 (resetWord a)
  · rw [if_pos hc, mget_mdel_other _ h]
  · rw [if_neg hc, mget_mput_other _ _ h]

theorem rd64_lt (s : State) (a : Nat) : s.rd64 a < 2 ^ 64 := by
  have h1 := rd_lt s a
  have h2 := rd_lt s (a + 4)
  simp only [State.rd64]; omega

@[simp] theorem rd64_wr64_same (s : State) (a v : Nat) : (s.wr64 a v).rd64 a = v % 2 ^ 64 := by
  simp only [State.rd64, State.wr64]
  rw [rd_wr_other _ _ (show a ≠ a + 4 from by omega)]
  simp only [rd_wr_same]; omega

theorem rd_wr64_other (s : State) {a b : Nat} (v : Nat) (h : b ≠ a) (h4 : b ≠ a + 4) : (s.wr64 a v).rd b = s.rd b := by
  simp only [State.wr64]; rw [rd_wr_other _ _ h4, rd_wr_other _ _ h]

theorem rd64_wr64_other (s : State) {a b : Nat} (v : Nat) (h1 : b ≠ a) (h2 : b ≠ a + 4) (h3 : b + 4 ≠ a) :
    (s.wr64 a v).rd64 b = s.rd64 b := by
  simp only [State.rd64]
  rw [rd_wr64_other s v h1 h2, rd_wr64_other s v h3 (by omega)]

@[simp] theorem rd64_bump (s : State) (a n : Nat) : (s.bump a n).rd64 a = (s.rd64 a + n) % 2 ^ 64 := by
  simp only [State.bump, rd64_wr64_same]; omega

/-! ## Fields -/

/-- A field reads back as the part of the value that fits it. -/
theorem get_set_same (s : State) (f : Fld) (v : Nat) (h : f.lo ≤ f.hi) (h' : f.hi < 64) :
    (s.set f v).get f = v % 2 ^ (f.hi + 1 - f.lo) := by
  by_cases hc : f.hi < 32
  · simp only [State.get, State.set, hc, if_true, rd_wr_same]
    rw [bits_mod_two_pow _ hc, bits_putBits_same _ _ h]
  · simp only [State.get, State.set, hc, if_false, rd64_wr64_same]
    rw [bits_mod_two_pow _ h', bits_putBits_same _ _ h]

/-- A field of another word, or beside the one written, keeps its value. -/
theorem get_set_other (s : State) (f g : Fld) (v : Nat) (h : f.lo ≤ f.hi) (hf : f.hi < 32) (hg : g.hi < 32)
    (d : f.addr ≠ g.addr ∨ g.hi < f.lo ∨ f.hi < g.lo) : (s.set f v).get g = s.get g := by
  simp only [State.get, State.set, hf, hg, if_true]
  by_cases ha : g.addr = f.addr
  · rw [ha, rd_wr_same, bits_mod_two_pow _ hg, bits_putBits_other _ _ h]
    rcases d with d | d
    · exact absurd ha.symm d
    · exact d
  · rw [rd_wr_other _ _ ha]

/-- The register file keeps its canonical form. -/
theorem wr_sorted {s : State} {a v : Nat} (h : sortedKeys s.regs = true) : sortedKeys (s.wr a v).regs = true :=
  sortedKeys_mputD h

/-! ## Access codes (R8, R513) -/

/-- One field's part of a write under the access codes. -/
def plainStep (old v a : Nat) (f : FieldRow) : Nat :=
  match f.acc with
  | .rw => putBits a f.hi f.lo (bits v f.hi f.lo)
  | .wo => putBits a f.hi f.lo (bits v f.hi f.lo)
  | .w1c => putBits a f.hi f.lo (bits old f.hi f.lo - Nat.land (bits old f.hi f.lo) (bits v f.hi f.lo))
  | _ => a

theorem plainWord_foldl (r : RegRow) (old v : Nat) : plainWord r old v = r.fields.foldl (plainStep old v) old := rfl

theorem bits_lt (x hi lo : Nat) : bits x hi lo < 2 ^ (hi + 1 - lo) := Nat.mod_lt _ (Nat.two_pow_pos _)

theorem plainStep_same (f : FieldRow) (old v a : Nat) (h : f.lo ≤ f.hi) (ha : bits a f.hi f.lo = bits old f.hi f.lo) :
    bits (plainStep old v a f) f.hi f.lo = plainField f old v := by
  unfold plainStep plainField
  cases hc : f.acc <;> simp only <;> first | exact ha | skip
  · rw [bits_putBits_same _ _ h, Nat.mod_eq_of_lt (bits_lt _ _ _)]
  · rw [bits_putBits_same _ _ h]
    exact Nat.mod_eq_of_lt (Nat.lt_of_le_of_lt (Nat.sub_le _ _) (bits_lt _ _ _))
  · rw [bits_putBits_same _ _ h, Nat.mod_eq_of_lt (bits_lt _ _ _)]

theorem plainStep_other (f g : FieldRow) (old v a : Nat) (h : f.lo ≤ f.hi) (d : f.hi < g.lo ∨ g.hi < f.lo) :
    bits (plainStep old v a f) g.hi g.lo = bits a g.hi g.lo := by
  unfold plainStep
  cases hc : f.acc <;> simp only <;> exact bits_putBits_other _ _ h d.symm

theorem plainStep_lt (f : FieldRow) (old v a : Nat) (h : f.lo ≤ f.hi) (h' : f.hi < 32) (ha : a < 2 ^ 32) :
    plainStep old v a f < 2 ^ 32 := by
  unfold plainStep
  cases hc : f.acc <;> simp only <;> first | exact ha | exact putBits_lt _ _ h h' ha

theorem plain_fold (l : List FieldRow) (old v : Nat) (hl : ∀ f ∈ l, f.lo ≤ f.hi ∧ f.hi < 32)
    (hp : l.Pairwise (fun f g => f.hi < g.lo ∨ g.hi < f.lo)) (a : Nat) (ha : a < 2 ^ 32) :
    l.foldl (plainStep old v) a < 2 ^ 32 ∧
    (∀ g : FieldRow, (∀ f ∈ l, f.hi < g.lo ∨ g.hi < f.lo) → bits (l.foldl (plainStep old v) a) g.hi g.lo = bits a g.hi g.lo) ∧
    (∀ g ∈ l, bits a g.hi g.lo = bits old g.hi g.lo → bits (l.foldl (plainStep old v) a) g.hi g.lo = plainField g old v) := by
  induction l generalizing a with
  | nil => exact ⟨ha, fun _ _ => rfl, fun _ h => by simp at h⟩
  | cons f t ih =>
    obtain ⟨hf1, hf2⟩ := hl f (List.mem_cons_self ..)
    obtain ⟨hp1, hp2⟩ := List.pairwise_cons.mp hp
    obtain ⟨i1, i2, i3⟩ := ih (fun g hg => hl g (List.mem_cons_of_mem _ hg)) hp2 (plainStep old v a f) (plainStep_lt f old v a hf1 hf2 ha)
    simp only [List.foldl_cons]
    refine ⟨i1, fun g hg => ?_, fun g hg hga => ?_⟩
    · rw [i2 g (fun x hx => hg x (List.mem_cons_of_mem _ hx)), plainStep_other f g old v a hf1 (hg f (List.mem_cons_self ..))]
    · rcases List.mem_cons.mp hg with he | he
      · subst he
        rw [i2 g (fun x hx => (hp1 x hx).symm), plainStep_same g old v a hf1 hga]
      · exact i3 g he (by rw [plainStep_other f g old v a hf1 (hp1 g he)]; exact hga)

/-- Every field of a register after a write under the access codes alone. -/
theorem plain_field {s : State} {a v : Nat} {r : RegRow} (h : rowAt a = some r) {f : FieldRow} (hf : f ∈ r.fields) :
    bits ((s.plain a v).rd a) f.hi f.lo = plainField f (s.rd a) v := by
  have hr := rowAt_fit h
  simp only [fitRow, Bool.and_eq_true, decide_eq_true_eq, List.all_eq_true] at hr
  have p := plain_fold r.fields (s.rd a) v hr.1.1 hr.1.2 (s.rd a) (rd_lt s a)
  simp only [State.plain, h, rd_wr_same, plainWord_foldl]
  rw [Nat.mod_eq_of_lt p.1]
  exact p.2.2 f hf rfl

/-- Bits that no field of the register holds keep their values. -/
theorem plain_rest {s : State} {a v : Nat} {r : RegRow} (h : rowAt a = some r) {g : FieldRow}
    (hg : ∀ f ∈ r.fields, f.hi < g.lo ∨ g.hi < f.lo) :
    bits ((s.plain a v).rd a) g.hi g.lo = bits (s.rd a) g.hi g.lo := by
  have hr := rowAt_fit h
  simp only [fitRow, Bool.and_eq_true, decide_eq_true_eq, List.all_eq_true] at hr
  have p := plain_fold r.fields (s.rd a) v hr.1.1 hr.1.2 (s.rd a) (rd_lt s a)
  simp only [State.plain, h, rd_wr_same, plainWord_foldl]
  rw [Nat.mod_eq_of_lt p.1]
  exact p.2.1 g hg

end Sys2Proof.Machine
end

