-- ==== Sys2Proof/Laws/Memory.lean ====
section
/-! SUPPORT. Memory: events leave it alone, a write is read back, and every named operation keeps its canonical form. -/

namespace Sys2Proof.Machine

/-! ## Events leave memory alone -/

@[simp] theorem setThState_mem (s : State) (t st : Nat) : (s.setThState t st).mem = s.mem := by simp [State.setThState]

@[simp] theorem threadResult_mem (s : State) (t v : Nat) : (s.threadResult t v).mem = s.mem := by simp [State.threadResult]

@[simp] theorem portSet_mem (s : State) (n p v : Nat) : (s.portSet n p v).mem = s.mem := by
  unfold State.portSet
  dsimp only
  split
  · split <;> simp
  · simp

@[simp] theorem domWake_mem (s : State) (d : Nat) : (s.domWake d).mem = s.mem := by
  unfold State.domWake; split
  · rfl
  · simp [State.domBegin]

@[simp] theorem notify_mem (s : State) (v : Nat) : (s.notify v).mem = s.mem := by
  unfold State.notify
  dsimp only
  split
  · rfl
  · split <;> split <;> simp

@[simp] theorem sendVec_mem (s : State) (k q fn v : Nat) : (s.sendVec k q fn v).mem = s.mem := by
  unfold State.sendVec
  dsimp only
  split
  · simp
  · split <;> simp

@[simp] theorem sendSignal_mem (s : State) (k : Nat) : (s.sendSignal k).mem = s.mem := by
  unfold State.sendSignal
  dsimp only
  split
  · rfl
  · split
    · simp
    · split <;> simp

@[simp] theorem signal_mem (s : State) (k : Nat) : (s.signal k).mem = s.mem := by
  unfold State.signal; dsimp only; split <;> simp

@[simp] theorem record_mem (s : State) (k c : Nat) (e : Event) : (s.record k c e).mem = s.mem := by
  unfold State.record
  dsimp only
  split
  · split <;> simp
  · rfl

@[simp] theorem raise_mem (s : State) (code source : Nat) (detail : List Nat) : (s.raise code source detail).mem = s.mem := by
  unfold State.raise State.raiseEvent
  dsimp only
  split
  · split <;> simp
  · simp

/-! ## Errors leave the bytes and the poison alone -/

@[simp] theorem logErr_bytes (s : State) (r : ErrRec) : (s.logErr r).mem.bytes = s.mem.bytes := by simp [State.logErr]
@[simp] theorem logErr_poison (s : State) (r : ErrRec) : (s.logErr r).mem.poison = s.mem.poison := by simp [State.logErr]
@[simp] theorem logErr_errs (s : State) (r : ErrRec) : (s.logErr r).mem.errs = s.mem.errs := by simp [State.logErr]

@[simp] theorem uncEvent_bytes (s : State) (a m k : Nat) : (s.uncEvent a m k).mem.bytes = s.mem.bytes := by simp [State.uncEvent]
@[simp] theorem uncEvent_poison (s : State) (a m k : Nat) : (s.uncEvent a m k).mem.poison = s.mem.poison := by simp [State.uncEvent]
@[simp] theorem uncEvent_errs (s : State) (a m k : Nat) : (s.uncEvent a m k).mem.errs = s.mem.errs := by simp [State.uncEvent]

@[simp] theorem corEvent_bytes (s : State) (a : Nat) (r : ErrRec) : (s.corEvent a r).mem.bytes = s.mem.bytes := by
  simp only [State.corEvent, apply_ite State.mem, apply_ite MemSt.bytes, raise_mem, ite_self]

@[simp] theorem wearRow_bytes (s : State) (b r : Nat) : (s.wearRow b r).mem.bytes = s.mem.bytes := by
  simp only [State.wearRow, apply_ite State.mem, raise_mem, ite_self]

@[simp] theorem wearPc_bytes (s : State) (st pc : Nat) : (s.wearPc st pc).mem.bytes = s.mem.bytes := by
  simp only [State.wearPc, apply_ite State.mem, raise_mem, inc_mem, ite_self]

@[simp] theorem corrected_bytes (s : State) (a m y : Nat) : (s.corrected a m y).mem.bytes = s.mem.bytes := by
  simp only [State.corrected, apply_ite State.mem, apply_ite MemSt.bytes, wearPc_bytes, wearRow_bytes, corEvent_bytes, logErr_bytes, bump_mem,
    ite_self]

@[simp] theorem poisonLeaf_mem (s : State) (p : Nat) : (s.poisonLeaf p).mem = s.mem := by
  unfold State.poisonLeaf
  split
  · rfl
  · split <;> simp [State.setQuire]

@[simp] theorem poisoned_bytes (s : State) (a m : Nat) : (s.poisoned a m).mem.bytes = s.mem.bytes := by
  simp only [State.poisoned, apply_ite State.mem, poisonLeaf_mem, uncEvent_bytes, bump_mem, ite_self]

@[simp] theorem inject_bytes (s : State) (a n : Nat) : (s.inject a n).mem.bytes = s.mem.bytes := by
  simp only [State.inject, apply_ite State.mem, apply_ite MemSt.bytes, ite_self]

@[simp] theorem inject_poison (s : State) (a n : Nat) : (s.inject a n).mem.poison = s.mem.poison := by
  simp only [State.inject, apply_ite State.mem, apply_ite MemSt.poison, ite_self]

@[simp] theorem breakResv_mem (s : State) (a n : Nat) : (s.breakResv a n).mem = s.mem := by
  unfold State.breakResv; split <;> rfl

/-! ## Bytes put one after another -/

/-- Bytes laid down from an address on. -/
def layBytes (a : Nat) (l : List (Byte × Nat)) (m : SMap Byte) : SMap Byte := l.foldl (fun m e => mputD m (a + e.2) e.1 0) m

theorem layBytes_wf {a : Nat} {l : List (Byte × Nat)} {m : SMap Byte} (h : Memory.wf m = true) : Memory.wf (layBytes a l m) = true := by
  induction l generalizing m with
  | nil => exact h
  | cons e t ih =>
    apply ih
    simp only [Memory.wf, SMap.wf, Bool.and_eq_true, List.all_eq_true, Bool.not_eq_true', decide_eq_false_iff_not] at h ⊢
    refine ⟨sortedKeys_mputD h.1, fun x hx => ?_⟩
    rcases mem_mputD hx with ⟨hx, hv⟩ | hx
    · subst hx; exact hv
    · exact h.2 x hx

theorem layBytes_other {a b : Nat} {l : List (Byte × Nat)} {m : SMap Byte} (h : ∀ e ∈ l, a + e.2 ≠ b) :
    mgetD (layBytes a l m) b 0 = mgetD m b 0 := by
  induction l generalizing m with
  | nil => rfl
  | cons e t ih =>
    show mgetD (layBytes a t _) b 0 = _
    rw [ih (fun x hx => h x (List.mem_cons_of_mem _ hx))]
    exact mgetD_mputD_other _ _ _ _ (Ne.symm (h e (List.mem_cons_self ..)))

/-- Bytes numbered from `k` on are found where they were laid. -/
theorem layBytes_read {a k i : Nat} {l : List Byte} {m : SMap Byte} (h : i < l.length) :
    mgetD (layBytes a (l.zipIdx k) m) (a + (k + i)) 0 = l.getD i 0 := by
  induction l generalizing k i m with
  | nil => simp at h
  | cons b t ih =>
    show mgetD (layBytes a (t.zipIdx (k + 1)) (mputD m (a + k) b 0)) (a + (k + i)) 0 = _
    cases i with
    | zero =>
      rw [layBytes_other (fun e he => by
        have := List.le_snd_of_mem_zipIdx he
        omega)]
      simp
    | succ j =>
      have h' : j < t.length := by simpa using h
      have e : k + (j + 1) = (k + 1) + j := by omega
      rw [e, ih h']; simp

theorem layBytes_out {a b : Nat} {l : List Byte} {m : SMap Byte} (h : b < a ∨ a + l.length ≤ b) :
    mgetD (layBytes a l.zipIdx m) b 0 = mgetD m b 0 := by
  apply layBytes_other
  intro e he
  have h1 := List.snd_lt_of_mem_zipIdx he
  omega

/-! ## Canonical form (R379) -/

theorem memPut_wf {s : State} {a : Nat} {l : List Byte} (h : Memory.wf s.mem.bytes = true) : Memory.wf (s.memPut a l).mem.bytes = true :=
  layBytes_wf h

theorem decodeWord_wf {s : State} {w m : Nat} {bad : List Nat} (h : Memory.wf s.mem.bytes = true) :
    Memory.wf (s.decodeWord w m bad).mem.bytes = true := by
  unfold State.decodeWord
  dsimp only
  split
  · exact h
  · simpa using h
  · split
    · simpa using h
    · split
      · simpa [State.free] using h
      · simp only [corrected_bytes]
        have e : ∀ (l : List Nat) (v : List Byte) (m : SMap Byte), Memory.wf m = true →
            Memory.wf (l.foldl (fun m i => mputD m (w * 32 + i) (v.getD i 0) 0) m) = true := by
          intro l v
          induction l with
          | nil => intro m h; exact h
          | cons x t ih => intro m h; exact ih _ (layBytes_wf (l := [(v.getD x 0, x)]) h)
        exact e _ _ _ h

theorem touchWord_wf {s : State} {w m : Nat} (h : Memory.wf s.mem.bytes = true) : Memory.wf (s.touchWord w m).mem.bytes = true := by
  unfold State.touchWord; split
  · exact h
  · exact decodeWord_wf h

theorem touch_all_wf {s : State} {m : Nat} (l : List Nat) (h : Memory.wf s.mem.bytes = true) :
    Memory.wf (l.foldl (fun (s : State) (w : Nat) => s.touchWord w m) s).mem.bytes = true := by
  induction l generalizing s with
  | nil => exact h
  | cons w t ih => exact ih (touchWord_wf h)

theorem refuse_all {s : State} {m : Nat} (l : List Nat) :
    (l.foldl (fun (s : State) (w : Nat) => (s.bump Reg.n_write_poisoned).uncEvent (w * 32) m 3) s).mem.bytes = s.mem.bytes ∧
    (l.foldl (fun (s : State) (w : Nat) => (s.bump Reg.n_write_poisoned).uncEvent (w * 32) m 3) s).mem.poison = s.mem.poison := by
  induction l generalizing s with
  | nil => exact ⟨rfl, rfl⟩
  | cons w t ih =>
    obtain ⟨h1, h2⟩ := ih (s := (s.bump Reg.n_write_poisoned).uncEvent (w * 32) m 3)
    exact ⟨h1.trans (by simp), h2.trans (by simp)⟩

theorem memWrite_wf {s : State} {m a : Nat} {l : List Byte} (h : Memory.wf s.mem.bytes = true) :
    Memory.wf (s.memWrite m a l).2.mem.bytes = true := by
  unfold State.memWrite
  dsimp only
  split
  · exact h
  · simp only [breakResv_mem, inject_bytes]
    refine layBytes_wf (a := a) ?_
    rw [(refuse_all _).1]
    exact touch_all_wf _ h

end Sys2Proof.Machine
end

