-- ==== Sys2Proof/Laws/Paths.lean ====
section
/-! SUPPORT. Accesses from outside and the fetch of NVM Express commands: what each does once its checks pass. -/

namespace Sys2Proof.Machine

/-- Without a request for a debugger's step nothing more happens. -/
theorem stepped_none {s : State} (h : s.err.stepReq = none) : s.stepped = s := by
  unfold State.stepped; rw [h]

/-- A manager frame that is not kept yet is carried out and answered, and its reply kept (R529). -/
theorem mgrFrame_new {s u : State} {k st : Nat} {f b data : List Byte} (h1 : s.glb.mgmtUp = true) (h2 : s.mgmtBody f = some b)
    (h3 : beAt b 0 4 = 0x534B4D47) (h4 : beAt b 4 1 = k) (h5 : s.get Reg.BOOT_STATUS_MODE ≠ 2) (h6 : s.on Reg.GLB_MGMT_CFG_MGR_EN = true)
    (h7 : s.on Reg.GLB_MGMT_CFG_PEER_EN = false) (h8 : s.glb.kept.find? (fun e => decide (e.1 = slice b 0 18)) = none)
    (h9 : s.access 0 k (beAt b 8 8) (beAt b 16 2) (b.drop 18) = (st, data, u)) :
    s.mgrAccess k f =
      (u.keepReply (slice b 0 18) (b.take 4 ++ beBytes 1 (k + 0x80) ++ beBytes 1 st ++ slice b 6 12 ++ data)).emit
        (.mgmt ((u.keepReply (slice b 0 18) (b.take 4 ++ beBytes 1 (k + 0x80) ++ beBytes 1 st ++ slice b 6 12 ++ data)).mgmtFrame
          (frameSource f) (b.take 4 ++ beBytes 1 (k + 0x80) ++ beBytes 1 st ++ slice b 6 12 ++ data))) := by
  subst h4
  simp only [State.mgrAccess, h1, if_true, State.mgrFrame, h2, h3, h6, h7, h8, h9]
  simp only [ne_eq, not_true, h5, or_self, if_false, Bool.not_true, Bool.false_and, Bool.or_self, Bool.false_eq_true]

/-- A JTAG request of an open JTAG session that may reach its target is carried out and answered (R502). -/
theorem lamisk_jtag {s u : State} {k st : Nat} {req data : List Byte} (h1 : beAt req 4 1 = k) (h2 : s.on Reg.DBG_STATUS_SESSION = true)
    (h3 : s.get Reg.DBG_STATUS_TRANSPORT = 0) (h4 : s.lamiskReaches k (beAt req 8 8) (beAt req 16 2) = true)
    (h5 : s.access 0x4000 k (beAt req 8 8) (beAt req 16 2) (req.drop 18) = (st, data, u)) :
    s.lamisk 0 k req = u.emit (.reply 3 0 0 (slice req 0 4 ++ beBytes 1 (k + 0x80) ++ beBytes 1 st ++ slice req 6 12 ++ data)) := by
  subst h1
  simp only [State.lamisk, if_true, ne_eq, not_true, if_false, State.lamiskAnswer, State.lamiskSession, h2, h3, h4, h5, decide_true,
    Bool.not_true, Bool.false_eq_true]

/-- A command whose queue is ready runs on the state with its entry taken. -/
theorem nvTake_ready {s : State} {d y cid : Nat} {go : State → State} (h : s.nvReady d y = true) :
    s.nvTake d y cid go = go (s.nvTaken d y cid) := by
  simp only [State.nvReady, Bool.and_eq_true, decide_eq_true_eq] at h
  obtain ⟨⟨⟨h1, h2⟩, h3⟩, h4⟩ := h
  simp only [State.nvTaken, State.nvTake, h1, h2, h3, h4]
  simp

/-- Eight bytes at the start of a doorbell page are a doorbell of the page's drawer (R121). -/
theorem bar_doorbell {s : State} {q fn d off : Nat} {l : List Byte} (h2 : s.running = true)
    (h3 : s.on (Reg.HOST_PORT_STATUS_LINK_UP q) = true) (h4 : s.fnAnswers q fn = true) (h5 : off + l.length ≤ s.barSize fn 2)
    (h6 : s.fnDrawer q fn = some d) (h7 : off % 4096 = 0) (h8 : l.length = 8) :
    s.barWrite q fn 2 off l = s.opDoorbell d (leAt l 0 8) := by
  have hh : s.halted = false := by
    simp only [State.running, Bool.and_eq_true, Bool.not_eq_true'] at h2; exact h2.1.1.1
  rw [h8] at h5
  simp only [State.barWrite, h3, h4, Nat.not_lt.mpr h5, hh, h2, h6, State.barLost, State.bellPut, h7, h8]
  simp

/-- A read or write that ends well is counted, and any ends with its status (R362). -/
theorem ioCount_end (c : Nat) (r : Nat × State) (f : State → Nat → State) :
    f (ioCount c r).2 (ioCount c r).1 = f (if r.1 = 0 then r.2.bump c else r.2) r.1 := by
  unfold ioCount; split <;> simp_all

/-- A remote access that the tail admits is carried out and answered (R406, R407). -/
theorem remoteServe_next {s v u : State} {l op st d : Nat} {f : List Byte} (h2 : 5 ≤ (s.casLink l).step) (h3 : flitOk f = true)
    (h4 : beAt f 0 2 / 2 ^ 12 = 3) (h5 : s.casAckIn l f = v) (h6 : 5 ≤ (v.casLink l).step)
    (h7 : beAt f 0 2 % 2 ^ 12 = (v.casLink l).rxSeq) (h8 : beAt f 4 1 = op) (h9 : (v.flitTaken l).remoteAdmits l f = true)
    (h10 : (v.flitTaken l).remoteAccess f = (st, d, u)) :
    s.remoteServe l op f =
      u.casSend l 3 (beBytes 1 3 ++ slice f 5 3 ++ beBytes 2 u.devId ++ slice f 8 2 ++ [0, 0, 0, 0] ++ slice f 16 8 ++ beBytes 8 d ++
        beBytes 1 st) 0 := by
  unfold State.remoteServe
  rw [State.flitIn_next h2 h3 h4 (by omega) h5 h6 h7]
  rw [if_neg (by simp [h8]), if_pos h9, h10]

end Sys2Proof.Machine
end

