-- ==== Sys2Proof/Laws/Power.lean ====
section
/-! SUPPORT. Transitions of the device: a step that ends outside a halt and a warm reset goes on with the next. -/

namespace Sys2Proof.Machine

/-- Outside a halt and a warm reset no boundary gives way. -/
theorem State.safePoint_none {s : State} {t : Trans} {n : Nat} (hh : s.halted = false) (hp : s.err.phase = .none) :
    s.safePoint t n = none := by
  simp [State.safePoint, hp, hh]

/-- A step of a transition acts and the transition goes on. -/
theorem State.stepDone_goes {s : State} {t : Trans} {dst step : Nat} {act : State → State} {next : Trans → State → State}
    (ht : s.pwr.trans = some t) (h1 : t.step = step) (h2 : t.dst = dst) (h3 : dst ≠ 0 ∨ t.src = 3) (hh : (act s).halted = false)
    (hp : (act s).err.phase = .none) : s.stepDone dst step act next = next t (act s) := by
  simp only [State.stepDone, ht]
  rw [if_pos ⟨h1, h2, h3⟩, State.safePoint_none hh hp]

/-- The same for the steps that DEEP and OFF share. -/
theorem State.entryStep_goes {s : State} {t : Trans} {step : Nat} {act : State → State} {next : Trans → State → State}
    (ht : s.pwr.trans = some t) (h1 : t.step = step) (h2 : t.dst = 3 ∨ t.dst = 4) (hh : (act s).halted = false)
    (hp : (act s).err.phase = .none) : s.entryStep step act next = next t (act s) := by
  simp only [State.entryStep, ht]
  apply State.stepDone_goes ht h1 _ _ hh hp
  · rcases h2 with h | h <;> simp [h]
  · left; split <;> simp

end Sys2Proof.Machine
end

