-- ==== Sys2Proof/Laws/Transport.lean ====
section
/-! SUPPORT. The transport engine: what taking a packet does once its connection accepts it. -/

namespace Sys2Proof.Machine

/-- An accepted Spline packet of a wire opcode asked for leaves XPT[p], is handled by `go`, and its quire is released. -/
theorem State.splTake_accepts {s v : State} {p : Nat} {wires : List Nat} {go : Nat → XIn → State → State} {f : Frame}
    {rest : List (Frame × Nat)} {u : XPkt} (hp : State.xptPick (mgetD s.tm.xptQ p []) [] s = (some (f, 0, rest), v))
    (hu : parseUdp (v.frameBytes f) = some u) (ha : v.splAccepts (beAt u.pl 4 4) u = true) (hw : wires.contains (beAt u.pl 1 1) = true) :
    s.splTake p wires go = (go (beAt u.pl 4 4) (splIn u f.quire (splBody u)) (v.xptLeave p rest)).release f.quire := by
  simp only [State.splAccepts, Bool.and_eq_true, Bool.not_eq_true', decide_eq_false_iff_not] at ha
  obtain ⟨⟨⟨⟨⟨⟨⟨⟨a1, a2⟩, a3⟩, a4⟩, a5⟩, a6⟩, a7⟩, a8⟩, a9⟩ := ha
  have hu' : parseUdp (State.frameBytes (v.xptLeave p rest) f) = some u := hu
  have b1 : (v.xptLeave p rest).on Reg.XPT_CFG_ENABLE = true := a1
  have b4 : ((v.xptLeave p rest).conn (beAt u.pl 4 4)).st ≠ 0 := a4
  have b5 : (v.xptLeave p rest).quiescing ((v.xptLeave p rest).conn (beAt u.pl 4 4)).drawer = false := a5
  have b6 : (v.xptLeave p rest).xptAccepts (beAt u.pl 4 4) (beAt u.pl 12 4) u = true := a6
  have b7 : ((v.xptLeave p rest).conn (beAt u.pl 4 4)).roce = false := a7
  have b8 : ((v.xptLeave p rest).conn (beAt u.pl 4 4)).enc = false := a8
  have e : s.splTake p wires go = ((v.xptLeave p rest).splPacket f go).release f.quire := by
    simp only [State.splTake, hp, hu, a3, State.xptLeave]
    have hw' : beAt u.pl 1 1 ∈ wires := by simpa using hw
    simp [hw']
  rw [e]
  congr 1
  unfold State.splPacket
  rw [hu']
  simp only [b1, a2, a3, b4, b5, b6, b7, b8, a9, splBody]
  simp

/-- An accepted RoCEv2 packet with a good ICRC, a CNP when one is asked for, leaves XPT[p] and is handled; its quire is released. -/
theorem State.roceTake_accepts {s v : State} {p : Nat} {cnp : Bool} {f : Frame} {rest : List (Frame × Nat)} {u : XPkt}
    (hp : State.xptPick (mgetD s.tm.xptQ p []) [] s = (some (f, 1, rest), v)) (hu : parseUdp (v.frameBytes f) = some u)
    (ha : v.roceAccepts u = true) (hc : decide (beAt u.pl 0 1 = 0x81) = cnp) :
    s.roceTake p cnp true = (if cnp then (v.xptLeave p rest).windowEnd (beAt u.pl 5 3) true
      else (v.xptLeave p rest).roceIn (beAt u.pl 5 3) u).release f.quire := by
  simp only [State.roceAccepts, Bool.and_eq_true, Bool.not_eq_true', decide_eq_true_eq] at ha
  obtain ⟨⟨⟨⟨⟨⟨⟨⟨a1, a2⟩, a3⟩, a4⟩, a5⟩, a6⟩, a7⟩, a8⟩, a9⟩ := ha
  have b1 : (v.xptLeave p rest).on Reg.XPT_CFG_ENABLE = true := a1
  have b5 : liveConn ((v.xptLeave p rest).conn (beAt u.pl 5 3)).st = true := a5
  have b6 : ((v.xptLeave p rest).conn (beAt u.pl 5 3)).roce = true := a6
  have b7 : u.src = ((v.xptLeave p rest).conn (beAt u.pl 5 3)).raddr := a7
  have b8 : u.dst = (v.xptLeave p rest).localAddr ((v.xptLeave p rest).conn (beAt u.pl 5 3)).laddr := a8
  have b9 : (v.xptLeave p rest).quiescing ((v.xptLeave p rest).conn (beAt u.pl 5 3)).drawer = false := a9
  have a3' : ¬ u.pl.length < 16 := by omega
  have e : s.roceTake p cnp true = ((v.xptLeave p rest).roceOne cnp true u).release f.quire := by
    simp only [State.roceTake, hp, hu]
    simp [hc, State.xptLeave]
  rw [e]
  congr 1
  unfold State.roceOne
  simp only [b1, a2, a3', a4, b5, b6, ← b7, ← b8, b9]
  simp

end Sys2Proof.Machine
end

