-- ==== Sys2Proof/Tests/Base.lean ====
section
/-! SUPPORT. Small states for the tests and the witnesses. -/

namespace Sys2Proof.Machine

/-- A device that runs with every register at its reset value: the state right after reset, with power-on done. -/
def up : State :=
  { State.reset with
    pwr := { State.reset.pwr with phase := .up } }

/-- An entry of 64 bytes: its opcode, other bytes by their offsets, and zeros. -/
def ent (op : Nat) (l : List (Nat × Nat)) : List Byte := (List.range 64).map (fun i => BitVec.ofNat 8 (mgetD ((0, op) :: l) i 0))

/-- An item at the head of a ring with nothing before it. -/
def r0 : Ref := ⟨0, 0, 7, true⟩

/-- A quiesce sequence of drawer 5 in a step. -/
def quiet (step : QStep) : State :=
  up.setQuiesce 5 { Quiesce.fresh 0 [] false false false 0 with step := step }

/-- An ACTIVE ring of a kind with 64 entries, linked to ring `l`. -/
def rg (k : RingKind) (l : Nat) : Ring := Ring.fresh k 6 0x1000 l none 0

/-- Drawer 5, ACTIVE, with its admin ring, its completion ring 0 and a general ring 1. -/
def drawer5 : State :=
  { (up.set (Reg.DRW_DRAWER_STATUS_STATE 5) 3) with
    rings := [(ringKey 5 0, rg .sub (ringKey 5 4194304)), (ringKey 5 1, rg .sub (ringKey 5 4194304)), (ringKey 5 4194304, rg .cpl 0)] }

/-- An item of drawer 5's admin ring. -/
def ra : Ref := ⟨ringKey 5 0, 0, 7, true⟩

/-- An item of drawer 5's general ring. -/
def rgen : Ref := ⟨ringKey 5 1, 0, 7, true⟩

/-- Table 1, exact match on-die in shard 0, with keys of one word. -/
def tbl1 : State :=
  ((up.set (Reg.TBL_TABLE_CFG_ENABLE 1) 1).set (Reg.TBL_TABLE_CFG_KIND 1) 1).set (Reg.TBL_TABLE_CFG_KEY_WORDS 1) 1

/-- Table 1 as a longest-prefix-match table. -/
def tblL : State := tbl1.set (Reg.TBL_TABLE_CFG_KIND 1) 3

/-- An item of control slot 2, shard 0's. -/
def r2 : Ref := ⟨ctlKey 2, 0, 7, true⟩

/-- An action record that drops. -/
def act0 : List Byte := List.replicate 16 0

/-- A quire of thread 3 with 4 bytes of data. -/
def q4 : Quire :=
  { refcnt := 1, poison := false, owner := 0x2003, profile := 0, arrival := 0, ptrs := [], leaves := [0x80000005], data := [1, 2, 3, 4], tail := [],
    copying := false }

/-- That quire at leaf 5 of the on-die tier. -/
def qst : State := { up with cell := { up.cell with quires := [(0x80000005, q4)] } }

/-- A frame of network port 0 in that quire. -/
def fr0 : Frame :=
  { quire := 0x80000005, kind := 0, port := 0, drawer := 0, gen := 0, src := 0, rxTime := none, ref := none, tsReq := false, tmpl := 0,
    casc := none, pre := [], skip := 0 }

/-- An issued DMA read with tag 5. -/
def rd5 : DmaRead :=
  { tag := 5, drawer := 1, gen := 0, ref := ⟨0, 0, 0, false⟩, addr := 0x1000, len := 64, use := .frame, issued := true, pos := 0,
    data := none }

/-- A CONNECTED connection of drawer 5 between two addresses 0.0.0.0. -/
def cn0 : Conn := { Conn.unused with st := 2, drawer := 5, raddr := 0xFFFF00000000, cwnd := 65536 }

/-- Drawer 5 with connection 0 at hand, in a state of your choosing, and one granule of region keys. -/
def xpt5 (x : Conn) : State :=
  { ((up.set (Reg.DRW_DRAWER_STATUS_STATE 5) 3).set Reg.XPT_CFG_ENABLE 1).set (Reg.XPT_LOCAL_ADDR_ADDR 0 2) 0xFFFF with
    drw := { up.drw with shares := [(5, [{ pool := 9, inst := 0xFFFF, reserve := 0, ceiling := 8, extents := [(0, 1)] },
      { pool := 0xA, inst := 0xFFFF, reserve := 0, ceiling := 8, extents := [(0, 1)] }])] }
    xpt := { up.xpt with conns := [(0, x)], cache := [0] } }

/-- Items of connection 0's send ring and receive ring. -/
def rsnd : Ref := ⟨ringKey 5 8388608, 0, 7, true⟩
def rrcv : Ref := ⟨ringKey 5 8388609, 0, 7, true⟩

/-- A Spline packet of a wire opcode for connection 0 in an IPv4 frame. -/
def spl (w : Nat) : List Byte :=
  List.replicate 12 0 ++ [8, 0, 0x45] ++ List.replicate 8 0 ++ [17] ++ List.replicate 14 0 ++ [0, 104, 0, 0, 0x10, BitVec.ofNat 8 w] ++
  List.replicate 94 0

/-- Connection 0 with a frame at the head of XPT[0], of kind 0 (Spline) or 1 (RoCEv2). -/
def xptGot (x : Conn) (k : Nat) (l : List Byte) : State :=
  { xpt5 x with
    cell := { up.cell with quires := [(0x80000005, { q4 with data := l })] }
    tm := { up.tm with xptQ := [(0, [(fr0, k)])] } }

/-- A RoCEv2 packet of an opcode for connection 0 in an IPv4 frame, and what is read from it. -/
def roceB (op : Nat) : List Byte :=
  List.replicate 12 0 ++ [8, 0, 0x45] ++ List.replicate 8 0 ++ [17] ++ List.replicate 14 0 ++ [0, 40, 0, 0, BitVec.ofNat 8 op, 0, 0xFF, 0xFF] ++
  List.replicate 28 0
def roceX (op : Nat) : XPkt :=
  { src := 0xFFFF00000000, dst := 0xFFFF00000000, ce := false, ok := true, pl := [BitVec.ofNat 8 op, 0, 0xFF, 0xFF] ++ List.replicate 28 0 }

/-- A packet of connection 0 that is out, with PSN 0. -/
def xu0 : XUnack :=
  { psn := 0, wire := 1, ptr := 0x80000005, path := 0, time := 0, order := 0, passed := 0, once := true, len := 4, item := none,
    fill := false, total := 4, seq := 0 }

/-- Thread 3 of cluster 0 runs and may read endpoint 0 of its core, which takes its group's messages and frames. -/
def run3 : State :=
  (((up.setThState 3 1).set (Reg.CORE_THREAD_STATUS_MASTER 3) 3).wr (Reg.CORE_EP_CFG 0 0 0) 0x8F000003)

/-- A message of one word to endpoint 0. -/
def msg0 : Msg := { id := 0, src := 0, dest := 0, reply := 0, words := [5] }

/-- The same with that message at the endpoint. -/
def run3m : State := run3.setEndp 0 { run3.endp 0 with msgs := [msg0] }

/-- Thread 0 runs at the start of the boot SRAM, where `addi x1, x0, 5` stands. -/
def run0 : State :=
  { ((up.setThread 0 { Thread.reset with pc := 0x3100000000 }).setThState 0 1) with
    mem := { up.mem with bytes := [(bootBase, 0x93), (bootBase + 2, 0x50)] } }

/-- Drawer 5 with one granule of connections, 16 key entries, and a key of a type at its entry 0. -/
def acc5 (ty : Nat) : State :=
  { (((drawer5.set (Reg.DRW_DRAWER_BIND_BOUND 5) 1).set (Reg.ACC_DRW_KT_HIGH_COUNT 5) 16).set Reg.ACC_CFG_KT_COUNT 1).set Reg.ACC_CFG_ENABLE 1 with
    drw := { up.drw with shares := [(5, [{ pool := 9, inst := 0xFFFF, reserve := 0, ceiling := 8, extents := [(0, 1)] }])] }
    acc := { up.acc with keys := if ty = 0 then [] else [(0, { type := ty, users := 0, secret := [] })] } }

/-- A seal stream of drawer 5 at its boundary. -/
def seal0 : SealStream :=
  { next := 0, last := 0, lastTime := 0, link := [], sign := 1, hybrid := none, records := 0, millis := 1, ring := ringKey 5 4194304,
    gap := false, overdue := false, wait := [] }

/-- That stream at entry 0, with connection 0 bound to it or not. -/
def acc5s (bound : Bool) : State :=
  (({ acc5 12 with xpt := { up.xpt with conns := [(0, { cn0 with st := 1, sealTo := if bound then some 0 else none })] } }).setStream 0
    seal0)

/-- A volume of one target, and one of two whose second is rebuilt. -/
def vol0 : Vol := { k := 1, m := 0, clog := 14, blocks := 100, targets := [], cache := [], flushes := [], seq := 1 }
def vol1 : Vol :=
  { vol0 with m := 1, targets := [(0, { conn := 0, rkey := 0, roff := 0, failed := false, cursor := none }),
      (1, { conn := 1, rkey := 0, roff := 0, failed := false, cursor := some 0 })] }

/-- Drawer 5 of the NVMe personality with namespace 1. -/
def nvme5 : State :=
  (((up.set (Reg.DRW_DRAWER_STATUS_STATE 5) 3).set (Reg.DRW_DRAWER_STATUS_PERSONALITY 5) 1).setVol 161 vol0)

/-- A neighbour's heartbeat. -/
def peer0 : CasPeer :=
  { dev := 9, valid := true, stack := false, timeOk := false, prio := 0, sid := 0, head := 0, link := 0, depth := 0, tx := 0, rx := 0 }

/-- Winak link 0 is UP. -/
def lk6 : State := (up.setCasLink 0 { CasLink.reset with step := 6, peer := some peer0 }).set (Reg.CAS_LINK_STATUS_STATE 0) 4

/-- A steering of slice 0 with the peer, asked for or answered. -/
def steer0 (ans : Bool) : Steer :=
  { lane := 0, pair := true, byJig := false, reverse := false, loaded := false, good := 0, answer := ans, acked := ans }

/-- A directory with a BOUND image in each slot. -/
def dir5 : Dir :=
  { seq := 1, copy := 0, a := { base := 0x100000, size := 0x100000, st := 2, gen := 0 },
    b := { base := 0x200000, size := 0x100000, st := 2, gen := 1 } }

/-- Recovery with a command and its arguments in the mailbox. -/
def rec5 (op a b : Nat) : State :=
  (up.withBoot (fun x => { x with dir := some dir5, cmd := 2 ^ 31 + op, arg0 := a, arg1 := b })).set Reg.BOOT_STATUS_MODE 2

/-- A halt whose dump is being written. -/
def dump5 : Dump :=
  { seq := 1, cause := 5, complete := false, truncated := false, oneStack := false, secLost := false, time := 0, timeDone := 0, detail := [],
    ready := [], secondary := [], image := 0, build := [] }
def halt5 : State :=
  ((({ up with err := { up.err with short := some dump5 } } : State).set Reg.GLB_HALT_STATUS_HALTED 1).set Reg.ERR_COLO_STATUS_WRITING
    1).set Reg.MEM_STATUS_HBM_READY 1

/-- A frame's head to the broadcast address, and a request's 18 bytes with its data (R502, R529). -/
def mgrHead : List Byte := [0xFF, 0xFF, 0xFF, 0xFF, 0xFF, 0xFF, 2, 0, 0, 0, 0, 1, 0x88, 0xB5]
def mgrReq (op a : Nat) (l : List Byte) : List Byte := [0x53, 0x4B, 0x4D, 0x47] ++ beBytes 1 op ++ [0, 0, 1] ++ beBytes 8 a ++ [0, 4] ++ l

/-- A management port that takes requests, and a JTAG session of an unlocked device; HBM is ready in both. -/
def mgmt5 : State :=
  (({ up with glb := { up.glb with mgmtUp := true } } : State).set Reg.GLB_MGMT_CFG_MGR_EN 1).set Reg.MEM_STATUS_HBM_READY 1
def lam5 : State := ((up.set Reg.DBG_STATUS_SESSION 1).set Reg.DBG_STATUS_UNLOCKED 1).set Reg.MEM_STATUS_HBM_READY 1

/-- Host port 0 with its link up, the manager function and drawer 5's VF, both answering. -/
def bar5 : State :=
  (((((up.set (Reg.HOST_PORT_STATUS_LINK_UP 0) 1).set Reg.HOST_MGR_CFG_MGR_PORT_ACTIVE 0).set (Reg.DRW_DRAWER_BIND_BOUND 5) 1).set
    (Reg.DRW_DRAWER_STATUS_STATE 5) 3).set (Reg.HOST_PF_CFG_TOTAL_VFS 0 0) 1).setHport 0
    { up.hport 0 with mse := [3, 4], pfEn := [0], vfEn := [0], numVfs := [(0, 1)] }

/-- A remote read (1) or write (2) of GLB_SCRATCH by device 9, and the tail that it heads. -/
def remReq (op : Nat) : List Byte := beBytes 1 op ++ [0, 0, 1, 0, 9, 0, 0, 0, 0, 0, 0] ++ beBytes 8 0x80 ++ [0, 0, 0, 0, 1, 2, 3, 4]
def tail5 : State :=
  (((lk6.set Reg.CAS_STACK_CFG_STACK_MGR 1).set Reg.CAS_STACK_STATUS_ROLE 2).set Reg.CAS_STACK_STATUS_HEAD_ID 9).set
    (Reg.CAS_LINK_STATUS_PEER_ID 0) 9

/-- A volume whose one target is set. -/
def vol2 : Vol := { vol0 with targets := [(0, { conn := 0, rkey := 0, roff := 0, failed := false, cursor := none })] }

/-- Drawer 5 as an enabled NVM Express controller with I/O queue pair 1, an entry in each submission queue, and namespace 1. -/
def nvq5 : State :=
  let c := Ring.stdQueue .cpl 0x1000 0 16 none 0
  let q := fun y => { Ring.stdQueue .sub 0x2000 (cqKey 5 y) 16 none 0 with peer := 1, limit := 1 }
  { (((up.set (Reg.DRW_DRAWER_STATUS_STATE 5) 3).set (Reg.DRW_DRAWER_STATUS_PERSONALITY 5) 1).set (Reg.DRW_DRAWER_BIND_BOUND 5) 1) with
    rings := [(sqKey 5 0, q 0), (sqKey 5 1, q 1), (cqKey 5 0, c), (cqKey 5 1, c)]
    acc := { up.acc with vols := [(volKey 5 1, vol2)] }
    drw := { up.drw with
      person := [(5, { Person.reset with cc := 1, rdy := true })]
      shares := [(5, [{ pool := 0xB, inst := 0xFFFF, reserve := 0, ceiling := 8, extents := [] },
        { pool := 0xC, inst := 0xFFFF, reserve := 0, ceiling := 8, extents := [] }])] } }

/-- The same with no submission queue bound to I/O completion queue 1. -/
def nvqC : State := nvq5.setRing (sqKey 5 1) Ring.absent

/-- Drawer 5 as a virtio-net device with queue pair 0 and its control virtqueue. -/
def vio5 : State :=
  let c := Ring.stdQueue .cpl 0x1000 0 17 none 0
  let q := fun y => Ring.stdQueue .sub 0x2000 (cqKey 5 y) 17 none 0
  { (((up.set (Reg.DRW_DRAWER_STATUS_STATE 5) 3).set (Reg.DRW_DRAWER_STATUS_PERSONALITY 5) 2).set (Reg.DRW_DRAWER_BIND_BOUND 5) 1) with
    rings := [(sqKey 5 0, q 0), (sqKey 5 1, q 1), (sqKey 5 2, q 2), (cqKey 5 0, c), (cqKey 5 1, c), (cqKey 5 2, c)]
    drw := { up.drw with
      person := [(5, { Person.reset with status := 4 })]
      shares := [(5, [{ pool := 0xB, inst := 0xFFFF, reserve := 0, ceiling := 8, extents := [] },
        { pool := 0xC, inst := 0xFFFF, reserve := 0, ceiling := 8, extents := [] }])] } }

end Sys2Proof.Machine
end

