-- ==== Sys2Proof/Tests/Slice0.lean ====
section
/-! SUPPORT. The model's own tests: an ill-formed command for each check, a few commands on small states, and for every statement with
hypotheses a state and operands that meet them. -/

namespace Sys2Proof.Machine

set_option Elab.async false

/-! ## Ill-formed commands are refused (WellFormed)

For each chapter of the spec: the commands whose operands are all in range, and for each check of each command one that breaks that check
alone. -/

/-- A work item in range, and one whose ring key is not; a read that brought nothing. -/
def rOk : Ref := ⟨0, 0, 0, false⟩
def rBad : Ref := ⟨2 ^ 40 + 64, 0, 0, false⟩
def hOk : HostIn := ⟨0, []⟩
theorem test_wf_ref : rOk.wf = true ∧ rBad.wf = false ∧ (⟨0, 2 ^ 32, 0, false⟩ : Ref).wf = false ∧ (⟨0, 0, 2 ^ 32, false⟩ : Ref).wf = false := by
  decide
theorem test_wf_noc : ([
    .nocTargetAccess 0 0 0 0 0 0 0, .nocFlush 0 0, .clampRequest 0] : List Instr).all (fun c => c.wf) = true ∧
  ([
    .nocTargetAccess 65536 0 0 0 0 0 0, .nocTargetAccess 0 65536 0 0 0 0 0, .nocTargetAccess 0 0 18446744073709551616 0 0 0 0,
    .nocTargetAccess 0 0 0 0 8 0 0, .nocTargetAccess 0 0 0 0 0 256 0, .nocTargetAccess 0 0 0 0 0 0 65536, .nocFlush 65536 0,
    .nocFlush 0 65536, .clampRequest 128] : List Instr).all (fun c => !c.wf) = true := by
  decide +kernel
theorem test_wf_lanes : ([
    .roleApply 0 0, .roleApplyDone 0, .portAdminUp 0 0, .autonegDone 0, .linkTrainingDone 0, .fecLock 0, .bringupStepTimeout 0,
    .linkAlignmentLoss 0 false, .signalDetectChange 0 0 false, .netFrameRx 0 [] false, .fecWindowEnd 0 0 0 0, .spareSteerGo 0 0,
    .spareAdaptConverged 0, .spareChangeover 0 0, .spareVerifyEnd 0 false 0, .spareRevert 0, .todStepGo 0, .todRateWrite 0] : List Instr).all (fun c => c.wf) = true ∧
  ([
    .roleApply 64 0, .roleApply 0 4294967296, .roleApplyDone 64, .portAdminUp 512 0, .portAdminUp 0 4294967296, .autonegDone 512,
    .linkTrainingDone 512, .fecLock 512, .bringupStepTimeout 512, .linkAlignmentLoss 512 false, .signalDetectChange 64 0 false,
    .signalDetectChange 0 9 false, .netFrameRx 512 [] false, .fecWindowEnd 512 0 0 0, .fecWindowEnd 0 16777216 0 0,
    .spareSteerGo 64 0, .spareSteerGo 0 4294967296, .spareAdaptConverged 64, .spareChangeover 64 0, .spareChangeover 0 4,
    .spareVerifyEnd 64 false 0, .spareVerifyEnd 0 false 16777216, .spareRevert 64, .todStepGo 4294967296, .todRateWrite 4294967296] : List Instr).all (fun c => !c.wf) = true := by
  decide +kernel
theorem test_wf_hosts : ([
    .hostTrainingStart 0, .hostLinkL0 0 0 0 false, .hostRateChangeEnd 0 0 0 false, .hostLinkSettledLow 0 0, .hostRetrain 0,
    .hostRetrainDone 0 0 0 false 0, .hostEnableSet 0, .hostEnableClear 0, .totalVfsWrite 0 0 0, .orderModeWrite 0 0,
    .mgrPortWrite 0, .mgrPortPlace, .configRequest 0 0 .other, .barMemoryRead 0 0 0 0 0 0, .barMemoryWrite 0 0 0 0 [] 0,
    .hostDmaCompletion 0 0 false [], .hostDmaTimeout 0 0, .atsTranslationReply 0 0 0 0 0, .atsInvalidationRequest 0 0 0 0 0,
    .atsInvalidationComplete 0 0, .ltrChange 0, .d3hotEntry 0 0, .pmeTurnOff 0, .l2EntryDone 0, .wakeConditionL2 0 0 0,
    .perstAssert 0, .perstRelease 0, .hotResetRx 0, .linkDisableRx 0, .surpriseLoss 0, .vfFlr 0 0 0, .pfFlr 0 0, .portRetire 0,
    .retireAck 0, .retireTimeout 0, .hostLinkRecovery 0, .cfgReady 0] : List Instr).all (fun c => c.wf) = true ∧
  ([
    .hostTrainingStart 64, .hostLinkL0 64 0 0 false, .hostLinkL0 0 8 0 false, .hostLinkL0 0 0 16 false,
    .hostRateChangeEnd 64 0 0 false, .hostRateChangeEnd 0 8 0 false, .hostRateChangeEnd 0 0 16 false, .hostLinkSettledLow 64 0,
    .hostLinkSettledLow 0 8, .hostRetrain 64, .hostRetrainDone 64 0 0 false 0, .hostRetrainDone 0 8 0 false 0,
    .hostRetrainDone 0 0 16 false 0, .hostEnableSet 64, .hostEnableClear 64, .totalVfsWrite 64 0 0, .totalVfsWrite 0 3 0,
    .totalVfsWrite 0 0 4294967296, .orderModeWrite 64 0, .orderModeWrite 0 2, .mgrPortWrite 128, .configRequest 64 0 .other,
    .configRequest 0 1027 .other, .barMemoryRead 64 0 0 0 0 0, .barMemoryRead 0 1027 0 0 0 0, .barMemoryRead 0 0 8 0 0 0,
    .barMemoryRead 0 0 0 4294967296 0 0, .barMemoryRead 0 0 0 0 65536 0, .barMemoryRead 0 0 0 0 0 65536,
    .barMemoryWrite 64 0 0 0 [] 0, .barMemoryWrite 0 1027 0 0 [] 0, .barMemoryWrite 0 0 8 0 [] 0,
    .barMemoryWrite 0 0 0 4294967296 [] 0, .barMemoryWrite 0 0 0 0 [] 65536, .hostDmaCompletion 64 0 false [],
    .hostDmaCompletion 0 16384 false [], .hostDmaTimeout 64 0, .hostDmaTimeout 0 16384, .atsTranslationReply 64 0 0 0 0,
    .atsTranslationReply 0 1027 0 0 0, .atsTranslationReply 0 0 18446744073709551616 0 0,
    .atsTranslationReply 0 0 0 18446744073709551616 0, .atsTranslationReply 0 0 0 0 4, .atsInvalidationRequest 64 0 0 0 0,
    .atsInvalidationRequest 0 256 0 0 0, .atsInvalidationRequest 0 0 1027 0 0, .atsInvalidationRequest 0 0 0 18446744073709551616 0,
    .atsInvalidationComplete 64 0, .atsInvalidationComplete 0 256, .ltrChange 64, .d3hotEntry 64 0, .d3hotEntry 0 1027,
    .pmeTurnOff 64, .l2EntryDone 64, .wakeConditionL2 64 0 0, .wakeConditionL2 0 1027 0, .wakeConditionL2 0 0 256, .perstAssert 64,
    .perstRelease 64, .hotResetRx 64, .linkDisableRx 64, .surpriseLoss 64, .vfFlr 64 0 0, .vfFlr 0 3 0, .vfFlr 0 0 256, .pfFlr 64 0,
    .pfFlr 0 3, .portRetire 64, .retireAck 64, .retireTimeout 64, .hostLinkRecovery 64, .cfgReady 64] : List Instr).all (fun c => !c.wf) = true := by
  decide +kernel
theorem test_wf_drawers : ([
    .vfEnableSet 0 0 0, .vfEnableClear 0 0, .hostTotalVfsWrite 0 0 0, .drawerCreate rOk [] [], .drawerBind rOk [],
    .drawerUnbind rOk [], .drawerQuiesce rOk [], .drawerReset rOk [], .drawerResume rOk [], .drawerResize rOk [] [],
    .drawerDestroy rOk [], .fenceSet rOk [], .fenceClear rOk [], .quiesceFetchIdle 0, .quiesceDrainDone 0, .quiesceDrainTimeout 0,
    .quiesceAbortDone 0, .generationPurgeDone 0, .quiesceFlushReadDone 0, .resetStepDone 0, .nvmeCcEnClear 0, .nvmeShutdown 0 0,
    .nvmeDeleteIoSq 0 0 0, .nvmeDeleteIoCq 0 0 0, .nvmeCreateIoSq 0 0 0 0 0 false 0, .nvmeCreateIoCq 0 0 0 0 0 false false 0,
    .nvmeGetLogPage 0 0 0 0 [], .nvmeIdentify 0 0 0 0 [], .nvmeAbort 0 0 0 0, .nvmeSetFeatures 0 0 0 0, .nvmeGetFeatures 0 0 0,
    .nvmeAsyncEventRequest 0 0, .virtioDeviceStatusReset 0, .virtioNetCtrlMqVqPairsSet 0 0 0 0, .virtioCtrlOther 0 0 0] : List Instr).all (fun c => c.wf) = true ∧
  ([
    .vfEnableSet 64 0 0, .vfEnableSet 0 3 0, .vfEnableSet 0 0 512, .vfEnableClear 64 0, .vfEnableClear 0 3,
    .hostTotalVfsWrite 64 0 0, .hostTotalVfsWrite 0 3 0, .hostTotalVfsWrite 0 0 512, .drawerCreate rBad [] [], .drawerBind rBad [],
    .drawerUnbind rBad [], .drawerQuiesce rBad [], .drawerReset rBad [], .drawerResume rBad [], .drawerResize rBad [] [],
    .drawerDestroy rBad [], .fenceSet rBad [], .fenceClear rBad [], .quiesceFetchIdle 4096, .quiesceDrainDone 4096,
    .quiesceDrainTimeout 4096, .quiesceAbortDone 4096, .generationPurgeDone 4096, .quiesceFlushReadDone 4096, .resetStepDone 4096,
    .nvmeCcEnClear 4096, .nvmeShutdown 4096 0, .nvmeShutdown 0 4, .nvmeDeleteIoSq 4096 0 0, .nvmeDeleteIoSq 0 65536 0,
    .nvmeDeleteIoSq 0 0 65536, .nvmeDeleteIoCq 4096 0 0, .nvmeDeleteIoCq 0 65536 0, .nvmeDeleteIoCq 0 0 65536,
    .nvmeCreateIoSq 4096 0 0 0 0 false 0, .nvmeCreateIoSq 0 65536 0 0 0 false 0,
    .nvmeCreateIoSq 0 0 18446744073709551616 0 0 false 0, .nvmeCreateIoSq 0 0 0 65536 0 false 0,
    .nvmeCreateIoSq 0 0 0 0 65536 false 0, .nvmeCreateIoSq 0 0 0 0 0 false 65536, .nvmeCreateIoCq 4096 0 0 0 0 false false 0,
    .nvmeCreateIoCq 0 65536 0 0 0 false false 0, .nvmeCreateIoCq 0 0 18446744073709551616 0 0 false false 0,
    .nvmeCreateIoCq 0 0 0 65536 0 false false 0, .nvmeCreateIoCq 0 0 0 0 65536 false false 0,
    .nvmeCreateIoCq 0 0 0 0 0 false false 65536, .nvmeGetLogPage 4096 0 0 0 [], .nvmeGetLogPage 0 65536 0 0 [],
    .nvmeGetLogPage 0 0 256 0 [], .nvmeIdentify 4096 0 0 0 [], .nvmeIdentify 0 65536 0 0 [], .nvmeIdentify 0 0 4294967296 0 [],
    .nvmeIdentify 0 0 0 256 [], .nvmeAbort 4096 0 0 0, .nvmeAbort 0 65536 0 0, .nvmeAbort 0 0 65536 0, .nvmeAbort 0 0 0 65536,
    .nvmeSetFeatures 4096 0 0 0, .nvmeSetFeatures 0 65536 0 0, .nvmeSetFeatures 0 0 256 0, .nvmeSetFeatures 0 0 0 4294967296,
    .nvmeGetFeatures 4096 0 0, .nvmeGetFeatures 0 65536 0, .nvmeGetFeatures 0 0 256, .nvmeAsyncEventRequest 4096 0,
    .nvmeAsyncEventRequest 0 65536, .virtioDeviceStatusReset 4096, .virtioNetCtrlMqVqPairsSet 4096 0 0 0,
    .virtioNetCtrlMqVqPairsSet 0 65536 0 0, .virtioNetCtrlMqVqPairsSet 0 0 65536 0,
    .virtioNetCtrlMqVqPairsSet 0 0 0 18446744073709551616, .virtioCtrlOther 4096 0 0, .virtioCtrlOther 0 65536 0,
    .virtioCtrlOther 0 0 18446744073709551616] : List Instr).all (fun c => !c.wf) = true := by
  decide +kernel
theorem test_wf_rings : ([
    .nvmeDoorbell 0 0 false 0 [], .virtioNotify 0 0 0 0 [], .doorbell 0 0, .slip 0 0 false [], .attachSlip 0 0 false [],
    .nop rOk [], .ringCreate rOk [], .cplCreate rOk [], .ringDisable rOk [], .ringDestroy rOk [], .cplModerate rOk [],
    .ringStopped 0, .ringFetch 0 0 [], .ownerStaleRetry 0 0, .headMirrorTimer 0, .cqStarveTimer 0, .msixModTimer 0,
    .frameSend rOk [] [], .frameRecv rOk [] [], .controlDoorbellReg 0, .controlSlotEnable 0 0, .controlSlotDisable 0 0] : List Instr).all (fun c => c.wf) = true ∧
  ([
    .nvmeDoorbell 4096 0 false 0 [], .nvmeDoorbell 0 1024 false 0 [], .nvmeDoorbell 0 0 false 65536 [], .virtioNotify 4096 0 0 0 [],
    .virtioNotify 0 256 0 0 [], .virtioNotify 0 0 65536 0 [], .virtioNotify 0 0 0 65536 [], .doorbell 4097 0,
    .doorbell 0 18446744073709551616, .slip 4097 0 false [], .slip 0 512 false [], .attachSlip 4096 0 false [],
    .attachSlip 0 64 false [], .nop rBad [], .ringCreate rBad [], .cplCreate rBad [], .ringDisable rBad [], .ringDestroy rBad [],
    .cplModerate rBad [], .ringStopped 1099511627840, .ringFetch 1099511627840 0 [], .ringFetch 0 256 [],
    .ownerStaleRetry 1099511627840 0, .headMirrorTimer 1099511627840, .cqStarveTimer 1099511627840, .msixModTimer 1099511627840,
    .frameSend rBad [] [], .frameRecv rBad [] [], .controlDoorbellReg 4294967296, .controlSlotEnable 64 0,
    .controlSlotEnable 0 4294967296, .controlSlotDisable 64 0, .controlSlotDisable 0 4294967296] : List Instr).all (fun c => !c.wf) = true := by
  decide +kernel
theorem test_wf_parsing : ([
    .pipelineFrame 0, .bankSwitch, .bankValidateDone, .bankSwitchDone, .forceIsolate, .forceIsolateDone, .prsBankWrite 0 0,
    .prsActCommitGo 0, .prsEditCommitGo 0, .prsParityScan []] : List Instr).all (fun c => c.wf) = true ∧
  ([
    .pipelineFrame 16, .prsBankWrite 67108864 0, .prsBankWrite 0 4294967296, .prsActCommitGo 65536, .prsEditCommitGo 256] : List Instr).all (fun c => !c.wf) = true := by
  decide +kernel
theorem test_wf_tables : ([
    .emInsert rOk 0 0 0 [] [], .emUpdate rOk 0 0 [] [], .emDelete rOk 0 0 [], .emQuery rOk 0 0 [], .lpmInsert rOk 0 0 0 0 [] [],
    .lpmDelete rOk 0 0 0 [], .tableFlush rOk 0 0, .learnCommit 0, .scannerVisit 0 0 false false, .sweepEnd 0, .lpmRebalanceGo 0,
    .lpmRebalanceEnd, .tcamScrub [], .tableParityInvalidate 0 0 false, .fwTableLookup 0 0 0 0 0 [], .tblSplitWrite 0 0,
    .tblSeedWrite 0 false 0, .tblHbmEnWrite 0, .tblHbmClearDone, .tblTableCfgWrite 0 0] : List Instr).all (fun c => c.wf) = true ∧
  ([
    .emInsert rBad 0 0 0 [] [], .emInsert rOk 256 0 0 [] [], .emInsert rOk 0 256 0 [] [], .emInsert rOk 0 0 256 [] [],
    .emUpdate rBad 0 0 [] [], .emUpdate rOk 256 0 [] [], .emUpdate rOk 0 256 [] [], .emDelete rBad 0 0 [], .emDelete rOk 256 0 [],
    .emDelete rOk 0 256 [], .emQuery rBad 0 0 [], .emQuery rOk 256 0 [], .emQuery rOk 0 256 [], .lpmInsert rBad 0 0 0 0 [] [],
    .lpmInsert rOk 256 0 0 0 [] [], .lpmInsert rOk 0 256 0 0 [] [], .lpmInsert rOk 0 0 256 0 [] [], .lpmInsert rOk 0 0 0 256 [] [],
    .lpmDelete rBad 0 0 0 [], .lpmDelete rOk 256 0 0 [], .lpmDelete rOk 0 256 0 [], .lpmDelete rOk 0 0 256 [], .tableFlush rBad 0 0,
    .tableFlush rOk 256 0, .tableFlush rOk 0 256, .learnCommit 4, .scannerVisit 4 0 false false,
    .scannerVisit 0 4294967296 false false, .sweepEnd 256, .lpmRebalanceGo 2, .tableParityInvalidate 4 0 false,
    .tableParityInvalidate 0 4294967296 false, .fwTableLookup 1536 0 0 0 0 [], .fwTableLookup 0 65536 0 0 0 [],
    .fwTableLookup 0 0 4 0 0 [], .fwTableLookup 0 0 0 256 0 [], .fwTableLookup 0 0 0 0 256 [], .tblSplitWrite 8 0,
    .tblSplitWrite 0 4294967296, .tblSeedWrite 4 false 0, .tblSeedWrite 0 false 4294967296, .tblHbmEnWrite 4294967296,
    .tblTableCfgWrite 256 0, .tblTableCfgWrite 0 4294967296] : List Instr).all (fun c => !c.wf) = true := by
  decide +kernel
theorem test_wf_cells : ([
    .cellAlloc 0 0 0 1, .cellHold 0 0 0, .cellRelease 0 0 0, .cellRead 0 0 0 0 0, .cellWrite 0 0 0 0 0 [], .cellStat 0 0 0,
    .spillCopyWritten 0, .cellInspect 0, .cellHeadroomWrite 0] : List Instr).all (fun c => c.wf) = true ∧
  ([
    .cellAlloc 1536 0 0 1, .cellAlloc 0 65536 0 1, .cellAlloc 0 0 2 1, .cellAlloc 0 0 0 65537, .cellAlloc 0 0 0 0,
    .cellHold 1536 0 0, .cellHold 0 65536 0, .cellHold 0 0 4294967296, .cellRelease 1536 0 0, .cellRelease 0 65536 0,
    .cellRelease 0 0 4294967296, .cellRead 1536 0 0 0 0, .cellRead 0 65536 0 0 0, .cellRead 0 0 4294967296 0 0,
    .cellRead 0 0 0 65536 0, .cellRead 0 0 0 0 65536, .cellWrite 1536 0 0 0 0 [], .cellWrite 0 65536 0 0 0 [],
    .cellWrite 0 0 4294967296 0 0 [], .cellWrite 0 0 0 65536 0 [], .cellWrite 0 0 0 0 65536 [], .cellStat 1536 0 0,
    .cellStat 0 65536 0, .cellStat 0 0 4294967296, .spillCopyWritten 4294967296, .cellInspect 4294967296,
    .cellHeadroomWrite 4294967296] : List Instr).all (fun c => !c.wf) = true := by
  decide +kernel
theorem test_wf_traffic : ([
    .portDequeue 0, .tmCommitQueue 0 false, .tmCommitSubscriber 0, .tmCommitGroup 0, .tmCommitShaper 0, .tmCommitPolicer 0,
    .tmCommitReplList 0, .tmCommitRead 0 0 false, .tmPortModeWrite 0 0, .calendarSlotReached 0 0, .queueSample 0] : List Instr).all (fun c => c.wf) = true ∧
  ([
    .portDequeue 576, .tmCommitQueue 1048576 false, .tmCommitSubscriber 1048576, .tmCommitGroup 1048576, .tmCommitShaper 1048576,
    .tmCommitPolicer 1048576, .tmCommitReplList 1048576, .tmCommitRead 8 0 false, .tmCommitRead 0 1048576 false,
    .tmPortModeWrite 576 0, .tmPortModeWrite 0 4294967296, .calendarSlotReached 3 0, .calendarSlotReached 0 1048576,
    .queueSample 1048576] : List Instr).all (fun c => !c.wf) = true := by
  decide +kernel
theorem test_wf_transport : ([
    .send rOk [] [], .write rOk [] [], .read rOk [] [], .fetchAdd rOk [], .compSwap rOk [], .connConnect rOk [], .connClose rOk [],
    .connReset rOk [], .connQuery rOk [], .recv rOk [] [], .keyRegister rOk [], .keyRevoke rOk [], .keyRevokeDone 0,
    .revokeSlowTimer 0, .connDrainEnd 0, .closeMsExpire 0, .xptOpStart 0, .contextFetchDone 0 false, .writeData 0 false,
    .readReq 0 false, .fetchAddReq 0 false, .compSwapReq 0 false, .resetNotice 0, .xptConnSnapshot 0, .xptKeySnapshot 0] : List Instr).all (fun c => c.wf) = true ∧
  ([
    .send rBad [] [], .write rBad [] [], .read rBad [] [], .fetchAdd rBad [], .compSwap rBad [], .connConnect rBad [],
    .connClose rBad [], .connReset rBad [], .connQuery rBad [], .recv rBad [] [], .keyRegister rBad [], .keyRevoke rBad [],
    .keyRevokeDone 4194304, .revokeSlowTimer 4194304, .connDrainEnd 1048576, .closeMsExpire 1048576, .xptOpStart 1048576,
    .contextFetchDone 1048576 false, .writeData 16 false, .readReq 16 false, .fetchAddReq 16 false, .compSwapReq 16 false,
    .resetNotice 16, .xptConnSnapshot 4294967296, .xptKeySnapshot 4294967296] : List Instr).all (fun c => !c.wf) = true := by
  decide +kernel
theorem test_wf_wire : ([
    .packetSend 0 [] 0, .sendData 0 false, .readResp 0 false, .atomicResp 0 false, .abandon 0 false, .fill 0 false, .ack 0 false,
    .nak 0 false, .ackDelayExpire 0, .rtoExpire 0, .rnrWaitExpire 0 0, .pathHoldExpire 0, .rocePacket 0 false, .cnp 0 false] : List Instr).all (fun c => c.wf) = true ∧
  ([
    .packetSend 1048576 [] 0, .packetSend 0 [] 256, .sendData 16 false, .readResp 16 false, .atomicResp 16 false, .abandon 16 false,
    .fill 16 false, .ack 16 false, .nak 16 false, .ackDelayExpire 1048576, .rtoExpire 1048576, .rnrWaitExpire 1048576 0,
    .rnrWaitExpire 0 4294967296, .pathHoldExpire 1048576, .rocePacket 16 false, .cnp 16 false] : List Instr).all (fun c => !c.wf) = true := by
  decide +kernel
theorem test_wf_threads : ([
    .coreDelivery 0, .baseInstruction 0, .chput 0 0 0 0, .chputl 0 0 0 0, .chputln 0 0 0 0, .chrecv 0 0 0 0, .chrecvn 0 0 0,
    .chhdr 0 0 0 0, .chhdrn 0 0 0, .chskip 0 0 0, .pwait 0 0 0 0, .pwaitn 0 0 0, .pset 0 0 0 0, .tstart 0 0 0 0, .trelease 0 0 0,
    .texit 0 0, .tgroup 0 0, .tinfo 0 0, .chMessageArrival 0 0, .chCommitDelivered 0, .threadWaitTimeout 0, .waitAllDetect 0,
    .threadStartReg 0 0, .threadReset 0 0, .stageDiscard 0, .epCfgWrite 0 0 0 0, .threadShareWrite 0 0] : List Instr).all (fun c => c.wf) = true ∧
  ([
    .coreDelivery 24, .baseInstruction 1536, .chput 1536 0 0 0, .chput 0 32 0 0, .chput 0 0 32 0, .chput 0 0 0 32,
    .chputl 1536 0 0 0, .chputl 0 32 0 0, .chputl 0 0 32 0, .chputl 0 0 0 32, .chputln 1536 0 0 0, .chputln 0 32 0 0,
    .chputln 0 0 32 0, .chputln 0 0 0 32, .chrecv 1536 0 0 0, .chrecv 0 32 0 0, .chrecv 0 0 32 0, .chrecv 0 0 0 32,
    .chrecvn 1536 0 0, .chrecvn 0 32 0, .chrecvn 0 0 32, .chhdr 1536 0 0 0, .chhdr 0 32 0 0, .chhdr 0 0 32 0, .chhdr 0 0 0 32,
    .chhdrn 1536 0 0, .chhdrn 0 32 0, .chhdrn 0 0 32, .chskip 1536 0 0, .chskip 0 32 0, .chskip 0 0 32, .pwait 1536 0 0 0,
    .pwait 0 32 0 0, .pwait 0 0 32 0, .pwait 0 0 0 32, .pwaitn 1536 0 0, .pwaitn 0 32 0, .pwaitn 0 0 32, .pset 1536 0 0 0,
    .pset 0 32 0 0, .pset 0 0 32 0, .pset 0 0 0 32, .tstart 1536 0 0 0, .tstart 0 32 0 0, .tstart 0 0 32 0, .tstart 0 0 0 32,
    .trelease 1536 0 0, .trelease 0 32 0, .trelease 0 0 32, .texit 1536 0, .texit 0 32, .tgroup 1536 0, .tgroup 0 32, .tinfo 1536 0,
    .tinfo 0 32, .chMessageArrival 1048576 0, .chMessageArrival 0 65536, .chCommitDelivered 1536, .threadWaitTimeout 1536,
    .waitAllDetect 1536, .threadStartReg 1536 0, .threadStartReg 0 4294967296, .threadReset 1536 0, .threadReset 0 4294967296,
    .stageDiscard 4294967296, .epCfgWrite 24 0 0 0, .epCfgWrite 0 8 0 0, .epCfgWrite 0 0 64 0, .epCfgWrite 0 0 0 4294967296,
    .threadShareWrite 1536 0, .threadShareWrite 0 4294967296] : List Instr).all (fun c => !c.wf) = true := by
  decide +kernel
theorem test_wf_accelerators : ([
    .nvmeFlush 0 0 0 0, .nvmeWrite 0 0 0 0 0 0 hOk [] [], .nvmeRead 0 0 0 0 0 0 false false [] [],
    .nvmeWriteZeroes 0 0 0 0 0 0 [] [], .nvmeDatasetManagement 0 0 0 0, .sealBind rOk [], .sealUnbind rOk [], .cipher rOk [] [],
    .digest rOk [] [], .compress rOk [] [], .decompress rOk [] [], .ecEncode rOk [] [] [], .ecDecode rOk [] [] [],
    .keyLoad rOk [] [], .keyGen rOk [], .keyClear rOk [], .sign rOk [] [], .verify rOk [] [], .kemEncapsulate rOk [] [],
    .kemDecapsulate rOk [] [], .sealOpen rOk [], .sealAppend rOk [] [], .sealCheckpoint rOk [], .sealIntervalBoundary 0,
    .jobSlotFreed, .slotStarveTimer 0, .volCreate rOk [], .volTarget rOk [] [], .volDestroy rOk [], .commitAnswer 0 1 0 0 0,
    .flushMsExpire 0 1 0 0, .rebuildStripe 0 1 0 [], .accEndpointJob 0 0 [], .accEnable 0, .ktClearDone] : List Instr).all (fun c => c.wf) = true ∧
  ([
    .nvmeFlush 4096 0 0 0, .nvmeFlush 0 1024 0 0, .nvmeFlush 0 0 65536 0, .nvmeFlush 0 0 0 4294967296,
    .nvmeWrite 4096 0 0 0 0 0 hOk [] [], .nvmeWrite 0 1024 0 0 0 0 hOk [] [], .nvmeWrite 0 0 65536 0 0 0 hOk [] [],
    .nvmeWrite 0 0 0 4294967296 0 0 hOk [] [], .nvmeWrite 0 0 0 0 18446744073709551616 0 hOk [] [],
    .nvmeWrite 0 0 0 0 0 65536 hOk [] [], .nvmeRead 4096 0 0 0 0 0 false false [] [], .nvmeRead 0 1024 0 0 0 0 false false [] [],
    .nvmeRead 0 0 65536 0 0 0 false false [] [], .nvmeRead 0 0 0 4294967296 0 0 false false [] [],
    .nvmeRead 0 0 0 0 18446744073709551616 0 false false [] [], .nvmeRead 0 0 0 0 0 65536 false false [] [],
    .nvmeWriteZeroes 4096 0 0 0 0 0 [] [], .nvmeWriteZeroes 0 1024 0 0 0 0 [] [], .nvmeWriteZeroes 0 0 65536 0 0 0 [] [],
    .nvmeWriteZeroes 0 0 0 4294967296 0 0 [] [], .nvmeWriteZeroes 0 0 0 0 18446744073709551616 0 [] [],
    .nvmeWriteZeroes 0 0 0 0 0 65536 [] [], .nvmeDatasetManagement 4096 0 0 0, .nvmeDatasetManagement 0 1024 0 0,
    .nvmeDatasetManagement 0 0 65536 0, .nvmeDatasetManagement 0 0 0 4294967296, .sealBind rBad [], .sealUnbind rBad [],
    .cipher rBad [] [], .digest rBad [] [], .compress rBad [] [], .decompress rBad [] [], .ecEncode rBad [] [] [],
    .ecDecode rBad [] [] [], .keyLoad rBad [] [], .keyGen rBad [], .keyClear rBad [], .sign rBad [] [], .verify rBad [] [],
    .kemEncapsulate rBad [] [], .kemDecapsulate rBad [] [], .sealOpen rBad [], .sealAppend rBad [] [], .sealCheckpoint rBad [],
    .sealIntervalBoundary 1048576, .slotStarveTimer 1099511627840, .volCreate rBad [], .volTarget rBad [] [], .volDestroy rBad [],
    .commitAnswer 4096 1 0 0 0, .commitAnswer 0 17 0 0 0, .commitAnswer 0 0 0 0 0, .commitAnswer 0 1 20 0 0,
    .commitAnswer 0 1 0 18446744073709551616 0, .commitAnswer 0 1 0 0 256, .flushMsExpire 4096 1 0 0, .flushMsExpire 0 17 0 0,
    .flushMsExpire 0 0 0 0, .flushMsExpire 0 1 20 0, .flushMsExpire 0 1 0 18446744073709551616, .rebuildStripe 4096 1 0 [],
    .rebuildStripe 0 17 0 [], .rebuildStripe 0 0 0 [], .rebuildStripe 0 1 20 [], .accEndpointJob 1536 0 [],
    .accEndpointJob 0 65536 [], .accEnable 4294967296] : List Instr).all (fun c => !c.wf) = true := by
  decide +kernel
theorem test_wf_memory : ([
    .hbmScrub 0 [], .sramScrub 0 0 [] 0, .wearWindowEnd, .memRegionCfgWrite 0, .hbmCalibrated 0, .hbmTrained 0 false 0 0,
    .hbmCleared 0, .hbmRetrain 0, .rowRepairGo 0, .pcSpareStateWrite 0 0 0, .errorInjectArm 0] : List Instr).all (fun c => c.wf) = true ∧
  ([
    .hbmScrub 0x1800000000 [], .sramScrub 65536 0 [] 0, .sramScrub 0 4194304 [] 0, .sramScrub 0 0 [] 4294967296,
    .memRegionCfgWrite 4294967296, .hbmCalibrated 4, .hbmTrained 4 false 0 0, .hbmTrained 0 false 32 0, .hbmTrained 0 false 0 4,
    .hbmCleared 4, .hbmRetrain 4294967296, .rowRepairGo 4294967296, .pcSpareStateWrite 4 0 0, .pcSpareStateWrite 0 2 0,
    .pcSpareStateWrite 0 0 4294967296, .errorInjectArm 4294967296] : List Instr).all (fun c => !c.wf) = true := by
  decide +kernel
theorem test_wf_cascade : ([
    .casTrainingDone 0, .casPcsLock 0, .flitAligned 0, .helloDone 0, .casStepTimeout 0, .idleFlit 0 [], .dataFlit 0 [],
    .heartbeatFlit 0 [], .heartbeatSend 0, .heartbeatLoss 0, .casLockLoss 0, .spareReq 0 [], .spareAck 0 [], .spareNak 0 [],
    .spareGo 0 [], .altHoldExpire 0, .remoteAccessReadGo 0, .remoteAccessWriteGo 0, .remoteReadRequest 0 [],
    .remoteWriteRequest 0 [], .remoteResponse 0 [], .remoteAccessTimeout, .casDevIdWrite 0] : List Instr).all (fun c => c.wf) = true ∧
  ([
    .casTrainingDone 8, .casPcsLock 8, .flitAligned 8, .helloDone 8, .casStepTimeout 8, .idleFlit 8 [], .dataFlit 8 [],
    .heartbeatFlit 8 [], .heartbeatSend 8, .heartbeatLoss 8, .casLockLoss 8, .spareReq 8 [], .spareAck 8 [], .spareNak 8 [],
    .spareGo 8 [], .altHoldExpire 65536, .remoteAccessReadGo 4294967296, .remoteAccessWriteGo 4294967296, .remoteReadRequest 8 [],
    .remoteWriteRequest 8 [], .remoteResponse 8 [], .casDevIdWrite 4294967296] : List Instr).all (fun c => !c.wf) = true := by
  decide +kernel
theorem test_wf_power : ([
    .domainTransitionDone 0, .pwrReqRun, .pwrReqIdle, .pwrReqSleep, .pwrReqDeep, .pwrReqOff, .domainStateGo 0 0,
    .idleTransitionDone, .sleepEntryDone, .sleepExitDone, .deepAdmissionClosed, .deepDrainDone, .deepDrainTimeout, .deepParked,
    .deepSaveDone 0, .deepSelfRefreshDone, .deepRailsOff, .deepExitRailsGood 0, .deepExitPllLock, .deepExitHbmReady false false,
    .deepExitRestoreDone false, .offEntryDone, .wakeInFall, .wakeFrame false [], .alarmReached, .mgmtSignalDetect, .standbyGood,
    .standbyRailLoss, .suppliesGood 0, .supplyTimeout, .supplyRetryRelease, .pgInFall 0, .railPgTimeout 0, .sysRefclkStable,
    .fuseSenseDone [], .porNAssert, .porNRelease] : List Instr).all (fun c => c.wf) = true ∧
  ([
    .domainTransitionDone 128, .domainStateGo 128 0, .domainStateGo 0 4294967296, .deepSaveDone 1024, .deepExitRailsGood 4096,
    .suppliesGood 4096, .pgInFall 12, .railPgTimeout 12] : List Instr).all (fun c => !c.wf) = true := by
  decide +kernel
theorem test_wf_jig : ([
    .jigTick [] [], .jigLogConsWrite 0, .jigLogSignalTimer, .thermalThrottle 0 0, .throttleRelease 0 0, .thermtrip 0 0,
    .coreSpareIdle 0, .coreSpareSelftestDone 0 false, .remapCursorSave, .remapCopyDone, .remapVerifyDone false, .fuseBurnDone false] : List Instr).all (fun c => c.wf) = true ∧
  ([
    .jigLogConsWrite 4294967296, .thermalThrottle 256 0, .thermalThrottle 0 256, .throttleRelease 256 0, .throttleRelease 0 256,
    .thermtrip 256 0, .thermtrip 0 256, .coreSpareIdle 24, .coreSpareSelftestDone 24 false] : List Instr).all (fun c => !c.wf) = true := by
  decide +kernel
theorem test_wf_boot : ([
    .loaderDirectoryRead hOk hOk, .loaderFrontChecked hOk, .loaderSectionsCopied hOk hOk hOk, .loaderReadbackChecked, .stage1Start,
    .confirm, .proofAbandon, .recover, .handoff, .stage 0, .stageCheckDone hOk [], .proofWatchdogExpire, .directoryUpdateDone,
    .loaderFuseBurnDone, .flashRead, .flashProgram, .flashErase, .flashCopy, .flashOpDone hOk, .bootDigestGo, .bootDigestDone,
    .recoveryIdent 0 [], .recoveryErase 0 [] false, .recoveryWrite 0 [] false, .recoveryRead 0 [] hOk, .recoveryStage 0 [] hOk [],
    .recoveryReset 0 []] : List Instr).all (fun c => c.wf) = true ∧
  ([
    .stage 2, .recoveryIdent 2 [], .recoveryErase 2 [] false, .recoveryWrite 2 [] false, .recoveryRead 2 [] hOk,
    .recoveryStage 2 [] hOk [], .recoveryReset 2 []] : List Instr).all (fun c => !c.wf) = true := by
  decide +kernel
theorem test_wf_resets : ([
    .nocLateReply 0, .readyBoundCheck 0, .warmRstNAssert, .warmRstNRelease, .errWarmResetWrite 0, .warmResetCleared 0,
    .managerHalt 0, .colophonComplete 0, .wdtKick 0, .wdtHalf, .wdtExpire, .blockReset 0, .blockResetDone, .lamiskRegisterRead 0 [],
    .lamiskRegisterWrite 0 [], .lamiskMemoryRead 0 [], .lamiskMemoryWrite 0 [], .debugTokenSubmit false, .debugLock false,
    .debugUnlockExpire, .debugHaltDevice false, .dbgThreadHalt false, .dbgThreadResume false, .dbgThreadStep false,
    .instanceReady 0, .colophonTruncated] : List Instr).all (fun c => c.wf) = true ∧
  ([
    .nocLateReply 32, .readyBoundCheck 256, .errWarmResetWrite 4294967296, .warmResetCleared 4096, .managerHalt 4294967296,
    .colophonComplete 4, .wdtKick 4294967296, .blockReset 4294967296, .lamiskRegisterRead 2 [], .lamiskRegisterWrite 2 [],
    .lamiskMemoryRead 2 [], .lamiskMemoryWrite 2 [], .instanceReady 256] : List Instr).all (fun c => !c.wf) = true := by
  decide +kernel
theorem test_wf_registers : ([
    .registerWrite 0 0 [], .pairLowRead 0 0, .glbSyncRead 0, .uartTxWrite 0, .uartRxRead 0, .uartRxByte 0, .ppsInEdge,
    .i3cPointerWrite 0, .i3cRegisterWrite 0 0, .i3cRead 0, .i3cAddressAssign 0, .mgmtLinkUp, .mgmtRegisterRead [],
    .mgmtRegisterWrite [], .mgmtMemoryRead [], .mgmtMemoryWrite [], .pf0EvtConsWrite 0 0] : List Instr).all (fun c => c.wf) = true ∧
  ([
    .registerWrite 65536 0 [], .registerWrite 0 67108864 [], .pairLowRead 65536 0, .pairLowRead 0 67108864, .glbSyncRead 65536,
    .uartTxWrite 4294967296, .uartRxRead 65536, .uartRxByte 256, .i3cPointerWrite 4294967296, .i3cRegisterWrite 4294967296 0,
    .i3cRegisterWrite 0 4294967296, .i3cRead 65536, .i3cAddressAssign 128, .pf0EvtConsWrite 64 0, .pf0EvtConsWrite 0 4294967296] : List Instr).all (fun c => !c.wf) = true := by
  decide +kernel
theorem test_wf_clocks : ([
    .sysRefclkLoss, .netRefclkLoss 0, .pcieRefclkLoss 0, .ppsOutSecond, .netRefclkReturn 0, .pcieRefclkReturn 0, .pmbusPoll []] : List Instr).all (fun c => c.wf) = true ∧
  ([
    .netRefclkLoss 16, .pcieRefclkLoss 32, .netRefclkReturn 16, .pcieRefclkReturn 32] : List Instr).all (fun c => !c.wf) = true := by
  decide +kernel

/-- Is the outcome a next state? -/
def isNext : Host.Outcome State Fault Refusal → Bool
  | .next _ => true
  | _ => false

/-! ## The queue, and what holds of every command -/

theorem wit_WorkStandsStillWhileNotRunning : cmdKind (.nocFlush 0 0) = .work ∧ State.reset.running = false := by decide
theorem wit_WorkStandsStillWhileNotRunning_writes :
    cmdKind (.todRateWrite 1) = .store ∧ halt5.regOpen = true ∧ halt5.halted = true := by decide
theorem wit_HaltedDeviceStaysHalted :
    let s : State := { halt5 with pending := [.todRateWrite 1, .nocFlush 0 0] }
    s.halted = true ∧ (∀ c ∈ s.pending, cmdKind c ≠ .other) ∧ isNext (step s) = true := by decide
theorem wit_HaltedDeviceStaysHalted_idle :
    let s : State := { halt5 with pending := [] }
    s.halted = true ∧ (∀ c ∈ s.pending, cmdKind c ≠ .other) ∧ isNext (step s) = true := by decide
theorem wit_UnpoweredDeviceStandsStill :
    let s : State := { State.reset with pending := [.todRateWrite 1] }
    (s.pwr.phase ≠ .up ∧ ∀ c ∈ s.pending, cmdKind c ≠ .other) ∧ isNext (step s) = true := by decide
theorem wit_EveryCommandAnswersNextState :
    let s : State := { up with pending := [.nocFlush 0 0] }
    s.queueWf = true ∧ isNext (step s) = true := by decide

/-! ## The device network, octets and network ports -/

theorem wit_NetworkAccesses : up.running = true ∧ 0 / 4096 = 0 ∧ 0 / 4096 ≠ 5 ∧ 511 < 512 ∧ 8191 / 4096 ≤ 2 ∧ 5 ≤ 20480 / 4096 ∧ 18 < 19 := by
  decide
/-- Network port 0 of octet 0 in a step of its bring-up. -/
def net5 (st : Nat) : State :=
  ((up.set (Reg.LANE_OCT_STATUS_ROLE_ACTIVE 0) 1).set (Reg.LANE_PORT_STATUS_LINK_UP 0) (b2n (decide (st = 5)))).setPortStep 0 st
theorem wit_DomainMoves :
    let s := up.set (Reg.PWR_DOMAIN_STATE 33) 2
    let t := up.domBegin 33 2 0
    (s.running = true ∧ isDom 33 = true ∧ s.domState 33 ≠ 0 ∧ mget s.pwr.doms 33 = none) ∧
    (up.running = true ∧ isDom 33 = true ∧ up.domState 33 = 0) ∧ (t.running = true ∧ mget t.pwr.doms 33 = some (2, 0)) := by decide
theorem wit_OctetRoles :
    let b := up.set (Reg.LANE_OCT_STATUS_APPLY_BUSY 0) 1
    let d : State := { net5 0 with lane := { (net5 0).lane with apply := [(0, 0)] } }
    (up.writable = true ∧ bit 1 31 = false) ∧
    (b.writable = true ∧ (b.octCfg 0 0x80000001).on (Reg.LANE_OCT_STATUS_APPLY_BUSY 0) = true) ∧
    (bit 0x80000002 31 = true ∧ (up.octCfg 32 0x80000002).on (Reg.LANE_OCT_STATUS_APPLY_BUSY 32) = false ∧ bits 0x80000002 1 0 = 2 ∧ 32 ≤ 32) ∧
    ((up.octCfg 55 0x80000003).on (Reg.LANE_OCT_STATUS_APPLY_BUSY 55) = false ∧ bits 0x80000003 1 0 = 3 ∧ 55 < 56) ∧
    ((up.octCfg 56 0x80000003).on (Reg.LANE_OCT_STATUS_APPLY_BUSY 56) = false ∧ 56 ≤ 56) ∧
    (d.running = true ∧ mget d.lane.apply 0 = some 0 ∧ d.octRole 0 ≠ 0 ∧ d.lane.refLost = []) := by decide
theorem wit_NetworkPortBringUp :
    (up.writable = true ∧ up.on (Reg.LANE_PORT_CTRL_ADMIN_UP 0) = bit 0 2) ∧ (up.on (Reg.LANE_PORT_CTRL_ADMIN_UP 0) = false ∧ bit 4 2 = true) ∧
    ((net5 2).running = true ∧ (net5 2).portStep 0 = 2) ∧ ((net5 3).running = true ∧ (net5 3).portStep 0 = 3) ∧
    ((net5 4).running = true ∧ (net5 4).portStep 0 = 4) ∧
    ((net5 5).running = true ∧ (net5 5).netPort 0 = true ∧ (net5 5).portUp 0 = true) := by decide
/-- A frame of `n` bytes before its FCS, with an EtherType, ending in the FCS given. -/
def fr5 (n ty : Nat) (fcs : List Byte) : List Byte := List.replicate 12 0 ++ beBytes 2 ty ++ List.replicate (n - 14) 0 ++ fcs
/-- The frame of that body with its own FCS. -/
def good5 (n ty : Nat) : List Byte := fr5 n ty (leBytes 4 (crc32 (fr5 n ty [])).toNat)
theorem wit_ReceivedFrameChecks :
    let s := net5 5
    (up.running = true ∧ (up.netPort 0 && up.portUp 0) = false) ∧
    (s.running = true ∧ (s.netPort 0 && s.portUp 0) = true ∧ s.pwr.closed = false) ∧ (false || !fcsOk (fr5 60 0x800 [])) = true ∧
    ((false || !fcsOk (good5 16 0x800)) = false ∧ (good5 16 0x800).length < 64) ∧
    ((false || !fcsOk (good5 60 0x8808)) = false ∧ (good5 60 0x8808).length = 64 ∧ 64 ≤ s.maxFrame 0 ∧ etherType (good5 60 0x8808) = 0x8808) ∧
    (fcsOk (good5 60 0x88B5) = true ∧ etherType (good5 60 0x88B5) = 0x88B5) ∧
    (fcsOk (good5 60 0x800) = true ∧ etherType (good5 60 0x800) = 0x800) := by decide
/-- A port that accepts frames of up to 1,518 bytes and meets a longer one. -/
theorem wit_ReceivedFrameChecks_long :
    fcsOk (good5 1600 0x800) = true ∧ ((net5 5).set (Reg.LANE_PORT_CTRL_MAX_FRAME 0) 1518).maxFrame 0 < (good5 1600 0x800).length := by
  decide +kernel
theorem wit_NinthLaneSteering :
    let g := fun (x : Steer) (st : Nat) => ((net5 5).setSteer 0 x).set (Reg.LANE_SPARE_STATUS_STATE 0) st
    let x := Steer.mk 0 false false false false 0 false false
    let l := Steer.mk 0 false false false true 0 false false
    let l1 := Steer.mk 1 false false false true 0 false false
    (up.writable = true ∧ bit 0x100 8 = true ∧ bit 0x100 4 = false ∧
      ((((up.set (Reg.LANE_SPARE_CTRL_JIG_ALLOW 0) (bits 0x100 16 16)).set (Reg.LANE_SPARE_CTRL_PAIR_MODE 0) (bits 0x100 4 4)).set
        (Reg.LANE_SPARE_CTRL_TARGET 0) (bits 0x100 2 0))).spareState 0 = 0) ∧
    ((g x 1).running = true ∧ (g x 1).steer 0 = some x ∧ (g x 1).spareState 0 = 1) ∧
    ((g l 1).steer 0 = some l ∧ (g l 1).octRole 0 = 1 ∧ (g l 1).laneBusy 0 0 = true) ∧
    ((g l1 1).steer 0 = some l1 ∧ (g l1 1).laneBusy 0 1 = false) ∧
    ((g l 2).steer 0 = some l ∧ (g l 2).spareState 0 = 2) ∧
    ((g l 3).writable = true ∧ (g l 3).spareState 0 = 3 ∧
      bit ((g l 3).get (Reg.LANE_SPARE_STATUS_RETIRED 0)) ((g l 3).get (Reg.LANE_SPARE_STATUS_IN_USE_FOR 0)) = false) ∧
    (let r := (g l 3).set (Reg.LANE_SPARE_STATUS_RETIRED 0) 1
     r.spareState 0 = 3 ∧ bit (r.get (Reg.LANE_SPARE_STATUS_RETIRED 0)) (r.get (Reg.LANE_SPARE_STATUS_IN_USE_FOR 0)) = true) := by decide
theorem wit_LaneSignalsAndTime :
    let c := up.set Reg.LANE_TOD_CTRL_SRC 1
    ((net5 0).octRole 0 ≠ 0 ∧ up.octRole 0 = 0) ∧ ((net5 5).running = true ∧ (net5 5).octRole (0 / 8) = 1) ∧
    (up.writable = true ∧ bit 3 1 = true ∧ (up.set Reg.LANE_TOD_CTRL_SRC (bits 3 0 0)).follows = true) ∧
    (bit 2 1 = true ∧ (up.set Reg.LANE_TOD_CTRL_SRC (bits 2 0 0)).follows = false) ∧
    (c.writable = true ∧ c.follows = true) ∧ up.follows = false := by decide

/-! ## Host ports -/

/-- No register of the DRW block resets with its bit 31 set: an unlisted binding is not bound. -/
theorem drw_resets_low : ((rowsOf 3).all (fun r => decide (resetOf r < 2 ^ 31))) = true := by decide +kernel
theorem unbound_at_reset {s : State} (d : Nat) (h : d < 4096) (k : mget s.regs (Reg.DRW_DRAWER_BIND d) = none) :
    s.on (Reg.DRW_DRAWER_BIND_BOUND d) = false := by
  have e : Reg.DRW_DRAWER_BIND d / 0x100000 = 3 := by simp only [Reg.DRW_DRAWER_BIND]; omega
  have w : resetWord (Reg.DRW_DRAWER_BIND d) < 2 ^ 31 := by
    simp only [resetWord, rowAt, e]
    split
    · exact of_decide_eq_true ((List.all_eq_true.1 drw_resets_low) _ (List.mem_of_find?_eq_some ‹_›))
    · decide
  have b : bits (resetWord (Reg.DRW_DRAWER_BIND d)) 31 31 = 0 := by simp only [bits]; omega
  simp only [State.on, State.get, Reg.DRW_DRAWER_BIND_BOUND, State.rd, k]
  simp [b]
theorem mget_none {α : Type} (m : SMap α) (k : Nat) (h : ∀ e ∈ m, e.1 ≠ k) : mget m k = none := by
  induction m with
  | nil => rfl
  | cons x t ih =>
    obtain ⟨j, w⟩ := x
    have n : ¬ k = j := fun e => h (j, w) (List.mem_cons_self ..) e.symm
    simp only [mget, n, if_false]
    exact ih (fun e he => h e (List.mem_cons_of_mem _ he))
/-- Where no binding is listed, no VF has a drawer. -/
theorem vfDrawer_none {s : State} (q f v : Nat) (h : s.regs.all (fun e => !decide (e.1 % 32 = 4) || decide (e.1 < 0x310000) || decide (0x330004 ≤ e.1)) = true) :
    s.vfDrawer q f v = none := by
  refine List.find?_eq_none.2 (fun d hd => ?_)
  have l : d < 4096 := List.mem_range.1 hd
  have n : mget s.regs (Reg.DRW_DRAWER_BIND d) = none := mget_none _ _ (fun e he => by
    have := List.all_eq_true.1 h e he
    simp only [Bool.or_eq_true, Bool.not_eq_true', decide_eq_true_eq, decide_eq_false_iff_not] at this
    simp only [Reg.DRW_DRAWER_BIND]; omega)
  simp [unbound_at_reset d l n]

/-- Host port 0 of octet 0 in a phase. -/
def hp5 (f : HostPort → HostPort) : State :=
  let s := (up.set (Reg.LANE_OCT_STATUS_ROLE_ACTIVE 0) 2).set (Reg.HOST_PORT_CFG_ENABLE 0) 1
  s.setHport 0 (f (s.hport 0))
theorem wit_HostLinkComesUp :
    let t := hp5 (fun h => { h with phase := .training })
    let l := hp5 (fun h => { h with phase := .l0 })
    let r := hp5 (fun h => { h with phase := .recovery })
    (hp5 id).mayTrain 0 = true ∧ ((t.hport 0).phase = .training ∧ (t.hport 0).settled = false ∧ (t.hport 0).attempts < 2) ∧
    (2 ≤ ((hp5 (fun h => { h with phase := .training, attempts := 2 })).hport 0).attempts) ∧
    ((l.hport 0).phase = .l0 ∧ (l.hport 0).settled = false ∧ l.writable = true) ∧ (r.hport 0).phase = .recovery := by decide
theorem wit_HostLinkComesUp_enables :
    let l := (hp5 id).set (Reg.HOST_PORT_STATUS_LINK_UP 0) 1
    (up.writable = true ∧ (up.set (Reg.HOST_PORT_CFG_ENABLE 0) 0).on (Reg.HOST_PORT_STATUS_LINK_UP 0) = false ∧ (up.hport 0).phase = .down) ∧
    (l.writable = true ∧ (l.set (Reg.HOST_PORT_CFG_ENABLE 0) 0).on (Reg.HOST_PORT_STATUS_LINK_UP 0) = true) ∧
    ((hp5 id).hostExists 0 = true ∧ (hp5 id).on (Reg.HOST_PORT_STATUS_PERST_ASSERTED 0) = false) := by decide
theorem wit_HostFunctions :
    let v := hp5 (fun h => { h with vfEn := [0] })
    let c := (bar5.set (Reg.HOST_PORT_STATUS_CFG_READY 0) 1)
    let m := (hp5 id).set Reg.HOST_MGR_CFG_MGR_PORT 0
    (up.writable = true ∧
      257 ≠ (up.set (Reg.HOST_PF_CFG_PF_EN 0 0) 1).get (Reg.HOST_PF_CFG_TOTAL_VFS 0 0) ∧ bits 257 8 0 = 257 ∧
      256 < 257 + (up.set (Reg.HOST_PF_CFG_PF_EN 0 0) 1).otherVfs 0 0) ∧
    (bits 256 8 0 + (up.set (Reg.HOST_PF_CFG_PF_EN 0 0) 1).otherVfs 0 0 ≤ 256 ∧ ((up.set (Reg.HOST_PF_CFG_PF_EN 0 0) 1).hport 0).vfEn.contains 0 = false ∧
      256 ≠ (up.set (Reg.HOST_PF_CFG_PF_EN 0 0) 1).get (Reg.HOST_PF_CFG_TOTAL_VFS 0 0)) ∧
    (v.writable = true ∧ 1 ≠ v.get (Reg.HOST_PORT_CFG_ORDER_MODE 0) ∧ (v.hport 0).vfEn ≠ []) ∧ ((up.hport 0).vfEn = [] ∧ up.mgrPort ≠ some 0) ∧
    (m.get Reg.HOST_MGR_CFG_MGR_PORT ≠ 0x7F ∧ 64 ≤ m.get Reg.HOST_MGR_CFG_MGR_PORT_ACTIVE ∧ m.hostExists (m.get Reg.HOST_MGR_CFG_MGR_PORT) = true) ∧
    ((hp5 id).running = true ∧ ((hp5 id).hport 0).pfEn.contains 0 = true) ∧
    (bar5.on (Reg.HOST_PORT_STATUS_LINK_UP 0) = true ∧ bar5.on (Reg.HOST_PORT_STATUS_CFG_READY 0) = false) ∧
    (c.on (Reg.HOST_PORT_STATUS_LINK_UP 0) = true ∧ c.on (Reg.HOST_PORT_STATUS_CFG_READY 0) = true ∧ c.fnThere 0 1 = false ∧ c.fnThere 0 0 = true) := by
  decide
theorem wit_HostBarAccesses :
    let h := bar5.set Reg.GLB_HALT_STATUS_HALTED 1
    let p := bar5.setHport 0 { bar5.hport 0 with pfEn := [0, 1], mse := [1, 3, 4] }
    let e := bar5.setHport 0 { bar5.hport 0 with logProd := 1 }
    (bar5.regOpen = true ∧ bar5.on (Reg.HOST_PORT_STATUS_LINK_UP 0) = true ∧ bar5.fnAnswers 0 2 = false) ∧
    (h.regOpen = true ∧ h.on (Reg.HOST_PORT_STATUS_LINK_UP 0) = true ∧ h.fnAnswers 0 4 = true ∧ 0 + 4 ≤ h.barSize 4 0 ∧ h.halted = true) ∧
    (p.regOpen = true ∧ p.on (Reg.HOST_PORT_STATUS_LINK_UP 0) = true ∧ p.fnAnswers 0 1 = true) ∧
    (bar5.fnAnswers 0 4 = true ∧ 0 + [1, 2, 3, 4].length ≤ bar5.barSize 4 2 ∧ bar5.running = true ∧ bar5.halted = false) ∧
    (e.running = true ∧ (1 + 2 ^ 32 - (e.hport 0).logCons) % 2 ^ 32 ≤ (e.hport 0).unread) ∧
    (e.hport 0).unread < (2 + 2 ^ 32 - (e.hport 0).logCons) % 2 ^ 32 := by decide
theorem wit_HostBarAccesses_drawer : bar5.fnDrawer 0 4 = some 5 := by decide +kernel
theorem wit_HostDmaAndTranslation :
    let r := up.setHport 0 { up.hport 0 with reads := [rd5] }
    let i := up.setHport 0 { up.hport 0 with
      atsWait := [⟨4, 9, 5, r0, 0⟩], invals := [⟨3, 4, 9, 1⟩], ltrEn := true }
    let l := (i.set (Reg.HOST_PORT_STATUS_LINK_UP 0) 1).wr64 Reg.GLB_TIME 100000
    (up.running = true ∧ (up.hport 0).reads.find? (fun r => decide (r.tag = 5) && r.issued && r.data.isNone) = none) ∧
    (r.running = true ∧ (r.hport 0).reads.find? (fun r => decide (r.tag = 5) && r.issued && r.data.isNone) = some rd5) ∧
    (i.running = true ∧ (i.hport 0).atsWait.any (fun w => decide (w.fn = 4) && decide (w.page = 9)) = true ∧ (i.hport 0).invalid 4 9 = true) ∧
    ((i.hport 0).invals.find? (fun i => decide (i.tag = 3)) = some ⟨3, 4, 9, 1⟩ ∧ (i.hport 0).reads = []) ∧
    (l.running = true ∧ (l.hport 0).ltrEn = true ∧ l.on (Reg.HOST_PORT_STATUS_LINK_UP 0) = true ∧ l.tolerance 0 ≠ (l.hport 0).ltrLast ∧
      100000 ≤ l.now - (l.hport 0).ltrAt) := by decide
theorem wit_HostLowPower :
    let e := up.setHport 0 { up.hport 0 with phase := .l2entry, pmeEn := [0] }
    let l := up.setHport 0 { up.hport 0 with phase := .l2, pmeEn := [0] }
    (up.fnThere 0 0 = true ∧ up.fnDrawer 0 0 = none) ∧ (bar5.on (Reg.HOST_PORT_STATUS_LINK_UP 0) = true) ∧
    ((e.hport 0).phase = .l2entry ∧ (e.hport 0).reads = [] ∧ (e.hport 0).wakePend = none ∧ e.running = true ∧
      e.on (Reg.HOST_PORT_CFG_WAKE_EN 0) = true ∧ (e.hport 0).pmeEn.contains 0 = true) ∧
    (l.running = true ∧ l.on (Reg.HOST_PORT_CFG_WAKE_EN 0) = true ∧ (l.hport 0).pmeEn.contains 0 = true ∧ (l.hport 0).phase = .l2 ∧
      l.on (Reg.HOST_PORT_STATUS_WAKE_ASSERTED 0) = false) := by decide
theorem wit_HostPortResets :
    let p := bar5.setHport 0 { bar5.hport 0 with pfEn := [0, 1], retiring := true }
    ((hp5 id).set (Reg.HOST_PORT_STATUS_PERST_ASSERTED 0) 1).hostExists 0 = true ∧ (hp5 id).hostExists 0 = true ∧
    (bar5.on (Reg.HOST_PORT_STATUS_PERST_ASSERTED 0) = false ∧ bar5.on (Reg.HOST_PORT_STATUS_LINK_UP 0) = true) ∧
    (bar5.running = true ∧ bar5.fnThere 0 (4 + 256 * 0 + 0) = true) ∧
    (p.running = true ∧ p.fnThere 0 1 = true ∧ 1 ≠ 0 ∧ (p.hport 0).retiring = true) ∧
    ((hp5 id).writable = true ∧ ((hp5 id).hport 0).retiring = false) := by decide
/-- Host port 0 with a VF that no drawer is bound to. -/
def bar0 : State :=
  ((hp5 id).set (Reg.HOST_PF_CFG_TOTAL_VFS 0 0) 1).setHport 0 { up.hport 0 with mse := [4], pfEn := [0], vfEn := [0], numVfs := [(0, 1)] }
theorem wit_HostPortResets_drawer : bar5.vfDrawer 0 0 0 = some 5 := by decide +kernel
theorem wit_HostPortResets_unbound :
    (bar0.running = true ∧ bar0.fnThere 0 (4 + 256 * 0 + 0) = true) ∧ bar0.vfDrawer 0 0 0 = none :=
  ⟨by decide, vfDrawer_none _ _ _ (by decide)⟩

/-! ## Drawers and fences -/

/-- Drawer 5 in a state of R82. -/
def dr5 (st : Nat) : State := up.set (Reg.DRW_DRAWER_STATUS_STATE 5) st
/-- A drawer command for drawer 5, and the same with bytes set. -/
def drE (op : Nat) (l : List (Nat × Nat)) : List Byte := ent op ((8, 5) :: l)
theorem wit_DrawerCommandRefusals :
    (up.running = true ∧ up.mayStart r0 = true) ∧ drFields 0x61 (drE 0x61 [(20, 1)]) = false ∧
    (drFields 0x61 (drE 0x61 []) = true ∧ (mget ((quiet .drain).markStarted r0).drw.quiesce 5).isSome = true) ∧
    (mget ((dr5 0).markStarted r0).drw.quiesce 5 = none ∧ [1].contains (((dr5 0).markStarted r0).drState 5) = false) := by decide
theorem wit_DrawerLifeCycle :
    (drFields 0x60 (drE 0x60 []) = true ∧ sharesOk (decide (leAt (drE 0x60 []) 10 1 = 1)) [] = true ∧
      ((dr5 0).markStarted r0).drState 5 = 0 ∧ mget ((dr5 0).markStarted r0).drw.quiesce 5 = none) ∧
    (drFields 0x61 (drE 0x61 []) = true ∧ ((dr5 1).markStarted r0).drState 5 = 1 ∧ ((dr5 1).markStarted r0).hostExists 0 = false) ∧
    (drFields 0x62 (drE 0x62 []) = true ∧ ((dr5 2).markStarted r0).drState 5 = 2) ∧
    (drFields 0x65 (drE 0x65 []) = true ∧ ((dr5 5).markStarted r0).drState 5 = 5) ∧
    (drFields 0x66 (drE 0x66 []) = true ∧ sharesOk (((dr5 5).markStarted r0).sealed 5) [] = true) ∧
    (drFields 0x67 (drE 0x67 []) = true ∧ (((dr5 5).markStarted r0).exactFences 5).any (fun e => e.2.lock) = false) := by decide
theorem wit_DrawerLifeCycle_grants :
    (∃ g v, grantList 5 false 0 { shares := [], ranges := [] } (shareList []) (dr5 0) = (.ok g, v)) ∧
    (∃ g v, grantList 5 false 0 { shares := [], ranges := [] } (shareList [ent 0 [(8, 9), (10, 255), (11, 255), (16, 1)]])
      ((dr5 0).set (Reg.DRW_POOL_TOTAL_GRANULES 9) 8) = (.ok g, v)) := ⟨⟨_, _, rfl⟩, ⟨_, _, rfl⟩⟩
theorem wit_DrawerLifeCycle_refused :
    ∃ v, grantList 5 false 0 { shares := [], ranges := [] } (shareList [ent 0 [(8, 9), (10, 255), (11, 255), (17, 255)]]) (dr5 0) =
      (.error (ST_POOL_EXHAUSTED, 0, 9), v) := ⟨_, rfl⟩
theorem wit_DrawerLifeCycle_bind :
    let s := (hp5 id).set (Reg.DRW_DRAWER_STATUS_STATE 5) 1
    (s.hostExists 0 = true ∧ 0 = s.get (Reg.DRW_DRAWER_STATUS_PERSONALITY 5) ∧ (s.hport 0).pfEn.contains 0 = true ∧ s.drState 5 = 1) ∧
    s.vfDrawer 0 0 0 = none := ⟨by decide, vfDrawer_none _ _ _ (by decide)⟩
theorem wit_DrawerLifeCycle_locked :
    let f : Fence := { master := 0x1005, mask := 0xFFFF, perm := 3, lock := true, base := 0, limit := 0xFFF }
    let s : State := { dr5 5 with drw := { (dr5 5).drw with fences := [(0x10000000, f)] } }
    (s.exactFences 5).any (fun e => e.2.lock) = true := by decide
theorem wit_QuiesceSequence :
    (drFields 0x63 (drE 0x63 [(18, 1)]) = true ∧ ((dr5 3).markStarted r0).drState 5 = 3 ∧ leAt (drE 0x63 [(18, 1)]) 18 2 ≠ 0) ∧
    (drFields 0x64 (drE 0x64 []) = true ∧ ((dr5 5).markStarted r0).drState 5 = 5 ∧ mget ((dr5 5).markStarted r0).drw.quiesce 5 = none) ∧
    ([QStep.fetch, .drain, .abort, .purge, .flush, .reset].all (fun st =>
      (quiet st).running && decide ((mget (quiet st).drw.quiesce 5).map (·.step) = some st)) = true) ∧
    ((quiet .drain).drainItems 5).isEmpty = true ∧
    (let s := bar5.setQuiesce 5 { Quiesce.fresh 0 [] false false false 0 with step := .purge }
     s.drLink 5 = true ∧ (mget s.drw.quiesce 5).map (·.fromQ) = some false) ∧
    (Quiesce.fresh 0 [] false false false 0).doReset = false ∧ (Quiesce.fresh 0 [] false false false 0).ringOnly = false := by decide
/-- The fence entry 0 of HBM quadrant 0 written for drawer 5: its fields in an entry of FENCE_SET. -/
def feE (op : Nat) : List Byte :=
  ent op (if op = 0x71 then [(9, 0x10)] else [(9, 0x10), (12, 5), (13, 0x10), (14, 0xFF), (15, 0xFF), (16, 3), (32, 0xFF), (33, 0xF)])
theorem wit_FenceEntries :
    let lk : Fence := { master := 0x1005, mask := 0xFFFF, perm := 3, lock := true, base := 0, limit := 0xFFF }
    let ot : Fence := { master := 0x1006, mask := 0xFFFF, perm := 3, lock := false, base := 0, limit := 0xFFF }
    let s : State := { up with drw := { up.drw with fences := [(fenceKey 1 0 0, lk)] } }
    let c : State := { up.set Reg.DRW_CFG_DISJOINT_ENFORCE 1 with drw := { up.drw with fences := [(fenceKey 1 0 1, ot)] } }
    fenceOk (ent 0x70 []) = false ∧ (fenceOk (feE 0x70) = true ∧ fenceOk (feE 0x71) = true) ∧
    (fenceKeys (feE 0x70)).any (fun k => ((mget s.drw.fences k).map (·.lock)).getD false) = true ∧
    (fenceKeys (feE 0x70)).any (fun k => ((mget up.drw.fences k).map (·.lock)).getD false) = false ∧
    (up.set Reg.DRW_CFG_DISJOINT_ENFORCE 0).on Reg.DRW_CFG_DISJOINT_ENFORCE = false ∧
    c.on Reg.DRW_CFG_DISJOINT_ENFORCE = true ∧ (c.fenceClash (fenceKeys (feE 0x70)) (fenceOf (feE 0x70))).isSome = true := by decide
theorem wit_QuiesceSequence_reset : ((quiet .reset).tablesOf 5).any (fun t => (quiet .reset).sweeping t) = false :=
  List.any_eq_false.2 (fun t _ => by have : (quiet .reset).sweeping t = false := rfl; simp [this])
theorem wit_FenceRefusalsAreCounted :
    up.running = true ∧ up.targetAdmits 0x1000 0x1005 0 4 0 = false ∧ up.targetAdmits 0x1000 0x2005 0 4 0 = false ∧
    (∀ t, mget up.drw.denied 0x1005 = some t → 1000000 ≤ up.now - t) ∧
    mget ({ up with drw := { up.drw with denied := [(0x1005, 0)] } } : State).drw.denied 0x1005 = some 0 ∧ up.now - 0 < 1000000 := by
  refine ⟨by decide, by decide, by decide, ?_, by decide, by decide⟩
  intro t h; simp [up, State.reset, mget] at h
theorem wit_WarmResetFreesDrawers : (({ drawer5 with err := { up.err with phase := .clearing 2 } } : State).err.phase = .clearing 2) ∧
    drawer5.drState 5 = 3 := by decide

/-! ## NVM Express and virtio-net drawers -/

theorem wit_NvmeController :
    let r := nvq5.ring (sqKey 5 1)
    (nvq5.running = true ∧ nvq5.isNvme 5 = true ∧ bit (nvq5.person 5).cc 0 = true) ∧
    (1 ≠ 0 ∧ (nvq5.person 5).shst = 0 ∧ nvq5.drState 5 = 3 ∧ mget nvq5.drw.quiesce 5 = none) ∧
    (nvq5.drPort 5 = some 0 ∧ (nvq5.bump (Reg.n_doorbells_rx 0)).quiescing 5 = false) ∧ (r.st = .active ∧ 2 < r.nv ∧ r.nv ≤ 16) := by decide
theorem wit_NvmeAdminCommands :
    let u := nvq5.nvTaken 5 0 9
    let n := nvqC.nvTaken 5 0 9
    (nvq5.running = true ∧ nvq5.nvReady 5 0 = true) ∧
    ((u.ring (cqKey 5 1)).st ≠ .absent ∧ 2 ≤ u.nvPairs 5 ∧ (u.ring (sqKey 5 2)).st = .absent ∧ (u.ring (cqKey 5 2)).st = .absent) ∧
    (u.nvHas (sqKey 5 3) 3 = false ∧ u.nvHas (sqKey 5 1) 1 = true ∧ (u.ring (sqKey 5 1)).items = []) ∧
    (n.nvHas (cqKey 5 1) 1 = true ∧ n.rings.any (fun e => decide (e.2.kind = .sub) && decide (e.2.link = cqKey 5 1)) = false) ∧
    (u.nvHas (cqKey 5 1) 1 = true ∧ u.rings.any (fun e => decide (e.2.kind = .sub) && decide (e.2.link = cqKey 5 1)) = true) ∧
    (u.ring (sqKey 5 1)).items.any (fun i => decide (i.tag = 7)) = false ∧ nvFeature 1 = false ∧ (u.person 5).aers.length < 4 ∧
    4 ≤ (((nvq5.setPerson 5 { nvq5.person 5 with aers := [1, 2, 3, 4] }).nvTaken 5 0 9).person 5).aers.length := by decide
theorem wit_NvmeIoCommands :
    let u := nvq5.nvTaken 5 1 9
    (nvq5.running = true ∧ 1 ≠ 0 ∧ nvq5.nvReady 5 1 = true) ∧ u.drPort 5 = some 0 ∧ vol2.targets.any (fun e => !e.2.failed) = true ∧
    (vol2.blocks < 100 + (0 + 1) ∧ 99 + (0 + 1) ≤ vol2.blocks) ∧
    ((List.range (0 + 1)).map (fun i => mget { vol2 with cache := [(0, [])] }.cache (0 + i))).all (·.isSome) = true := by decide
theorem wit_NvmeIoCommands_volumes :
    (nvq5.nvTaken 5 1 9).nvVol 5 1 = .ok vol2 ∧ (nvq5.nvTaken 5 1 9).nvVol 5 2 = .error NV_NAMESPACE ∧
    ((nvq5.setVol (volKey 5 1) { vol2 with cache := [(0, [])] }).nvTaken 5 1 9).nvVol 5 1 = .ok { vol2 with cache := [(0, [])] } :=
  ⟨rfl, rfl, rfl⟩
theorem wit_VirtioNet :
    let b : VBuf := { id := 4, segs := [], data := { st := 0, data := [] } }
    (vio5.running = true ∧ vio5.isVirtio 5 = true ∧ vio5.drPort 5 = some 0) ∧
    (let u := vio5.bump (Reg.n_doorbells_rx 0); u.drPort 5 = some 0 ∧ u.vioFetches 5 0 = true ∧ 0 < u.vioCtl 5) ∧ up.isVirtio 5 = false ∧
    (1 ≤ vio5.vioPairs 5 ∧ vio5.vioPairs 5 < 9) ∧ vio5.vioFetches 5 (vio5.vioCtl 5) = true ∧
    (vio5.vioTake 5 (vio5.vioCtl 5) b false).isSome = true := by decide

/-! ## Rings, slips and completions -/

/-- Drawer 5 behind host port 0, with its admin ring pair and the rings of its pools granted. -/
def bell5 : State :=
  { drawer5.set (Reg.DRW_DRAWER_BIND_BOUND 5) 1 with
    drw := { up.drw with shares := [(5, [{ pool := 0xB, inst := 0xFFFF, reserve := 0, ceiling := 8, extents := [(0, 8)] },
      { pool := 0xC, inst := 0xFFFF, reserve := 0, ceiling := 8, extents := [(0, 8)] }])] } }
/-- The bytes of an attach slip. -/
def att (l : List (Nat × Nat)) : List Byte := ent 0 (l ++ [(7, 0x80), (24, 6), (25, 6)])
theorem wit_DoorbellsAndSlips :
    (let w := 1 + 2 ^ 32
     let u := bell5.bump (Reg.n_doorbells_rx 0)
     let r := u.ring (ringKey 5 1)
     (bell5.running = true ∧ bell5.drPort 5 = some 0 ∧ bits w 63 57 = 0 ∧ bits w 55 48 = 0 ∧ bits w 31 24 = 0 ∧ bit w 56 = false ∧
       bit w 63 = false) ∧ (u.quiescing 5 = false ∧ r.st = .active ∧ r.nv = 0 ∧ r.kind = .sub) ∧
     (idxLe 1 r.dev = false ∧ idxSub 1 r.dev ≤ r.size) ∧ (idxLe 65 r.dev = false ∧ r.size < idxSub 65 r.dev) ∧
     (u.ring (ringKey 5 2)).st ≠ .active) ∧
    (bell5.running = true ∧ 5 < 4096) ∧ ((bell5.set (Reg.DRW_DRAWER_STATUS_STATE 5) 4).bump (Reg.n_doorbells_rx 0)).quiescing 5 = true ∧
    (up.running = true ∧ up.drPort 5 = none ∧ up.drState 5 ≠ 3 ∧ (up.set (Reg.DRW_DRAWER_STATUS_STATE 5) 3).drPort 5 = none) ∧
    (attachFields (att []) = true ∧ attachFields (att [(24, 5)]) = false ∧ (att []).length = 64) := by decide
theorem wit_AdminRingCommands :
    let u := bell5.markStarted ra
    (bell5.running = true ∧ bell5.mayStart ra = true ∧ isCtl ra.ring = false ∧ ringDrawer ra.ring = 5) ∧
    (zeroBut (ent 0 []) [(0, 8)] = true ∧ zeroBut (ent 0 [(9, 1)]) [(0, 8)] = false) ∧
    (let e := ent 1 [(8, 2), (12, 6)]
     6 ≤ leAt e 12 1 ∧ leAt e 16 8 % 4096 = 0 ∧ leAt e 13 1 = 0 ∧ zeroBut e [(0, 32)] = true ∧ leAt e 8 4 ≠ 0 ∧ u.ringGranted 5 2 = true ∧
       (u.ring (ringKey 5 2)).st = .absent ∧ (u.ring (ringKey 5 (2 ^ 22))).st = .active ∧ (u.ring (ringKey 5 (2 ^ 22))).kind = .cpl) ∧
    (let e := ent 2 [(8, 1), (10, 0x40), (12, 16)]
     leAt e 12 1 = 16 ∧ leAt e 13 1 = 0 ∧ zeroBut e [(0, 24), (32, 4)] = true ∧ leAt e 14 2 < 128 ∧ leAt e 8 4 = 2 ^ 22 + 1 ∧
       u.ringGranted 5 (2 ^ 22 + 1) = true ∧ (u.ring (ringKey 5 (2 ^ 22 + 1))).st = .absent) ∧
    ((u.ring (ringKey 5 1)).kind = .sub ∧ (u.ring (ringKey 5 1)).st = .active ∧ zeroBut (ent 4 [(8, 1)]) [(0, 12)] = true) ∧
    (((bell5.setRing (ringKey 5 1) { rg .sub 0 with st := .stopped }).markStarted ra).ring (ringKey 5 1)).st = .stopped ∧
    ((u.ring (ringKey 5 (2 ^ 22))).st ≠ .absent ∧ (u.ring (ringKey 5 (2 ^ 22))).kind ≠ .sub) ∧
    zeroBut (ent 6 [(8, 2), (32, 1)]) [(0, 12), (32, 4)] = true := by decide
/-- Drawer 5's general ring 1, changed, with an entry waiting. -/
def bellR (f : Ring → Ring) : State := bell5.setRing (ringKey 5 1) (f { rg .sub (ringKey 5 (2 ^ 22)) with peer := 1, limit := 1 })
theorem wit_RingEngine :
    let k := ringKey 5 1
    let s := bellR id
    let n := (bellR id).setRing (ringKey 5 (2 ^ 22)) { rg .cpl 0 with reserved := 64 }
    let e := ent 0x10 [(1, 0x80)]
    (s.running = true ∧ s.fetches k = true ∧ (s.ring k).slips = [] ∧ idxLe (s.ring k).limit (s.ring k).dev = false) ∧
    (entryMark e = ownerMark (s.ring k).log2 (s.ring k).dev ∧ itemChain k e = 0 ∧ (s.ring (s.ring k).link).credits ≠ 0) ∧
    (slotWanted k e [] = none ∧ entryFrom ((s.actOn k e []).ring k) (s.ring k).dev [e] ((s.actOn k e []).ring k).dev = none) ∧
    ((s.ring k).waiting ≠ 0 ∧ isCtl k = false ∧ n.fetches k = true ∧ (n.ring (n.ring k).link).credits = 0 ∧
      (n.ring k).starved = false) ∧
    (let c := ctlKey 2
     let t := (up.setRing c { rg .sub (ctlKey 8) with peer := 1, limit := 1 }).setRing (ctlKey 8) (rg .cpl 0)
     t.fetches c = true ∧ (t.ring c).waiting ≠ 0 ∧ (t.ring (t.ring c).link).credits ≠ 0 ∧ isCtl c = true) ∧
    (let r := (bellR (fun r => { r with st := .flushing })).ring k
     r.st = .flushing ∧ r.items = [] ∧ r.waitQuit = none) ∧
    (let r := (bellR (fun r => { r with mirror := some 0x4000, mirrorAt := 5 })).ring k
     r.mirrorAt ≠ r.dev ∧ r.mirror = some 0x4000) ∧
    (let t := bellR (fun r => { r with starved := true })
     (t.ring k).starved = true ∧ (t.ring (t.ring k).link).starveUp = false ∧ (t.ring k).waiting ≠ 0) ∧
    (let r := (bellR (fun r => { r with armed := true, unsig := 1 })).ring k
     r.armed = true ∧ 0 < r.unsig) := by decide
/-- A frame of 64 bytes at an address, as FRAME_SEND's entry gives it. -/
def frE : List Byte := ent 0x10 [(9, 0x40), (16, 64), (20, 64)]
theorem wit_FramesAndControlSlots :
    (bell5.running = true ∧ bell5.mayStart rgen = true ∧ (bell5.markStarted rgen).drPort (ringDrawer rgen.ring) = some 0) ∧
    up.writable = true ∧ up.on (Reg.RING_CTL_CFG_ENABLE 8) = false ∧ (up.ring (ctlKey 8)).st ≠ .flushing ∧
    slotOk 8 (2 ^ 31) 0 = false ∧ (slotOk 8 (2 ^ 31 + 6 * 2 ^ 16) 0 = true ∧ bits (2 ^ 31 + 6 * 2 ^ 16) 29 28 = 0) ∧
    (let t := ((up.set (Reg.RING_CTL_CFG_ENABLE 9) 1).setRing (ctlKey 9) (rg .sub (ctlKey 9)))
     t.writable = true ∧ t.on (Reg.RING_CTL_CFG_ENABLE 9) = true ∧ (t.ring (ctlKey 9)).st = .active ∧
       (t.ring (ctlKey 9)).kind = .sub) := by decide
theorem wit_FramesAndControlSlots_segments : frameSegs (ent 0x10 []) [] = .error ST_BAD_LENGTH ∧ ∃ l, frameSegs frE [] = .ok l :=
  ⟨rfl, _, rfl⟩

/-! ## Parsing and tables -/

/-- A frame of network port 0 in ingress queue 0, in isolate mode (`prog` 0) or with banks in force. -/
def pipe0 (prog : Nat) (l : List Byte) : State :=
  { (up.set Reg.PRS_STATUS_PROGRAMMED prog) with
    cell := { up.cell with quires := [(0x80000005, { q4 with data := l })] }
    tm := { up.tm with ingress := [(0, [fr0])] } }
/-- Node 0 of bank 0 leads to template 5, which is VALID, or to no arm. -/
def lldp : List Byte := List.replicate 12 0 ++ [0x88, 0xCC]
theorem wit_ParserAndPipelines :
    let bz := up.set Reg.PRS_STATUS_SWITCH_BUSY 1
    (up.writable = true ∧ bz.writable = true ∧ bz.on Reg.PRS_STATUS_SWITCH_BUSY = true ∧ up.on Reg.PRS_STATUS_SWITCH_BUSY = false) ∧
    (up.running = true ∧ (up.set Reg.PRS_CFG_FORCE_ISOLATE 1).on Reg.PRS_CFG_FORCE_ISOLATE = true ∧ up.prs.bad.contains (0, 1, 2) = false) ∧
    (bankEntry (Reg.PRS_TMPL_HDR 1 3) = some (1, 1, 3) ∧ up.on Reg.PRS_STATUS_PROGRAMMED = false ∧
      (rowAt (Reg.PRS_TMPL_HDR 1 3)).isSome = true) ∧
    (bankEntry (Reg.PRS_TMPL_HDR 0 3) = some (0, 1, 3) ∧ (up.set Reg.PRS_STATUS_PROGRAMMED 1).activeBank = 0 ∧ 1 ≠ bz.activeBank) ∧
    (let u := (up.set Reg.PRS_ACT_COMMIT_INDEX 5).set Reg.PRS_ACT_COMMIT_GO 0
     actionOk (((List.range 4).map (fun j => leBytes 4 (u.rd (Reg.PRS_ACT_STAGE j)))).flatten) = true) ∧
    (let s := up.wr (Reg.PRS_ACT_STAGE 0) 7
     let u := (s.set Reg.PRS_ACT_COMMIT_INDEX 5).set Reg.PRS_ACT_COMMIT_GO 0
     actionOk (((List.range 4).map (fun j => leBytes 4 (u.rd (Reg.PRS_ACT_STAGE j)))).flatten) = false) ∧
    editBad (List.replicate 32 0) = false ∧ editBad (129 :: List.replicate 31 0) = true := by decide
/-- A switch in its validation, with nothing written to the banks, and with node 0 of the inactive bank past the window. -/
def val5 : State := { up with prs := { up.prs with phase := .validating } }
def bad5 : State := { (up.wr (Reg.PRS_NODE_MATCH 1 0) 0xFF0000) with prs := { up.prs with phase := .validating } }
theorem wit_ParserAndPipelines_changes :
    ∃ s : State, s.running = true ∧ s.prs.phase = .changing := ⟨{ up with prs := { up.prs with phase := .changing } }, by decide⟩
theorem wit_ParserAndPipelines_fails :
    bad5.running = true ∧ bad5.prs.phase = .validating ∧ bad5.bankFail (1 - bad5.activeBank) = some (0, 0, 1) := by
  refine ⟨by decide, rfl, ?_⟩
  have f : (List.range 1024).find? (bad5.nodeBad 1 1) = some 0 := by
    rw [show (1024 : Nat) = 1023 + 1 from rfl, List.range_succ_eq_map, List.find?_cons, show bad5.nodeBad 1 1 0 = true from by decide]
  rw [show 1 - bad5.activeBank = 1 from by decide]
  simp only [State.bankFail, List.findSome?_cons, f]
/-- Every word of the parser's registers is 0 or 0x1FFF at reset: a bank that nothing has written passes validation. -/
theorem prs_reset (a : Nat) (h : a / 0x100000 = 5) : val5.rd a = 0 ∨ val5.rd a = 8191 := by
  have all : ∀ r ∈ rowsOf 5, resetOf r = 0 ∨ resetOf r = 8191 := by decide
  have e : val5.rd a = resetWord a := rfl
  rw [e, resetWord, rowAt, h]
  split
  · rename_i r hr; exact all r (List.mem_of_find?_eq_some hr)
  · exact Or.inl rfl
theorem prs_node (n : Nat) (hn : n < 1024) (r : Nat) : val5.nodeBad 1 r n = false := by
  have m := prs_reset (Reg.PRS_NODE_MATCH 1 n) (by simp only [Reg.PRS_NODE_MATCH]; omega)
  have d := prs_reset (Reg.PRS_NODE_DEFAULT 1 n) (by simp only [Reg.PRS_NODE_DEFAULT]; omega)
  have arms : val5.arms 1 n = [] := by
    simp only [State.arms, List.filter_eq_nil_iff, List.mem_map, List.mem_range]
    rintro w ⟨a, ha, rfl⟩
    rcases prs_reset (Reg.PRS_NODE_ARM 1 n a) (by simp only [Reg.PRS_NODE_ARM]; omega) with x | x <;> rw [x] <;> decide
  unfold State.nodeBad
  split <;> rcases m with m | m <;> rcases d with d | d <;> simp only [m, d, arms] <;> rfl
theorem prs_template (t : Nat) (ht : t < 256) (r : Nat) : val5.tmplBad 1 r t = false := by
  have h := prs_reset (Reg.PRS_TMPL_HDR 1 t) (by simp only [Reg.PRS_TMPL_HDR]; omega)
  have b : bit (val5.rd (Reg.PRS_TMPL_HDR 1 t)) 31 = false := by rcases h with x | x <;> rw [x] <;> decide
  unfold State.tmplBad
  split
  · rfl
  · simp only [b, Bool.false_and]
theorem wit_ParserAndPipelines_passes :
    val5.running = true ∧ val5.prs.phase = .validating ∧ val5.bankFail (1 - val5.activeBank) = none := by
  refine ⟨by decide, rfl, ?_⟩
  have e : ∀ r, ((List.range 1024).find? (val5.nodeBad 1 r)) = none := fun r =>
    List.find?_eq_none.2 (fun n hn => by simp [prs_node n (List.mem_range.1 hn) r])
  have f : ∀ r, ((List.range 256).find? (val5.tmplBad 1 r)) = none := fun r =>
    List.find?_eq_none.2 (fun n hn => by simp [prs_template n (List.mem_range.1 hn) r])
  rw [show 1 - val5.activeBank = 1 from by decide]
  simp only [State.bankFail, e, f, List.findSome?_cons, List.findSome?_nil, Option.map_none]
theorem wit_ParserAndPipelines_frames :
    (pipe0 0 lldp).running = true ∧ (pipe0 0 lldp).pipeNext 0 = some 0 ∧ mgetD (pipe0 0 lldp).tm.ingress 0 [] = [fr0] ∧
    ((pipe0 0 lldp).domState 16 < 2 ∧ 2 ≤ ((pipe0 0 lldp).setDom 16 2).domState 16) ∧
    (let u := (pipe0 0 lldp).pipeTake 0 0 []
     u.inReset 5 0 = false ∧ u.on Reg.PRS_STATUS_PROGRAMMED = false ∧ trapped (u.quireData fr0.quire) = true ∧ fr0.kind ≠ 1) ∧
    (let s := (pipe0 0 [1, 2]).set Reg.PRS_ISOLATE_TRAP_EN 1
     let u := s.pipeTake 0 0 []
     trapped (u.quireData fr0.quire) = false ∧ u.on Reg.PRS_ISOLATE_TRAP_EN = true) := by decide
theorem wit_ParserAndPipelines_walks :
    let s := (pipe0 1 lldp).wr (Reg.PRS_NODE_DEFAULT 0 0) 0x1005
    let n := (pipe0 1 lldp).wr (Reg.PRS_NODE_DEFAULT 0 0) 0x1FFF
    let u := s.pipeTake 0 0 []
    let v := n.pipeTake 0 0 []
    (s.running = true ∧ s.pipeNext 0 = some 0 ∧ mgetD s.tm.ingress 0 [] = [fr0] ∧ u.inReset 5 0 = false ∧
      u.on Reg.PRS_STATUS_PROGRAMMED = true) ∧
    u.walk u.activeBank lldp (u.metadata fr0 14 0) 8 0 = .template 5 ∧ v.walk v.activeBank lldp (v.metadata fr0 14 0) 8 0 = .noArm := by
  decide
/-- An entry of table 1 whose key is the word 9, and that entry at a slot of the on-die overflow store. -/
def ent9 : Entry :=
  { table := 1, key := [9], action := act0, hit := false, learned := true, static := false, wide := false, second := false,
    settled := true, idle := 0, port := 0, time := 0 }
def tbl9 (e : Entry) : State := { tbl1 with tbl := { tbl1.tbl with slots := [(slotKey 1 5, e)] } }
/-- A command of shard 0's table ring. -/
def cmd9 (op : Nat) : TblCmd := { ref := r2, opcode := op, table := 1, words := 1, flags := 0, plen := 0, action := act0, key := [9] }
theorem wit_TableCommands :
    (∃ i, tblCmdOf i = some (cmd9 0x80)) ∧ (∃ i, tblCmdOf i = some { cmd9 0x86 with words := 0, action := [], key := [] }) ∧
    (tbl1.running = true ∧ tbl1.mayStart r2 = true ∧ { cmd9 0x80 with words := 0 }.malformed = true) ∧
    ((tbl1.markStarted r2).tblTakes (cmd9 0x80) = true ∧ (tbl1.markStarted r2).findKey 1 [9] = none ∧
      (tbl1.markStarted r2).badMet 1 [9] = []) ∧
    ((up.markStarted r2).tblHeld (cmd9 0x80) = false ∧ (up.markStarted r2).tblStatus (cmd9 0x80) ≠ 0) ∧
    (let s := (tbl1.sweep 1 true 1 [r2]).markStarted r2
     s.tblHeld (cmd9 0x80) = true ∧ (cmd9 0x80).malformed = false ∧ s.inReset 6 (s.tShard 1) = false) ∧
    (((tbl9 ent9).markStarted r2).tblTakes (cmd9 0x83) = true ∧
      ((tbl9 { ent9 with learned := false }).markStarted r2).tblTakes (cmd9 0x80) = true) := by
  refine ⟨⟨.emInsert r2 1 1 0 act0 [9], rfl⟩, ⟨.tableFlush r2 1 0, rfl⟩, ?_⟩
  decide
theorem wit_TableCommands_found :
    ((tbl9 ent9).markStarted r2).findKey 1 [9] = some (slotKey 1 5, ent9) ∧
    ((tbl9 { ent9 with learned := false }).markStarted r2).findKey 1 [9] = some (slotKey 1 5, { ent9 with learned := false }) := by decide
theorem wit_TableCommands_place :
    (∃ k, (tbl1.markStarted r2).placeEm 1 [9] 1 = .ok k) ∧ bits 2 2 1 = 1 ∧
    (((tbl1.set (Reg.TBL_TABLE_CFG_OWNED 1) 1).markStarted r2).tblTakes { cmd9 0x80 with flags := 2 } = true ∧
      ((tbl1.set (Reg.TBL_TABLE_CFG_OWNED 1) 1).markStarted r2).findKey 1 [9] = none ∧
      ((tbl1.set (Reg.TBL_TABLE_CFG_OWNED 1) 1).markStarted r2).badMet 1 [9] = []) ∧
    ((tbl1.set (Reg.TBL_TABLE_CFG_OWNED 1) 1).markStarted r2).placeEm 1 [9] 1 = .error ST_SHARE_EXCEEDED :=
  ⟨⟨_, rfl⟩, rfl, by decide, rfl⟩
theorem wit_TableCommands_room :
    let e : Nat → Tcam := fun l => { table := 1, value := 0, len := l, action := act0, bad := false, hidden := false }
    ∃ m, lpmRoom [(6, e 9), (9, e 7)] 8 = some (7, m, 0) := ⟨_, rfl⟩
theorem wit_TableCommands_prefixes :
    let c : TblCmd := { cmd9 0x84 with plen := 8 }
    let v := lpmCut (lpmWord c.keyOf) 8
    let e : Tcam := { table := 1, value := v, len := 8, action := act0, bad := false, hidden := false }
    let t : State := { tblL with tbl := { tblL.tbl with tcam := [(7, e)] } }
    ((tblL.markStarted r2).tblTakes c = true ∧ (t.markStarted r2).tblTakes { c with opcode := 0x85, action := [] } = true) ∧
    ((t.markStarted r2).lpmFind 1 v 8 = some (7, e) ∧ (tblL.markStarted r2).lpmFind 1 v 8 = none ∧ tblL.tOwner 1 = none) ∧
    ((tblL.markStarted r2).tbl.tcam.any (fun e => e.2.bad) = false ∧
      (tblL.markStarted r2).tbl.tcam.length + 1 + (tblL.markStarted r2).lpmHeld none ≤ tcamSize) ∧
    (tblL.markStarted r2).tblTakes { cmd9 0x86 with words := 0, action := [], key := [] } = true := by decide
theorem wit_TableUpkeep :
    let q : LearnReq := { table := 1, key := [9], port := 0 }
    let w : Sweep := { table := 1, all := true, trigger := 1, set := [], ref := [r2] }
    let s : State := { tbl9 ent9 with tbl := { (tbl9 ent9).tbl with learnQ := [(0, [q])], sweeps := [w] } }
    (s.running = true ∧ mgetD s.tbl.learnQ 0 [] = [q] ∧ s.sweeping 1 = true ∧ s.tbl.sweeps.find? (fun w => decide (w.table = 1)) = some w) ∧
    ((tbl9 ent9).sweeping 1 = false ∧ (tbl9 ent9).findKey 1 [9] = some (slotKey 1 5, ent9) ∧ ent9.port = q.port) ∧
    (tbl1.findKey 1 [9] = none ∧ tbl1.badMet 1 [9] = [] ∧ tbl1.tKind 1 ≠ 2) ∧
    (let a := ((tbl9 ent9).set (Reg.TBL_TABLE_LEARN_AGE_EN 1) 1).set (Reg.TBL_TABLE_LEARN_AGE_PASSES 1) 1
     a.tbl.bad.contains (slotKey 1 5) = false ∧ mget a.tbl.slots (slotKey 1 5) = some ent9 ∧ a.blind (slotKey 1 5) = false ∧
     a.on (Reg.TBL_TABLE_LEARN_AGE_EN 1) = true ∧ max 1 (a.get (Reg.TBL_TABLE_LEARN_AGE_PASSES 1)) ≤ ent9.idle + 1) ∧
    (up.writable = true ∧ (up.set Reg.TBL_LPM_CFG_GAP_MODE 1).on Reg.TBL_LPM_STATUS_REBALANCING = false) := by decide
theorem wit_TableUpkeep_rebalance :
    let s := up.set Reg.TBL_LPM_STATUS_REBALANCING 1
    s.running = true ∧ s.on Reg.TBL_LPM_STATUS_REBALANCING = true ∧
    (lpmLayout (s.get Reg.TBL_LPM_CFG_GAP_MODE) s.tbl.tcam ((List.range 161).reverse) 0).filter (fun e => !s.tbl.tcam.contains e) = [] := by decide
theorem wit_TableUpkeep_registers :
    let f : Fence := { master := thrMaster 3, mask := 0xFFFF, perm := 3, lock := false, base := 0, limit := 0xFFFFFFFF }
    let s : State := { tbl9 ent9 with drw := { up.drw with fences := [(fenceKey 3 6 0, f)] } }
    (s.running = true ∧ s.fenceAdmits 3 6 (thrMaster 3) (Reg.TBL_TABLE_CFG 1 % 2 ^ 20) 4 0 = true ∧ s.tKind 1 ≠ 0 ∧ s.tShard 1 = 0 ∧
      s.tKind 2 = 0 ∧ s.tShard 1 ≠ 1 ∧ up.fenceAdmits 3 6 (thrMaster 3) (Reg.TBL_TABLE_CFG 1 % 2 ^ 20) 4 0 = false) ∧
    (s.lookup 1 1 [9]).1.isSome = true ∧
    (up.areaEmpty 0 true = true ∧ up.areaEmpty 0 false = true ∧ (tbl9 ent9).areaEmpty 0 true = false ∧
      (tbl9 ent9).areaEmpty 0 false = false) ∧
    ((up.set Reg.TBL_CFG_JIG_SCAN 0).get Reg.TBL_CFG_HBM_EN ≠ 1 ∧
      ({ up with tbl := { up.tbl with clearing := true } } : State).tbl.clearing = true) ∧
    (bit (up.rd (Reg.TBL_TABLE_CFG 1)) 31 = false ∧ up.get (Reg.TBL_TABLE_ENTRIES_ENTRIES 1) = 0 ∧ bit (tbl1.rd (Reg.TBL_TABLE_CFG 1)) 31 = true ∧
      bits (up.rd (Reg.TBL_TABLE_CFG 1)) 29 28 ≠ bits (2 ^ 28) 29 28) := by decide
theorem wit_TableUpkeep_flow :
    (List.range 256).any (fun t => decide (((up.set (Reg.TBL_TABLE_CFG_KIND 0) 2).set Reg.TBL_CFG_JIG_SCAN 0).tKind t = 2)) = true := by
  rw [List.any_eq_true]; exact ⟨0, by simp, by decide⟩
theorem wit_TableUpkeep_none :
    (List.range 256).any (fun t => decide ((up.set Reg.TBL_CFG_JIG_SCAN 0).tKind t = 2)) = false := by decide +kernel

/-! ## Leaves and the traffic manager -/

/-- The quire of thread 3, changed. -/
def qsm (f : Quire → Quire) : State := { up with cell := { up.cell with quires := [(0x80000005, f q4)] } }
theorem wit_CellCommands :
    (up.running = true ∧ up.ptrCheck (thrMaster 3) 0x80000005 ≠ 0 ∧ 
      (up.set Reg.CELL_DIE_FREE_FREE 0).dieGrant (thrMaster 3) (quireLeaves 4) = false) ∧
    (qst.running = true ∧ qst.ptrCheck (thrMaster 3) 0x80000005 = 0 ∧ qst.quire 0x80000005 = some q4 ∧ q4.refcnt < 255 ∧ q4.refcnt ≤ 1) ∧
    (let f := fun q : Quire => { q with refcnt := 255 }
     let s : State := { qsm f with cell := { (qsm f).cell with satAt := some 0 } }
     s.ptrCheck (thrMaster 3) 0x80000005 = 0 ∧ s.quire 0x80000005 = some (f q4) ∧ 1 < (f q4).refcnt ∧ s.now - 0 < 1000000) ∧
    (spanBad 0 4 4 = 0 ∧ spanBad 1 4 4 ≠ 0 ∧ spanBad 0 4 (64 * dataLeaves 4) = 0 ∧ spanBad 1 4 (64 * dataLeaves 4) ≠ 0) ∧
    (up.writable = true ∧ (up.wr Reg.CELL_INSPECT_PTR 0x80000005).ptrForm 0x80000005 ≠ 0) ∧
    (let u := qst.wr Reg.CELL_INSPECT_PTR 0x80000005
     u.ptrForm 0x80000005 = 0 ∧ (u.leafBytes 0x80000005).isSome = true) ∧ 16384 + up.sealedReserve ≤ 2097152 := by decide
theorem wit_CellCommands_grants :
    (∃ p v, (up.set Reg.CELL_DIE_FREE_FREE 100000).allocDie (thrMaster 3) 0 (List.replicate 4 0) = some (p, v)) ∧
    (∃ p v, ((up.set Reg.CELL_HBM_PAGES_PAGES 4).set Reg.CELL_HBM_FREE_FREE_PAGES 4).allocHbm (thrMaster 3) 0 (List.replicate 4 0) false =
      some (p, v)) ∧ up.allocHbm (thrMaster 3) 0 (List.replicate 4 0) false = none := ⟨⟨_, _, rfl⟩, ⟨_, _, rfl⟩, rfl⟩
theorem wit_TrafficCommits :
    let s := up.wr (Reg.TM_STAGE 0) (2 ^ 31)
    let t := up.wr (Reg.TM_STAGE 0) (2 ^ 27)
    (s.writable = true ∧ (s.tmName 0 0 true).tmReason 0 0 = 0 ∧ (t.tmName 0 0 false).tmReason 0 0 ≠ 0) ∧
    ((up.tmName 1 0 false).tmReason 1 0 = 0 ∧ (up.tmName 2 0 false).tmReason 2 0 = 0 ∧ (up.tmName 3 0 false).tmReason 3 0 = 0 ∧
      (up.tmName 4 0 false).tmReason 4 0 = 0 ∧ (up.tmName 5 0 false).tmReason 5 0 = 0) ∧
    (tmCount 7 ≤ 0 ∧ 0 < tmCount 5 ∧ 0 < tmCount 0) ∧
    (let u := (up.set (Reg.TM_PORT_CFG_OVERHEAD 0) 0).set (Reg.TM_PORT_CFG_DOWN_ACTION 0) 0
     u.get (Reg.TM_PORT_CFG_MODE 0) = 0 ∧ u.portSealed 0 = 0 ∧ u.portBacklog 0 = false) := by decide
/-- Queue 0 lies below port 0 and holds a frame of `q4`, whose copy is written or not. -/
def tmq (copying : Bool) : State :=
  { up with
    cell := { up.cell with quires := [(0x80000005, { q4 with copying := copying })] }
    tm := { up.tm with
      objs := [(tmKey 0 0, [2 ^ 31]), (tmKey 1 0, [2 ^ 31 + 2 ^ 30])]
      queues := [(0, { TmQueue.empty with frames := [{ frame := fr0, len := 4, alone := true }] })] } }
theorem wit_TrafficCommits_port :
    let u := ((tmq false).set (Reg.TM_PORT_CFG_OVERHEAD 0) 0).set (Reg.TM_PORT_CFG_DOWN_ACTION 0) 0
    u.get (Reg.TM_PORT_CFG_MODE 0) ≠ 1 ∧ u.portSealed 0 = 0 ∧ u.portBacklog 0 = true := by decide
/-- A SEALED drawer with a guaranteed rate on port 0. -/
theorem wit_TrafficCommits_sealed :
    let s : State := { (up.set (Reg.DRW_DRAWER_STATUS_KIND 5) 1) with
      drw := { up.drw with shares := [(5, [{ pool := 0x10, inst := 0, reserve := 3, ceiling := 0, extents := [] }])] } }
    let u := (s.set (Reg.TM_PORT_CFG_OVERHEAD 0) 0).set (Reg.TM_PORT_CFG_DOWN_ACTION 0) 0
    s.writable = true ∧ 1 ≠ u.get (Reg.TM_PORT_CFG_MODE 0) ∧ 0 < u.portSealed 0 := by decide
theorem wit_TrafficWork :
    (let nd := fun n => { TmNode.fresh with slot := some 4, nextAt := n }
     ((up.setTmNode 0 0 (nd 128)).running = true ∧ ((up.setTmNode 0 0 (nd 128)).tmNode 0 0) = nd 128) ∧ (nd 128).nextAt / 128 ≤ 4 ∧
       4 < (nd 1280).nextAt / 128 ∧ (nd 1280).nextAt / 128 < 4 + 65536 ∧ 4 + 65536 ≤ (nd (2 ^ 24)).nextAt / 128) ∧
    (up.backlogged 0 = false ∧ up.paused 0 = false ∧ (tmq false).backlogged 0 = true ∧ bits ((tmq false).tmWord 0 0 5) 15 0 = 0) ∧
    (let s : State := { (tmq false).set ⟨Reg.GLB_TIME, 31, 0⟩ 2000000 with
       tm := { (tmq false).tm with objs := [(tmKey 0 0, [2 ^ 31, 0, 0, 0, 0, 1])] } }
     s.backlogged 0 = true ∧ 0 < bits (s.tmWord 0 0 5) 15 0 ∧ bits (s.tmWord 0 0 5) 15 0 * 1000 < s.headDelay 0 ∧
       (s.tmQueue 0).alarm = none) ∧
    (up.set (Reg.TM_PORT_CFG_DOWN_ACTION 0) 0).portTakes 0 = false := by decide
theorem wit_TrafficWork_port :
    let s := fun c => (tmq c).set (Reg.TM_PORT_CFG_MODE 0) 1
    let h : Held := { frame := fr0, len := 4, alone := true }
    ((s true).running = true ∧ (s true).portTakes 0 = true ∧ (s true).portUp 0 = false) ∧
    (((s true).selectQueue 0 false).map (·.1) = some 0 ∧ ((s true).tmQueue 0).frames = [h] ∧
      (s true).quire fr0.quire = some { q4 with copying := true } ∧ fr0.drawer = 0) ∧
    ((s false).quire fr0.quire = some q4 ∧ q4.copying = false ∧ q4.poison = false ∧
      (((s false).selectQueue 0 false).bind (fun v => v.2.dequeue 0)).map (·.1) = some h) := by decide
theorem wit_TrafficWork_hostPort :
    let h : Held := { frame := fr0, len := 4, alone := true }
    let s : State := { (tmq false).set (Reg.TM_PORT_CFG_MODE 512) 1 with
      tm := { (tmq false).tm with objs := [(tmKey 0 0, [2 ^ 31]), (tmKey 1 0, [2 ^ 31 + 2 ^ 30 + 512])] } }
    s.running = true ∧ s.portTakes 512 = true ∧ (s.selectQueue 512 false).map (·.1) = some 0 ∧
    ((s.selectQueue 512 true).bind (fun v => v.2.dequeue 0)).map (·.1) = some h := by decide
theorem wit_TrafficWork_delivery :
    let s : State := { run3 with
      cell := { up.cell with quires := [(0x80000005, q4)] }
      tm := { up.tm with coreQ := [(0, [(fr0, 0)])] } }
    let d : State := { up with
      cell := { up.cell with quires := [(0x80000005, q4)] }
      tm := { up.tm with coreQ := [(0, [(fr0, 0)])] } }
    (s.running = true ∧ s.coreHead (mgetD s.tm.coreQ 0 []) [] [] = some (fr0, 0, []) ∧ s.domState 32 < 2 ∧
      (s.coreLeave 0 []).epOn 0 = true ∧ bit ((s.coreLeave 0 []).epAccept 0) 3 = true) ∧
    (d.running = true ∧ d.coreHead (mgetD d.tm.coreQ 0 []) [] [] = some (fr0, 0, []) ∧ d.domState 32 < 2 ∧
      (d.coreLeave 0 []).epOn 0 = false) := by decide

/-! ## Transport -/

/-- The state of connection 0 that its commands meet: marked and with its context used. -/
def w5 (r : Ref) (x : Conn) : State := ((xpt5 x).markStarted r).connUsed 0
/-- A CONN_CONNECT entry whose only path goes to queue 0. -/
def conE (l : List (Nat × Nat)) : List Byte := ent 0x20 (l ++ [(33, 1), (39, 1), (44, 1)])
theorem wit_ConnectionCommands :
    ((xpt5 cn0).running = true ∧ (xpt5 cn0).mayStart rsnd = true ∧ isCtl rsnd.ring = false ∧ ((xpt5 cn0).markStarted rsnd).atConn rsnd 0 = true) ∧
    (drawer5.running = true ∧ drawer5.mayStart rgen = true ∧ (drawer5.markStarted rgen).ringConn rgen.ring = none) ∧
    ((w5 rsnd { cn0 with st := 1 }).connectBad (conE []) = false ∧ (w5 rsnd { cn0 with st := 1 }).connectDenied 5 (conE []) = true ∧
      (w5 rsnd cn0).connectBad (conE [(46, 1)]) = true ∧ bit (leAt (conE []) 35 1) 1 = false) ∧
    ((w5 rsnd { cn0 with st := 1 }).conn 0).st = 1 ∧ ((w5 rsnd cn0).conn 0).st = 2 ∧ ((w5 rsnd { cn0 with st := 3 }).conn 0).st = 3 ∧
    ((w5 rsnd { cn0 with st := 4 }).conn 0).st = 4 ∧ (zeroBut (ent 0x21 []) [(0, 8)] = true ∧ zeroBut (ent 0x21 [(9, 1)]) [(0, 8)] = false) ∧
    zeroBut (ent 0x40 [(16, 64), (20, 64)]) [(0, 24)] = true ∧
    (let s := xpt5 { cn0 with st := 3 }
     (s.conn 0).ops = [] ∧ (s.conn 0).tracks = []) ∧
    ({ xpt5 cn0 with xpt := { (xpt5 cn0).xpt with fetching := [0] } } : State).xpt.fetching.contains 0 = true := by decide
theorem wit_ConnectionCommands_granted :
    let s : State := { ((xpt5 { cn0 with st := 1 }).wr (Reg.XPT_LOCAL_CTRL 0) (2 ^ 31)) with
      tm := { up.tm with objs := [(tmKey 0 0, [2 ^ 28])] } }
    s.running = true ∧ (s.markStarted rsnd).atConn rsnd 0 = true ∧
    ((s.markStarted rsnd).connUsed 0).connectDenied 5 (conE []) = false ∧ ((s.markStarted rsnd).connUsed 0).connectBad (conE []) = false := by
  decide
theorem wit_ConnectionCommands_segments :
    ∃ l, segList (leAt (ent 0x40 [(16, 64), (20, 64)]) 8 8) 64 64 [] = .ok l := ⟨_, rfl⟩
/-- An operation of connection 0 that waits, or is started. -/
def op5 (code : Nat) : XOp := xopOf rsnd code (ent code [(8, 4), (40, 4)]) [(0, 4)]
theorem wit_OperationsAndKeys :
    (opZero 0x30 (leAt (ent 0x30 [(8, 4), (40, 4)]) 1 1 % 32) (ent 0x30 [(8, 4), (40, 4)]) = true ∧
      opZero 0x30 0 (ent 0x30 [(12, 4)]) = false ∧ leAt (ent 0x30 [(8, 4), (40, 4)]) 8 4 ≤ 2147483648 ∧ cn0.roce = false) ∧
    (opZero 0x33 0 (ent 0x33 [(8, 8)]) = true ∧ leAt (ent 0x33 [(8, 8)]) 8 4 = 8 ∧ leAt (ent 0x33 [(8, 8)]) 24 8 % 8 = 0 ∧
      leAt (ent 0x33 [(8, 7)]) 8 4 ≠ 8) ∧
    (let s := xpt5 { cn0 with wait := [op5 0x30] }
     s.running = true ∧ (s.conn 0).wait = [op5 0x30] ∧ (s.conn 0).st = 2 ∧ (s.conn 0).mayStart (op5 0x30) = true ∧
       (op5 0x30).takesRecv = true ∧ (s.conn 0).mayStart (op5 0x31) = true ∧ (op5 0x31).takesRecv = false) ∧
    ({ cn0 with ops := List.replicate 16 (op5 0x32) }.mayStart (op5 0x32) = false) ∧
    (let x := { cn0 with ops := [op5 0x30] }
     liveConn x.st = true ∧ x.vol = false ∧ x.nextRtx = none ∧ idxSub x.sndNxt x.sndUna < 256 ∧ x.ctl = [] ∧
       x.ops.find? (fun o => !o.sent && !o.stopped) = some (op5 0x30) ∧ x.unackedBytes + min x.mtu (4 - 0) ≤ x.cwnd ∧
       { x with unacks := [xu0], rtx := [0] }.nextRtx = some xu0 ∧ 256 ≤ idxSub 256 x.sndUna) := by decide
theorem wit_OperationsAndKeys_segments : ∃ l, segList 0 4 4 [] = .ok l := ⟨_, rfl⟩
theorem wit_OperationsAndKeys_keys :
    (let u := (xpt5 cn0).markStarted rgen
     let e := ent 0x12 [(32, 64)]
     (xpt5 cn0).mayStart rgen = true ∧ u.keyIndex 5 (leAt e 8 4) = some 0 ∧ zeroBut e [(0, 14), (16, 4), (24, 16)] = true ∧
       leAt e 12 1 < 8 ∧ leAt e 13 1 = 0 ∧ leAt e 16 4 < 2 ^ 20 ∧ (u.key 0).st = 0 ∧ leAt e 32 8 ≠ 0 ∧ leAt e 32 8 ≤ 2 ^ 48) ∧
    (let u := ((xpt5 cn0).setKey 0 { XKey.free with st := 1 }).markStarted rgen
     u.keyIndex 5 0 = some 0 ∧ (u.key 0).st = 1 ∧ zeroBut (ent 0x13 []) [(0, 12)] = true) ∧
    (let k : XKey := { XKey.free with st := 2, ref := some rgen }
     let s := (xpt5 cn0).setKey 0 k
     s.running = true ∧ (s.key 0).st = 2 ∧ (s.key 0).inflight = 0 ∧ (s.key 0).ref = some rgen ∧ (s.key 0).slow = false ∧
       (((xpt5 cn0).setKey 0 { k with inflight := 1 }).key 0).inflight ≠ 0) := by decide
theorem wit_OperationsAndKeys_timers :
    (let x := { cn0 with ackCnt := 1, unacks := [xu0], retryLim := 4 }
     let s := xpt5 x
     s.running = true ∧ s.conn 0 = x ∧ liveConn x.st = true ∧ x.unacks ≠ [] ∧ x.roce = false ∧ 0 < x.ackCnt ∧
       x.retries + 1 ≤ x.retryLim ∧ x.unacks.find? (fun u => decide (u.psn = x.sndUna)) = some xu0 ∧
       (xpt5 cn0).conn 0 = cn0 ∧ cn0.unacks = [] ∧ ({ x with retries := 4 } : Conn).retryLim < 4 + 1) ∧
    (let o := { op5 0x30 with stopped := true }
     let x := { cn0 with ops := [o], rnrLim := 1 }
     x.ops.find? (fun o => o.stopped && o.takesRecv && decide (o.seq = 0)) = some o ∧ x.rnrs + 1 ≤ x.rnrLim ∧
       ({ x with rnrs := 1 } : Conn).rnrLim < 1 + 1 ∧ x.rnrLim ≠ 7) ∧
    up.writable = true ∧ bit (2 ^ 31) 31 = true := by decide
theorem wit_TransportArrivals_distances :
    (2 ^ 31 ≤ idxSub 0 1) ∧ (256 ≤ idxSub 256 0 ∧ idxSub 256 0 < 2 ^ 31 ∧ bit cn0.rcvMap (idxSub 256 0 - 1) = false) := by decide
/-- A frame's packet of a wire opcode, or RoCEv2 opcode, is accepted from XPT[0]. -/
def got5 (k : Nat) (l : List Byte) (x : Conn) (acc : State → XPkt → Bool) : Bool :=
  let s := xptGot x k l
  let r := State.xptPick (mgetD s.tm.xptQ 0 []) [] s
  decide (r.1 = some (fr0, k, [])) && (match parseUdp (r.2.frameBytes fr0) with
    | some u => acc r.2 u
    | none => false)
theorem wit_TransportArrivals_wires :
    (xptGot cn0 0 (spl 1)).running = true ∧ ([1, 2, 3, 4, 5, 6, 7, 0x0E, 0x0F, 0x10, 0x11, 0x12].all (fun w =>
      got5 0 (spl w) cn0 (fun v u => v.splAccepts (beAt u.pl 4 4) u && decide (beAt u.pl 1 1 = w) &&
        decide (idxSub (splIn u fr0.quire (splBody u)).psn cn0.rcvBase = 0)))) = true := by decide +kernel
theorem wit_TransportArrivals_roce :
    got5 1 (roceB 4) { cn0 with roce := true } (fun v u => v.roceAccepts u && !decide (beAt u.pl 0 1 = 0x81)) = true ∧
    got5 1 (roceB 0x81) { cn0 with roce := true } (fun v u => v.roceAccepts u && decide (beAt u.pl 0 1 = 0x81)) = true := by decide +kernel

/-! ## Threads and channels -/

/-- Thread 0 at an instruction in the boot SRAM, x1 being an address there, and what it fetches. -/
def runW (w : Nat) : State :=
  { ((up.setThread 0 ({ Thread.reset with pc := 0x3100000000 }.setX 1 0x3100000100)).setThState 0 1) with
    mem := { up.mem with
      bytes := ((List.range 4).map (fun i => (bootBase + i, BitVec.ofNat 8 (w / 2 ^ (8 * i))))).filter (fun e => decide (e.2 ≠ 0)) } }
def runF (w : Nat) : Option Nat × Option Nat × State :=
  let r := (runW w).rvParcel 0 0x3100000000
  let q := r.2.rvParcel 0 0x3100000002
  (r.1, q.1, q.2)
theorem wit_ThreadInstructions :
    (run0.running = true ∧ run0.rvIssues 0 = true ∧ (run0.thread 0).irq = none ∧ (run0.thread 0).pc % 2 = 0) ∧
    (let s := run0.setThread 0 ((((run0.thread 0).setCsr 0x344 2).setCsr 0x304 2).setCsr 0x300 8)
     s.running = true ∧ s.rvIssues 0 = true ∧ (s.thread 0).irq = some 1) ∧
    (let s := run0.setThread 0 { run0.thread 0 with pc := 5 }
     s.rvIssues 0 = true ∧ (s.thread 0).irq = none ∧ (s.thread 0).pc % 2 = 1) := by decide
theorem wit_ThreadInstructions_short :
    (((runW 1).rvParcel 0 0x3100000000).1 = some 1 ∧ expandC 1 = some 0x13) ∧
    (((runW 0).rvParcel 0 0x3100000000).1 = some 0 ∧ expandC 0 = none) := by decide
theorem wit_ThreadInstructions_words :
    [0x500093, 0x208033, 0x8000033, 0x50B7, 0x5097, 0x6F, 0x8067, 0x63, 0x1063, 0x8083, 0x108023, 0x73, 0x100073].all (fun w =>
      (runW w).running && (runW w).rvIssues 0 && ((runW w).thread 0).irq.isNone && (runF w).1 = some (w % 65536) && decide (w % 4 = 3) &&
        (runF w).2.1 = some (w / 65536)) = true := by decide
theorem wit_ThreadInstructions_clauses :
    (0x500093 % 128 = 0x13 ∧ aluI (bits 0x500093 14 12) (bits 0x500093 31 20) 0 = some 5) ∧
    (0x208033 % 128 = 0x33 ∧ aluR (bits 0x208033 31 25) (bits 0x208033 14 12) 3 4 = some 7) ∧
    (0x8000033 % 128 = 0x33 ∧ aluR (bits 0x8000033 31 25) (bits 0x8000033 14 12) 3 4 = none) ∧
    (0x50B7 % 128 = 0x37 ∧ 0x5097 % 128 = 0x17 ∧ 0x6F % 128 = 0x6F ∧ 0x8067 % 128 = 0x67 ∧ bits 0x8067 14 12 = 0) ∧
    (0x63 % 128 = 0x63 ∧ branchTaken (bits 0x63 14 12) 0 0 = some true ∧ branchTaken (bits 0x1063 14 12) 0 0 = some false) ∧
    (0x8083 % 128 = 0x03 ∧ bits 0x8083 14 12 < 4 ∧ ((runF 0x8083).2.2.rvLoad 0 (0x3100000100 + immI 0x8083) (2 ^ bits 0x8083 14 12)).1 =
      some [0]) ∧
    (0x108023 % 128 = 0x23 ∧ bits 0x108023 14 12 < 4) := by decide
/-- Thread 3 with words in its staging slot, and with values in x1 and x2. -/
def runS (st : Option (Nat × Nat × List Nat)) (a b : Nat) : State :=
  run3.setThread 3 { ((run3.thread 3).setX 1 a).setX 2 b with stage := st }
theorem wit_ThreadSends :
    (up.running = true ∧ up.thState 3 ≠ 1) ∧
    (let s := run3.setThread 3 { run3.thread 3 with fault := [(8, 1)] }
     s.running = true ∧ s.thState 3 = 1 ∧ (s.thread 3).fault = [(8, 1)]) ∧
    (let s := runS (some (1, 0, [7])) 0 9
     s.running = true ∧ s.thState 3 = 1 ∧ (s.thread 3).fault = [] ∧ (s.thread 3).stage = some (1, 0, [7]) ∧ 1 ≠ (s.thread 3).getX 1 % 2 ^ 16) ∧
    (bits ((runS none (2 ^ 16) 9).thread 3 |>.getX 1) 31 16 ≠ 0 ∧ 32 ≤ (List.replicate 32 0).length) ∧
    ((runS none 0 9).thread 3).stage = none ∧
    (let s := runS (some (0, 0, [7])) 0 9
     (s.thread 3).getX 1 % 2 ^ 16 = 0 ∧ s.coreReset 0 = false ∧ s.chRefusal 3 0 0 = none ∧ s.chRefusal 3 5 0 = some 0 ∧
       s.commitRoom { id := 0, src := 0x2003, dest := 0, reply := 0, words := [7, 9] } = true) ∧
    (let s := run3.setEndp 0 { msgs := List.replicate 16 msg0, read := 0, owed := 0 }
     s.chRefusal 3 0 0 = none ∧ s.commitRoom msg0 = false) ∧
    (let s := { run3 with err := { run3.err with blk := [{ block := 10, inst := 0, ended := 0 }] } }
     s.running = true ∧ s.thState 3 = 1 ∧ s.coreReset 0 = true) ∧
    (let s := run3.block 3 3 0 1 0 false (some msg0)
     s.running = true ∧ s.thState 3 = 2 ∧ ((s.thread 3).wait.bind (·.commit)) = some msg0 ∧ s.commitRoom msg0 = true ∧
       (s.setEndp 0 { msgs := List.replicate 16 msg0, read := 0, owed := 0 }).commitRoom msg0 = false) := by decide
theorem wit_ThreadReads :
    (up.mayRead 3 0 = false ∧ run3.running = true ∧ run3.thState 3 = 1 ∧ (run3.thread 3).fault = []) ∧
    (run3.mayRead 3 0 = true ∧ (run3.endp (ownEp 3 0)).msgs = []) ∧
    (let m := { msg0 with words := [5, 6] }
     let s := run3.setEndp 0 { msgs := [m], read := 0, owed := 0 }
     s.mayRead 3 0 = true ∧ (s.endp (ownEp 3 0)).msgs = m :: [] ∧ (s.endp (ownEp 3 0)).read + 1 < m.words.length ∧
       m.words.length ≤ 1 + 1 ∧ msg0.words.length ≤ 0 + 1) ∧
    (let s := (run3.set (Reg.CORE_PORT_CFG_INTERNAL 0 0) 1).set (Reg.CORE_PORT_CFG_GROUP 0 0) 9
     s.thState 3 = 1 ∧ s.portAdmits 3 0 = false) ∧
    (run3.portAdmits 3 0 = true ∧ run3.get (Reg.CORE_PORT_VALUE_VALUE 0 0) = 0 ∧
      (run3.set (Reg.CORE_PORT_VALUE_VALUE 0 0) 8).get (Reg.CORE_PORT_VALUE_VALUE (3 / 64) 0) ≠ 0) := by decide
theorem wit_ThreadReads_arrivals :
    (let s := { run3 with core := { run3.core with flight := [msg0] } }
     s.running = true ∧ s.core.flight.find? (msgHit 0 0) = some msg0 ∧ epCl 0 < 24 ∧ s.domState (32 + epCl 0) < 2 ∧ s.epOn 0 = true ∧
       2 ≤ (s.set (Reg.PWR_DOMAIN_STATE 32) 2).domState 32) ∧
    (let m := { msg0 with src := 2 ^ 16 }
     let s := { up with core := { up.core with flight := [m] } }
     s.core.flight.find? (msgHit (2 ^ 16) 0) = some m ∧ s.domState 32 < 2 ∧ s.epOn 0 = false ∧ 2 ^ 16 ≤ m.src ∧ msg0.src < 2 ^ 16) := by
  decide
theorem wit_ThreadReads_ends :
    (let w := fun n : Nat => { rd := 1, header := false, timeout := n, order := (0 : Nat), commit := none, sent := false : ThreadWait }
     let s := fun n => run3.block 3 1 0 1 n false none
     (s 5).running = true ∧ (s 5).thState 3 = 2 ∧ ((s 5).thread 3).wait = some (w 5) ∧ ((s 0).thread 3).wait = some (w 0)) ∧
    (let s := run3.set (Reg.CORE_EP_CFG_ACCEPT 0 0 0) 1
     s.running = true ∧ (s.members 3).contains 3 = true ∧ (s.members 3).all (fun t => s.waitsInside 3 t) = false ∧
       ((s.block 3 1 0 1 0 false none).members 3).contains 3 = true ∧
       ((s.block 3 1 0 1 0 false none).members 3).all (fun t => (s.block 3 1 0 1 0 false none).waitsInside 3 t) = true) := by decide
/-- Thread 3 with its group's second member, thread 4. -/
def run34 : State := (run3.setThState 4 1).set (Reg.CORE_THREAD_STATUS_MASTER 4) 3
theorem wit_ThreadGroups :
    (run34.running = true ∧ run34.thState 3 = 1 ∧ (run34.thread 3).fault = []) ∧
    (run34.startAdmits 3 1536 = false ∧ run34.startAdmits 4 5 = false ∧ run34.startAdmits 3 5 = true ∧ run34.live 5 = false ∧
      run34.startHeld 5 = false ∧ run34.live 4 = true) ∧
    (run34.ownMember 3 4 = true ∧ run34.ownMember 3 3 = false) ∧ (run34.hasMembers 3 = true ∧ run3.hasMembers 3 = false) := by decide
theorem wit_ThreadGroups_registers :
    (run3.writable = true ∧ (run3.threadCtl 3 3).live 3 = true ∧ (run3.threadCtl 5 3).live 5 = false ∧ (run3.threadCtl 5 3).startHeld 5 = false) ∧
    (run3.get Reg.CORE_STAGE_SEL_THREAD = 0 ∧ run3.thState 0 ≠ 3 ∧
      (let s := ((up.setThState 3 3).set Reg.CORE_STAGE_SEL_THREAD 3)
       let u := s.setThread 3 { s.thread 3 with stage := some (0, 0, [7]) }
       s.writable = true ∧ u.thState 3 = 3 ∧ (u.thread 3).stage = some (0, 0, [7]) ∧ (s.thread 3).stage = none)) ∧
    (bit (2 ^ 31) 31 = true ∧ (run3m.endp 0).msgs ≠ [] ∧ (run3.endp 0).msgs = [] ∧ bit 0 31 = false) ∧
    (64 % 128 ≤ 64 ∧ 0 + 64 % 128 ≤ 192 ∧ 64 < 65 % 128) := by decide

/-! ## Accelerators and the block service -/

theorem slice_length (l : List Byte) (i n : Nat) : (slice l i n).length = n := by
  unfold slice
  have h : ((l.drop i).take n).length ≤ n := List.length_take_le ..
  rw [List.length_append, List.length_replicate]; omega
/-- A job's result for a destination that takes nothing, and for one of the host that no port reaches. -/
theorem jobOut_absent (s : State) (v : JobEnv) (b : Buf) (l : List Byte) (h : b.space = 3) (k : l.length ≤ b.len) :
    s.jobOut v b l = (some (0, l.length), s) := by
  rw [State.jobOut, if_neg (Nat.not_lt.mpr k), State.bufWrite, if_pos (Or.inr h)]; rfl
theorem jobOut_unreached (s : State) (v : JobEnv) (b : Buf) (x : Byte) (l : List Byte) (h : b.space = 0) (k : (x :: l).length ≤ b.len)
    (p : s.envPort v = none) : s.jobOut v b (x :: l) = (some (ST_FENCE_DENIED, 0), s) := by
  rw [State.jobOut, if_neg (Nat.not_lt.mpr k), State.bufWrite, if_neg (by simp [h]), h]; simp only [p]; rfl
/-- A job of drawer 5's ring with a good body on an awake bank, whose source is empty. -/
def job5 (ty op : Nat) (e : List Byte) : Bool :=
  let u := (acc5 ty).markStarted rgen
  (acc5 ty).running && (acc5 ty).mayStart rgen && decide (u.domState 5 < 2) && !u.inReset 11 0 && decide (jobBad op e [] = 0) &&
  decide ((u.bufRead (envOf rgen) (srcOf e) ⟨0, []⟩).1 = 0)
theorem wit_AcceleratorJobs_checks :
    (let u := ((acc5 1).set (Reg.PWR_DOMAIN_STATE 5) 2)
     u.running = true ∧ u.mayStart rgen = true ∧ 2 ≤ (u.markStarted rgen).domState 5) ∧
    (let u := { acc5 1 with err := { (acc5 1).err with blk := [{ block := 11, inst := 0, ended := 0 }] } }
     u.running = true ∧ u.mayStart rgen = true ∧ (u.markStarted rgen).domState 5 < 2 ∧ (u.markStarted rgen).inReset 11 0 = true) ∧
    (jobBad 0x50 (ent 0x50 [(44, 9)]) [] ≠ 0 ∧ isCtl rgen.ring = false ∧ isCtl r2.ring = true) := by decide
theorem wit_AcceleratorJobs_data :
    job5 1 0x50 (ent 0x50 []) = true ∧ ((acc5 1).markStarted rgen).jobKey (envOf rgen) 0 [1, 2] = some 0 ∧
    job5 3 0x50 (ent 0x50 [(44, 1)]) = true ∧ ((acc5 3).markStarted rgen).jobKey (envOf rgen) 0 [3] = some 0 ∧
    ((acc5 4).markStarted rgen).jobKey (envOf rgen) 0 [3] = none ∧ jobBad 0x50 (ent 0x50 [(45, 1), (8, 0), (16, 16)]) [] = 0 ∧
    bit (leAt (ent 0x50 [(45, 1)]) 45 1) 0 = true ∧
    (((acc5 1).markStarted rgen).bufRead (envOf rgen) ⟨0, 16, 0⟩ ⟨5, []⟩).1 ≠ 0 := by decide
theorem wit_AcceleratorJobs_others :
    ([0, 1, 2, 3, 4].all (fun a => job5 4 0x51 (ent 0x51 [(44, a)])) = true ∧
      ((acc5 4).markStarted rgen).jobKey (envOf rgen) 0 [4] = some 0 ∧ ((acc5 3).markStarted rgen).jobKey (envOf rgen) 0 [4] = none) ∧
    job5 4 0x52 (ent 0x52 [(45, 1)]) = true ∧ job5 4 0x53 (ent 0x53 []) = true ∧
    (job5 7 0x59 (ent 0x59 [(44, 7)]) = true ∧ ((acc5 7).markStarted rgen).jobKey (envOf rgen) 0 [7] = some 0) ∧
    (job5 11 0x5B (withBit (ent 0x5B [(44, 11)]) 45 true) = true ∧ 46 ≤ (ent 0x5B [(44, 11)]).length ∧
      ((acc5 11).markStarted rgen).jobKey (envOf rgen) (keyOf (withBit (ent 0x5B [(44, 11)]) 45 true)) [11] = some 0) ∧
    job5 11 0x5B (withBit (ent 0x5B [(44, 11)]) 45 false) = true := by decide
/-- A public key of 65 bytes in a quire of drawer 5. -/
def pub5 : State :=
  { acc5 7 with cell := { up.cell with quires := [(0x80000005, { q4 with owner := drMaster 5, data := List.replicate 65 0, leaves := [0x80000005, 0x80000006] })] } }
theorem wit_AcceleratorJobs_verify :
    let v := envOf rgen
    let u := pub5.markStarted rgen
    let e := ent 0x5A [(44, 7), (24, 5), (27, 0x80), (36, 2), (32, 65), (60, 1)]
    pub5.running = true ∧ pub5.mayStart rgen = true ∧ u.domState 5 < 2 ∧ u.inReset 11 0 = false ∧ jobBad 0x5A e [] = 0 ∧
      (u.bufRead v (srcOf e) ⟨0, []⟩).1 = 0 ∧ (u.bufRead v (dstOf e) ⟨0, []⟩).1 = 0 ∧ (u.bufRead v (bufAt e 48) ⟨0, []⟩).1 = 0 := by decide
/-- Two data chunks and one check chunk of 64 bytes: the chunks of the host, and the third in a continuation. -/
def ec5 (op p w : Nat) : List Byte := ent op [(16, 64), (32, 64), (44, 2), (45, 1), (48, 64), (52, p), (56, w)]
def ecC (len : Nat) : List (List Byte) := [ent 0x1F [(16, len), (36, 3), (52, 3)]]
theorem wit_AcceleratorJobs_codes :
    jobBad 0x54 (overlay (ec5 0x54 0 0) 52 (List.replicate 12 0)) (ecC 64) = 0 ∧
    jobBad 0x55 (ec5 0x55 3 4) (ecC 64) = 0 ∧ jobBad 0x55 (overlay (ec5 0x55 1 4) 36 [3]) (ecC 64) = 0 := by decide
theorem wit_KeysAndSeals_keys :
    let v := envOf rgen
    (((acc5 0).markStarted rgen).ktIndex v.owner 99 = none ∧ jobBad 0x58 (ent 0x58 [(40, 99)]) [] = 0) ∧
    (((acc5 1).markStarted rgen).ktIndex v.owner 0 = some 0 ∧ (((acc5 1).markStarted rgen).ktEntry 0).type ≠ 0 ∧
      (((acc5 1).markStarted rgen).ktEntry 0).users = 0) ∧
    (((acc5 0).markStarted rgen).ktIndex v.owner 0 = some 0 ∧ (((acc5 0).markStarted rgen).ktEntry 0).type = 0) ∧
    job5 0 0x58 (ent 0x58 []) = true ∧ job5 0 0x56 (ent 0x56 [(44, 1)]) = true ∧ job5 0 0x57 (ent 0x57 [(44, 7)]) = true ∧
    (dstOf (ent 0x57 [(44, 7)])).len < pubLen 7 := by decide
theorem wit_KeysAndSeals_streams :
    (let s := (acc5s false).setKt 0 { type := 12, users := 1, secret := [] }
     0 < ((s.markStarted rgen).ktEntry 0).users) ∧
    (((acc5s false).markStarted rgen).streamBound 0 = false ∧ ((acc5s true).markStarted rgen).streamBound 0 = true ∧
      (((acc5s true).markStarted rgen).ktEntry 0).type = 12 ∧ (((acc5s true).markStarted rgen).ktEntry 0).users = 0) := by decide
/-- Entry 0 is drawn with a destination that takes 65 bytes of its public encoding, or none of them. -/
theorem wit_KeysAndSeals_drawn (u : State) (x : List Byte) (h : x = u.pubOf 0) (t : (u.ktEntry 0).type = 7) :
    u.jobOut (envOf rgen) (dstOf (ent 0x57 [(44, 7), (32, 65), (36, 3)])) x = (some (0, 65), u) ∧
    jobBad 0x57 (ent 0x57 [(44, 7), (32, 65)]) [] = 0 := by
  have l : x.length = 65 := by rw [h, State.pubOf, slice_length, t]; rfl
  refine ⟨(jobOut_absent u _ _ x (by decide) (by rw [l]; decide)).trans (by rw [l]), by decide⟩
theorem wit_KeysAndSeals_unwritten (x : Byte) (l : List Byte) (h : (x :: l).length = 65) :
    let u := (acc5 0).markStarted r2
    ((u.jobOut (envOf r2) (dstOf (ent 0x57 [(44, 7), (32, 65)])) (x :: l)).1 = some (ST_FENCE_DENIED, 0)) ∧ ST_FENCE_DENIED ≠ 0 := by
  intro u
  exact ⟨by rw [jobOut_unreached u _ _ x l (by decide) (by rw [h]; decide) (by decide)], by decide⟩
theorem wit_KeysAndSeals_open :
    let s := ((acc5 0).setKt 1 { type := 7, users := 0, secret := [] })
    let e := fun k => ent 0x5C [(20, 3), (36, 3), (48, 1), (60, k)]
    let u := s.markStarted rgen
    s.running = true ∧ s.mayStart rgen = true ∧ u.domState 5 < 2 ∧ u.inReset 11 0 = false ∧ jobBad 0x5C (e 0) [] = 0 ∧
      u.ktIndex (envOf rgen).owner 0 = some 0 ∧ (u.ktEntry 0).type = 0 ∧ u.jobKey (envOf rgen) 1 [7, 9] = some 1 ∧
      bit (leAt (e 0) 62 1) 0 = false ∧ u.sealRing (envOf rgen) 7 = none ∧ u.sealRing (envOf rgen) 0 = some (ringKey 5 4194304) := by decide
theorem wit_KeysAndSeals_appends :
    let u := (acc5s false).markStarted rgen
    let v := envOf rgen
    (acc5s false).running = true ∧ (acc5s false).mayStart rgen = true ∧ u.domState 5 < 2 ∧ u.inReset 11 0 = false ∧
      jobBad 0x5D (ent 0x5D []) [] = 0 ∧ jobBad 0x5E (ent 0x5E []) [] = 0 ∧ u.jobKey v 0 [12] = some 0 ∧
      ((acc5 1).markStarted rgen).jobKey v 0 [12] = none ∧ (u.bufRead v ⟨0, 0, 0⟩ ⟨0, []⟩).1 = 0 ∧ (u.sealCredit 0).isSome = true ∧
      ((u.setRing (ringKey 5 4194304) { u.ring (ringKey 5 4194304) with reserved := 64 }).sealCredit 0).isSome = false ∧
      u.stream 0 = some seal0 ∧ seal0.overdue = false ∧ bit (leAt (overlay (ent 0x5E []) 1 [1]) 1 1) 0 = true ∧
      bit (leAt (ent 0x5E []) 1 1) 0 = false := by decide
theorem wit_KeysAndSeals_binds :
    let v := envOf rgen
    let b := fun f => withBit (ent 0x48 []) 1 f
    (2 ≤ (ent 0x48 []).length ∧ jobBad 0x48 (b false) [] = 0 ∧ jobBad 0x48 (b true) [] = 0) ∧
    [false, true].all (fun f =>
      let u := (acc5s f).markStarted rgen
      decide (u.jobKey v (keyOf (b f)) [12] = some 0) && decide (v.owner.bind (fun d => nthIndex (u.extents d 9 64) (leAt (b f) 48 4)) = some 0) &&
        !decide ((u.conn 0).st = 0) && decide (((u.conn 0).sealTo.isSome && (!(u.conn 0).unbind || (u.conn 0).tracks.any (·.sealed))) = f)) = true := by
  decide
theorem wit_KeysAndSeals_boundary :
    (let s := { acc5s false with acc := { (acc5s false).acc with streams := [(0, seal0)] } }
     s.running = true ∧ s.stream 0 = some seal0 ∧ seal0.records ≤ seal0.next - seal0.last ∧ seal0.wait = [] ∧ seal0.overdue = false ∧
       seal0.owner = some 5) ∧
    (let x := { seal0 with records := 5 }
     x.next - x.last < x.records ∧ up.now - x.lastTime < x.millis * 1000000) := by decide
theorem wit_SlotsAndVolumes_slots :
    (let s : State := { acc5 1 with acc := { (acc5 1).acc with waiting := [ringKey 5 1] } }
     s.running = true ∧ s.slotNext = some (ringKey 5 1) ∧ s.acc.waiting.contains (ringKey 5 1) = true ∧
       s.acc.starved.contains (ringKey 5 1) = false) ∧ up.slotNext = none := by decide
theorem wit_SlotsAndVolumes_volumes :
    let e := ent 0xA0 [(8, 5), (10, 1), (11, 2), (12, 1), (13, 14), (16, 9)]
    (zeroBut e [(0, 14), (16, 8)] = true ∧ volHead e = true ∧ leAt e 11 1 = 2 ∧ leAt e 12 1 = 1 ∧ leAt e 13 1 = 14 ∧ leAt e 16 8 ≠ 0 ∧
      volKey (leAt e 8 2) (leAt e 10 1) = 161 ∧ volHead (ent 0xA0 []) = false) ∧
    (nvme5.isNvme 5 = true ∧ (nvme5.vol 161).isSome = true ∧ nvme5.vol 162 = none ∧ up.isNvme 5 = false) ∧
    (zeroBut (ent 0xA2 [(8, 5), (10, 1)]) [(0, 11)] = true ∧ volHead (ent 0xA2 [(8, 5), (10, 1)]) = true) ∧ nvme5.vol 161 = some vol0 := by
  decide
theorem wit_SlotsAndVolumes_targets :
    let s : State := (xpt5 cn0).set (Reg.TM_PORT_CFG_MODE 0) 0
    let u := ((nvme5.set Reg.XPT_CFG_ENABLE 1).set (Reg.XPT_LOCAL_ADDR_ADDR 0 2) 0xFFFF)
    let e := ent 0xA1 [(8, 5), (10, 1)]
    zeroBut e [(0, 13), (16, 16)] = true ∧ volHead e = true ∧ leAt e 12 1 ≤ 1 ∧ leAt e 16 4 < 1048576 ∧ u.isNvme 5 = true ∧
      (u.conn 0).st = 0 ∧ (s.conn 0).st ≠ 0 ∧ u.connGranted 0 = false ∧ s.connGranted 0 = true ∧ leAt e 11 1 < vol0.k + vol0.m ∧
      vol0.k + vol0.m ≤ 1 := by decide
theorem wit_SlotsAndVolumes_flushes :
    (let f : VolFlush := { ring := sqKey 5 1, tag := 0, seq := 4, waiting := [0], good := 0 }
     let s := nvme5.setVol 161 { vol2 with flushes := [f] }
     s.running = true ∧ s.vol (volKey 5 1) = some { vol2 with flushes := [f] } ∧
       [f].any (fun f => decide (f.seq = 4) && f.waiting.contains 0) = true ∧ [f].any (fun f => decide (f.seq = 5) && f.waiting.contains 0) = false) ∧
    (let s := nvme5.setVol 161 vol1
     s.vol (volKey 5 1) = some vol1 ∧ (mget vol1.targets 1).isSome = true ∧ ((mget vol1.targets 1).bind (·.cursor)) = some 0 ∧
       (vol1.asked 0 1).length = vol1.k ∧ (vol1.asked 0 1).filter (fun j => ([[1], [2]].getD j ([] : List Byte)).isEmpty) = [] ∧
       (vol1.asked 0 1).filter (fun j => (([] : List (List Byte)).getD j []).isEmpty) ≠ []) := by decide
theorem wit_SlotsAndVolumes_endpoint :
    let e := fun (w : List Nat) => slice ((w.map (leBytes 4)).flatten) 0 64
    (2 ≤ (up.set (Reg.PWR_DOMAIN_STATE 5) 2).domState 5 ∧ up.jobSlotFree 0 = false ∧ (acc5 1).running = true ∧
      (acc5 1).domState 5 < 2 ∧ (acc5 1).jobSlotFree 0 = true ∧ (acc5 1).inReset 11 0 = false) ∧
    firstBad [msgBad (e [0xFF]) [], jobBad (leAt (e [0xFF]) 0 1) (e [0xFF]) []] ≠ 0 ∧
    firstBad [msgBad (e [0x58]) [], jobBad (leAt (e [0x58]) 0 1) (e [0x58]) []] = 0 := by decide
theorem wit_SlotsAndVolumes_enable :
    up.writable = true ∧ up.acc.opened = false ∧ bit (2 ^ 31) 31 = true ∧ bit 0 31 = false ∧
      ({ up with acc := { up.acc with opened := true } } : State).acc.opened = true := by decide

/-! ## Memory -/

/-- Stack 0 in a phase. -/
def stk (p : Nat) : State := up.setPhase 0 p
theorem wit_MemoryCommands :
    ((stk 1).stackPhase 0 = 1 ∧ (stk 2).stackPhase 0 = 2 ∧ (stk 3).stackPhase 0 = 3 ∧ (stk 5).writable = true ∧
      (List.range 4).filter (fun k => decide ((stk 5).stackPhase k = 5)) ≠ [] ∧ (List.range 4).filter (fun k => decide (up.stackPhase k = 5)) = [] ∧
      mgetD (stk 2).mem.tries 0 0 + 1 < 2) ∧
    (let s : State := { stk 2 with mem := { (stk 2).mem with tries := [(0, 1)] } }
     s.stackPhase 0 = 2 ∧ 2 ≤ mgetD s.mem.tries 0 0 + 1) ∧
    ((up.set Reg.MEM_STATUS_HBM_READY 1).hbmReady = true ∧ up.hbmReady = false ∧ up.running = true) ∧
    (up.regionBad 1 1 = true ∧ (up.set Reg.MEM_STATUS_HBM_READY 1).regionBad 1 1 = false) := by decide
theorem wit_MemoryCommands_banks :
    (0x7005 % 4096 < bankCount (0x7005 / 4096) ∧ 0x7008 % 4096 < bankCount (0x7008 / 4096) ∧ 0x1000 % 4096 < bankCount (0x1000 / 4096) ∧
      isParity 0x2000 = true ∧ 0x2000 % 4096 < bankCount (0x2000 / 4096)) ∧
    [0x1000, 0x7005, 0x7008].all (fun b =>
      let w := sramAddr b (0 / 32 * 32) / 32
      !isParity b && !up.mem.poison.contains w && ((up.arise w [0, 1]).touchWord w (0x3020 + b / 4096)).mem.poison.contains w &&
        !((up.arise w [0]).touchWord w (0x3020 + b / 4096)).mem.poison.contains w) = true := by decide
theorem wit_MemoryCommands_repairs :
    (let u := fun b => (up.set Reg.MEM_ROW_REPAIR_ROW 0).set Reg.MEM_ROW_REPAIR_BANK b
     (u 0x7000).rowBad 0x7000 0 = true ∧ (u 0x1000).rowBad 0x1000 0 = false ∧ (u 0x1000).freeRow 0x1000 = some 0) ∧
    (up.writable = true ∧ 3 ≠ up.get (Reg.MEM_PC_SPARE_STATE 0 0) ∧ up.spareBad 0 0 3 = true ∧ 1 ≠ up.get (Reg.MEM_PC_SPARE_STATE 0 0) ∧
      up.spareBad 0 0 1 = false ∧ up.mem.mirrored.contains 0 = false) ∧
    (let s : State := { up.set (Reg.MEM_PC_SPARE_STATE 0 0) 1 with mem := { up.mem with mirrored := [0] } }
     2 ≠ s.get (Reg.MEM_PC_SPARE_STATE 0 0) ∧ s.spareBad 0 0 2 = false ∧ 0 ≠ s.get (Reg.MEM_PC_SPARE_STATE 0 0) ∧ s.spareBad 0 0 0 = false ∧
       (s.set (Reg.MEM_PC_SPARE_STATE 0 0) 0).spareBad 0 0 1 = false ∧ s.mem.mirrored.contains (2 * 0 + 0) = true) ∧
    (up.on Reg.DBG_STATUS_UNLOCKED = false ∧ bit (2 ^ 31) 31 = true) := by decide

/-! ## Cascade -/

/-- The next sequenced flit of link 0, whose first body bytes are these; a flit of another kind. -/
def nextFlit (kind : Nat) (b : List Byte) : List Byte := casFlit kind 0 0 false false b
/-- Link 0 up, before a flit and once it is accepted. -/
def gotFlit (s : State) (kind : Nat) (b : List Byte) : State := (s.casAckIn 0 (nextFlit kind b)).flitTaken 0
def flitFits (s : State) (kind : Nat) (b : List Byte) : Bool :=
  let f := nextFlit kind b
  let v := s.casAckIn 0 f
  s.running && decide (5 ≤ (s.casLink 0).step) && flitOk f && decide (beAt f 0 2 / 2 ^ 12 = kind) && decide (5 ≤ (v.casLink 0).step) &&
    decide (beAt f 0 2 % 2 ^ 12 = (v.casLink 0).rxSeq)
theorem wit_WinakLinks_links :
    ([2, 3, 4].all (fun k => decide (((up.setCasLink 0 { CasLink.reset with step := k }).casLink 0).step = k)) = true) ∧
    (let s := (up.setCasLink 0 { CasLink.reset with step := 5, peer := some peer0 }).set Reg.CAS_DEV_ID_ID_VALID 1
     s.running = true ∧ (s.casLink 0).peer = some peer0 ∧ (s.casLink 0).step = 5 ∧ s.on Reg.CAS_DEV_ID_ID_VALID = true ∧ peer0.valid = true ∧
       peer0.dev ≠ s.devId) ∧
    (let s := up.setCasLink 0 { CasLink.reset with step := 5 }
     2 ≤ (s.casLink 0).step ∧ (s.casLink 0).step ≠ 6 ∧ (s.casLink 0).peer = none) ∧
    (lk6.running = true ∧ 5 ≤ (lk6.casLink 0).step ∧ lk6.casUp 0 = true ∧ up.casUp 0 = false ∧ (up.casLink 0).step < 5 ∧ flitOk [] = false) := by
  decide
theorem wit_WinakLinks_flits :
    flitFits lk6 1 [] = true ∧ flitFits lk6 3 [] = true ∧ flitFits lk6 4 [1] = true ∧ lk6.pwr.closed = false ∧
    (flitOk (nextFlit 0 []) = true ∧ beAt (nextFlit 0 []) 0 2 / 2 ^ 12 = 0) ∧ (flitOk (nextFlit 2 []) = true ∧
      beAt (nextFlit 2 []) 0 2 / 2 ^ 12 = 2) ∧
    (let f := casFlit 1 7 0 false false []
     flitOk f = true ∧ beAt f 0 2 / 2 ^ 12 = 1 ∧ beAt f 0 2 % 2 ^ 12 ≠ ((lk6.casAckIn 0 f).casLink 0).rxSeq) := by decide +kernel
theorem wit_WinakLinks_pairs :
    (beAt (nextFlit 4 [1]) 4 1 = 1 ∧ beAt (nextFlit 4 [1]) 5 1 ≤ 7 ∧ (gotFlit lk6 4 [1]).steer 56 = none) ∧
    (let s := lk6.setSteer 56 (steer0 false)
     flitFits s 4 [1] = true ∧ (gotFlit s 4 [1]).steer 56 = some (steer0 false) ∧ (gotFlit s 4 [1]).spareAsked 0 (nextFlit 4 [2]) = some (steer0 false) ∧
       (steer0 false).pair = true ∧ (steer0 false).answer = false ∧ (steer0 false).acked = false ∧ (steer0 false).reverse = false ∧
       (gotFlit s 4 [1]).get (Reg.CAS_LINK_STATUS_PEER_ID 0) ≤ (gotFlit s 4 [1]).devId ∧ flitFits s 4 [2] = true ∧ flitFits s 4 [3] = true ∧
       (let z := (gotFlit s 4 [1]).set (Reg.CAS_LINK_STATUS_PEER_ID 0) 9
        z.devId < z.get (Reg.CAS_LINK_STATUS_PEER_ID 0))) ∧
    (let s := lk6.setSteer 56 (steer0 true)
     flitFits s 4 [4] = true ∧ beAt (nextFlit 4 [4]) 4 1 = 4 ∧ (gotFlit s 4 [4]).steer 56 = some (steer0 true) ∧ (steer0 true).pair = true ∧
       (steer0 true).answer = true ∧ (steer0 true).lane = beAt (nextFlit 4 [4]) 5 1) := by decide +kernel
theorem wit_StackAccesses_asks :
    let near := fun (u : State) (g : Nat) => (List.range 8).find? (fun l => u.casUp l && decide (u.get (Reg.CAS_LINK_STATUS_PEER_ID l) = bits g 15 0))
    up.writable = true ∧ up.cas.remote = none ∧ near (up.remoteFields (goWord 9 false)) (goWord 9 false) = none ∧ tail5.cas.remote = none ∧
      near (tail5.remoteFields (goWord 9 true)) (goWord 9 true) = some 0 ∧
      ({ up with cas := { up.cas with remote := some 7 } } : State).cas.remote = some 7 := by decide
theorem wit_StackAccesses_serves :
    [1, 2].all (fun op =>
      let f := nextFlit 3 (remReq op)
      flitFits tail5 3 (remReq op) && decide (beAt f 4 1 = op) && (gotFlit tail5 3 (remReq op)).remoteAdmits 0 f &&
        !(gotFlit lk6 3 (remReq op)).remoteAdmits 0 f && flitFits lk6 3 (remReq op)) = true := by decide +kernel
theorem wit_StackAccesses_answers :
    let b := [3, 0, 0, 7, 0, 9]
    let f := nextFlit 3 b
    let s : State := { lk6.set Reg.CAS_REMOTE_CTRL_TARGET 9 with cas := { lk6.cas with remote := some 7 } }
    flitFits s 3 b = true ∧ beAt f 4 1 = 3 ∧ (gotFlit s 3 b).cas.remote = some (beAt f 6 2) ∧
      beAt f 8 2 = (gotFlit s 3 b).get Reg.CAS_REMOTE_CTRL_TARGET ∧ (gotFlit s 3 b).on Reg.CAS_REMOTE_CTRL_WRITE = false ∧ beAt f 32 1 = 0 ∧
      (gotFlit lk6 3 b).cas.remote ≠ some (beAt f 6 2) ∧ flitFits lk6 3 b = true ∧
      (gotFlit (s.set Reg.CAS_REMOTE_CTRL_WRITE 1) 3 b).on Reg.CAS_REMOTE_CTRL_WRITE = true := by decide +kernel
theorem wit_StackAccesses_id :
    (up.set Reg.CAS_CFG_ENABLE 0).on Reg.CAS_CFG_ENABLE = false ∧ (up.set Reg.CAS_CFG_ENABLE 1).on Reg.CAS_CFG_ENABLE = true ∧
      bits 0 31 31 = up.get Reg.CAS_DEV_ID_ID_VALID ∧ bits 0 15 0 = up.devId ∧ bits (2 ^ 31) 31 31 ≠ up.get Reg.CAS_DEV_ID_ID_VALID := by decide

/-! ## Power -/

/-- A transition under way. -/
def mid5 (src dst step : Nat) (named : Option Nat) : Trans := { src := src, dst := dst, step := step, jig := false, start := 0, named := named }
def tr5 (src dst step : Nat) : State := up.withPwr (fun p => { p with trans := some (mid5 src dst step none) })
def calm5 (u : State) : Bool := !u.halted && decide (u.err.phase = .none)
theorem wit_PowerTransitions_requests :
    (let u := fun k => up.set Reg.PWR_STATE_REQ_TARGET k
     up.writable = true ∧ ((u 2).set Reg.PWR_WAKE_EN_ENABLE 0).pwrRefusal 2 = some 4 ∧ (u 0).pwrRefusal 0 = none ∧ 0 = (u 0).devState ∧ (u 1).pwrRefusal 1 = none ∧
       1 ≠ (u 1).devState) ∧
    (isDom 5 = true ∧ up.on (Reg.PWR_DOMAIN_GO 5) = false ∧ up.domAllowed 5 1 = true ∧ 1 ≠ up.domState 5 ∧ 0 = up.domState 5 ∧
      up.domAllowed 5 0 = true ∧ up.domAllowed 6 1 = false ∧ isDom 6 = true) := by decide
theorem wit_PowerTransitions_moves :
    [(0, 1), (1, 0), (0, 2), (2, 0)].all (fun e => (tr5 e.1 e.2 1).running && decide ((tr5 e.1 e.2 1).pwr.trans = some (mid5 e.1 e.2 1 none))) =
      true ∧ (mid5 2 0 1 (some 3)).named = some 3 := by decide
theorem wit_PowerTransitions_entries :
    ([3, 4].all (fun d =>
      calm5 ((tr5 0 d 1).withPwr (fun p => { p with closed := true })) && decide ((tr5 0 d 1).pwr.trans = some (mid5 0 d 1 none)) &&
      decide ((tr5 0 d 2).xptMove.pwr.trans = some (mid5 0 d 2 none)) && decide ((tr5 0 d 2).err.phase = .none) &&
      !(tr5 0 d 2).xptMove.xptHolds.any (fun p => ((tr5 0 d 2).xptMove.quire p).isSome && decide (ptrTier p = 0)) &&
      calm5 (tr5 0 d 2).xptMove && calm5 (tr5 0 d 2)) = true) ∧
    (let u := ({ qst with xpt := { up.xpt with conns := [(0, { cn0 with unacks := [{ xu0 with ptr := 0x80000005 }] })] } } : State).xptMove
     u.xptHolds.any (fun p => (u.quire p).isSome && decide (ptrTier p = 0)) = true) ∧
    (calm5 ((tr5 0 3 4).set Reg.PWR_FLYLEAF_STATUS_EXTENT_MIB 9) = true ∧ calm5 ((tr5 0 3 5).set Reg.MEM_STATUS_HBM_READY 0) = true ∧
      calm5 ((tr5 0 3 6).railsOff ((tr5 0 3 6).railMask Reg.PWR_RAIL_CFG_DEEP_OFF)) = true ∧ calm5 (tr5 0 4 4) = true) := by decide
theorem wit_PowerTransitions_parked : calm5 (tr5 0 3 3).parked = true ∧ calm5 (tr5 0 4 3).parked = true := by decide +kernel
theorem wit_PowerTransitions_exits :
    (tr5 3 0 1).pgGood 0xFFF = true ∧ (tr5 3 0 1).pgGood 0 = false ∧ calm5 (((tr5 3 0 1).railsOn).set Reg.PWR_RAIL_STATUS_PG 0xFFF) = true ∧
    calm5 ((tr5 3 0 2).domsTo [3] 0) = true ∧ calm5 ((tr5 3 0 3).hbmBack false true) = true ∧
    calm5 ((tr5 3 0 4).set Reg.PWR_FLYLEAF_STATUS_EXTENT_OK (b2n (!true))) = true := by decide +kernel
/-- A state in a power-on phase. -/
def ph5 (p : PowerPhase) : State := up.withPwr (fun x => { x with phase := p })
theorem wit_WakeAndSupplies_phases :
    (ph5 .off).pwr.phase = .off ∧ 3 ≤ ((ph5 .supplies).withPwr (fun p => { p with tries := 3 })).pwr.tries ∧ up.pwr.phase = .up ∧
    (ph5 .supplies).pwr.porLow = false ∧ ((ph5 .supplies).set Reg.PWR_RAIL_STATUS_EN 1).get Reg.PWR_RAIL_STATUS_EN ≠ 0 ∧
    (ph5 .supplies).pgGood 0xFFF = true ∧ ((ph5 .supplies).set Reg.PWR_RAIL_STATUS_EN 0).get Reg.PWR_RAIL_STATUS_EN = 0 ∧
    (ph5 .supplies).pwr.tries < 3 ∧ (ph5 .standby).pwr.phase ≠ .off := by decide
theorem wit_WakeAndSupplies_wakes :
    up.rd64 Reg.PWR_ALARM ≤ up.now ∨ up.now < up.rd64 Reg.PWR_ALARM := by decide
theorem wit_WakeAndSupplies_frames :
    (let s := (up.set Reg.PWR_WAKE_EN_ENABLE 2).set Reg.PWR_STATUS_DEV_STATE 2
     s.running = true ∧ bit (s.get Reg.PWR_WAKE_EN_ENABLE) 1 = true ∧ (s.mgmtBody mgrHead).isSome = true ∧ s.devState = 2 ∧
       ((up.set Reg.PWR_WAKE_EN_ENABLE 2).devState ≠ 2)) ∧
    (let s : State := { up.set Reg.PWR_WAKE_EN_ENABLE 2 with lane := { up.lane with spineRx := [mgrHead] } }
     s.running = true ∧ s.lane.spineRx = mgrHead :: [] ∧ s.devState ≤ 1 ∧ bit ((up.set Reg.PWR_WAKE_EN_ENABLE 0).get Reg.PWR_WAKE_EN_ENABLE) 1 = false) := by decide
theorem wit_WakeAndSupplies_rails :
    (let s := (up.set Reg.PWR_RAIL_STATUS_EN 1).set (Reg.PWR_RAIL_CFG_PG_EN 0) 1
     let u := s.set Reg.PWR_RAIL_STATUS_PG (putBits (s.get Reg.PWR_RAIL_STATUS_PG) 0 0 0)
     u.pwr.phase = .up ∧ bit (s.get Reg.PWR_RAIL_STATUS_EN) 0 = true ∧ u.on (Reg.PWR_RAIL_CFG_PG_EN 0) = true) ∧
    bit ((up.set Reg.PWR_RAIL_STATUS_EN 1).get Reg.PWR_RAIL_STATUS_EN) 1 = false ∧
    (let s := ((tr5 3 0 1).set (Reg.PWR_RAIL_CFG_PG_EN 0) 1).set Reg.PWR_RAIL_STATUS_PG 0
     s.pwr.trans = some (mid5 3 0 1 none) ∧ s.on (Reg.PWR_RAIL_CFG_PG_EN 0) = true ∧ bit (s.get Reg.PWR_RAIL_STATUS_PG) 0 = false) ∧
    up.pwr.trans = none ∧ up.lane.refLost.contains 0 = false ∧ up.octRole 20 ≠ 2 := by decide
theorem wit_WakeAndSupplies_pcie :
    (hp5 id).octRole 0 = 2 ∧ ((hp5 id).octPlan 0).sris = false := by decide

/-! ## The jig -/

/-- Jig firmware runs with its enable and every allow bit, and a free log. -/
def jig5 : State := ((up.set Reg.JIG_STATUS_RUNNING 1).set Reg.JIG_CFG_ENABLE 1).wr (Reg.JIG_STOP 6) 0xF8000000

/-- A decision of a kind about a target, from an old value to a new one. -/
def dec5 (k t o n : Nat) : JigDecision := { kind := k, target := t, old := o, new := n, cause := 0 }

theorem wit_JigWork_tick :
    up.running = true ∧ up.on Reg.JIG_STATUS_RUNNING = false ∧ jig5.running = true ∧ jig5.on Reg.JIG_STATUS_RUNNING = true ∧
    jig5.subsSync.remapCheck.jigMakes (dec5 12 0 0 0) = false ∧
    (let v := (jig5.withJig (fun j => { j with reserved := 65536 })).subsSync.remapCheck
     v.jigMakes (dec5 7 0 0 0) = true ∧ v.jigFree = 0 ∧ v.jig.fullUp = false ∧ (v.withJig (fun j => { j with fullUp := true })).jig.fullUp = true) := by
  decide +kernel
/-- A decision gets past the checks in a state. -/
def jigPasses (v : State) (d : JigDecision) : Bool :=
  v.jigMakes d && decide (0 < v.jigFree) && v.jigAllowed d.kind d.target && v.inStop d && decide (v.jigField d = d.old)
theorem wit_JigWork_checks :
    (let v := jig5.subsSync.remapCheck
     v.jigMakes (dec5 1 0 0 1) = true ∧ 0 < v.jigFree ∧ (v.jigAllowed 1 0 && v.inStop (dec5 1 0 0 3)) = false ∧
       v.jigMakes (dec5 1 0 0 3) = true ∧ (v.jigAllowed 8 0 && v.inStop (dec5 8 0 0 9)) = true) ∧
    (let v := ((jig5.set (Reg.CELL_SPILL_PROFILE_JIG_ALLOW 3) 1).set Reg.JIG_STOP3_DIE_MAX 9).subsSync.remapCheck
     let f := v.get (Reg.CELL_SPILL_PROFILE_DIE_LIMIT 3)
     jigPasses v (dec5 5 3 f 1024) = true ∧ (v.jigWrite (dec5 5 3 f 1024)).1 = true ∧
       v.jigField (dec5 5 3 (f + 1) 1024) ≠ f + 1) := by
  decide +kernel
theorem wit_JigWork_refusedWrite :
    (let v := (jig5.set (Reg.LANE_SPARE_STATUS_STATE 0) 3).subsSync.remapCheck
     jigPasses v (dec5 7 0 (v.rd (Reg.LANE_SPARE_CTRL 0)) 1) = true ∧ (v.jigWrite (dec5 7 0 (v.rd (Reg.LANE_SPARE_CTRL 0)) 1)).1 = false) := by
  decide +kernel
theorem wit_JigWork_spares :
    (let v := jig5.subsSync.remapCheck
     [dec5 8 0 0 3, dec5 8 0 0 9, dec5 9 4096 0 7, dec5 9 (5 * 4096) 0 7, dec5 10 0x105 0 0].all (jigPasses v) = true ∧
     (v.freeRow 4096).isSome = true ∧ v.rowBad 4096 7 = false ∧ v.rowBad (5 * 4096) 7 = true ∧ v.remapOn = false ∧ (v.remapSpare 1).isSome = true ∧
     v.on (Reg.JIG_CORE_SPARE_IN_USE 0) = false) := by
  decide +kernel
theorem wit_JigWork_spareless :
    (let v : State := { jig5 with mem := { up.mem with subst := [(0, [(0, 1, false), (1, 2, false), (2, 3, false), (3, 4, false)])] } }
     v.freeRow 0 = none) ∧
    (let v := (jig5.set (Reg.MEM_PC_SPARE_STATE 1 0) 2).set (Reg.MEM_PC_SPARE_STATE 1 1) 2
     v.remapSpare 1 = none) ∧
    (jig5.set Reg.JIG_COPY_STATUS_PHASE 1).remapOn = true := by
  decide +kernel
theorem wit_JigWork_fuses :
    (let v := ((jig5.set (Reg.JIG_CORE_SPARE_IN_USE 0) 1).set Reg.JIG_STOP6_FUSE_HOLD_H 0).subsSync.remapCheck
     jigPasses v (dec5 11 0 0 0) = true ∧ (v.jig.subs[0]?).isSome = true ∧ v.jig.burn = none ∧ v.jig.fuses.length < 512) ∧
    (let v := ((jig5.set (Reg.JIG_CORE_SPARE_IN_USE 0) 1).set Reg.JIG_STOP6_FUSE_HOLD_H 1).subsSync.remapCheck
     jigPasses v (dec5 11 0 0 0) = true ∧ decide (v.now - (v.jig.subs[0]?.getD (⟨0, 0, 0, 0⟩ : Subst)).since < v.get Reg.JIG_STOP6_FUSE_HOLD_H * 3600000000000) = true) := by
  decide +kernel
theorem wit_JigWork_log :
    up.writable = true ∧ (0 + 2 ^ 32 - up.get Reg.JIG_LOG_CONS_CONS) % 2 ^ 32 ≤ up.jigUsed ∧
    up.jigUsed < (1 + 2 ^ 32 - up.get Reg.JIG_LOG_CONS_CONS) % 2 ^ 32 ∧ up.jig.unsig = 0 ∧
    (let s := ((up.set Reg.JIG_CFG_VEC_EN 1).set Reg.HOST_MGR_CFG_MGR_PORT_ACTIVE 0).withJig (fun j => { j with unsig := 1 })
     0 < s.jig.unsig ∧ s.on Reg.JIG_CFG_VEC_EN = true ∧ s.mgrPort.isSome = true) := by decide
theorem wit_JigWork_heat :
    up.on Reg.JIG_STATUS_THROTTLED = false ∧ (up.set Reg.JIG_STATUS_THROTTLED 1).on Reg.JIG_STATUS_THROTTLED = true := by decide
theorem wit_JigWork_steps :
    (let s := up.set (Reg.JIG_CORE_SPARE_PENDING 2) 1
     (s.on (Reg.JIG_CORE_SPARE_PENDING 2) && !s.jig.testing.contains 2 && (List.range 8).all (fun i => !s.live (64 * 2 + i))) = true ∧
       up.on (Reg.JIG_CORE_SPARE_PENDING 2) = false ∧ s.jig.testing.contains 2 = false ∧
       (s.withJig (fun j => { j with testing := [2] })).jig.testing.contains 2 = true) ∧
    (let s := ((up.set Reg.JIG_STATUS_RUNNING 1).withJig (fun j => { j with remap := true })).set Reg.JIG_COPY_STATUS_PHASE 1
     s.remapRuns 1 = true ∧ s.jig.line + 16384 < 12582912 ∧ s.remapRuns 2 = false ∧ (s.set Reg.JIG_COPY_STATUS_PHASE 2).remapRuns 2 = true ∧ up.remapRuns 1 = false) := by
  decide +kernel
theorem wit_JigWork_burn :
    up.jig.burn = none ∧
    (up.withJig (fun j => { j with burn := some { sub := ⟨8, 0, 3, 0⟩, pos := 0, again := false } })).jig.burn =
      some { sub := ⟨8, 0, 3, 0⟩, pos := 0, again := false } := by decide

/-! ## Boot -/

/-- The loader at a step, slot A tried, with a directory of two BOUND images. -/
def boot5 (step : Nat) : State := up.withBoot (fun b => { b with step := step, dir := some dir5, cur := 0 })

/-- A read that brought zeros, and one that failed. -/
def in0 : HostIn := ⟨0, []⟩
def in1 : HostIn := ⟨1, []⟩

/-- A directory copy with two BOUND images, as flash holds it. -/
def dirBytes5 : HostIn := ⟨0, dir5.bytes⟩

theorem wit_BootSteps_directory :
    up.running = true ∧ up.boot.step ≠ 2 ∧ (boot5 1).running = true ∧ (boot5 1).boot.step = 1 ∧
    (let u := (((boot5 1).withBoot (fun b => { b with dir := dirInForce (dirOf 0 in0) (dirOf 1 in0) })).showDir).uartLine
     u.on Reg.BOOT_CTRL_RECOVER = false ∧ u.boot.dir = none ∧ (u.set Reg.BOOT_CTRL_RECOVER 1).on Reg.BOOT_CTRL_RECOVER = true) := by
  decide +kernel
theorem wit_BootSteps_candidates :
    dirInForce (dirOf 0 dirBytes5) (dirOf 1 in0) = some dir5 ∧ up.bootOrder dir5 = [1, 0] ∧
    up.bootOrder { dir5 with a := { dir5.a with st := 0 }, b := { dir5.b with st := 3 } } = [] := by decide +kernel
theorem wit_BootSteps_loader :
    [2, 3, 4, 5].all (fun k => (boot5 k).running && decide ((boot5 k).boot.step = k)) = true ∧ in1.st ≠ 0 ∧ in0.st = 0 := by decide
theorem wit_BootSteps_stage1 :
    (boot5 5).get Reg.BOOT_STATUS_CAUSE ≠ 2 ∧ ((boot5 5).set Reg.BOOT_STATUS_CAUSE 2).get Reg.BOOT_STATUS_CAUSE = 2 ∧
    (boot5 5).boot.dir = some dir5 ∧ (dir5.slot 0).st ≠ 1 ∧ (({ dir5 with a := { dir5.a with st := 1 } } : Dir).slot 0).st = 1 := by decide
theorem wit_BootSteps_started :
    (let s := boot5 5
     let begun := (s.withBoot (fun b => { b with step := 0 })).set Reg.BOOT_STATUS_MODE 1
     let shown := (((begun.set Reg.BOOT_STATUS_SLOT begun.boot.cur).set Reg.BOOT_STATUS_PROOF 0).set Reg.BOOT_STATUS_SVN 0).loaderProtect
     (((shown.startThread 0 0 { (Thread.reset.setX 10 (bootBase + 0xC4000)).setX 11 (shown.rd Reg.BOOT_STATUS) with
       pc := bootBase, priv := 3 }).setReady 1 true).uartLine).burnFuses.boot.dir = some dir5) := by decide +kernel
/-- A proof runs from slot A. -/
def proof5 : State := ((((boot5 0).set Reg.BOOT_STATUS_MODE 1).set Reg.BOOT_STATUS_PROOF 1).set Reg.BOOT_WDT_RUNNING 1)
theorem wit_BootSteps_proof :
    up.boot.dir = none ∧ proof5.writable = true ∧ proof5.proving = true ∧ proof5.boot.dir = some dir5 ∧ proof5.boot.update = none ∧
    (proof5.withBoot (fun b => { b with update := some (dir5, .staged) })).boot.update ≠ none ∧ up.proving = false ∧ up.devState ≤ 1 ∧
    proof5.get Reg.BOOT_STATUS_MODE = 1 ∧ proof5.on Reg.BOOT_STATUS_HANDOFF = false ∧
    (up.set Reg.BOOT_STATUS_HANDOFF 1).on Reg.BOOT_STATUS_HANDOFF = true := by decide
theorem wit_BootSteps_stage :
    (let u := ((boot5 0).set Reg.BOOT_STATUS_MODE 1).set Reg.BOOT_CTRL_STAGE_SLOT 1
     u.on Reg.BOOT_CTRL_STAGE = false ∧ u.stageRefusal 1 = none ∧ u.stageRefusal 0 = some 13) ∧
    (let s := (boot5 0).withBoot (fun b => { b with stage := some 1 })
     s.boot.stage = some 1 ∧ s.boot.dir = some dir5 ∧ s.boot.update = none) := by decide
theorem wit_BootSteps_ends :
    (let u : State := proof5.withBoot (fun b => { b with update := some (dir5, .confirmed) })
     u.boot.update = some (dir5, .confirmed) ∧
     (let v := (((u.withBoot (fun b => { b with update := none })).dirWritten dir5).set Reg.BOOT_FLASH_CTRL_BUSY 0).set Reg.BOOT_STATUS_PROOF 0
      v.burnFuses.boot.burning = none ∧
      ((v.withBoot (fun b => { b with front := List.replicate 16 0 ++ [5] ++ List.replicate 15 0 })).burnFuses.boot.burning ≠ none))) ∧
    up.boot.burning = none ∧
    (up.withBoot (fun b => { b with burning := some (1, 0, 0) })).boot.burning = some (1, 0, 0) ∧ up.on Reg.BOOT_CTRL_CONFIRM = false ∧
    (up.set Reg.BOOT_CTRL_CONFIRM 1).on Reg.BOOT_CTRL_CONFIRM = true := by decide +kernel
theorem wit_FlashAndRecovery_go :
    (let u := (boot5 0).set Reg.BOOT_FLASH_CTRL_OP 2
     u.on Reg.BOOT_FLASH_CTRL_GO = false ∧ (u.set Reg.BOOT_FLASH_CTRL_GO 1).on Reg.BOOT_FLASH_CTRL_GO = true ∧ u.loaderBusy = false ∧
     (boot5 3).loaderBusy = true ∧ flashForm 2 0 256 0 = true ∧ flashForm 2 1 0 0 = false ∧ u.flashProtected 0 256 = true ∧
     u.flashProtected 0x200000 256 = false) := by decide
theorem wit_FlashAndRecovery_ends :
    up.boot.op = none ∧ up.boot.digest = none ∧ up.on Reg.BOOT_DIGEST_CTRL_GO = false ∧
    (up.set Reg.BOOT_DIGEST_CTRL_GO 1).on Reg.BOOT_DIGEST_CTRL_GO = true ∧
    (up.withBoot (fun b => { b with op := some (3, 0x200000, 0x10000, 0) })).boot.op = some (3, 0x200000, 0x10000, 0) ∧
    (let s := up.withBoot (fun b => { b with digest := some (0, 32) })
     s.boot.digest = some (0, 32) ∧ (s.memRead 0x3003 0 (min 32 (2 ^ 28))).1 = false) := by decide +kernel
theorem wit_FlashAndRecovery_agent :
    up.recCmd 1 0 [] = none ∧ [1, 2, 3, 4, 5, 6].all (fun op => ((rec5 op 0 0).recCmd op 0 []).isSome) = true ∧ (rec5 1 0 0).running = true ∧
    (let s := rec5 2 0x200000 1
     s.recCmd 2 0 [] = some ⟨0x200000, 1, s.boot.data, none⟩ ∧ s.flashProtected 0x200000 0x10000 = false ∧
       (rec5 2 0 1).flashProtected 0 0x10000 = true) ∧
    (let s := rec5 3 0x200000 256
     s.recCmd 3 0 [] = some ⟨0x200000, 256, s.boot.data, none⟩ ∧ s.flashProtected 0x200000 256 = false) ∧
    (rec5 5 0 0).boot.dir = some dir5 ∧ boundsOk dir5.a dir5.b = true := by decide +kernel
theorem wit_FlashIsProtected :
    (let u := ((boot5 0).set Reg.BOOT_FLASH_CTRL_OP 3)
     u.writable = true ∧ u.on Reg.BOOT_FLASH_CTRL_GO = false ∧ u.boot.op = none ∧ u.boot.step = 0 ∧ u.boot.stage = none ∧ u.boot.update = none ∧
     flashForm 3 0x10000 0x10000 0 = true ∧ 0x10000 < 0x20000 ∧ u.boot.dir = some dir5 ∧ u.get Reg.BOOT_STATUS_MODE ≠ 2) ∧
    (boot5 3).boot.step ≠ 0 ∧
    (let r := dir5.slot (up.get Reg.BOOT_STATUS_SLOT)
     0x100000 < r.base + r.size ∧ r.base < 0x100000 + 0x10000) ∧
    ((up.set Reg.BOOT_STATUS_PROOF 1).on Reg.BOOT_STATUS_PROOF = true ∧ (dir5.slot (1 - up.get Reg.BOOT_STATUS_SLOT)).st = 2 ∧
      0x200000 < (dir5.slot 1).base + (dir5.slot 1).size ∧ (dir5.slot 1).base < 0x200000 + 0x10000) ∧
    (¬ (dir5.a.base ≤ 0x500000 ∧ 0x510000 ≤ dir5.a.base + dir5.a.size) ∧ ¬ (dir5.b.base ≤ 0x500000 ∧ 0x510000 ≤ dir5.b.base + dir5.b.size)) := by
  decide

/-! ## Resets, the halt and the watchdog -/

/-- A state in a phase of the warm reset. -/
def rst5 (p : ResetPhase) : State := { up with err := { up.err with phase := p } }
theorem wit_ResetsAndHalts_ready :
    readyBound 0 false = some 2 ∧ readyBound 10 (decide (up.get Reg.ERR_STATUS_RESET_CAUSE ≠ 0)) = none ∧
    readyBound 5 (decide (up.get Reg.ERR_STATUS_RESET_CAUSE ≠ 0)) = some 350 ∧
    (up.readyBit 5 || !up.instPresent 5 || up.err.lateSeen.contains 5) = false ∧
    ((up.setReady 5 true).readyBit 5 || !up.instPresent 5 || up.err.lateSeen.contains 5) = true ∧ up.mayReady 10 = false ∧ up.mayReady 5 = true ∧
    (up.set Reg.BOOT_STATUS_MODE 1).mayReady 4 = true ∧
    (let s := (up.set (Reg.LANE_OCT_STATUS_APPLY_BUSY 0) 0).set (Reg.LANE_OCT_STATUS_ROLE_ACTIVE 0) 1
     s.mayReady 128 = true ∧ (s.setReady 128 true).octRole 0 ≠ 0) := by decide
theorem wit_ResetsAndHalts_triggers :
    up.err.phase = .none ∧ up.pwr.phase = .up ∧ (rst5 .waitPin).err.phase = .waitPin ∧ up.regOpen = true ∧ up.writable = true ∧
    bits 0xA5000001 31 24 = 0xA5 ∧ bit 0xA5000001 0 = true ∧ bits 0x5A000001 31 24 = 0x5A ∧ bits 0 31 24 ≠ 0xA5 ∧
    (let v := fun (s : State) => (({ s with err := { s.err with pinLow := true } } : State).set Reg.ERR_STATUS_RESET_CAUSE 1)
     ((v halt5).halted && (v halt5).on Reg.ERR_COLO_STATUS_WRITING) = true ∧ (v up).halted = false ∧ (v up).deepMoves = false ∧
       (v (tr5 0 3 2)).deepMoves = true ∧ (v (tr5 0 3 2)).pwr.trans.isNone = false ∧
       (let u := (v (up.set Reg.PWR_STATUS_DEV_STATE 3)).wakeSeen 7 true
        u.deepMoves = true ∧ u.pwr.trans.isNone = true)) := by decide
theorem wit_ResetsAndHalts_clearing :
    (rst5 (.clearing 2)).err.phase = .clearing 2 ∧
    (let u := (((rst5 (.clearing 2)).warmClear 0).warmMgr).newChallenge
     u.err.pinLow = false) ∧
    (let s : State := { rst5 (.clearing 2) with err := { (rst5 (.clearing 2)).err with pinLow := true } }
     ((s.warmClear 0).warmMgr).newChallenge.err.pinLow = true) := by decide +kernel
theorem wit_ResetsAndHalts_colophon :
    (up.halted && up.on Reg.ERR_COLO_STATUS_WRITING) = false ∧ halt5.halted = true ∧ halt5.on Reg.ERR_COLO_STATUS_WRITING = true ∧
    halt5.err.short = some dump5 ∧ halt5.hbmReady = true ∧ (halt5.set Reg.MEM_STATUS_HBM_READY 0).hbmReady = false ∧
    (({ halt5 with err := { halt5.err with phase := .waitHalt 2 } } : State).err.phase = .waitHalt 2) := by decide
theorem wit_ResetsAndHalts_watchdog :
    (up.set Reg.ERR_WDT_CFG_ENABLE 1).on Reg.ERR_WDT_CFG_ENABLE = true ∧ (up.set Reg.ERR_WDT_CFG_ENABLE 0).on Reg.ERR_WDT_CFG_ENABLE = false ∧
    (let x := (up.set Reg.ERR_WDT_CFG_ENABLE 1).halt 5 []
     x.halted = true ∧ x.regOpen = true ∧ x.wdtCounts = true) ∧
    (up.set Reg.ERR_WDT_CFG_ENABLE 1).wdtCounts = true ∧ up.err.warned = false ∧ (up.set Reg.ERR_WDT_CFG_ENABLE 0).wdtCounts = false ∧
    ({ up with err := { up.err with warned := true } } : State).err.warned = true := by decide
theorem wit_ResetsAndHalts_blocks :
    (let w := 2 ^ 31 + 5 * 2 ^ 16 + 3
     bit w 31 = true ∧ bits w 20 16 = 5 ∧ bits w 11 0 = 3 ∧ 3 < blkCount 5 ∧ blkCount 7 ≤ 3 ∧ bit 3 31 = false ∧ up.inReset 5 3 = false ∧
     ({ up with err := { up.err with blk := [⟨5, 3, 0⟩] } } : State).inReset 5 3 = true) ∧
    (let u : State := { up with err := { up.err with blk := [⟨5, 3, 0⟩] } }
     ((u.err.blk.filter (fun x => u.blkOver x)).foldl (fun (s : State) (x : BlockReset) => s.blkEnd x) u).err.blk = []) ∧
    (let u : State := (quiet .drain)
     let u : State := { u with err := { u.err with blk := [⟨3, 5, 0⟩] } }
     ((u.err.blk.filter (fun x => u.blkOver x)).foldl (fun (s : State) (x : BlockReset) => s.blkEnd x) u).err.blk ≠ []) := by decide +kernel

/-! ## Debug, the spine and the paths to the registers -/

/-- A Lamisk request of an operation for 4 bytes at an address. -/
def lamReq (op a : Nat) : List Byte := [0x53, 0x4B, 0x4C, 0x4D] ++ beBytes 1 op ++ [0, 0, 1] ++ beBytes 8 a ++ [0, 4, 1, 2, 3, 4]
theorem wit_DebugAndPaths_lamisk :
    lam5.regOpen = true ∧ lam5.on Reg.DBG_STATUS_SESSION = true ∧ lam5.get Reg.DBG_STATUS_TRANSPORT = 0 ∧ lam5.err.stepReq = none ∧
    [1, 2, 3, 4].all (fun k => decide (beAt (lamReq k 0x80) 4 1 = k) && lam5.lamiskReaches k 0x80 4 &&
      decide ((lam5.access 0x4000 k 0x80 4 [1, 2, 3, 4]).2.2.err.stepReq = none)) = true ∧
    (let s := lam5.set Reg.DBG_STATUS_UNLOCKED 0
     [1, 2, 3, 4].all (fun k => !s.lamiskReaches k 0x80 4) = true) := by decide +kernel
theorem wit_DebugAndPaths_unlock :
    lam5.writable = true ∧ lam5.on Reg.DBG_STATUS_UNLOCKED = true ∧ up.on Reg.DBG_STATUS_UNLOCKED = false ∧ up.writable = true := by decide
theorem wit_DebugAndPaths_threads :
    (let s := lam5.setThState 0 1
     s.get Reg.DBG_THREAD_SEL_THREAD = 0 ∧ s.thState 0 = 1) ∧
    (let s := (lam5.setThread 0 { Thread.reset with was := 1 }).setThState 0 3
     s.thState 0 = 3 ∧ (s.thread 0).was = 1 ∧ s.running = true ∧ (s.setThState 0 1).get (Reg.CORE_THREAD_STATUS_BLOCK_KIND 0) = 0) := by decide
theorem wit_DebugAndPaths_step :
    (let s := ({ lam5 with mem := { lam5.mem with bytes := [(bootBase, 0x93), (bootBase + 2, 0x50)] } } : State)
     let s := (s.setThread 0 { Thread.reset with was := 1, pc := 0x3100000000, priv := 3 }).setThState 0 3
     let u := (({ s with err := { s.err with stepReq := none } } : State).setThState 0 1).rvStep 0
     s.thState 0 = 3 ∧ (s.thread 0).was = 1 ∧ s.running = true ∧ u.thState 0 = 1) := by decide +kernel
theorem wit_DebugAndPaths_registers :
    up.regAdmits 0 0x80 4 1 = true ∧ (up.regWrite 0 0x80 [1, 2, 3, 4]).2.err.stepReq = none ∧ up.regAdmits 0x2000 0x1500000 4 1 = false ∧
    (up.denied (3 * 4096 + 0x15) 0x2000 0 1).err.stepReq = none := by decide +kernel
theorem wit_DebugAndPaths_spine :
    up.spineUp = true ∧ up.glb.uartTx.length < 64 ∧ up.glb.uartRx.length < 64 ∧
    64 ≤ ({ up with glb := { up.glb with uartTx := List.replicate 64 0, uartRx := List.replicate 64 0 } } : State).glb.uartRx.length ∧
    (up.set Reg.GLB_PPS_CFG_IN_EN 1).on Reg.GLB_PPS_CFG_IN_EN = true ∧ (up.set Reg.GLB_PPS_CFG_IN_EN 0).on Reg.GLB_PPS_CFG_IN_EN = false ∧
    (up.set Reg.GLB_PPS_CFG_OUT_EN 1).on Reg.GLB_PPS_CFG_OUT_EN = true ∧ (up.set Reg.GLB_PPS_CFG_OUT_EN 0).on Reg.GLB_PPS_CFG_OUT_EN = false := by
  decide
theorem wit_DebugAndPaths_frames :
    mgmt5.regOpen = true ∧ mgmt5.err.stepReq = none ∧ mgmt5.glb.mgmtUp = true ∧
    [1, 2, 3, 4].all (fun k =>
      let b := mgrReq k 0x80 [1, 2, 3, 4]
      decide (mgmt5.mgmtBody (mgrHead ++ b) = some b) && decide (beAt b 0 4 = 0x534B4D47) && decide (beAt b 4 1 = k) &&
      (mgmt5.glb.kept.find? (fun e => decide (e.1 = slice b 0 18))).isNone &&
      decide ((mgmt5.access 0 k (beAt b 8 8) (beAt b 16 2) (b.drop 18)).2.2.err.stepReq = none)) = true ∧
    mgmt5.get Reg.BOOT_STATUS_MODE ≠ 2 ∧ mgmt5.on Reg.GLB_MGMT_CFG_MGR_EN = true ∧ mgmt5.on Reg.GLB_MGMT_CFG_PEER_EN = false ∧
    (mgmt5.set Reg.GLB_MGMT_CFG_MGR_EN 0).on Reg.GLB_MGMT_CFG_MGR_EN = false := by decide +kernel
theorem wit_DebugAndPaths_log :
    (0 + 2 ^ 32 - (up.hport 0).logCons) % 2 ^ 32 ≤ (up.hport 0).unread ∧ (up.hport 0).unread < (1 + 2 ^ 32 - (up.hport 0).logCons) % 2 ^ 32 := by
  decide

/-! ## One command on a small state, the expected values from the spec's rules or computed by hand from them -/

/-- A property of the next state. -/
def after (o : Host.Outcome State Fault Refusal) (p : State → Bool) : Bool :=
  match o with
  | .next t => p t
  | _ => false

/-- R522: a B0 device. -/
theorem test_identity : up.view Reg.GLB_IDENTITY = 0x05121000 := by decide
/-- R496, R524: the manager's halt has cause 5 and no detail. -/
theorem test_managerHalt : after (exec (.managerHalt 0x5A000001) up)
    (fun t => t.halted && decide (t.get Reg.GLB_HALT_STATUS_CAUSE = 5) && decide (t.rd (Reg.GLB_HALT_DETAIL 0) = 0)) = true := by decide +kernel
/-- R496: the key must be 0x5A. -/
theorem test_managerHalt_key : after (exec (.managerHalt 0x59000001) up) (fun t => !t.halted) = true := by decide +kernel
/-- R526: the queue holds 64 bytes, and the 65th is lost with RX_OVERRUN. -/
theorem test_uartRxByte_full : after (exec (.uartRxByte 7) { up with glb := { up.glb with uartRx := List.replicate 64 0 } })
    (fun t => decide (t.glb.uartRx.length = 64) && t.on Reg.GLB_UART_STATUS_RX_OVERRUN) = true := by decide +kernel
/-- R527: a write of the target to a register it may not write is dropped and counted. -/
theorem test_i3cRegisterWrite_drop : after (exec (.i3cRegisterWrite 0x1500000 1) up)
    (fun t => decide (t.rd64 Reg.n_reg_cond_drop = 1) && decide (t.glb.i3cPtr = 0x1500000)) = true := by decide +kernel
/-- R525, R527: GLB_SCRATCH takes a write of the target. -/
theorem test_i3cRegisterWrite_scratch : after (exec (.i3cRegisterWrite 0x84 0xCAFE) up) (fun t => decide (t.rd 0x84 = 0xCAFE)) = true := by
  decide +kernel
/-- R495: an enabled watchdog that expires halts the device with cause 4. -/
theorem test_wdtExpire : after (exec .wdtExpire (up.set Reg.ERR_WDT_CFG_ENABLE 1))
    (fun t => t.halted && decide (t.get Reg.GLB_HALT_STATUS_CAUSE = 4)) = true := by decide +kernel
/-- R447: a trip asserts THERMTRIP_N, which is active low, and halts with cause 8. -/
theorem test_thermtrip : after (exec (.thermtrip 3 125) up)
    (fun t => decide (t.out = [.pin "THERMTRIP_N" false]) && decide (t.get Reg.GLB_HALT_STATUS_CAUSE = 8)) = true := by decide +kernel
/-- R519: a register write during a halt is dropped and counted. -/
theorem test_wdtKick_halted : after (exec (.wdtKick 0x4B43) halt5) (fun t => decide (t.rd64 Reg.n_halt_write_drop = 1)) = true := by
  decide +kernel
/-- R492: a block without a reset of its own refuses one. -/
theorem test_blockReset_refused : after (exec (.blockReset (2 ^ 31 + 7 * 2 ^ 16)) up) (fun t => t.on Reg.ERR_BLOCK_RESET_REFUSED) = true := by
  decide +kernel
/-- R311, the base set: addi x1, x0, 5. -/
theorem test_baseInstruction_addi : after (exec (.baseInstruction 0) run0)
    (fun t => decide ((t.thread 0).getX 1 = 5) && decide ((t.thread 0).pc = 0x3100000004)) = true := by decide +kernel
/-- R427: POR_N low takes the device back to its supplies and holds it there. -/
theorem test_porNAssert : after (exec .porNAssert up) (fun t => decide (t.pwr.phase = .supplies) && t.pwr.porLow) = true := by decide +kernel
/-- R433: nothing is done for a register write before power-on is complete. -/
theorem test_todRateWrite_unpowered : after (exec (.todRateWrite 5) State.reset) (fun t => decide (t = State.reset)) = true := by decide +kernel
/-- R100: a refusal of drawer 5's master counts for the device and for the drawer, and raises the event once. -/
theorem test_nocTargetAccess_denied : after (exec (.nocTargetAccess 0x1000 0x1005 0 4 0 0 0) up)
    (fun t => decide (t.rd64 Reg.n_fence_denied_total = 1) && decide (t.rd64 (Reg.n_fence_denied 5) = 1) &&
      decide (t.events.map (fun e => e.code) = [EV_drw_fence_denied])) = true := by decide +kernel
/-- R477: the directory's sectors are protected, code 13. -/
theorem test_flashErase_directory : after (exec .flashErase (((boot5 0).set Reg.BOOT_FLASH_ADDR_ADDR 0x10000).set Reg.BOOT_FLASH_LEN_LEN 0x10000))
    (fun t => decide (t.get Reg.BOOT_FLASH_CTRL_RESULT = 13) && decide (t.boot.op = none)) = true := by decide +kernel
/-- R340 and the published vector of the algorithm: SHA-384 of "abc" begins CB 00 75 3F. -/
theorem test_sha384 : (sha384 [0x61, 0x62, 0x63]).take 4 = [0xCB, 0x00, 0x75, 0x3F] := by decide +kernel
/-- The published check value of CRC-32C (R176) over "123456789". -/
theorem test_crc32c : (crc32c 0xFFFFFFFF [0x31, 0x32, 0x33, 0x34, 0x35, 0x36, 0x37, 0x38, 0x39]).toNat = 0xE3069283 := by decide +kernel

end Sys2Proof.Machine
end

section
/-! PROOFS. The state right after reset: what an empty register file reads as, and the canonical form of an empty table. -/

namespace Sys2Proof.Machine

/-! ## Empty tables and what they stand for -/

/-- A register file that lists nothing is a register file at its reset values, whatever the rest of the state holds. -/
theorem rd_eq_resetWord_of_regs_nil {s : State} (h : s.regs = []) (a : Nat) : s.rd a = resetWord a := by
  have unlisted : mget s.regs a = none := by rw [h]; rfl
  simp only [State.rd, unlisted]

/-- An empty table is canonical for every default: it has no keys out of order and no entry that restates the default. -/
@[simp] theorem SMap.wf_nil {α : Type} [DecidableEq α] (d : Nat → α) : SMap.wf d [] = true := rfl

/-! ## The fields of the reset state (R427 step 2; log entries 2, 5, 8 and 10) -/

@[simp] theorem reset_regs : State.reset.regs = [] := rfl
@[simp] theorem reset_pending : State.reset.pending = [] := rfl
@[simp] theorem reset_phase : State.reset.pwr.phase = .supplies := rfl
@[simp] theorem reset_bytes : State.reset.mem.bytes = [] := rfl

/-! ## The invariants at reset -/

/-- The device that awaits its supplies meets the invariant that `Obligations.UnpoweredDeviceStandsStill` says every step keeps. -/
theorem reset_unpowered : State.reset.pwr.phase ≠ .up ∧ ∀ c ∈ State.reset.pending, cmdKind c ≠ .other := by
  refine ⟨?_, ?_⟩
  · rw [reset_phase]
    exact nofun
  · rw [reset_pending]
    exact List.forall_mem_nil _

theorem reset_queueWf : State.reset.queueWf = true := by
  rw [State.queueWf, reset_pending, List.all_nil]

theorem reset_regsWf : State.reset.regsWf = true := by
  rw [State.regsWf, reset_regs, SMap.wf_nil]

theorem reset_memoryWf : Memory.wf State.reset.mem.bytes = true := by
  rw [Memory.wf, reset_bytes, SMap.wf_nil]

/-- Settles O6: every table of the reset state is empty, the register file and memory among them, and no command waits. -/
theorem resetMeetsTheInvariants : Obligations.ResetMeetsTheInvariants :=
  ⟨reset_unpowered, reset_queueWf, rd_eq_resetWord_of_regs_nil reset_regs, reset_regsWf, reset_memoryWf⟩

end Sys2Proof.Machine
end

section
/-! PROOFS. The device network and the domains: what a target's check answers for each class of master, and how a domain begins and ends a
move. -/

namespace Sys2Proof.Machine

/-! ## Which masters a target admits (R20, R94) -/

/-- By the fixed rules a master of class 0 passes wherever the access is not DMA into a host port. -/
theorem targetAdmits_fixedMaster {s : State} {tg m a n perm : Nat} (master : m / 4096 = 0) (target : tg / 4096 ≠ 5) :
    s.targetAdmits tg m a n perm = true := by
  simp only [State.targetAdmits, master, target, if_false]

/-- A drawer's master reaches the fenced targets, kinds 0 to 2, by a fence entry alone. -/
theorem targetAdmits_drawerMaster {s : State} {tg d a n perm : Nat} (drawer : d < 512) (target : tg / 4096 ≤ 2) :
    s.targetAdmits tg (4096 + d) a n perm = s.fenceAdmits (tg / 4096) (tg % 4096) (4096 + d) a n perm := by
  have master : (4096 + d) / 4096 = 1 := by omega
  have kind : tg / 4096 = 0 ∨ tg / 4096 = 1 ∨ tg / 4096 = 2 := by omega
  rcases kind with h | h | h <;> simp only [State.targetAdmits, master, h]

/-- No target admits a master of a reserved class. -/
theorem targetAdmits_reservedMaster {s : State} {tg m a n perm : Nat} (master : 5 ≤ m / 4096) :
    s.targetAdmits tg m a n perm = false := by
  obtain ⟨k, reserved⟩ := Nat.exists_eq_add_of_le' master
  simp only [State.targetAdmits, reserved]

/-! ## What becomes of an access (R20, R496) -/

/-- Without a fault on its way an access meets the target's check and nothing else. -/
theorem targetAccess_of_noFault (s : State) (tg m a n perm arg : Nat) :
    s.targetAccess tg m a n perm 0 arg = if s.targetAdmits tg m a n perm then s else s.denied tg m a perm := by
  simp [State.targetAccess]

/-- A parity error in a fence entry halts the device before the entry is used. -/
theorem targetAccess_of_entryParity (s : State) (tg m a n perm arg : Nat) :
    s.targetAccess tg m a n perm 16 arg = s.halt 3 [tg * 2 ^ 16, arg, 0, 0] := by
  simp [State.targetAccess]

/-- An access at a running device ends as `State.targetAccess` says. -/
theorem exec_nocTargetAccess_of_running {s : State} (h : s.running = true) (tg m a n perm fault arg : Nat) :
    exec (.nocTargetAccess tg m a n perm fault arg) s =
      .next { s.targetAccess tg m a n perm fault arg with pending := s.pending } :=
  run_answers h rfl

/-- An access that met no fault and that the target admits leaves its effect to the command that makes it. -/
theorem exec_nocTargetAccess_of_admitted {s : State} {tg m a n perm : Nat} (h : s.running = true)
    (admitted : s.targetAdmits tg m a n perm = true) (arg : Nat) : exec (.nocTargetAccess tg m a n perm 0 arg) s = .next s := by
  rw [exec_nocTargetAccess_of_running h, targetAccess_of_noFault, if_pos admitted]

/-- An access that met no fault and that the target refuses is counted and reported (R100), with no effect of its own. -/
theorem exec_nocTargetAccess_of_refused {s : State} {tg m a n perm : Nat} (h : s.running = true)
    (refused : s.targetAdmits tg m a n perm = false) (arg : Nat) :
    exec (.nocTargetAccess tg m a n perm 0 arg) s = .next { s.denied tg m a perm with pending := s.pending } := by
  rw [exec_nocTargetAccess_of_running h, targetAccess_of_noFault, if_neg (ne_true_of_eq_false refused)]

/-- Settles O7: the class of the master decides whether the target looks at its fence entries, and a fault comes before that check. -/
theorem networkAccesses : Obligations.NetworkAccesses := by
  unfold Obligations.NetworkAccesses
  refine ⟨?fixed, ?drawer, ?reserved, ?parity, ?late, ?flush⟩
  case fixed =>
    intro tg m a n perm arg s h master target
    exact exec_nocTargetAccess_of_admitted h (targetAdmits_fixedMaster master target) arg
  case drawer =>
    intro tg d a n perm arg s h drawer target
    have byEntry := targetAdmits_drawerMaster (s := s) (a := a) (n := n) (perm := perm) drawer target
    split
    · next admits => exact exec_nocTargetAccess_of_admitted h (byEntry.trans admits) arg
    · next refuses => exact exec_nocTargetAccess_of_refused h (byEntry.trans (eq_false_of_ne_true refuses)) arg
  case reserved =>
    intro tg m a n perm arg s h master
    exact exec_nocTargetAccess_of_refused h (targetAdmits_reservedMaster master) arg
  case parity =>
    intro tg m a n perm arg s h
    rw [exec_nocTargetAccess_of_running h, targetAccess_of_entryParity]
  case late =>
    intro b s h block
    exact run_answers h (if_pos block)
  case flush =>
    intro tg m s h
    exact run_answers h rfl

/-! ## A domain begins to move (R23, R415) -/

/-- A domain's state stands in the registers, so a change of the power manager's record leaves it. -/
@[simp] theorem withPwr_domState (s : State) (f : PwrSt → PwrSt) (d : Nat) : (s.withPwr f).domState d = s.domState d := rfl

/-- A domain that is neither in RUN nor on the move begins to move to RUN when it is woken. -/
theorem domWake_of_still {s : State} {d : Nat} (asleep : s.domState d ≠ 0) (still : mget s.pwr.doms d = none) :
    s.domWake d = s.domBegin d 0 2 := by
  simp [State.domWake, asleep, still]

/-- A request at the clamp of a domain in RUN goes through. -/
theorem clampRequest_of_awake {s : State} {d : Nat} (awake : s.domState d = 0) : s.clampRequest d = s :=
  if_pos (.inr (.inl awake))

/-- A request at the clamp of a domain that is neither in RUN nor on the move waits there and wakes the domain. Below 64 no
octet's role can hold the domain in OFF (R25). -/
theorem clampRequest_of_asleep {s : State} {d : Nat} (present : isDom d = true) (die : d < 64) (asleep : s.domState d ≠ 0)
    (still : mget s.pwr.doms d = none) :
    s.clampRequest d =
      (s.withPwr (fun p => { p with clamp := mput p.clamp d (mgetD p.clamp d 0 + 1) })).domBegin d 0 2 := by
  have notOctet : ¬ 64 ≤ d := by omega
  simp only [State.clampRequest, present, asleep, notOctet, Bool.not_true, Bool.false_eq_true, false_and, or_self, if_false]
  exact domWake_of_still (by rwa [withPwr_domState]) still

/-! ## A domain ends its move (R25, R415) -/

/-- Below 64 a domain has no links to park or to wake: it takes its state, lets the clamp's requests go where it is up, and ends the GO
that began the move. -/
theorem domDone_of_moving {s : State} {d st y : Nat} (die : d < 64) (moving : mget s.pwr.doms d = some (st, y)) :
    s.domDone d =
      let u := (s.withPwr (fun p => { p with doms := mdel p.doms d, clamp := if st ≤ 1 then mdel p.clamp d else p.clamp })).setDom d st
      if y = 0 then u.set (Reg.PWR_DOMAIN_GO d) 0 else u := by
  have notOctet : ¬ 64 ≤ d := by omega
  simp only [State.domDone, moving, notOctet, false_and, if_false]

/-- The end of a domain's move lets the device's state follow its domains. -/
theorem domMoved_of_moving {s : State} {d st y : Nat} (moving : mget s.pwr.doms d = some (st, y)) :
    s.domMoved d = (s.domDone d).devDerive y := by
  simp only [State.domMoved, moving]

/-- Settles O8: a waiting request begins the move to RUN, one at a domain in RUN does not wait, and the end of a move writes its state. -/
theorem domainMoves : Obligations.DomainMoves := by
  unfold Obligations.DomainMoves
  refine ⟨?waits, ?passes, ?ends⟩
  case waits =>
    intro d s h isDomain die asleep still
    exact run_answers h (clampRequest_of_asleep isDomain die asleep still)
  case passes =>
    intro d s h _ awake
    exact run_answers h (clampRequest_of_awake awake)
  case ends =>
    intro d st y s h die moving
    have done := domDone_of_moving die moving
    exact run_answers h ((domMoved_of_moving moving).trans (congrArg (State.devDerive · y) done))

end Sys2Proof.Machine
end

section
/-! PROOFS. The lane array: roles of octets, bring-up of network ports, the checks of a received frame, ninth lanes, signals and device
time. Each function of the model gets one equation per case; a command's proof cites the equation of its case. -/

namespace Sys2Proof.Machine

/-! ## Reads that the updates of a role change leave alone -/

@[simp] theorem set_octPlan (s : State) (f : Fld) (v n : Nat) : (s.set f v).octPlan n = s.octPlan n := by simp [State.octPlan]

/-! ## Octet roles (R35, R36) -/

/-- HOST is not permitted from octet 32 on, and CASC not below octet 56. -/
theorem rolePermitted_eq_false {n role : Nat} (h : (role = 2 ∧ 32 ≤ n) ∨ (role = 3 ∧ n < 56)) : rolePermitted n role = false := by
  rcases h with ⟨rfl, beyond⟩ | ⟨rfl, below⟩
  · exact decide_eq_false (Nat.not_lt.mpr beyond)
  · exact decide_eq_false (Nat.not_le.mpr below)

/-- OFF and NET are permitted on every octet, HOST below octet 32 and CASC from octet 56 on. -/
theorem rolePermitted_eq_true {n role : Nat} (h : role ≤ 1 ∨ (role = 2 ∧ n < 32) ∨ (role = 3 ∧ 56 ≤ n)) :
    rolePermitted n role = true := by
  rcases h with plain | ⟨rfl, below⟩ | ⟨rfl, beyond⟩
  · obtain rfl | rfl : role = 0 ∨ role = 1 := by omega
    · rfl
    · rfl
  · exact decide_eq_true below
  · exact decide_eq_true beyond

/-- Without APPLY a write of LANE_OCT_CFG writes its fields and no more. -/
theorem roleApply_of_noApply {s : State} {n w : Nat} (noApply : bit w 31 = false) : s.roleApply n w = s.octCfg n w := by
  simp [State.roleApply, noApply]

/-- An APPLY while a change runs is refused. -/
theorem roleApply_of_busy {s : State} {n w : Nat} (apply : bit w 31 = true)
    (busy : (s.octCfg n w).on (Reg.LANE_OCT_STATUS_APPLY_BUSY n) = true) :
    s.roleApply n w = (s.octCfg n w).roleRefuse n (bits w 1 0) true := by
  simp [State.roleApply, apply, busy]

/-- Otherwise an APPLY is taken or refused as its role is permitted on the octet. -/
theorem roleApply_of_idle {s : State} {n w : Nat} (apply : bit w 31 = true)
    (idle : (s.octCfg n w).on (Reg.LANE_OCT_STATUS_APPLY_BUSY n) = false) :
    s.roleApply n w = if rolePermitted n (bits w 1 0) then (s.octCfg n w).roleTake n w
      else (s.octCfg n w).roleRefuse n (bits w 1 0) false := by
  cases permitted : rolePermitted n (bits w 1 0) <;> simp [State.roleApply, apply, idle, permitted]

/-- A change to a role other than OFF ends with its PLLs locked while no reference is lost, and its octet's links begin. -/
theorem roleDone_of_applying {s : State} {n old : Nat} (applying : mget s.lane.apply n = some old) (active : s.octRole n ≠ 0)
    (refs : s.lane.refLost = []) :
    s.roleDone n =
      ((((({ s with lane := { s.lane with apply := mdel s.lane.apply n } } : State).set (Reg.LANE_OCT_STATUS_APPLY_BUSY n) 0).set
        (Reg.LANE_OCT_STATUS_PLL_LOCK n) 1).setReady (128 + n) true).raise EV_lane_role_applied n
        [old, s.octRole n, (s.octPlan n).mode, b2n (s.octPlan n).split]).octWake n := by
  have locked : b2n (decide (s.octRole n ≠ 0) && !decide ((s.octRole n = 1 ∨ s.octRole n = 3) ∧ s.lane.refLost.contains (n / 4))) = 1 := by
    simp [active, refs, b2n]
  simp only [State.roleDone, applying, locked, State.rolePortsUp, set_octPlan]
  rfl

/-- Settles O9: whether a change runs decides before the octet's permission does, and the end of a change locks its PLLs. -/
theorem octetRoles : Obligations.OctetRoles := by
  unfold Obligations.OctetRoles
  refine ⟨?fields, ?busy, ?notPermitted, ?taken, ?done⟩
  case fields =>
    intro n w s h noApply
    exact write_answers h (roleApply_of_noApply noApply)
  case busy =>
    intro n w s h apply busy
    exact write_answers h (roleApply_of_busy apply busy)
  case notPermitted =>
    intro n w s h apply idle role
    exact write_answers h ((roleApply_of_idle apply idle).trans (if_neg (ne_true_of_eq_false (rolePermitted_eq_false role))))
  case taken =>
    intro n w s h apply idle role
    exact write_answers h ((roleApply_of_idle apply idle).trans (if_pos (rolePermitted_eq_true role)))
  case done =>
    intro n old s h applying active refs
    exact run_answers h (roleDone_of_applying applying active refs)

/-! ## Network ports (R42, R43) -/

/-- The fields of LANE_PORT_CTRL as a write leaves them. -/
def State.portFields (s : State) (p w : Nat) : State :=
  ((((s.set (Reg.LANE_PORT_CTRL_MAX_FRAME p) (bits w 29 16)).set (Reg.LANE_PORT_CTRL_LOOPBACK p) (bits w 4 3)).set
    (Reg.LANE_PORT_CTRL_ADMIN_UP p) (bits w 2 2)).set (Reg.LANE_PORT_CTRL_TRAIN_EN p) (bits w 1 1)).set
    (Reg.LANE_PORT_CTRL_AN_EN p) (bits w 0 0)

/-- A write of LANE_PORT_CTRL that leaves ADMIN_UP as it was writes its fields and no more. -/
theorem portCtrl_of_same {s : State} {p w : Nat} (same : s.on (Reg.LANE_PORT_CTRL_ADMIN_UP p) = bit w 2) :
    s.portCtrl p w = s.portFields p w := by
  cases admin : bit w 2 <;> simp [State.portCtrl, State.portFields, same, admin]

/-- ADMIN_UP set begins the port's bring-up with the settings of the same write. -/
theorem portCtrl_of_rise {s : State} {p w : Nat} (down : s.on (Reg.LANE_PORT_CTRL_ADMIN_UP p) = false) (up : bit w 2 = true) :
    s.portCtrl p w = (s.portFields p w).portBegin p := by
  simp [State.portCtrl, State.portFields, down, up]

/-- A port that has begun its bring-up waits in the step it recorded, not for its PLLs. -/
theorem stepNow_of_begun {s : State} {p : Nat} (begun : s.portStep p ≠ 0) : s.stepNow p = s.portStep p :=
  if_neg fun waits => begun waits.1

/-- LAST_FAIL of the steps 2 to 4: auto-negotiation, training, alignment. -/
theorem failCode_of_begun {st : Nat} (begun : 2 ≤ st) : failCode st = if st = 2 then 1 else if st = 3 then 2 else 6 :=
  if_neg (by omega)

/-- A step of 2 to 4 that passes its bound is recorded, and bring-up begins again. -/
theorem stepTimeout_of_begun {s : State} {p : Nat} (begun : 2 ≤ s.portStep p ∧ s.portStep p ≤ 4) :
    s.stepTimeout p =
      (((s.set (Reg.LANE_PORT_STATUS_LAST_FAIL p) (if s.portStep p = 2 then 1 else if s.portStep p = 3 then 2 else 6)).raise
        EV_lane_train_fail (p / 8) [p, s.portStep p]).setPortStep p 0).portBegin p := by
  obtain ⟨first, last⟩ := begun
  have ne0 : s.portStep p ≠ 0 := by omega
  have ne1 : s.portStep p ≠ 1 := by omega
  have ne5 : s.portStep p ≠ 5 := by omega
  simp only [State.stepTimeout, stepNow_of_begun ne0, failCode_of_begun first, ne0, ne1, ne5, or_self, if_false]

/-- Settles O10: each report acts in the step it belongs to, and a write of LANE_PORT_CTRL by what it makes of ADMIN_UP. -/
theorem networkPortBringUp : Obligations.NetworkPortBringUp := by
  unfold Obligations.NetworkPortBringUp
  refine ⟨?same, ?rise, ?negotiated, ?trained, ?locked, ?timeout, ?lost⟩
  case same =>
    intro p w s h same
    exact write_answers h (portCtrl_of_same same)
  case rise =>
    intro p w s h down up
    exact write_answers h (portCtrl_of_rise down up)
  case negotiated =>
    intro p s h step2
    exact run_answers h (if_pos step2)
  case trained =>
    intro p s h step3
    exact run_answers h (if_pos step3)
  case locked =>
    intro p s h step4
    exact run_answers h (if_pos step4)
  case timeout =>
    intro p s h begun
    exact run_answers h (stepTimeout_of_begun begun)
  case lost =>
    intro p remote s h net up
    exact run_answers h (if_pos (Bool.and_eq_true_iff.mpr ⟨net, up⟩))

/-! ## Received frames (R40, R49) -/

/-- A port that is no network port of its octet's plan, or whose link is not up, receives no frame. -/
theorem netRx_of_linkDown {s : State} {p : Nat} (down : (s.netPort p && s.portUp p) = false) (f : List Byte) (bad : Bool) :
    s.netRx p f bad = s :=
  if_pos (by rw [← Bool.not_and, down]; rfl)

section LinkUp

variable {s : State} {p : Nat} {f : List Byte} {bad : Bool} (up : (s.netPort p && s.portUp p) = true)
include up

/-- While admission is closed for DEEP every frame is dropped, whatever it holds. -/
theorem netRx_of_closed (closed : s.pwr.closed = true) : s.netRx p f bad = s.bump Reg.n_deep_ingress_drop := by
  rw [Bool.and_eq_true] at up
  simp [State.netRx, up, closed]

variable (opened : s.pwr.closed = false)
include opened

/-- A frame with an uncorrected codeword under it, or without its own FCS, is dropped. -/
theorem netRx_of_badFcs (damaged : (bad || !fcsOk f) = true) : s.netRx p f bad = s.bump (Reg.n_rx_fcs_error p) := by
  rw [Bool.and_eq_true] at up
  simp only [State.netRx, up, opened, damaged, Bool.not_true, Bool.or_self, Bool.false_eq_true, if_false, if_true]

/-- A frame with a good FCS meets the checks of its length, then those of its EtherType. -/
theorem netRx_of_goodFcs (sound : (bad || !fcsOk f) = false) :
    s.netRx p f bad =
      if f.length < 64 then s.bump (Reg.n_rx_runt p)
      else if s.maxFrame p < f.length then s.bump (Reg.n_rx_oversize p)
      else if etherType f = 0x8808 then s.bump (Reg.n_rx_mac_control p)
      else if etherType f = 0x88B5 then { s with lane := { s.lane with spineRx := s.lane.spineRx ++ [f.take (f.length - 4)] } }
      else s.rxPass p f := by
  rw [Bool.and_eq_true] at up
  simp only [State.netRx, up, opened, sound, Bool.not_true, Bool.or_self, Bool.false_eq_true, if_false]

variable (sound : (bad || !fcsOk f) = false)
include sound

theorem netRx_of_runt (short : f.length < 64) : s.netRx p f bad = s.bump (Reg.n_rx_runt p) :=
  (netRx_of_goodFcs up opened sound).trans (if_pos short)

theorem netRx_of_oversize (whole : 64 ≤ f.length) (long : s.maxFrame p < f.length) : s.netRx p f bad = s.bump (Reg.n_rx_oversize p) := by
  rw [netRx_of_goodFcs up opened sound, if_neg (Nat.not_lt.mpr whole), if_pos long]

/-- A frame of a good length goes by its EtherType. -/
theorem netRx_of_goodLength (whole : 64 ≤ f.length) (fits : f.length ≤ s.maxFrame p) :
    s.netRx p f bad =
      if etherType f = 0x8808 then s.bump (Reg.n_rx_mac_control p)
      else if etherType f = 0x88B5 then { s with lane := { s.lane with spineRx := s.lane.spineRx ++ [f.take (f.length - 4)] } }
      else s.rxPass p f := by
  rw [netRx_of_goodFcs up opened sound, if_neg (Nat.not_lt.mpr whole), if_neg (Nat.not_lt.mpr fits)]

end LinkUp

/-- Settles O11: each check of R40 counts the frames that reach it and fail it, and what passes them all goes by its EtherType. -/
theorem receivedFrameChecks : Obligations.ReceivedFrameChecks := by
  unfold Obligations.ReceivedFrameChecks
  intro p f bad s h
  refine ⟨?down, fun up => ⟨?closed, fun opened => ⟨?damaged, fun sound => ⟨?runt, fun whole => ⟨?oversize, fun fits =>
    ⟨?macControl, ?wake, ?passed⟩⟩⟩⟩⟩⟩
  case down =>
    intro down
    exact run_answers h (netRx_of_linkDown down f bad)
  case closed =>
    intro closed
    exact run_answers h (netRx_of_closed up closed)
  case damaged =>
    intro damaged
    exact run_answers h (netRx_of_badFcs up opened damaged)
  case runt =>
    intro short
    exact run_answers h (netRx_of_runt up opened sound short)
  case oversize =>
    intro long
    exact run_answers h (netRx_of_oversize up opened sound whole long)
  case macControl =>
    intro control
    exact run_answers h ((netRx_of_goodLength up opened sound whole fits).trans (if_pos control))
  case wake =>
    intro wake
    have notControl : etherType f ≠ 0x8808 := by simp [wake]
    exact run_answers h (((netRx_of_goodLength up opened sound whole fits).trans (if_neg notControl)).trans (if_pos wake))
  case passed =>
    rintro ⟨notControl, notWake⟩
    exact run_answers h (((netRx_of_goodLength up opened sound whole fits).trans (if_neg notControl)).trans (if_neg notWake))

/-! ## Ninth lanes (R45–R48; log entry 32) -/

/-- A request on an idle ninth lane that is no pair replacement arms the steering of its lane. -/
theorem spareGo_of_idle {s : State} {n k : Nat} {byJig : Bool} (idle : s.spareState n = 0) :
    (s.spareGo n k false byJig).2 =
      ((s.setSteer n (Steer.mk k false byJig false false 0 false false)).set (Reg.LANE_SPARE_CTRL_GO n) 1).set
        (Reg.LANE_SPARE_STATUS_STATE n) 1 := by
  simp [State.spareGo, idle]

/-- A request while the ninth lane is not idle is refused. -/
theorem spareGo_of_busy {s : State} {n k : Nat} {pair byJig : Bool} (busy : s.spareState n ≠ 0) :
    (s.spareGo n k pair byJig).2 = s.set (Reg.LANE_SPARE_STATUS_REFUSED n) 1 := by
  simp [State.spareGo, busy]

/-- A write of LANE_SPARE_CTRL with GO set requests the steering that its other fields name. -/
theorem opSpareCtrl_of_go {s : State} {n w : Nat} (go : bit w 8 = true) :
    s.opSpareCtrl n w =
      ((((s.set (Reg.LANE_SPARE_CTRL_JIG_ALLOW n) (bits w 16 16)).set (Reg.LANE_SPARE_CTRL_PAIR_MODE n) (bits w 4 4)).set
        (Reg.LANE_SPARE_CTRL_TARGET n) (bits w 2 0)).spareGo n (bits w 2 0) (bit w 4) false).2 :=
  if_pos go

/-- The end of adaptation loads the coefficients of a lone steering; no peer has to answer. -/
theorem spareConverged_of_lone {s : State} {n : Nat} {x : Steer} (steering : s.steer n = some x) (arming : s.spareState n = 1)
    (lone : x.pair = false) : s.spareConverged n = s.setSteer n { x with loaded := true } := by
  simp [State.spareConverged, steering, arming, lone]

/-- The changeover of a loaded steering: a lane with traffic goes on to VERIFY and pays at most 2 codewords, another is done. -/
theorem spareOver_of_loaded {s : State} {n unc : Nat} {x : Steer} (steering : s.steer n = some x) (arming : s.spareState n = 1)
    (loaded : x.loaded = true) :
    s.spareOver n unc =
      if s.laneBusy n x.lane then
        (if s.octRole n = 2 then s
         else (s.bump (Reg.n_fec_uncorrected_cw (s.lanePort n x.lane)) (min 2 unc)).bump (Reg.n_spare_switch_loss (s.lanePort n x.lane))
           (min 2 unc)).set (Reg.LANE_SPARE_STATUS_STATE n) 2
      else s.spareDone n x := by
  simp only [State.spareOver, steering, arming, loaded, and_self, if_true]

/-- The end of a verification completes the steering or gives it up. -/
theorem spareVerified_of_verify {s : State} {n symbols : Nat} {good : Bool} {x : Steer} (steering : s.steer n = some x)
    (verify : s.spareState n = 2) : s.spareVerified n good symbols = if good then s.spareDone n x else s.spareFail n x symbols := by
  simp only [State.spareVerified, steering, verify, if_true]

/-- A steering that is done shows its lane as the one in use and counts as a substitution. -/
theorem spareDone_of_forward {s : State} {n : Nat} {x : Steer} (forward : x.reverse = false) :
    s.spareDone n x =
      ((((s.set (Reg.LANE_SPARE_STATUS_IN_USE n) 1).set (Reg.LANE_SPARE_STATUS_IN_USE_FOR n) x.lane).bump
        Reg.n_spares_substituted).spareIdle n).raise EV_lane_spare_steered n [x.lane, b2n x.pair, b2n x.byJig] := by
  simp [State.spareDone, forward, b2n]

/-- A REVERT of a steered lane that is not retired arms the reversal. -/
theorem spareRevert_of_usable {s : State} {n : Nat} (steered : s.spareState n = 3)
    (usable : bit (s.get (Reg.LANE_SPARE_STATUS_RETIRED n)) (s.get (Reg.LANE_SPARE_STATUS_IN_USE_FOR n)) = false) :
    s.spareRevert n =
      ((s.setSteer n (Steer.mk (s.get (Reg.LANE_SPARE_STATUS_IN_USE_FOR n)) (s.on (Reg.LANE_SPARE_CTRL_PAIR_MODE n)) false true false 0
        false true)).set (Reg.LANE_SPARE_CTRL_REVERT n) 1).set (Reg.LANE_SPARE_STATUS_STATE n) 1 :=
  if_pos ⟨steered, by rw [usable]; rfl⟩

/-- A retired lane has no way back: its REVERT is refused. -/
theorem spareRevert_of_retired {s : State} {n : Nat}
    (retired : bit (s.get (Reg.LANE_SPARE_STATUS_RETIRED n)) (s.get (Reg.LANE_SPARE_STATUS_IN_USE_FOR n)) = true) :
    s.spareRevert n = s.set (Reg.LANE_SPARE_STATUS_REFUSED n) 1 :=
  if_neg (by simp [retired])

/-- Settles O12: GO arms an idle ninth lane, convergence, changeover and verification follow in their states, and REVERT spares only a
retired lane. -/
theorem ninthLaneSteering : Obligations.NinthLaneSteering := by
  unfold Obligations.NinthLaneSteering
  refine ⟨?go, ?converged, ?busyOver, ?quietOver, ?verified, ?revert⟩
  case go =>
    intro n w s h go lone u
    have request : s.opSpareCtrl n w = (u.spareGo n (bits w 2 0) false false).2 := by rw [opSpareCtrl_of_go go, lone]
    exact ⟨fun idle => write_answers h (request.trans (spareGo_of_idle idle)),
      fun busy => write_answers h (request.trans (spareGo_of_busy busy))⟩
  case converged =>
    intro n x s h steering arming lone
    exact run_answers h (spareConverged_of_lone steering arming lone)
  case busyOver =>
    intro n unc x s h steering arming loaded network busy
    have notHost : s.octRole n ≠ 2 := by simp [network]
    exact run_answers h (by rw [spareOver_of_loaded steering arming loaded, if_pos busy, if_neg notHost])
  case quietOver =>
    intro n unc x s h steering arming loaded quiet
    exact run_answers h (by rw [spareOver_of_loaded steering arming loaded, if_neg (ne_true_of_eq_false quiet)])
  case verified =>
    intro n sym good x s h steering verify forward
    exact run_answers h (by rw [spareVerified_of_verify steering verify, spareDone_of_forward forward, State.spareFail])
  case revert =>
    intro n s h steered k
    exact ⟨fun usable => write_answers h (spareRevert_of_usable steered usable), fun retired => write_answers h (spareRevert_of_retired retired)⟩

/-! ## Signals and device time (R41, R44, R51, R544) -/

/-- Signal detect of an octet whose role is OFF is not seen. -/
theorem signalDetect_of_off {s : State} {n : Nat} (off : s.octRole n = 0) (k : Nat) (up : Bool) : s.signalDetect n k up = s :=
  if_pos off

/-- Signal detect that falls shows in its lane's bit and wakes nothing. -/
theorem signalDetect_of_fall {s : State} {n k : Nat} (active : s.octRole n ≠ 0) :
    s.signalDetect n k false =
      s.set (Reg.LANE_OCT_STATUS_SIGNAL_DETECT n) (putBits (s.get (Reg.LANE_OCT_STATUS_SIGNAL_DETECT n)) k k 0) := by
  simp [State.signalDetect, active, b2n]

/-- A link of a network octet takes its FEC windows. -/
theorem fecWindow_of_network {s : State} {l : Nat} (network : s.octRole (l / 8) = 1) (sym corr unc : Nat) :
    s.fecWindow l sym corr unc =
      let p := s.lanePort (l / 8) (l % 8)
      let u := ((s.bump (Reg.n_fec_corrected_symbols p) sym).bump (Reg.n_fec_corrected_cw p) corr).bump (Reg.n_fec_uncorrected_cw p) unc
      let win := max 1 (u.get Reg.LANE_FEC_DEGRADE_THR_WINDOWS)
      let o := if u.get Reg.LANE_FEC_DEGRADE_THR_SYMBOLS < sym then mgetD s.lane.overRun l 0 + 1 else 0
      let d := if sym < u.get Reg.LANE_FEC_DEGRADE_THR_SYMBOLS then mgetD s.lane.underRun l 0 + 1 else 0
      let v : State := { u with lane := { u.lane with overRun := mputD u.lane.overRun l (min o win) 0,
                                                      underRun := mputD u.lane.underRun l (min d win) 0 } }
      let is := bit (v.get (Reg.LANE_PORT_STATUS_DEGRADED_LANES p)) (l % 8)
      if win ≤ o ∧ is = false then v.degrade (l / 8) (l % 8) sym true
      else if win ≤ d ∧ is = true then v.degrade (l / 8) (l % 8) sym false else v := by
  have counts : ¬ (s.octRole (l / 8) ≠ 1 ∧ s.octRole (l / 8) ≠ 3) := fun other => other.1 network
  simp only [State.fecWindow, counts, if_false, bump_lane, Bool.not_eq_true']

/-- STEP_GO is judged against SRC as its own write leaves it: a device that follows a source ignores it, another moves its time. -/
theorem todCtrl_of_stepGo {s : State} {w : Nat} (go : bit w 1 = true) :
    s.todCtrl w =
      let u := s.set Reg.LANE_TOD_CTRL_SRC (bits w 0 0)
      if u.follows then u.bump Reg.n_tod_write_ignored
      else
        let v := u.timeMove (toSigned 64 (u.get Reg.LANE_TOD_STEP_STEP))
        { v with lane := { v.lane with todSet := true } } :=
  if_neg (by simp [go])

/-- Settles O13: signal detect by the octet's role, FEC windows by their counts and thresholds, device time by whether it follows a source. -/
theorem laneSignalsAndTime : Obligations.LaneSignalsAndTime := by
  unfold Obligations.LaneSignalsAndTime
  refine ⟨?fall, ?off, ?window, ?step, ?rate, ?reference⟩
  case fall =>
    intro n k s active
    exact always_answers (signalDetect_of_fall active)
  case off =>
    intro n k up s off
    exact always_answers (signalDetect_of_off off k up)
  case window =>
    intro l sym corr unc s h network
    exact run_answers h (fecWindow_of_network network sym corr unc)
  case step =>
    intro w s h go u
    exact ⟨fun follows => write_answers h ((todCtrl_of_stepGo go).trans (if_pos follows)),
      fun free => write_answers h ((todCtrl_of_stepGo go).trans (if_neg (ne_true_of_eq_false free)))⟩
  case rate =>
    intro w s h
    exact ⟨fun follows => write_answers h (if_pos follows), fun free => write_answers h (if_neg (ne_true_of_eq_false free))⟩
  case reference =>
    intro m s h
    exact run_answers h rfl

end Sys2Proof.Machine
end

section
/-! PROOFS. Wake sources, cold power-on, supplies and references: one equation per case of each function, then the obligation. -/

namespace Sys2Proof.Machine

/-! ## Wake sources (R422–R424, R428) -/

/-- In OFF WAKE_IN_N powers the device on. -/
theorem wakeIn_of_off {s : State} (off : s.pwr.phase = .off) : s.wakeIn = s.powerOn .supplies := if_pos off

/-- After three failed attempts WAKE_IN_N starts another. -/
theorem wakeIn_of_spent {s : State} (supplies : s.pwr.phase = .supplies) (spent : 3 ≤ s.pwr.tries) :
    s.wakeIn = (s.withPwr (fun p => { p with tries := 0 })).railsOn := by
  simp [State.wakeIn, supplies, spent]

/-- Once power-on is complete WAKE_IN_N is a wake source like others. -/
theorem wakeIn_of_up {s : State} (up : s.pwr.phase = .up) : s.wakeIn = s.pwrWake 3 none := by
  simp [State.wakeIn, up]

/-- With the source enabled a frame to the management port works in SLEEP alone. -/
theorem wakeFrame_mgmt {s : State} {f b : List Byte} (enabled : bit (s.get Reg.PWR_WAKE_EN_ENABLE) 1 = true)
    (body : s.mgmtBody f = some b) : s.wakeFrame true f = if s.devState = 2 then s.wakeBody b else s := by
  simp only [State.wakeFrame, if_true, body, enabled, Bool.true_and, decide_eq_true_eq]

/-- The spine takes the first wake frame that the pipeline handed it, and acts on it where the source is enabled and the device is in
RUN or IDLE. -/
theorem wakeFrame_net {s : State} {f g : List Byte} {l : List (List Byte)} (queued : s.lane.spineRx = g :: l) :
    s.wakeFrame false f =
      let u : State := { s with lane := { s.lane with spineRx := l } }
      if bit (s.get Reg.PWR_WAKE_EN_ENABLE) 1 = true ∧ s.devState ≤ 1 then u.wakeBody (g.drop (if beAt g 12 2 = 0x8100 then 18 else 14))
      else u := by
  have sameDevState : ({ s with lane := { s.lane with spineRx := l } } : State).devState = s.devState := rfl
  simp only [State.wakeFrame, Bool.false_eq_true, if_false, queued, Bool.and_eq_true, decide_eq_true_eq, sameDevState]

/-! ## Cold power-on (R427, R428) -/

/-- In OFF and before the standby supply is good the device knows neither POR_N nor its reference. -/
theorem notOff_of_off {s : State} (off : s.pwr.phase = .off ∨ s.pwr.phase = .standby) (t : State) : s.notOff t = s := if_pos off

theorem notOff_of_powered {s : State} (notOff : s.pwr.phase ≠ .off) (notStandby : s.pwr.phase ≠ .standby) (t : State) :
    s.notOff t = t :=
  if_neg fun off => off.elim notOff notStandby

/-- After the third attempt no further one follows by itself. -/
theorem supplyRetry_of_spent {s : State} (spent : 3 ≤ s.pwr.tries) : s.supplyRetry = s :=
  if_neg fun again => Nat.not_lt.mpr spent again.2.2

/-! ## Supplies in service (R428) -/

/-- A required rail that falls while it is enabled halts the device. -/
theorem pgFall_of_required {s : State} {i : Nat} (up : s.pwr.phase = .up) (enabled : bit (s.get Reg.PWR_RAIL_STATUS_EN) i = true)
    (required : (s.set Reg.PWR_RAIL_STATUS_PG (putBits (s.get Reg.PWR_RAIL_STATUS_PG) i i 0)).on (Reg.PWR_RAIL_CFG_PG_EN i) = true) :
    s.pgFall i = (s.set Reg.PWR_RAIL_STATUS_PG (putBits (s.get Reg.PWR_RAIL_STATUS_PG) i i 0)).railFail i 2 := by
  simp only [State.pgFall, set_pwr, up, enabled, required, and_self, if_true]

/-- A rail that the device has switched off may fall. -/
theorem pgFall_of_disabled {s : State} {i : Nat} (disabled : bit (s.get Reg.PWR_RAIL_STATUS_EN) i = false) :
    s.pgFall i = s.set Reg.PWR_RAIL_STATUS_PG (putBits (s.get Reg.PWR_RAIL_STATUS_PG) i i 0) := by
  simp only [State.pgFall, disabled, Bool.false_eq_true, false_and, and_false, if_false]

/-- A required rail that is late in step 1 of the exit from DEEP halts the device. -/
theorem pgLate_of_exit {s : State} {i : Nat} {t : Trans} (trans : s.pwr.trans = some t) (src : t.src = 3) (dst : t.dst = 0)
    (step : t.step = 1) (required : s.on (Reg.PWR_RAIL_CFG_PG_EN i) = true) (low : bit (s.get Reg.PWR_RAIL_STATUS_PG) i = false) :
    s.pgLate i = s.railFail i 1 := by
  simp only [State.pgLate, trans]
  exact if_pos ⟨src, dst, step, required, low⟩

/-- Outside a transition no rail is late. -/
theorem pgLate_of_still {s : State} {i : Nat} (still : s.pwr.trans = none) : s.pgLate i = s := by
  simp only [State.pgLate, still]

/-! ## The obligation -/

/-- Settles O54: a wake source by the phase and state it works in, power-on by its phase, a rail by whether it is enabled and required, a
reference by whether it is lost already and who uses it. -/
theorem wakeAndSupplies : Obligations.WakeAndSupplies := by
  unfold Obligations.WakeAndSupplies
  refine ⟨?wakes, ?mgmtFrames, ?netFrames, ?powerOn, ?rails, ?references⟩
  case wakes =>
    intro s
    refine ⟨?off, ?spent, ?up, ?reached, ?early, ?signal⟩
    case off => exact fun off => always_answers (wakeIn_of_off off)
    case spent => exact fun supplies spent => always_answers (wakeIn_of_spent supplies spent)
    case up => exact fun up => always_answers (wakeIn_of_up up)
    case reached => exact fun reached => always_answers (if_pos reached)
    case early => exact fun early => always_answers (if_neg (Nat.not_le.mpr early))
    case signal => exact always_answers rfl
  case mgmtFrames =>
    intro f b s h enabled body
    exact ⟨fun asleep => run_answers h ((wakeFrame_mgmt enabled body).trans (if_pos asleep)),
      fun other => run_answers h ((wakeFrame_mgmt enabled body).trans (if_neg other))⟩
  case netFrames =>
    intro f g l s h queued
    refine ⟨fun enabled awake => run_answers h ((wakeFrame_net queued).trans (if_pos ⟨enabled, awake⟩)),
      fun disabled => run_answers h ((wakeFrame_net queued).trans (if_neg fun acts => ?_))⟩
    exact absurd acts.1 (ne_true_of_eq_false disabled)
  case powerOn =>
    intro pg s
    refine ⟨?standbyGood, ?standbyElse, ?standbyLoss, ?good, ?late, ?retry, ?stable, ?sensed, ?sensedElse, ?restart, ?deaf, ?release⟩
    case standbyGood => exact fun standby => always_answers (if_pos standby)
    case standbyElse => exact fun other => always_answers (if_neg other)
    case standbyLoss => exact always_answers rfl
    case good => exact fun supplies released enabled good => always_answers (if_pos ⟨supplies, released, enabled, good⟩)
    case late => exact fun supplies enabled => always_answers (if_pos ⟨supplies, enabled⟩)
    case retry =>
      exact fun supplies low => ⟨fun again => always_answers (if_pos ⟨supplies, low, again⟩),
        fun spent => always_answers (supplyRetry_of_spent spent)⟩
    case stable => exact fun refclk => always_answers (if_pos refclk)
    case sensed => exact fun l fuses => always_answers (if_neg (not_not_intro fuses))
    case sensedElse => exact fun l other => always_answers (if_pos other)
    case restart =>
      exact fun notOff notStandby =>
        ⟨always_answers (notOff_of_powered notOff notStandby _), always_answers (notOff_of_powered notOff notStandby _)⟩
    case deaf => exact fun off => ⟨always_answers (notOff_of_off off _), always_answers (notOff_of_off off _)⟩
    case release => exact always_answers rfl
  case rails =>
    intro i s
    refine ⟨?fails, ?switched, ?late, ?still⟩
    case fails =>
      intro up enabled required
      rw [set_pwr] at up
      exact always_answers (pgFall_of_required up enabled required)
    case switched => exact fun disabled => always_answers (pgFall_of_disabled disabled)
    case late => exact fun t trans src dst step required low => always_answers (pgLate_of_exit trans src dst step required low)
    case still => exact fun still => always_answers (pgLate_of_still still)
  case references =>
    intro m s
    refine ⟨?lost, ?again, ?pcie, ?notHost⟩
    case lost => exact fun here => always_answers (if_neg (ne_true_of_eq_false here))
    case again => exact fun gone => always_answers (if_pos gone)
    case pcie => exact fun host common => always_answers (if_pos ⟨host, common⟩)
    case notHost => exact fun notHost => always_answers (if_neg fun loss => notHost loss.1)

end Sys2Proof.Machine
end

section
/-! PROOFS. Host ports: their links, and the writes that shape their functions. Each function of the model gets one
equation per case; a command's proof cites the equation of its case. -/

namespace Sys2Proof.Machine

/-! ## Links (R56, R550, R551) -/

theorem inPhase_of_phase {s : State} {q : Nat} {p : LinkPhase} (phase : (s.hport q).phase = p) : s.inPhase q p = true :=
  decide_eq_true phase

theorem inPhase_of_other {s : State} {q : Nat} {p : LinkPhase} (other : (s.hport q).phase ≠ p) : s.inPhase q p = false :=
  decide_eq_false other

/-- After training L0 brings the link up, not yet settled, and what waits for it goes on. -/
theorem linkL0_of_training {s : State} {q : Nat} (training : (s.hport q).phase = .training) (speed width : Nat) (flit : Bool) :
    s.linkL0 q speed width flit =
      ((((s.setHport q { s.hport q with phase := .l0, settled := false, stopped := false }).set (Reg.HOST_PORT_STATUS_LINK_UP q) 1).showLink
        q speed width flit).wakeOff q).linkReady q := by
  simp only [State.linkL0, training]

/-- The first end of a rate change after L0 settles the link and tells of it. -/
theorem rateEnd_of_unsettled {s : State} {q : Nat} (l0 : (s.hport q).phase = .l0) (unsettled : (s.hport q).settled = false)
    (speed width : Nat) (flit : Bool) :
    s.rateEnd q speed width flit =
      let u := s.showLink q speed width flit
      (u.setHport q { u.hport q with settled := true, attempts := 0 }).hostEvent q EV_host_link_up [speed, width, b2n flit] :=
  if_pos (by simp [inPhase_of_phase l0, unsettled])

/-- A link in training that settles below the floor goes down; its attempts decide whether it trains again. -/
theorem settledLow_of_training {s : State} {q : Nat} (training : (s.hport q).phase = .training) (unsettled : (s.hport q).settled = false)
    (speed : Nat) :
    s.settledLow q speed =
      let u := (s.showLink q 0 0 false).set (Reg.HOST_PORT_STATUS_LINK_UP q) 0
      if (s.hport q).attempts < 2 then u.setHport q { u.hport q with phase := .training, attempts := (s.hport q).attempts + 1 }
      else ((u.setHport q { u.hport q with phase := .down, attempts := 3, gaveUp := true }).set (Reg.HOST_PORT_STATUS_LAST_DOWN q)
        6).hostEvent q EV_host_speed_floor [speed] :=
  if_pos (by simp [inPhase_of_phase training, unsettled])

/-- A retrain takes a link in L0 to Recovery. -/
theorem retrain_of_l0 {s : State} {q : Nat} (l0 : (s.hport q).phase = .l0) :
    s.retrain q = (s.set (Reg.HOST_PORT_CTRL_RETRAIN q) 1).setHport q { s.hport q with phase := .recovery } := by
  rw [State.retrain, if_pos (inPhase_of_phase l0), State.setLinkPhase, set_hport]

/-- ENABLE cleared resets a port whose link is up. -/
theorem enableClear_of_up {s : State} {q : Nat}
    (up : (s.set (Reg.HOST_PORT_CFG_ENABLE q) 0).on (Reg.HOST_PORT_STATUS_LINK_UP q) = true) :
    s.enableClear q = (s.set (Reg.HOST_PORT_CFG_ENABLE q) 0).portReset q 3 :=
  if_pos up

/-- ENABLE cleared on a port that is down already writes the field and no more. -/
theorem enableClear_of_down {s : State} {q : Nat}
    (noLink : (s.set (Reg.HOST_PORT_CFG_ENABLE q) 0).on (Reg.HOST_PORT_STATUS_LINK_UP q) = false) (down : (s.hport q).phase = .down) :
    s.enableClear q = s.set (Reg.HOST_PORT_CFG_ENABLE q) 0 := by
  have notTraining : (s.set (Reg.HOST_PORT_CFG_ENABLE q) 0).inPhase q .training = false :=
    inPhase_of_other (by rw [set_hport, down]; exact nofun)
  simp only [State.enableClear, noLink, notTraining, Bool.false_eq_true, if_false]

/-- CFG_READY counts on a host port that is not held in reset. -/
theorem cfgReady_of_released {s : State} {q : Nat} (present : s.hostExists q = true)
    (released : s.on (Reg.HOST_PORT_STATUS_PERST_ASSERTED q) = false) :
    s.cfgReady q = (s.set (Reg.HOST_PORT_STATUS_CFG_READY q) 1).setReady (192 + q) true :=
  if_pos (by simp [present, released])

/-- Settles O14: each report of a link acts in the phase it belongs to, and the port's own settings by whether its link is up. -/
theorem hostLinkComesUp : Obligations.HostLinkComesUp := by
  unfold Obligations.HostLinkComesUp
  refine ⟨?start, ?l0, ?settled, ?low, ?retrain, ?retrained, ?recovery, ?enable, ?disable, ?reference, ?config, ?release⟩
  case start =>
    intro q s may
    exact always_answers (if_pos may)
  case l0 =>
    intro q v w fl s training
    exact always_answers (linkL0_of_training training v w fl)
  case settled =>
    intro q v w fl s l0 unsettled
    exact always_answers (rateEnd_of_unsettled l0 unsettled v w fl)
  case low =>
    intro q v s training unsettled u
    have low := settledLow_of_training training unsettled v
    exact ⟨fun again => always_answers (low.trans (if_pos again)),
      fun spent => always_answers (low.trans (if_neg (Nat.not_lt.mpr spent)))⟩
  case retrain =>
    intro q s h l0
    exact write_answers h (retrain_of_l0 l0)
  case retrained =>
    intro q v w n fl s recovery
    exact always_answers (if_pos (inPhase_of_phase recovery))
  case recovery =>
    intro q s l0
    exact always_answers (if_pos (inPhase_of_phase l0))
  case enable =>
    intro q s h
    exact write_answers h rfl
  case disable =>
    intro q s h u
    exact ⟨fun up => write_answers h (enableClear_of_up up), fun noLink down => write_answers h (enableClear_of_down noLink down)⟩
  case reference =>
    intro n s
    exact always_answers rfl
  case config =>
    intro q s present released
    exact always_answers (cfgReady_of_released present released)
  case release =>
    intro q s
    exact always_answers rfl

/-! ## Functions (R58, R60, R65, R67, R74) -/

/-- A count of VFs other than the present one is taken unless it passes the port's 256 or its PF has VF Enable set. -/
theorem pfWrite_of_newCount {s : State} {q f w : Nat}
    (newCount : bits w 8 0 ≠ (s.set (Reg.HOST_PF_CFG_PF_EN q f) (if f = 0 then 1 else bits w 24 24)).get (Reg.HOST_PF_CFG_TOTAL_VFS q f)) :
    s.pfWrite q f w =
      let u := s.set (Reg.HOST_PF_CFG_PF_EN q f) (if f = 0 then 1 else bits w 24 24)
      if 256 < bits w 8 0 + u.otherVfs q f ∨ (u.hport q).vfEn.contains f = true then
        (u.set (Reg.HOST_PORT_STATUS_PF_REFUSED q) 1).hostEvent q EV_host_pf_refused [f, bits w 8 0]
      else u.set (Reg.HOST_PF_CFG_TOTAL_VFS q f) (bits w 8 0) :=
  if_neg newCount

theorem orderRefusal_of_vfEnabled {s : State} {q : Nat} (enabled : (s.hport q).vfEn ≠ []) : s.orderRefusal q = some 0 :=
  if_pos (by simp [enabled])

/-- Where no VF is enabled and the manager is elsewhere nothing refuses another ORDER_MODE. -/
theorem orderRefusal_of_free {s : State} {q : Nat} (noVf : (s.hport q).vfEn = []) (noManager : s.mgrPort ≠ some q) :
    s.orderRefusal q = none := by
  simp [State.orderRefusal, noVf, noManager]

theorem orderWrite_of_refusal {s : State} {q mode why : Nat} (newMode : mode ≠ s.get (Reg.HOST_PORT_CFG_ORDER_MODE q))
    (refusal : s.orderRefusal q = some why) :
    s.orderWrite q mode = (s.set (Reg.HOST_PORT_STATUS_ORDER_REFUSED q) 1).hostEvent q EV_host_order_refused [why] := by
  simp only [State.orderWrite, newMode, refusal, if_false]

theorem orderWrite_of_noRefusal {s : State} {q mode : Nat} (newMode : mode ≠ s.get (Reg.HOST_PORT_CFG_ORDER_MODE q))
    (noRefusal : s.orderRefusal q = none) : s.orderWrite q mode = s.set (Reg.HOST_PORT_CFG_ORDER_MODE q) mode := by
  simp only [State.orderWrite, newMode, noRefusal, if_false]

theorem b2n_not_decide (p : Prop) [Decidable p] : b2n (!decide p) = if p then 0 else 1 := by
  by_cases h : p <;> simp [h, b2n]

/-- After a write of MGR_PORT PENDING shows whether the manager's place differs from the port named. -/
theorem mgrWrite_eq (s : State) (v : Nat) :
    s.mgrWrite v =
      let u := (s.set Reg.HOST_MGR_CFG_MGR_PORT v).mgrPlace
      u.set Reg.HOST_MGR_CFG_PENDING (if u.get Reg.HOST_MGR_CFG_MGR_PORT = u.get Reg.HOST_MGR_CFG_MGR_PORT_ACTIVE then 0 else 1) := by
  simp only [State.mgrWrite, b2n_not_decide]

/-- A manager without a place takes it on the port that MGR_PORT names, once that port exists. -/
theorem mgrAppear_of_exists {s : State} (named : s.get Reg.HOST_MGR_CFG_MGR_PORT ≠ 0x7F)
    (noPlace : 64 ≤ s.get Reg.HOST_MGR_CFG_MGR_PORT_ACTIVE) (present : s.hostExists (s.get Reg.HOST_MGR_CFG_MGR_PORT) = true) :
    s.mgrAppear =
      (({ s with host := { s.host with mgrWaits := false } } : State).set Reg.HOST_MGR_CFG_MGR_PORT_ACTIVE
        (s.get Reg.HOST_MGR_CFG_MGR_PORT)).set Reg.HOST_MGR_CFG_PENDING 0 := by
  have stays : ¬ (s.get Reg.HOST_MGR_CFG_MGR_PORT_ACTIVE < 64 ∨ s.get Reg.HOST_MGR_CFG_MGR_PORT = 0x7F) :=
    fun placed => placed.elim (Nat.not_lt.mpr noPlace) named
  calc s.mgrAppear
    _ = s.mgrPlace := if_pos present
    _ = _ := if_neg stays
    _ = _ := if_pos present

/-- Until its configuration is ready a port with a link answers requests with a retry (R74). -/
theorem config_of_notReady {s : State} {q : Nat} (up : s.on (Reg.HOST_PORT_STATUS_LINK_UP q) = true)
    (notReady : s.on (Reg.HOST_PORT_STATUS_CFG_READY q) = false) (fn : Nat) (op : CfgOp) :
    s.config q fn op = s.emit (.pcie q .cfgRetry) := by
  simp [State.config, up, notReady]

/-- A port that is ready answers for the functions it has. -/
theorem config_of_ready {s : State} {q : Nat} (up : s.on (Reg.HOST_PORT_STATUS_LINK_UP q) = true)
    (ready : s.on (Reg.HOST_PORT_STATUS_CFG_READY q) = true) (fn : Nat) (op : CfgOp) :
    s.config q fn op =
      if s.fnThere q fn then (s.cfgApply q fn op).emit (.pcie q .cfgOk) else s.emit (.pcie q .unsupported) := by
  cases there : s.fnThere q fn <;> simp [State.config, up, ready, there]

/-- Settles O15: a write that shapes a port's functions is taken unless VFs enabled by the host or the port's limit forbid it. -/
theorem hostFunctions : Obligations.HostFunctions := by
  unfold Obligations.HostFunctions
  refine ⟨?totalVfs, ?orderMode, ?mgrPort, ?mgrPlace, ?vfEnable, ?vfDisable, ?vfCount, ?config⟩
  case totalVfs =>
    intro q f w s h u newCount
    have write := pfWrite_of_newCount newCount
    refine ⟨fun refused => write_answers h (write.trans (if_pos refused)),
      fun fits disabled => write_answers h (write.trans (if_neg fun refused => ?_))⟩
    exact refused.elim (Nat.not_lt.mpr fits) (ne_true_of_eq_false disabled)
  case orderMode =>
    intro q mode s h newMode
    exact ⟨fun enabled => write_answers h (orderWrite_of_refusal newMode (orderRefusal_of_vfEnabled enabled)),
      fun noVf noManager => write_answers h (orderWrite_of_noRefusal newMode (orderRefusal_of_free noVf noManager))⟩
  case mgrPort =>
    intro v s h
    exact write_answers h (mgrWrite_eq s v)
  case mgrPlace =>
    intro s named noPlace present
    exact always_answers (mgrAppear_of_exists named noPlace present)
  case vfEnable =>
    intro q f n s h enabled
    exact run_answers h (if_pos enabled)
  case vfDisable =>
    intro q f s h
    exact run_answers h rfl
  case vfCount =>
    intro q f n s h
    exact run_answers h rfl
  case config =>
    intro q fn op s up
    refine ⟨fun notReady => always_answers (config_of_notReady up notReady fn op), fun ready gone => ?_, fun ready there => ?_⟩
    · exact always_answers ((config_of_ready up ready fn op).trans (if_neg (ne_true_of_eq_false gone)))
    · exact always_answers ((config_of_ready up ready fn op).trans (if_pos there))

end Sys2Proof.Machine
end

section
/-! PROOFS. Host ports: ends of DMA reads and of translations, low power, resets and retirement. Each function of the model gets one
equation per case; a command's proof cites the equation of its case. -/

namespace Sys2Proof.Machine

/-! ## Ends of DMA reads (R68) -/

/-- A completion that answers no read is discarded and counted. -/
theorem dmaIn_of_noRead {s : State} {q tag : Nat}
    (noRead : (s.hport q).reads.find? (fun r => decide (r.tag = tag) && r.issued && r.data.isNone) = none) (good : Bool) (l : List Byte) :
    s.dmaIn q tag good l = s.bump (Reg.n_late_cpl_discard q) := by
  simp only [State.dmaIn, noRead]

/-- A completion that is no success ends its read with HOST_ABORT. -/
theorem dmaIn_of_abort {s : State} {q tag : Nat} {r : DmaRead}
    (read : (s.hport q).reads.find? (fun r => decide (r.tag = tag) && r.issued && r.data.isNone) = some r) (l : List Byte) :
    s.dmaIn q tag false l = ((s.bump (Reg.n_host_abort q)).readFail q r ST_HOST_ABORT).issueReads q := by
  simp only [State.dmaIn, read, Bool.false_eq_true, if_false]

/-- A read whose completion does not come ends with HOST_TIMEOUT. -/
theorem dmaTimeout_of_read {s : State} {q tag : Nat} {r : DmaRead}
    (read : (s.hport q).reads.find? (fun r => decide (r.tag = tag) && r.issued && r.data.isNone) = some r) :
    s.dmaTimeout q tag =
      (((s.bump (Reg.n_cpl_timeout q)).hostEvent q EV_host_cpl_timeout [r.drawer, tag]).readFail q r ST_HOST_TIMEOUT).issueReads q := by
  simp only [State.dmaTimeout, read]

/-! ## Translations, invalidations and latency tolerance (R69, R70) -/

/-- A reply that an access waits for and that a pending invalidation covers is asked for again. -/
theorem atsReply_of_invalid {s : State} {q fn page : Nat}
    (awaited : (s.hport q).atsWait.any (fun w => decide (w.fn = fn) && decide (w.page = page)) = true)
    (invalid : (s.hport q).invalid fn page = true) (xlat perm : Nat) :
    s.atsReply q fn page xlat perm =
      (s.emit (.pcie q (.translationRequest (page * 4096)))).bump (Reg.n_ats_translations q) := by
  have someWait : ((s.hport q).atsWait.filter (fun w => decide (w.fn = fn) && decide (w.page = page))).isEmpty = false := by
    rw [List.any_eq_true] at awaited
    obtain ⟨w, waits, same⟩ := awaited
    exact List.isEmpty_eq_false_iff.mpr (List.ne_nil_of_mem (List.mem_filter.mpr ⟨waits, same⟩))
  simp only [State.atsReply, someWait, invalid, Bool.false_eq_true, if_false, if_true]

/-- With no read at work on the port nothing uses the entries, so the invalidation is answered. -/
theorem atsInvalDone_of_noReads {s : State} {q tag : Nat} {i : AtsInval}
    (pending : (s.hport q).invals.find? (fun i => decide (i.tag = tag)) = some i) (noReads : (s.hport q).reads = []) :
    s.atsInvalDone q tag =
      ((s.setHport q { s.hport q with invals := (s.hport q).invals.filter (fun i => !decide (i.tag = tag)) }).emit
        (.pcie q (.invalidationCompletion tag))).bump (Reg.n_ats_invalidations q) := by
  simp only [State.atsInvalDone, pending, noReads, List.any_nil, Bool.false_eq_true, if_false]

/-- A changed tolerance is reported once 100 µs have passed since the report before. -/
theorem ltr_of_due {s : State} {q : Nat} (enabled : (s.hport q).ltrEn = true) (up : s.on (Reg.HOST_PORT_STATUS_LINK_UP q) = true)
    (changed : s.tolerance q ≠ (s.hport q).ltrLast) (due : 100000 ≤ s.now - (s.hport q).ltrAt) :
    s.ltr q =
      (s.setHport q { s.hport q with ltrLast := s.tolerance q, ltrAt := s.now }).emit (.pcie q (.ltr (s.tolerance q))) :=
  if_pos (by simp [enabled, up, changed, due])

/-- Settles O17: whether a read or a translation is awaited decides what its end does, and an invalidation waits for reads alone. -/
theorem hostDmaAndTranslation : Obligations.HostDmaAndTranslation := by
  unfold Obligations.HostDmaAndTranslation
  refine ⟨?late, ?abort, ?timeout, ?again, ?invalidation, ?answered, ?tolerance⟩
  case late =>
    intro q tag good l s h noRead
    exact run_answers h (dmaIn_of_noRead noRead good l)
  case abort =>
    intro q tag l r s h read
    exact run_answers h (dmaIn_of_abort read l)
  case timeout =>
    intro q tag r s h read
    exact run_answers h (dmaTimeout_of_read read)
  case again =>
    intro q fn page xl perm s h awaited invalid
    exact run_answers h (atsReply_of_invalid awaited invalid xl perm)
  case invalidation =>
    intro q tag fn page n s h
    exact run_answers h rfl
  case answered =>
    intro q tag i s h pending noReads
    exact run_answers h (atsInvalDone_of_noReads pending noReads)
  case tolerance =>
    intro q s h enabled up changed due
    exact run_answers h (ltr_of_due enabled up changed due)

/-! ## Low power (R71–R73) -/

/-- Bindings stand in the registers, so a change of a port's record leaves the drawer of each function. -/
@[simp] theorem setHport_fnDrawer (s : State) (q : Nat) (h : HostPort) (p fn : Nat) :
    (s.setHport q h).fnDrawer p fn = s.fnDrawer p fn := rfl

/-- A function without a drawer enters D3hot and nothing is reset. -/
theorem d3Entry_of_noDrawer {s : State} {q fn : Nat} (there : s.fnThere q fn = true) (noDrawer : s.fnDrawer q fn = none) :
    s.d3Entry q fn = s.setHport q { s.hport q with d3 := setIn (s.hport q).d3 fn true } := by
  simp only [State.d3Entry, there, if_true, setHport_fnDrawer, noDrawer]

/-- With no reads left the port acknowledges PME_Turn_Off and its link is in L2; no wake condition waits for it. -/
theorem l2Done_of_noReads {s : State} {q : Nat} (entry : (s.hport q).phase = .l2entry) (noReads : (s.hport q).reads = [])
    (noWake : (s.hport q).wakePend = none) :
    s.l2Done q =
      ((((s.emit (.pcie q .pmeToAck)).setHport q { s.hport q with phase := .l2, wakePend := none }).showLink q 0 0 false).set
        (Reg.HOST_PORT_STATUS_LINK_UP q) 0).set (Reg.HOST_PORT_STATUS_L2 q) 1 := by
  simp only [State.l2Done, inPhase_of_phase entry, noReads, noWake, List.any_nil, Bool.not_false, Bool.and_self, if_true]

section WakeEnabled

variable {s : State} {q fn : Nat} (enabled : s.on (Reg.HOST_PORT_CFG_WAKE_EN q) = true) (pme : (s.hport q).pmeEn.contains fn = true)
include enabled pme

/-- A wake condition on the way to L2 waits for its end. -/
theorem wakeCond_of_l2entry (entry : (s.hport q).phase = .l2entry) (cond : Nat) :
    s.wakeCond q fn cond = s.setHport q { s.hport q with wakePend := some cond } := by
  simp only [State.wakeCond, enabled, pme, entry, Bool.and_self, if_true]

/-- A wake condition in L2 asks for WAKE_N. -/
theorem wakeCond_of_l2 (l2 : (s.hport q).phase = .l2) (cond : Nat) : s.wakeCond q fn cond = s.wakeOut q cond := by
  simp only [State.wakeCond, enabled, pme, l2, Bool.and_self, if_true]

end WakeEnabled

/-- WAKE_N is driven, and the host told, once. -/
theorem wakeOut_of_released {s : State} {q : Nat} (released : s.on (Reg.HOST_PORT_STATUS_WAKE_ASSERTED q) = false) (cond : Nat) :
    s.wakeOut q cond =
      ((s.set (Reg.HOST_PORT_STATUS_WAKE_ASSERTED q) 1).emit (.pin ("WAKE_N[" ++ toString q ++ "]") false)).hostEvent q EV_host_wake
        [cond] :=
  if_neg (ne_true_of_eq_false released)

/-- Settles O18: the way to L2 step by step, and a wake condition by how far the port is on it. -/
theorem hostLowPower : Obligations.HostLowPower := by
  unfold Obligations.HostLowPower
  refine ⟨?d3, ?turnOff, ?l2, ?wake⟩
  case d3 =>
    intro q fn s there noDrawer
    exact always_answers (d3Entry_of_noDrawer there noDrawer)
  case turnOff =>
    intro q s up
    exact always_answers (if_pos up)
  case l2 =>
    intro q s entry noReads noWake
    exact always_answers (l2Done_of_noReads entry noReads noWake)
  case wake =>
    intro q fn cond s h enabled pme
    exact ⟨fun entry => run_answers h (wakeCond_of_l2entry enabled pme entry cond),
      fun l2 released => run_answers h ((wakeCond_of_l2 enabled pme l2 cond).trans (wakeOut_of_released released cond))⟩

/-! ## Resets (R57, R75, R79) -/

theorem hostPortReset_of_exists {s : State} {q : Nat} (present : s.hostExists q = true) (cause : Nat) :
    s.hostPortReset q cause = s.portReset q cause :=
  if_pos present

/-- PERST_N asserted resets the port it belongs to; its configuration is not ready and its attempts count anew. -/
theorem perstLow_of_exists {s : State} {q : Nat} (present : (s.set (Reg.HOST_PORT_STATUS_PERST_ASSERTED q) 1).hostExists q = true) :
    s.perstLow q =
      let u := (((s.set (Reg.HOST_PORT_STATUS_PERST_ASSERTED q) 1).portReset q 1).set (Reg.HOST_PORT_STATUS_CFG_READY q) 0).setReady
        (192 + q) false
      u.setHport q { u.hport q with attempts := 0, gaveUp := false } := by
  simp only [State.perstLow, hostPortReset_of_exists present]

/-- A link that is lost with PERST_N released is a surprise; it ends a retirement as one timed out. -/
theorem dlDown_of_up {s : State} {q : Nat} (released : s.on (Reg.HOST_PORT_STATUS_PERST_ASSERTED q) = false)
    (up : s.on (Reg.HOST_PORT_STATUS_LINK_UP q) = true) :
    s.dlDown q =
      let u := ((s.portReset q 4).bump (Reg.n_surprise_down_count q)).hostEvent q EV_host_surprise_down
        [((s.portDrawers q).filter (fun d => decide (2 ≤ s.drState d))).length]
      if (u.hport q).retiring then u.retired q 1 else u :=
  (if_neg (ne_true_of_eq_false released)).trans (if_pos up)

/-- An FLR that touches no drawer is over at once. -/
theorem flrBegin_nil (s : State) (q num : Nat) : s.flrBegin q num [] = s.hostEvent q EV_host_flr [num, 0] := rfl

/-- An FLR of one drawer waits for the reset of that drawer. -/
theorem flrBegin_singleton (s : State) (q num d : Nat) :
    s.flrBegin q num [d] = (s.setHport q { s.hport q with flrs := (s.hport q).flrs ++ [(num, [d], 1)] }).hostReset d 3 := rfl

/-- An FLR of a VF that is there clears the function and resets its drawer, if it has one. -/
theorem vfFlr_of_there {s : State} {q f v : Nat} (there : s.fnThere q (4 + 256 * f + v) = true) :
    s.vfFlr q f v =
      (s.setHport q ((s.hport q).clearFn (4 + 256 * f + v))).flrBegin q (s.fnNumber q (4 + 256 * f + v)) (s.vfDrawer q f v).toList :=
  if_pos there

/-- An FLR of a PF other than PF0 clears the PF and its VFs and leaves what belongs to PF0 alone. -/
theorem pfFlr_of_other {s : State} {q f : Nat} (there : s.fnThere q f = true) (other : f ≠ 0) :
    s.pfFlr q f =
      let h := (List.range 256).foldl (fun (h : HostPort) v => h.clearFn (4 + 256 * f + v)) ((s.hport q).clearFn f)
      (s.setHport q { h with vfEn := h.vfEn.filter (fun y => !decide (y = f)) }).flrBegin q f
        ((s.pfDrawers q f).filter (fun d => decide (2 ≤ s.drState d))) := by
  simp only [State.pfFlr, setIn, there, other, decide_false, Bool.not_false, Bool.and_true, Bool.false_eq_true, if_true, if_false]

/-! ## Retirement (R76) -/

/-- A write of RETIRE begins the retirement of a port that is not retiring yet, and the port's host finds the record of it. -/
theorem portRetire_of_inService {s : State} {q : Nat} (present : s.hostExists q = true) (inService : (s.hport q).retiring = false) :
    s.portRetire q =
      let u := (s.set (Reg.HOST_PORT_CTRL_RETIRE q) 1).set (Reg.HOST_PORT_STATUS_RETIRED q) 0
      let v := u.setHport q { u.hport q with retiring := true }
      v.logRecord q { code := EV_host_retired, source := q, time := v.now, dest := 0, detail := [2] } :=
  if_pos (by simp [present, inService])

theorem retireEnd_of_retiring {s : State} {q : Nat} (retiring : (s.hport q).retiring = true) (how : Nat) :
    s.retireEnd q how = (s.portReset q 3).retired q how :=
  if_pos retiring

/-- Settles O19: each cause of a port reset with the code it shows, function resets by the drawers they touch, and retirement from its
beginning to either end. -/
theorem hostPortResets : Obligations.HostPortResets := by
  unfold Obligations.HostPortResets
  refine ⟨?perst, ?inBand, ?surprise, ?vfAlone, ?vfDrawer, ?pf, ?retire, ?retired⟩
  case perst =>
    intro q s present
    exact always_answers (perstLow_of_exists present)
  case inBand =>
    intro q s present
    exact ⟨always_answers (hostPortReset_of_exists present 2), always_answers (hostPortReset_of_exists present 3)⟩
  case surprise =>
    intro q s released up
    exact always_answers (dlDown_of_up released up)
  case vfAlone =>
    intro q f v s h there noDrawer
    refine run_answers h ?_
    rw [vfFlr_of_there there, noDrawer, Option.toList_none, flrBegin_nil]
  case vfDrawer =>
    intro q f v d s h there drawer
    refine run_answers h ?_
    rw [vfFlr_of_there there, drawer, Option.toList_some, flrBegin_singleton]
  case pf =>
    intro q f s h there other
    exact run_answers h (pfFlr_of_other there other)
  case retire =>
    intro q s h present inService
    exact write_answers h (portRetire_of_inService present inService)
  case retired =>
    intro q s h retiring
    exact ⟨run_answers h (retireEnd_of_retiring retiring 0), run_answers h (retireEnd_of_retiring retiring 1)⟩

end Sys2Proof.Machine
end

section
/-! PROOFS. The manager's drawer commands and the quiesce sequence: what passes the checks of a drawer command, one equation per case of
each command, and one per step of the sequence. -/

namespace Sys2Proof.Machine

/-! ## Commands of a ring that may start (R120) -/

/-- A ring's command that may start has its effect on the state in which its item is marked as started. -/
theorem run_work_answers {s u : State} {r : Ref} {f : State → State} (h : s.running = true) (start : s.mayStart r = true)
    (e : f (s.markStarted r) = u) : s.run (s.work r f) = .next { u with pending := s.pending } :=
  run_answers h ((work_starts start).trans e)

/-! ## Drawer commands (R83–R89) -/

section
variable {s : State} {r : Ref} {e : List Byte}

/-- A drawer command that is well formed, on a drawer outside its sequences and in a state that accepts the command, has its effect. -/
theorem drCmd_of_accepted {op st : Nat} {ok : Bool} {accepted : List Nat} {f : Nat → State} (fields : drFields op e = true)
    (list : ok = true) (idle : mget s.drw.quiesce (drOf e) = none) (state : s.drState (drOf e) = st)
    (accepts : accepted.contains st = true) : s.drCmd r op e ok accepted f = f (drOf e) := by
  subst state
  simp only [State.drCmd, fields, list, idle, accepts, Bool.not_true, Bool.or_false, Option.isSome_none, Bool.false_eq_true, if_false]

/-- The same for a command that two states of a drawer accept. -/
theorem drCmd_of_either {op x y : Nat} {ok : Bool} {accepted : List Nat} {f : Nat → State} (fields : drFields op e = true)
    (list : ok = true) (idle : mget s.drw.quiesce (drOf e) = none) (state : s.drState (drOf e) = x ∨ s.drState (drOf e) = y)
    (acceptsX : accepted.contains x = true) (acceptsY : accepted.contains y = true) : s.drCmd r op e ok accepted f = f (drOf e) :=
  state.elim (fun is => drCmd_of_accepted fields list idle is acceptsX) (fun is => drCmd_of_accepted fields list idle is acceptsY)

/-! ### Creation, and what a drawer holds -/

section
variable {cs : List (List Byte)} {v : State}

theorem drCreate_of_granted {g : Grant} (fields : drFields 0x60 e = true) (list : sharesOk (decide (leAt e 10 1 = 1)) cs = true)
    (idle : mget s.drw.quiesce (drOf e) = none) (free : s.drState (drOf e) = 0)
    (granted : grantList (drOf e) (decide (leAt e 10 1 = 1)) 0 { shares := [], ranges := s.tbl.ranges } (shareList cs) s = (.ok g, v)) :
    s.drCreate r e cs =
      let w := (((v.set (Reg.DRW_DRAWER_STATUS_KIND (drOf e)) (leAt e 10 1)).set (Reg.DRW_DRAWER_STATUS_PERSONALITY (drOf e))
        (leAt e 11 1)).setDr (drOf e) 1).setShares (drOf e) g
      w.complete r 0 0 [w.drGen (drOf e)] := by
  rw [State.drCreate, drCmd_of_accepted fields list idle free rfl, granted]
  rfl

theorem drCreate_of_notGranted {st pos pool : Nat} (fields : drFields 0x60 e = true)
    (list : sharesOk (decide (leAt e 10 1 = 1)) cs = true) (idle : mget s.drw.quiesce (drOf e) = none)
    (free : s.drState (drOf e) = 0)
    (refused : grantList (drOf e) (decide (leAt e 10 1 = 1)) 0 { shares := [], ranges := s.tbl.ranges } (shareList cs) s =
      (.error (st, pos, pool), v)) :
    s.drCreate r e cs = v.complete r st (pos + pool * 2 ^ 32) [v.drGen (drOf e)] := by
  rw [State.drCreate, drCmd_of_accepted fields list idle free rfl, refused]
  rfl

theorem drResize_of_granted {g : Grant} (fields : drFields 0x66 e = true) (list : sharesOk (s.sealed (drOf e)) cs = true)
    (idle : mget s.drw.quiesce (drOf e) = none) (state : s.drState (drOf e) = 1 ∨ s.drState (drOf e) = 5)
    (granted : grantList (drOf e) (s.sealed (drOf e)) 0 { shares := s.sharesOf (drOf e), ranges := s.tbl.ranges }
      (shareList cs) s = (.ok g, v)) :
    s.drResize r e cs = (v.setShares (drOf e) g).complete r 0 0 [(v.setShares (drOf e) g).drGen (drOf e)] := by
  have listOrFree : (sharesOk (s.sealed (drOf e)) cs || decide (s.drState (drOf e) = 0) && sharesOk true cs) = true :=
    Bool.or_eq_true_iff.mpr (.inl list)
  rw [State.drResize, drCmd_of_either fields listOrFree idle state rfl rfl]
  rw [granted]
  rfl

end

/-! ### Binding -/

theorem drBind_of_fits {q f v : Nat} (port : leAt e 12 1 = q) (pf : leAt e 13 1 = f) (vf : leAt e 14 2 = v)
    (fields : drFields 0x61 e = true) (idle : mget s.drw.quiesce (drOf e) = none) (created : s.drState (drOf e) = 1)
    (present : s.hostExists q = true) (personality : f = s.get (Reg.DRW_DRAWER_STATUS_PERSONALITY (drOf e)))
    (enabled : (s.hport q).pfEn.contains f = true) (inRange : v < 256) (unbound : s.vfDrawer q f v = none) :
    s.drBind r e =
      let b := (((s.set (Reg.DRW_DRAWER_BIND_BOUND (drOf e)) 1).set (Reg.DRW_DRAWER_BIND_PORT (drOf e)) q).set
        (Reg.DRW_DRAWER_BIND_PF (drOf e)) f).set (Reg.DRW_DRAWER_BIND_VF (drOf e)) v
      let b := b.setDr (drOf e) (if b.vfLive (drOf e) then 3 else 2)
      b.complete r 0 0 [b.drGen (drOf e)] := by
  subst port pf vf
  rw [State.drBind, drCmd_of_accepted fields rfl idle created rfl]
  dsimp only
  rw [if_pos (by simp only [present, ← personality, inRange, unbound, enabled, decide_true, Option.isNone_none, Bool.and_self])]
  rfl

/-- A binding that names no host port conflicts. -/
theorem drBind_of_noPort (fields : drFields 0x61 e = true) (idle : mget s.drw.quiesce (drOf e) = none)
    (created : s.drState (drOf e) = 1) (absent : s.hostExists (leAt e 12 1) = false) :
    s.drBind r e = s.complete r ST_BIND_CONFLICT 0 [s.drGen (drOf e)] := by
  rw [State.drBind, drCmd_of_accepted fields rfl idle created rfl]
  simp only [absent, Bool.false_and, Bool.false_eq_true, if_false]
  rfl

theorem drUnbind_of_bound (fields : drFields 0x62 e = true) (idle : mget s.drw.quiesce (drOf e) = none)
    (state : s.drState (drOf e) = 2 ∨ s.drState (drOf e) = 5) :
    s.drUnbind r e =
      let w := ((s.ringsGone (drOf e)).unbind (drOf e)).setDr (drOf e) 1
      w.complete r 0 0 [w.drGen (drOf e)] :=
  drCmd_of_either fields rfl idle state rfl rfl

theorem drResume_of_quiesced (fields : drFields 0x65 e = true) (idle : mget s.drw.quiesce (drOf e) = none)
    (quiesced : s.drState (drOf e) = 5) :
    s.drResume r e =
      let w := (s.setDr (drOf e) (if s.vfLive (drOf e) then 3 else 2)).replayBells (drOf e)
      w.complete r 0 0 [w.drGen (drOf e)] :=
  drCmd_of_accepted fields rfl idle quiesced rfl

/-! ### Destruction -/

theorem drDestroy_eq (fields : drFields 0x67 e = true) (idle : mget s.drw.quiesce (drOf e) = none)
    (state : s.drState (drOf e) = 1 ∨ s.drState (drOf e) = 5) :
    s.drDestroy r e =
      if (s.exactFences (drOf e)).any (fun x => x.2.lock) then s.complete r ST_FENCE_LOCKED 0 [s.drGen (drOf e), 0]
      else ((s.drGone (drOf e)).setDr (drOf e) 0).complete r 0 0
        [(s.drGone (drOf e)).drGen (drOf e), (s.exactFences (drOf e)).length] :=
  drCmd_of_either fields rfl idle state rfl rfl

/-! ## The commands that begin a sequence (R104, R105) -/

/-- Where no sequence runs on a drawer a command has none to join. -/
theorem joinable_of_idle {d : Nat} (idle : mget s.drw.quiesce d = none) : s.joinable d = none := by
  simp only [State.joinable, idle]

theorem drQuiesce_of_bound (fields : drFields 0x63 e = true) (idle : mget s.drw.quiesce (drOf e) = none)
    (state : s.drState (drOf e) = 2 ∨ s.drState (drOf e) = 3) (bounded : leAt e 18 2 ≠ 0) :
    s.drQuiesce r e =
      s.quiesceBegin (drOf e) (Quiesce.fresh 0 [r] (bit (leAt e 16 1) 1) (bit (leAt e 16 1) 0) false (leAt e 18 2)) := by
  have alone : s.joinable (drOf e) = none := joinable_of_idle idle
  simp only [State.drQuiesce, alone, ite_self]
  rw [drCmd_of_either fields rfl idle state rfl rfl, if_neg bounded]

theorem drReset_eq (fields : drFields 0x64 e = true) (idle : mget s.drw.quiesce (drOf e) = none)
    (state : s.drState (drOf e) = 5 ∨ s.drState (drOf e) = 2 ∨ s.drState (drOf e) = 3) :
    s.drReset r e =
      State.quiesceBegin (if s.drState (drOf e) = 5 then s
        else (s.bump Reg.n_reset_unquiesced).raise EV_drw_reset_unquiesced (drOf e) [(s.drItems (drOf e)).length]) (drOf e)
        (Quiesce.fresh 1 [r] true true false 0) := by
  have alone : s.joinable (drOf e) = none := joinable_of_idle idle
  simp only [State.drReset, alone, ite_self]
  rcases state with quiesced | bound
  · exact drCmd_of_accepted fields rfl idle quiesced rfl
  · exact drCmd_of_either fields rfl idle bound rfl rfl

/-- A drawer that is quiesced already is reset without a warning. -/
theorem drReset_of_quiesced (fields : drFields 0x64 e = true) (idle : mget s.drw.quiesce (drOf e) = none)
    (quiesced : s.drState (drOf e) = 5) :
    s.drReset r e = s.quiesceBegin (drOf e) (Quiesce.fresh 1 [r] true true false 0) := by
  rw [drReset_eq fields idle (.inl quiesced), if_pos quiesced]

/-- A reset of a drawer that still works is counted and reported with the items it cuts off. -/
theorem drReset_of_bound (fields : drFields 0x64 e = true) (idle : mget s.drw.quiesce (drOf e) = none)
    (bound : s.drState (drOf e) = 2 ∨ s.drState (drOf e) = 3) :
    s.drReset r e =
      ((s.bump Reg.n_reset_unquiesced).raise EV_drw_reset_unquiesced (drOf e) [(s.drItems (drOf e)).length]).quiesceBegin (drOf e)
        (Quiesce.fresh 1 [r] true true false 0) := by
  have notQuiesced : s.drState (drOf e) ≠ 5 := by omega
  rw [drReset_eq fields idle (.inr bound), if_neg notQuiesced]

end

/-- Settles O21: what each command does once its checks pass, with a list of shares granted or not, a binding that fits or names no
port, and a locked fence entry or none deciding its end. -/
theorem drawerLifeCycle : Obligations.DrawerLifeCycle := by
  unfold Obligations.DrawerLifeCycle
  refine ⟨?created, ?notGranted, ?bound, ?unbound, ?resumed, ?resized, ?locked, ?destroyed⟩
  case created =>
    intro r e cs g v s h start _ _ fields list idle free granted
    exact run_work_answers h start (drCreate_of_granted fields list idle free granted)
  case notGranted =>
    intro r e cs st pos pool v s h start _ _ fields list idle free refused
    exact run_work_answers h start (drCreate_of_notGranted fields list idle free refused)
  case bound =>
    intro r e s h start _ _ _ _ _ fields idle created
    constructor
    · intro present personality enabled inRange unbound
      exact run_work_answers h start
        (drBind_of_fits rfl rfl rfl fields idle created present personality enabled inRange unbound)
    · intro absent
      exact run_work_answers h start (drBind_of_noPort fields idle created absent)
  case unbound =>
    intro r e s h start _ _ fields idle state
    exact run_work_answers h start (drUnbind_of_bound fields idle state)
  case resumed =>
    intro r e s h start _ _ fields idle quiesced
    exact run_work_answers h start (drResume_of_quiesced fields idle quiesced)
  case resized =>
    intro r e cs g v s h start _ _ fields list idle state granted
    exact run_work_answers h start (drResize_of_granted fields list idle state granted)
  case locked =>
    intro r e s h start _ _ fields idle state locked
    exact run_work_answers h start ((drDestroy_eq fields idle state).trans (if_pos locked))
  case destroyed =>
    intro r e s h start _ _ fields idle state unlocked
    exact run_work_answers h start ((drDestroy_eq fields idle state).trans (if_neg (ne_true_of_eq_false unlocked)))

/-! ## The sequence, step by step (R104) -/

section
variable {s : State} {d : Nat} {q : Quiesce}

/-- A report that belongs to the step in which the drawer waits is acted on. -/
theorem atStep_of_here {st : QStep} {f : Quiesce → State} (sequence : mget s.drw.quiesce d = some q) (here : q.step = st) :
    s.atStep d st f = f q := by
  simp only [State.atStep, sequence, here, if_true]

/-- A report out of its step changes nothing. -/
theorem atStep_of_other {st : QStep} {f : Quiesce → State} (sequence : mget s.drw.quiesce d = some q) (other : q.step ≠ st) :
    s.atStep d st f = s := by
  simp only [State.atStep, sequence, other, if_false]

/-- The purge over and the link up, the flush read goes out. -/
theorem purgeEnd_of_link (sequence : mget s.drw.quiesce d = some q) (here : q.step = .purge) (fresh : q.fromQ = false)
    (up : s.drLink d = true) :
    s.purgeEnd d = (s.emit (.pcie ((s.drPort d).getD 0) .flushRead)).setQuiesce d { q with step := .flush } := by
  simp only [State.purgeEnd, atStep_of_here sequence here, fresh, up, Bool.false_eq_true, if_false, if_true]

/-- The purge of a drawer that was quiesced before leads to the reset at once. -/
theorem purgeEnd_of_quiesced (sequence : mget s.drw.quiesce d = some q) (here : q.step = .purge) (quiesced : q.fromQ = true) :
    s.purgeEnd d = s.resetBegin d q :=
  (atStep_of_here sequence here).trans (if_pos quiesced)

/-- A sequence without a reset ends with the drawer QUIESCED. -/
theorem flushEnd_of_noReset (sequence : mget s.drw.quiesce d = some q) (here : q.step = .flush) (noReset : q.doReset = false)
    (whole : q.ringOnly = false) :
    s.flushEnd d = ((s.setDr d 5).raise EV_drw_quiesced d [s.drGen d, q.aborted]).quiesceEnd d q := by
  simp only [State.flushEnd, atStep_of_here sequence here, State.quiesced, noReset, whole, Bool.false_eq_true, if_false]

end

/-- Settles O22: the command that begins a sequence by the drawer's state, and each report by the step in which the drawer waits. -/
theorem quiesceSequence : Obligations.QuiesceSequence := by
  unfold Obligations.QuiesceSequence
  refine ⟨?quiesce, ?reset, ?reports⟩
  case quiesce =>
    intro r e s h start _ _ fields idle state bounded
    exact run_work_answers h start (drQuiesce_of_bound fields idle state bounded)
  case reset =>
    intro r e s h start _ _ fields idle
    exact ⟨fun quiesced => run_work_answers h start (drReset_of_quiesced fields idle quiesced),
      fun bound => run_work_answers h start (drReset_of_bound fields idle bound)⟩
  case reports =>
    intro d q s h sequence
    refine ⟨?fetchIdle, ?drained, ?drainTimeout, ?aborted, ?purged, ?purgedQuiesced, ?flushed, ?resetDone, ?notFetch, ?notAbort⟩
    case fetchIdle => exact fun here => run_answers h (atStep_of_here sequence here)
    case drained => exact fun here empty => run_answers h ((atStep_of_here sequence here).trans (if_pos empty))
    case drainTimeout => exact fun here => run_answers h (atStep_of_here sequence here)
    case aborted => exact fun here => run_answers h (atStep_of_here sequence here)
    case purged => exact fun here fresh up => run_answers h (purgeEnd_of_link sequence here fresh up)
    case purgedQuiesced => exact fun here quiesced => run_answers h (purgeEnd_of_quiesced sequence here quiesced)
    case flushed => exact fun here noReset whole => run_answers h (flushEnd_of_noReset sequence here noReset whole)
    case resetDone =>
      exact fun here swept => run_answers h ((atStep_of_here sequence here).trans (if_neg (ne_true_of_eq_false swept)))
    case notFetch => exact fun other => run_answers h (atStep_of_other sequence other)
    case notAbort => exact fun other => run_answers h (atStep_of_other sequence other)

end Sys2Proof.Machine
end

section
/-! PROOFS. Fence entries set and cleared, refusals at targets, and the drawers after a warm reset. -/

namespace Sys2Proof.Machine

/-! ## Fence entries (R95–R99) -/

section
variable {s : State} {r : Ref} {e : List Byte}

/-- Some entry that a fence command names is locked. -/
def State.namesLocked (s : State) (e : List Byte) : Bool :=
  (fenceKeys e).any (fun k => ((mget s.drw.fences k).map (·.lock)).getD false)

/-- The fence entries replaced, with DISJOINT following them. -/
def State.withFences (s : State) (fences : SMap Fence) : State :=
  ({ s with drw := { s.drw with fences := fences } } : State).fenceSync

theorem fenceSet_of_malformed (malformed : fenceOk e = false) : s.fenceSet r e = s.malformed r 4 0x70 := by
  simp only [State.fenceSet, malformed, Bool.not_false, if_true]

theorem fenceSet_of_locked (whole : fenceOk e = true) (locked : s.namesLocked e = true) :
    s.fenceSet r e = s.complete r ST_FENCE_LOCKED 0 [] := by
  simp only [State.namesLocked] at locked
  simp only [State.fenceSet, whole, locked, Bool.not_true, Bool.false_eq_true, if_false, if_true]

theorem fenceSet_of_notEnforced (whole : fenceOk e = true) (unlocked : s.namesLocked e = false)
    (notEnforced : s.on Reg.DRW_CFG_DISJOINT_ENFORCE = false) :
    s.fenceSet r e =
      (s.withFences ((fenceKeys e).foldl (fun m k => mput m k (fenceOf e)) s.drw.fences)).complete r 0 0 [] := by
  simp only [State.namesLocked] at unlocked
  simp only [State.fenceSet, whole, unlocked, notEnforced, Bool.not_true, Bool.false_eq_true, if_false]
  rfl

theorem fenceSet_of_clash {d : Nat} (whole : fenceOk e = true) (unlocked : s.namesLocked e = false)
    (enforced : s.on Reg.DRW_CFG_DISJOINT_ENFORCE = true) (clash : s.fenceClash (fenceKeys e) (fenceOf e) = some d) :
    s.fenceSet r e =
      ((s.bump Reg.n_fence_overlap_refused).raise EV_drw_fence_overlap 0xFFFF [leAt e 8 2, leAt e 10 2, d]).complete r ST_FENCE_OVERLAP 0
        [] := by
  simp only [State.namesLocked] at unlocked
  simp only [State.fenceSet, whole, unlocked, enforced, clash, Bool.not_true, Bool.false_eq_true, if_false, if_true]

theorem fenceClear_of_locked (whole : fenceOk e = true) (locked : s.namesLocked e = true) :
    s.fenceClear r e = s.complete r ST_FENCE_LOCKED 0 [] := by
  simp only [State.namesLocked] at locked
  simp only [State.fenceClear, whole, locked, Bool.not_true, Bool.false_eq_true, if_false, if_true]

theorem fenceClear_of_unlocked (whole : fenceOk e = true) (unlocked : s.namesLocked e = false) :
    s.fenceClear r e = (s.withFences ((fenceKeys e).foldl (fun m k => mdel m k) s.drw.fences)).complete r 0 0 [] := by
  simp only [State.namesLocked] at unlocked
  simp only [State.fenceClear, whole, unlocked, Bool.not_true, Bool.false_eq_true, if_false]
  rfl

end

/-- Settles O23: the entry's format decides before its locks do, and its locks before a clash does. -/
theorem fenceEntries : Obligations.FenceEntries := by
  unfold Obligations.FenceEntries
  refine ⟨?set, ?clear⟩
  case set =>
    intro r e s h start _ _
    refine ⟨?malformed, ?locked, ?notEnforced, ?clash⟩
    case malformed => exact fun malformed => run_work_answers h start (fenceSet_of_malformed malformed)
    case locked => exact fun whole locked => run_work_answers h start (fenceSet_of_locked whole locked)
    case notEnforced =>
      exact fun whole unlocked notEnforced => run_work_answers h start (fenceSet_of_notEnforced whole unlocked notEnforced)
    case clash =>
      exact fun d whole unlocked enforced clash => run_work_answers h start (fenceSet_of_clash whole unlocked enforced clash)
  case clear =>
    intro r e s h start _ _
    exact ⟨fun whole locked => run_work_answers h start (fenceClear_of_locked whole locked),
      fun whole unlocked => run_work_answers h start (fenceClear_of_unlocked whole unlocked)⟩

/-! ## Refusals at a target (R100) -/

theorem rd64_bump_other (s : State) {a b : Nat} (n : Nat) (h : b ≠ a) (after : b ≠ a + 4) (before : b + 4 ≠ a) :
    (s.bump a n).rd64 b = s.rd64 b :=
  rd64_wr64_other s _ h after before

/-- Both counters of a refusal: the device's, and for a drawer's master that drawer's. -/
def State.refusalCounted (s : State) (m : Nat) : State :=
  let u := s.bump Reg.n_fence_denied_total
  if m / 4096 = 1 then u.bump (Reg.n_fence_denied (m % 4096)) else u

@[simp] theorem refusalCounted_drw (s : State) (m : Nat) : (s.refusalCounted m).drw = s.drw := by
  simp only [State.refusalCounted, apply_ite State.drw, bump_drw, ite_self]

@[simp] theorem refusalCounted_events (s : State) (m : Nat) : (s.refusalCounted m).events = s.events := by
  simp only [State.refusalCounted, apply_ite State.events, bump_events, ite_self]

/-- A pair that is neither of the two counters keeps its value. -/
theorem rd64_refusalCounted_below (s : State) (m : Nat) {b : Nat} (below : b + 4 < Reg.n_fence_denied_total) :
    (s.refusalCounted m).rd64 b = s.rd64 b := by
  simp only [Reg.n_fence_denied_total] at below
  have total : (s.bump Reg.n_fence_denied_total).rd64 b = s.rd64 b := by
    apply rd64_bump_other <;> simp only [Reg.n_fence_denied_total] <;> omega
  simp only [State.refusalCounted]
  split
  · rw [rd64_bump_other, total] <;> simp only [Reg.n_fence_denied] <;> omega
  · exact total

/-- Counting a refusal takes no time. -/
@[simp] theorem refusalCounted_now (s : State) (m : Nat) : (s.refusalCounted m).now = s.now :=
  rd64_refusalCounted_below s m (by decide)

theorem rd64_refusalCounted_total (s : State) (m : Nat) :
    (s.refusalCounted m).rd64 Reg.n_fence_denied_total = (s.rd64 Reg.n_fence_denied_total + 1) % 2 ^ 64 := by
  simp only [State.refusalCounted]
  split
  · rw [rd64_bump_other, rd64_bump] <;> simp only [Reg.n_fence_denied, Reg.n_fence_denied_total] <;> omega
  · rw [rd64_bump]

theorem rd64_refusalCounted_drawer (s : State) {m : Nat} (drawer : m / 4096 = 1) :
    (s.refusalCounted m).rd64 (Reg.n_fence_denied (m % 4096)) = (s.rd64 (Reg.n_fence_denied (m % 4096)) + 1) % 2 ^ 64 := by
  simp only [State.refusalCounted, drawer, if_true]
  rw [rd64_bump, rd64_bump_other] <;> simp only [Reg.n_fence_denied, Reg.n_fence_denied_total] <;> omega

/-- Was drw.fence_denied not raised for this master within the last millisecond? -/
def State.refusalDue (s : State) (m : Nat) : Bool :=
  match mget s.drw.denied m with
  | none => true
  | some t => decide (1000000 ≤ s.now - t)

theorem refusalDue_of_old {s : State} {m : Nat} (old : ∀ t, mget s.drw.denied m = some t → 1000000 ≤ s.now - t) :
    s.refusalDue m = true := by
  unfold State.refusalDue
  split
  · rfl
  · next t raised => exact decide_eq_true (old t raised)

theorem refusalDue_of_recent {s : State} {m t : Nat} (raised : mget s.drw.denied m = some t) (recent : s.now - t < 1000000) :
    s.refusalDue m = false := by
  simp only [State.refusalDue, raised, decide_eq_false_iff_not, Nat.not_le]
  exact recent

/-- A refusal is counted, and reported when its report is due. -/
theorem denied_eq (s : State) (tg m a perm : Nat) :
    s.denied tg m a perm =
      if s.refusalDue m then
        let w := (s.refusalCounted m).raise EV_drw_fence_denied 0xFFFF [tg, m, a % 2 ^ 48, perm]
        { w with drw := { w.drw with denied := mput w.drw.denied m s.now } }
      else s.refusalCounted m := by
  have counted : (if isDrMaster m then (s.bump Reg.n_fence_denied_total).bump (Reg.n_fence_denied (m % 4096))
      else s.bump Reg.n_fence_denied_total) = s.refusalCounted m := by
    simp only [isDrMaster, decide_eq_true_eq, State.refusalCounted]
  have due : (s.refusalCounted m).refusalDue m = s.refusalDue m := by
    simp only [State.refusalDue, refusalCounted_drw, refusalCounted_now]
  rw [← due, ← refusalCounted_now s m, ← counted]
  rfl

/-- Settles O24: both counters of a refusal, and its event by the time of the last one for the same master. -/
theorem fenceRefusalsAreCounted : Obligations.FenceRefusalsAreCounted := by
  unfold Obligations.FenceRefusalsAreCounted
  intro tg m a n perm arg s h refused u v
  have refusal := exec_nocTargetAccess_of_refused h refused arg
  rw [denied_eq] at refusal
  refine ⟨?total, ?drawer, ?events, ?due, ?recent⟩
  case total => exact rd64_refusalCounted_total s m
  case drawer => exact rd64_refusalCounted_drawer s
  case events => exact refusalCounted_events s m
  case due =>
    intro old
    rw [refusal, if_pos (refusalDue_of_old old)]
    rfl
  case recent =>
    intro t raised recent
    rw [refusal, if_neg (ne_true_of_eq_false (refusalDue_of_recent raised recent))]
    rfl

/-! ## The registers of a block after a reset (R9, R432) -/

/-- Every register at an offset of block 3, DRW, reads as right after reset. -/
def State.drwReset (s : State) : Prop := ∀ a, a / 0x100000 = 3 → s.rd a = resetWord a

theorem mget_filterMap_none {α : Type} {l : SMap α} {f : Nat × α → Option (Nat × α)} {k : Nat}
    (h : ∀ e x, f e = some x → x.1 ≠ k) : mget (l.filterMap f) k = none := by
  induction l with
  | nil => rfl
  | cons e t ih =>
    simp only [List.filterMap_cons]
    split
    · exact ih
    · next x found => simp only [mget, if_neg (Ne.symm (h e x found)), ih]

/-- A register none of whose fields is of a kept class returns to its reset word. -/
theorem keepWord_of_noneKept {keep : List Cls} {r : RegRow} (noneKept : ∀ f ∈ r.fields, keep.contains f.cls = false) (w : Nat) :
    keepWord keep r w = resetOf r :=
  List.foldlRecOn (motive := (· = resetOf r)) r.fields _ rfl fun _ same f listed => by
    rw [if_neg (ne_true_of_eq_false (noneKept f listed)), same]

/-- No field of block 3 is of a class that a warm reset keeps. -/
theorem rows3_noneKept : ∀ r ∈ rows3, ∀ f ∈ r.fields, [Cls.n, .p].contains f.cls = false := by decide +kernel

/-- What a warm reset keeps of the registers lists none of block 3. -/
theorem resetRegs_drwReset (s : State) : (s.resetRegs [.n, .p]).drwReset := by
  intro a block
  have unlisted : mget (s.resetRegs [.n, .p]).regs a = none := by
    refine mget_filterMap_none fun e x kept => ?_
    simp only [if_true] at kept
    split at kept
    · cases kept
    · next r row =>
      split at kept
      · cases kept
      · next changed =>
        cases kept
        rintro rfl
        have listed : r ∈ rowsOf (e.1 / 0x100000) := List.mem_of_find?_eq_some row
        rw [block] at listed
        exact changed (keepWord_of_noneKept (rows3_noneKept r listed) _)
  simp only [State.rd, unlisted]

/-- In block 3 only single registers below the drawers' reset to another word than zero. -/
theorem rows3_reset : ∀ r ∈ rows3, resetOf r = 0 ∨ (r.dims = [] ∧ r.base < 0x310000) := by decide +kernel

theorem resetWord_drawers {a : Nat} (block : a / 0x100000 = 3) (drawers : 0x310000 ≤ a) : resetWord a = 0 := by
  unfold resetWord
  split
  · next r row =>
    have listed : r ∈ rowsOf (a / 0x100000) := List.mem_of_find?_eq_some row
    rw [block] at listed
    have hit : rowHit r a = true := List.find?_some (p := (rowHit · a)) row
    rcases rows3_reset r listed with zero | ⟨single, below⟩
    · exact zero
    · simp only [rowHit, single, dimsHit, Bool.and_eq_true, decide_eq_true_eq] at hit
      omega
  · rfl

/-! ## The drawers after a warm reset (R109) -/

/-- No drawer is left: their registers are at reset, their records are gone, and so are the rings. -/
structure State.DrawersGone (s : State) : Prop where
  drw : s.drw = State.reset.drw
  rings : s.rings = []
  regs : s.drwReset

namespace State.DrawersGone
variable {s t : State}

/-- Only the registers, the rings and the drawers' records count. -/
theorem congr (gone : s.DrawersGone) (regs : t.regs = s.regs) (rings : t.rings = s.rings) (drw : t.drw = s.drw) : t.DrawersGone :=
  ⟨drw.trans gone.drw, rings.trans gone.rings, fun a block => (rd_congr regs a).trans (gone.regs a block)⟩

theorem withBoot (gone : s.DrawersGone) (boot : BootSt) : ({ s with boot := boot } : State).DrawersGone := gone.congr rfl rfl rfl

theorem withErr (gone : s.DrawersGone) (err : ErrSt) : ({ s with err := err } : State).DrawersGone := gone.congr rfl rfl rfl

theorem withPending (gone : s.DrawersGone) (pending : List Instr) : ({ s with pending := pending } : State).DrawersGone :=
  gone.congr rfl rfl rfl

theorem wr (gone : s.DrawersGone) {a : Nat} (v : Nat) (elsewhere : a / 0x100000 ≠ 3) : (s.wr a v).DrawersGone where
  drw := gone.drw
  rings := gone.rings
  regs b block := by
    have other : b ≠ a := by
      rintro rfl
      exact elsewhere block
    rw [rd_wr_other s v other, gone.regs b block]

theorem wr64 (gone : s.DrawersGone) {a : Nat} (v : Nat) (elsewhere : a / 0x100000 ≠ 3 ∧ (a + 4) / 0x100000 ≠ 3) :
    (s.wr64 a v).DrawersGone :=
  (gone.wr _ elsewhere.1).wr _ elsewhere.2

theorem bump (gone : s.DrawersGone) {a : Nat} (n : Nat) (elsewhere : a / 0x100000 ≠ 3 ∧ (a + 4) / 0x100000 ≠ 3) :
    (s.bump a n).DrawersGone :=
  gone.wr64 _ elsewhere

theorem set (gone : s.DrawersGone) {f : Fld} (v : Nat) (elsewhere : f.addr / 0x100000 ≠ 3 ∧ (f.addr + 4) / 0x100000 ≠ 3) :
    (s.set f v).DrawersGone := by
  unfold State.set
  split
  · exact gone.wr _ elsewhere.1
  · exact gone.wr64 _ elsewhere

/-- While no ring is there the manager's event ring is not either, so an event is held or lost. -/
theorem raise (gone : s.DrawersGone) (code source : Nat) (detail : List Nat) : (s.raise code source detail).DrawersGone := by
  have absent : (s.ring (ctlKey 7)).st = .absent := by rw [State.ring, gone.rings]; rfl
  unfold State.raise State.raiseEvent
  refine (if_pos absent).symm ▸ ?_
  split
  · exact gone.congr rfl rfl rfl
  · refine State.DrawersGone.bump ?_ 1 (by decide)
    exact gone.congr rfl rfl rfl

/-! ### The warm reset's steps (R490) -/

theorem wiped (s : State) : (s.wiped [.n, .p]).DrawersGone where
  drw := rfl
  rings := rfl
  regs a block := (rd_congr rfl a).trans (resetRegs_drwReset s a block)

theorem warmClear (s : State) (pg : Nat) : (s.warmClear pg).DrawersGone := by
  unfold State.warmClear State.clearSync
  dsimp only
  refine ((State.DrawersGone.set ?ports _ (by decide)).set _ (by decide)).set _ (by decide)
  refine List.foldlRecOn (motive := State.DrawersGone) (List.range 64) _ ?wiped fun t gone q listed => ?perst
  case wiped =>
    refine State.DrawersGone.bump (State.DrawersGone.set (State.DrawersGone.wr ?_ _ (by decide)) _ (by decide)) 1 (by decide)
    exact (wiped _).congr rfl rfl rfl
  case perst =>
    have port : q < 64 := List.mem_range.mp listed
    exact gone.set _ (by simp only [Reg.HOST_PORT_STATUS_PERST_ASSERTED, Reg.HOST_PORT_STATUS]; omega)

theorem warmMgr (gone : s.DrawersGone) : s.warmMgr.DrawersGone := by
  unfold State.warmMgr
  split
  · exact (gone.set _ (by decide)).set _ (by decide)
  · exact gone

theorem newChallenge (gone : s.DrawersGone) : s.newChallenge.DrawersGone := by
  unfold State.newChallenge
  refine List.foldlRecOn (motive := State.DrawersGone) (List.range 8) _ gone fun t gone w listed => ?_
  have word : w < 8 := List.mem_range.mp listed
  have elsewhere : Reg.DBG_CHALLENGE w / 0x100000 ≠ 3 ∧ (Reg.DBG_CHALLENGE w + 4) / 0x100000 ≠ 3 := by
    simp only [Reg.DBG_CHALLENGE]; omega
  have free : (t.free 32).2.DrawersGone := gone.congr rfl rfl rfl
  exact free.set (f := Reg.DBG_CHALLENGE_CHALLENGE w) _ elsewhere

theorem loaderStart (gone : s.DrawersGone) (cause : Nat) : (s.loaderStart cause).DrawersGone :=
  (gone.set cause (by decide)).withBoot _

/-- The last steps: held while WARM_RST_N is low, else the loader. -/
theorem heldOrLoader (gone : s.DrawersGone) (cause : Nat) :
    (if s.err.pinLow then { s with err := { s.err with phase := .waitPin } } else s.loaderStart cause).DrawersGone := by
  split
  · exact gone.withErr _
  · exact gone.loaderStart cause

theorem warmCleared {c : Nat} (clearing : s.err.phase = .clearing c) (pg : Nat) : (s.warmCleared pg).DrawersGone := by
  have cleared : ((s.warmClear pg).warmMgr).newChallenge.DrawersGone := (warmClear s pg).warmMgr.newChallenge
  have told : (if s.on Reg.DBG_STATUS_UNLOCKED then
      (((s.warmClear pg).warmMgr).newChallenge).raise EV_drw_debug_unlock 0xFFFF [1]
      else ((s.warmClear pg).warmMgr).newChallenge).DrawersGone := by
    split
    · exact cleared.raise _ _ _
    · exact cleared
  unfold State.warmCleared
  rw [clearing]
  exact told.heldOrLoader (if 3 ≤ c then 3 else 1)

/-! ### What it means for an access -/

theorem drState (gone : s.DrawersGone) {d : Nat} (drawer : d < 4096) : s.drState d = 0 := by
  have block : Reg.DRW_DRAWER_STATUS d / 0x100000 = 3 := by simp only [Reg.DRW_DRAWER_STATUS]; omega
  have word : s.rd (Reg.DRW_DRAWER_STATUS d) = 0 := by
    rw [gone.regs _ block, resetWord_drawers block]
    simp only [Reg.DRW_DRAWER_STATUS]; omega
  simp only [State.drState, State.get, Reg.DRW_DRAWER_STATUS_STATE, word]
  rfl

theorem fenceAdmits (gone : s.DrawersGone) (kind inst m a n perm : Nat) : s.fenceAdmits kind inst m a n perm = false := by
  rw [State.fenceAdmits, gone.drw]
  rfl

end State.DrawersGone

/-- A fenced target, kinds 0 to 2, admits a drawer's master by a fence entry alone (R94). -/
theorem targetAdmits_classOne {s : State} {tg m : Nat} (drawer : m / 4096 = 1) (target : tg / 4096 ≤ 2) (a n perm : Nat) :
    s.targetAdmits tg m a n perm = s.fenceAdmits (tg / 4096) (tg % 4096) m a n perm := by
  have kind : tg / 4096 = 0 ∨ tg / 4096 = 1 ∨ tg / 4096 = 2 := by omega
  rcases kind with is | is | is <;> simp only [State.targetAdmits, drawer, is]

/-- Settles O25: after the clear no drawer, share or fence entry is left, so a drawer's master reaches no fenced target. -/
theorem warmResetFreesDrawers : Obligations.WarmResetFreesDrawers := by
  unfold Obligations.WarmResetFreesDrawers
  intro c pg s clearing
  have gone : ({ s.warmCleared pg with pending := s.pending } : State).DrawersGone :=
    (State.DrawersGone.warmCleared clearing pg).withPending _
  refine ⟨_, always_answers rfl, fun d drawer => gone.drState drawer, ?shares, ?fences, gone.fenceAdmits, ?targets⟩
  case shares => rw [gone.drw]; rfl
  case fences => rw [gone.drw]; rfl
  case targets =>
    intro tg m a n perm target drawer
    rw [targetAdmits_classOne drawer target, gone.fenceAdmits]

end Sys2Proof.Machine
end

section
/-! PROOFS. NVM Express drawers: the controller, admin commands and I/O commands. Each operation of the model gets one equation per case;
an obligation's proof cites the equation of its case. -/

namespace Sys2Proof.Machine

/-! ## The controller (R91) -/

section
variable {s : State} {d : Nat}

/-- CC.EN cleared on an enabled controller resets its drawer. -/
theorem nvDisable_of_enabled (nvme : s.isNvme d = true) (enabled : bit (s.person d).cc 0 = true) :
    s.nvDisable d = (s.setPerson d { s.person d with cc := putBits (s.person d).cc 0 0 0 }).hostReset d 4 := by
  simp only [State.nvDisable, nvme, enabled, Bool.and_self, if_true]

/-- The controller's registers with a shutdown request in CC.SHN. -/
def State.withShn (s : State) (d mode : Nat) : State :=
  s.setPerson d { s.person d with cc := putBits (s.person d).cc 15 14 mode }

/-- The first request of an active drawer outside its sequences begins the sequence in drain mode. -/
theorem nvShutdown_of_active {mode : Nat} (nvme : s.isNvme d = true) (request : mode ≠ 0) (first : (s.person d).shst = 0)
    (active : (s.withShn d mode).drState d = 3) (idle : mget (s.withShn d mode).drw.quiesce d = none) :
    s.nvShutdown d mode =
      let u := (s.withShn d mode).setPerson d { (s.withShn d mode).person d with shst := 1 }
      u.quiesceBegin d (Quiesce.fresh 0 [] false false true (max 1 (u.get Reg.DRW_CFG_DRAIN_TIMEOUT))) := by
  have begins : ¬(mode = 0 ∨ (s.person d).shst ≠ 0 ∨ (s.withShn d mode).drState d ≠ 3 ∨
      (mget (s.withShn d mode).drw.quiesce d).isSome = true) := by
    simp [request, first, active, idle]
  rw [State.nvShutdown, nvme]
  exact if_neg begins

/-- Outside a quiesce a doorbell of a bound drawer is counted at its port and acted on. -/
theorem opNvDoorbell_of_bound {q y v : Nat} {cq : Bool} (nvme : s.isNvme d = true) (port : s.drPort d = some q)
    (awake : (s.bump (Reg.n_doorbells_rx q)).quiescing d = false) :
    s.opNvDoorbell d y cq v [] = (s.bump (Reg.n_doorbells_rx q)).nvBell d y cq v := by
  simp only [State.opNvDoorbell, nvme, port, awake, Bool.not_true, Bool.false_eq_true, if_false, List.foldl_nil]

/-- A tail within an active submission queue moves the queue's index round to it. -/
theorem nvBell_of_tail {y v : Nat} (active : (s.ring (sqKey d y)).st = .active) (within : v < (s.ring (sqKey d y)).nv) :
    s.nvBell d y false v =
      let r := s.ring (sqKey d y)
      let new := (r.peer + nvStep r r.peer v) % 2 ^ 32
      s.setRing (sqKey d y) { r with peer := new, limit := new } := by
  simp [State.nvBell, active, Nat.not_le.mpr within]

/-- A value beyond the queue is dropped. -/
theorem nvBell_of_beyond {y v : Nat} (beyond : (s.ring (sqKey d y)).nv ≤ v) : s.nvBell d y false v = s.bellDropped d := by
  simp [State.nvBell, beyond]

end

/-- Settles O26: what CC.EN cleared and a shutdown request begin, and a tail doorbell by whether it lies within its queue. -/
theorem nvmeController : Obligations.NvmeController := by
  unfold Obligations.NvmeController
  refine ⟨?disable, ?shutdown, ?doorbell⟩
  case disable => exact fun d s h nvme enabled => run_answers h (nvDisable_of_enabled nvme enabled)
  case shutdown =>
    intro d mode s h nvme request first _ active idle
    exact run_answers h (nvShutdown_of_active nvme request first active idle)
  case doorbell =>
    intro d y v q s h nvme port u r awake
    have counted := opNvDoorbell_of_bound (y := y) (v := v) (cq := false) nvme port awake
    exact ⟨fun active within => run_answers h (counted.trans (nvBell_of_tail active within)),
      fun beyond => run_answers h (counted.trans (nvBell_of_beyond beyond))⟩

/-! ## Admin commands (R92) -/

/-- An admin command of a ready queue takes its entry and ends with the status and dword 0 that its work answers. -/
theorem run_nvAdmin_answers {s t : State} {d cid st dw0 : Nat} {f : State → Nat × Nat × State} (h : s.running = true)
    (ready : s.nvReady d 0 = true) (e : f (s.nvTaken d 0 cid) = (st, dw0, t)) :
    s.run (s.nvAdmin d cid f) = .next { t.nvDone (sqKey d 0) cid st dw0 with pending := s.pending } := by
  refine run_answers h ?_
  rw [State.nvAdmin, nvTake_ready ready, e]
  rfl

section
variable {s : State} {d : Nat}

/-! ### Queues created and deleted -/

theorem nvCreateSq_of_good {base qid size cqid : Nat} (cq : cqid ≠ 0 ∧ (s.ring (cqKey d cqid)).st ≠ .absent)
    (free : qid ≠ 0 ∧ qid ≤ s.nvPairs d ∧ (s.ring (sqKey d qid)).st = .absent) (sized : size ≠ 0) (aligned : base % 4096 = 0) :
    s.nvCreateSq d base qid size true cqid =
      (0, 0, s.setRing (sqKey d qid) (Ring.stdQueue .sub base (cqKey d cqid) (size + 1) none (s.drGen d))) := by
  have noPair : ¬s.nvPairs d < qid := Nat.not_lt.mpr free.2.1
  simp [State.nvCreateSq, cq.1, cq.2, free.1, free.2.2, noPair, sized, aligned]

theorem nvCreateSq_of_noCq (base qid size : Nat) (pc : Bool) : s.nvCreateSq d base qid size pc 0 = (NV_CQ_INVALID, 0, s) :=
  if_pos (.inl rfl)

theorem nvCreateCq_of_good {base qid size iv : Nat} (free : qid ≠ 0 ∧ qid ≤ s.nvPairs d ∧ (s.ring (cqKey d qid)).st = .absent)
    (sized : size ≠ 0) (aligned : base % 4096 = 0) (vector : iv < 128) :
    s.nvCreateCq d base qid size true true iv =
      (0, 0, s.setRing (cqKey d qid) { Ring.stdQueue .cpl base 0 (size + 1) (some iv) (s.drGen d) with
        modCount := mgetD (s.person d).feats 8 0 % 256 + 1
        modUsec := mgetD (s.person d).feats 8 0 / 256 % 256 * 100 }) := by
  have noPair : ¬s.nvPairs d < qid := Nat.not_lt.mpr free.2.1
  simp [State.nvCreateCq, free.1, free.2.2, noPair, sized, aligned, Nat.not_le.mpr vector]

theorem nvDeleteSq_of_none {qid : Nat} (none : s.nvHas (sqKey d qid) qid = false) : s.nvDeleteSq d qid = (NV_QID, 0, s) := by
  simp only [State.nvDeleteSq, none, Bool.not_false, if_true]

theorem nvDeleteSq_of_empty {qid : Nat} (there : s.nvHas (sqKey d qid) qid = true) (empty : (s.ring (sqKey d qid)).items = []) :
    s.nvDeleteSq d qid =
      (0, 0, ({ s with acc := { s.acc with vols := s.acc.vols.map (fun (e : Nat × Vol) => (e.1, { e.2 with
        flushes := e.2.flushes.filter (fun f => !decide (f.ring = sqKey d qid)) })) } } : State).setRing (sqKey d qid) Ring.absent) := by
  simp only [State.nvDeleteSq, there, empty, Bool.not_true, Bool.false_eq_true, if_false, List.foldl_nil]

theorem nvDeleteCq_of_there {qid : Nat} (there : s.nvHas (cqKey d qid) qid = true) :
    s.nvDeleteCq d qid =
      if s.rings.any (fun e => decide (e.2.kind = .sub) && decide (e.2.link = cqKey d qid)) then (NV_DELETION, 0, s)
      else (0, 0, s.setRing (cqKey d qid) Ring.absent) := by
  simp only [State.nvDeleteCq, there, Bool.not_true, Bool.false_eq_true, if_false]

/-! ### Log pages, Identify and Abort -/

theorem nvLog_of_unknown {lid : Nat} (unknown : lid ≠ 1 ∧ lid ≠ 2) (len : Nat) (segs : List (Nat × Nat)) :
    s.nvLog d lid len segs = (NV_FIELD, 0, s) :=
  if_pos unknown

theorem nvLog_of_known {lid : Nat} (known : lid = 1 ∨ lid = 2) (len : Nat) (segs : List (Nat × Nat)) :
    s.nvLog d lid len segs = (0, 0, (s.freePageWith len []).2.nvGive d segs (s.freePageWith len []).1) :=
  if_neg fun unknown => known.elim unknown.1 unknown.2

theorem nvIdentify_active (nsid : Nat) (segs : List (Nat × Nat)) :
    s.nvIdentify d nsid 2 segs =
      (0, 0, s.nvGive d segs (slice (((s.nvSpaces d).filter (fun n => decide (nsid < n))).flatMap (leBytes 4)) 0 4096)) := rfl

theorem nvIdentify_of_unknown {cns : Nat} (unknown : 3 ≤ cns) (nsid : Nat) (segs : List (Nat × Nat)) :
    s.nvIdentify d nsid cns segs = (NV_FIELD, 0, s) := by
  have ne0 : cns ≠ 0 := by omega
  have ne1 : cns ≠ 1 := by omega
  have ne2 : cns ≠ 2 := by omega
  simp only [State.nvIdentify, ne0, ne1, ne2, if_false]

theorem nvAbort_of_none {sqid acid : Nat} (none : (s.ring (sqKey d sqid)).items.any (fun i => decide (i.tag = acid)) = false) :
    s.nvAbort d sqid acid = (0, 1, s) := by
  simp only [State.nvAbort, none, Bool.false_and, Bool.false_eq_true, if_false]

/-! ### Features -/

theorem nvSetFeature_of_unnamed {fid : Nat} (unnamed : nvFeature fid = false) (v : Nat) :
    s.nvSetFeature d fid v = (NV_FIELD, 0, s) := by
  simp only [State.nvSetFeature, unnamed, Bool.not_false, if_true]

theorem nvSetFeature_events (v : Nat) :
    s.nvSetFeature d 0xB v = (0, 0, s.setPerson d { s.person d with feats := mput (s.person d).feats 0xB v }) := rfl

theorem nvGetFeature_of_unnamed {fid : Nat} (unnamed : nvFeature fid = false) : s.nvGetFeature d fid = (NV_FIELD, 0, s) := by
  simp only [State.nvGetFeature, unnamed, Bool.not_false, if_true]

theorem nvGetFeature_queues : s.nvGetFeature d 7 = (0, s.nvPairs d - 1 + (s.nvPairs d - 1) * 2 ^ 16, s) := rfl

end

/-! ### Asynchronous Event Request -/

/-- A request beyond the fourth ends at once, another stays outstanding. -/
theorem nvAer_ready {s : State} {d cid : Nat} (ready : s.nvReady d 0 = true) :
    s.nvAer d cid =
      let u := s.nvTaken d 0 cid
      if 4 ≤ (u.person d).aers.length then u.nvDone (sqKey d 0) cid NV_AER_LIMIT 0
      else (u.setRing (sqKey d 0) { u.ring (sqKey d 0) with
        items := (u.ring (sqKey d 0)).items.map (fun i => if i.tag = cid then { i with posted := true } else i) }).setPerson d
          { u.person d with aers := (u.person d).aers ++ [cid] } := by
  rw [State.nvAer, nvTake_ready ready]
  rfl

/-- Settles O27: each admin command's answer by what its operands name, and the end of a command with that answer. -/
theorem nvmeAdminCommands : Obligations.NvmeAdminCommands := by
  unfold Obligations.NvmeAdminCommands
  intro d cid s h ready u
  refine ⟨?createSq, ?noCq, ?createCq, ?noSq, ?deleteSq, ?deleteCq, ?boundCq, ?unknownLog, ?log, ?identify, ?unknownIdentify, ?abort,
    ?setEvents, ?unnamed, ?queues, ?aerLimit, ?aer⟩
  case createSq =>
    exact fun base qid size cqid cq free sized aligned => run_nvAdmin_answers h ready (nvCreateSq_of_good cq free sized aligned)
  case noCq => exact fun base qid size pc => run_nvAdmin_answers h ready (nvCreateSq_of_noCq base qid size pc)
  case createCq =>
    exact fun base qid size iv free sized aligned vector => run_nvAdmin_answers h ready (nvCreateCq_of_good free sized aligned vector)
  case noSq => exact fun qid none => run_nvAdmin_answers h ready (nvDeleteSq_of_none none)
  case deleteSq => exact fun qid there empty => run_nvAdmin_answers h ready (nvDeleteSq_of_empty there empty)
  case deleteCq =>
    exact fun qid there unbound =>
      run_nvAdmin_answers h ready ((nvDeleteCq_of_there there).trans (if_neg (ne_true_of_eq_false unbound)))
  case boundCq => exact fun qid there bound => run_nvAdmin_answers h ready ((nvDeleteCq_of_there there).trans (if_pos bound))
  case unknownLog => exact fun lid len segs unknown => run_nvAdmin_answers h ready (nvLog_of_unknown unknown len segs)
  case log => exact fun lid len segs known => run_nvAdmin_answers h ready (nvLog_of_known known len segs)
  case identify => exact fun nsid segs => run_nvAdmin_answers h ready (nvIdentify_active nsid segs)
  case unknownIdentify => exact fun nsid cns segs unknown => run_nvAdmin_answers h ready (nvIdentify_of_unknown unknown nsid segs)
  case abort => exact fun sqid acid none => run_nvAdmin_answers h ready (nvAbort_of_none none)
  case setEvents => exact fun v => run_nvAdmin_answers h ready (nvSetFeature_events v)
  case unnamed =>
    exact fun fid v unnamed => ⟨run_nvAdmin_answers h ready (nvSetFeature_of_unnamed unnamed v),
      run_nvAdmin_answers h ready (nvGetFeature_of_unnamed unnamed)⟩
  case queues => exact run_nvAdmin_answers h ready nvGetFeature_queues
  case aerLimit => exact fun full => run_answers h ((nvAer_ready ready).trans (if_pos full))
  case aer => exact fun room => run_answers h ((nvAer_ready ready).trans (if_neg (Nat.not_le.mpr room)))

/-! ## I/O commands (R92, R356–R360) -/

/-- An I/O command of a ready I/O queue takes its entry and ends with the status that its work answers. -/
theorem run_nvIo_answers {s : State} {d y cid : Nat} {f : State → Nat × State} {r : Nat × State} (h : s.running = true) (io : y ≠ 0)
    (ready : s.nvReady d y = true) (e : f (s.nvTaken d y cid) = r) :
    s.run (s.nvIo d y cid f) = .next { r.2.nvDone (sqKey d y) cid r.1 0 with pending := s.pending } := by
  refine run_answers h ?_
  rw [State.nvIo, if_neg io, nvTake_ready ready, e]
  rfl

/-- A Flush of a ready I/O queue takes its entry and does its work. -/
theorem exec_nvmeFlush_answers {s t : State} {d y cid nsid : Nat} (h : s.running = true) (io : y ≠ 0) (ready : s.nvReady d y = true)
    (e : (s.nvTaken d y cid).nvFlush d y cid nsid = t) : exec (.nvmeFlush d y cid nsid) s = .next { t with pending := s.pending } :=
  run_answers h ((if_neg io).trans ((nvTake_ready ready).trans e))

/-- A read or write ends in the same way, counted if it ends well. -/
theorem run_nvIo_counted {s : State} {d y cid c : Nat} {f : State → Nat × State} {r : Nat × State} (h : s.running = true) (io : y ≠ 0)
    (ready : s.nvReady d y = true) (e : f (s.nvTaken d y cid) = r) :
    s.run (s.nvIo d y cid (fun t => ioCount c (f t))) =
      .next { (if r.1 = 0 then r.2.bump c else r.2).nvDone (sqKey d y) cid r.1 0 with pending := s.pending } := by
  rw [run_nvIo_answers h io ready (congrArg (ioCount c) e),
    ioCount_end c r (fun (t : State) st => t.nvDone (sqKey d y) cid st 0)]

/-- One that fails ends with its status and is not counted. -/
theorem run_nvIo_failed {s t : State} {d y cid c st : Nat} {f : State → Nat × State} (h : s.running = true) (io : y ≠ 0)
    (ready : s.nvReady d y = true) (failed : st ≠ 0) (e : f (s.nvTaken d y cid) = (st, t)) :
    s.run (s.nvIo d y cid (fun t => ioCount c (f t))) = .next { t.nvDone (sqKey d y) cid st 0 with pending := s.pending } := by
  rw [run_nvIo_counted h io ready e, if_neg failed]

/-- One that does its work ends well and is counted. -/
theorem run_nvIo_done {s t : State} {d y cid c : Nat} {f : State → Nat × State} (h : s.running = true) (io : y ≠ 0)
    (ready : s.nvReady d y = true) (e : f (s.nvTaken d y cid) = (0, t)) :
    s.run (s.nvIo d y cid (fun t => ioCount c (f t))) = .next { (t.bump c).nvDone (sqKey d y) cid 0 0 with pending := s.pending } := by
  rw [run_nvIo_counted h io ready e, if_pos rfl]

section
variable {s : State} {d nsid : Nat} {x : Vol}

/-! ### Flush -/

theorem nvFlush_of_noVolume {st : Nat} (missing : s.nvVol d nsid = .error st) (y cid : Nat) :
    s.nvFlush d y cid nsid = s.nvDone (sqKey d y) cid st 0 := by
  simp only [State.nvFlush, missing]
  rfl

/-- A Flush of a volume with targets left asks each of them to commit and waits for them. -/
theorem nvFlush_of_targets (volume : s.nvVol d nsid = .ok x) (left : x.targets.any (fun e => !e.2.failed) = true) (y cid : Nat) :
    s.nvFlush d y cid nsid =
      let ts := x.targets.filter (fun e => !e.2.failed)
      ts.foldl (fun (v : State) e => v.emit (.spline e.2.conn 0x30 0 0 16 (leBytes 8 x.seq ++ leBytes 8 0)))
        (s.setVol (volKey d nsid) { x with
          seq := x.seq + 1
          flushes := x.flushes ++ [{ seq := x.seq, waiting := ts.map (·.1), good := 0, ring := sqKey d y, tag := cid }] }) := by
  have some : (x.targets.filter (fun e => !e.2.failed)).isEmpty = false := by
    rw [List.isEmpty_eq_false_iff]
    obtain ⟨e, listed, good⟩ := List.any_eq_true.mp left
    exact List.ne_nil_of_mem (List.mem_filter.mpr ⟨listed, good⟩)
  simp only [State.nvFlush, volume, some, Bool.false_eq_true, if_false]

/-! ### Reads -/

section
variable {slba nlb : Nat} {io : List (List Byte)} {segs : List (Nat × Nat)}

theorem nvRead_of_range (volume : s.nvVol d nsid = .ok x) (beyond : x.blocks < slba + (nlb + 1)) (hit poison : Bool) :
    s.nvRead d nsid slba nlb hit poison io segs = (NV_LBA_RANGE, s) := by
  simp only [State.nvRead, volume, beyond, if_true]

/-- A read whose blocks are all in the cache is answered from it. -/
theorem nvRead_of_cached (volume : s.nvVol d nsid = .ok x) (within : slba + (nlb + 1) ≤ x.blocks)
    (cached : ((List.range (nlb + 1)).map (fun i => mget x.cache (slba + i))).all (·.isSome) = true) :
    s.nvRead d nsid slba nlb true false io segs =
      (0, (s.bump Reg.n_bs_cache_hits (nlb + 1)).dmaWrite d (placeSegs segs 0
        (((List.range (nlb + 1)).map (fun i => mget x.cache (slba + i))).flatMap (·.getD [])))) := by
  simp only [State.nvRead, volume, Nat.not_lt.mpr within, cached, Bool.and_self, Bool.false_eq_true, if_true, if_false]

end

/-! ### Writes -/

section
variable {slba nlb : Nat} {host : HostIn} {io : List (List Byte)} {refuse : List Nat}

theorem nvWriteHost_of_range (volume : s.nvVol d nsid = .ok x) (beyond : x.blocks < slba + (nlb + 1)) :
    s.nvWriteHost d nsid slba nlb host io refuse = (NV_LBA_RANGE, s) := by
  simp only [State.nvWriteHost, volume, beyond, if_true]

theorem nvWriteHost_of_noData (volume : s.nvVol d nsid = .ok x) (within : slba + (nlb + 1) ≤ x.blocks) (failed : host.st ≠ 0) :
    s.nvWriteHost d nsid slba nlb host io refuse = (NV_TRANSFER, s) := by
  simp only [State.nvWriteHost, volume, Nat.not_lt.mpr within, failed, if_false, ne_eq, not_false_eq_true, if_true]

/-- A write whose data came counts the bytes read at the drawer's port and writes them. -/
theorem nvWriteHost_of_data {q : Nat} (volume : s.nvVol d nsid = .ok x) (within : slba + (nlb + 1) ≤ x.blocks) (came : host.st = 0)
    (port : s.drPort d = some q) :
    s.nvWriteHost d nsid slba nlb host io refuse =
      (s.bump (Reg.n_dma_read_bytes q) ((nlb + 1) * 4096)).nvWrite d nsid slba (slice host.data 0 ((nlb + 1) * 4096)) io refuse := by
  simp only [State.nvWriteHost, volume, Nat.not_lt.mpr within, came, port, if_false, ne_eq, not_true]

end
end

/-- Settles O28: the status of a command whose namespace or range is wrong, and the work of one whose operands are good. -/
theorem nvmeIoCommands : Obligations.NvmeIoCommands := by
  unfold Obligations.NvmeIoCommands
  intro d y cid s h queue ready u
  refine ⟨?noVolume, ?dataset, ?flush, ?range, ?cached, ?noData, ?write, ?zeroes⟩
  case noVolume =>
    intro nsid st missing
    constructor
    · exact exec_nvmeFlush_answers h queue ready (nvFlush_of_noVolume missing y cid)
    · exact run_nvIo_answers (r := (st, u)) h queue ready (by rw [missing])
  case dataset =>
    intro nsid x volume
    exact run_nvIo_answers (r := (0, u)) h queue ready (by rw [volume])
  case flush =>
    intro nsid x volume left
    exact exec_nvmeFlush_answers h queue ready (nvFlush_of_targets volume left y cid)
  case range =>
    intro nsid slba nlb x volume beyond
    exact ⟨fun hit poison io segs => run_nvIo_failed h queue ready (by decide) (nvRead_of_range volume beyond hit poison),
      fun host io refuse => run_nvIo_failed h queue ready (by decide) (nvWriteHost_of_range volume beyond)⟩
  case cached =>
    intro nsid slba nlb x io segs volume within cached
    exact run_nvIo_done h queue ready (nvRead_of_cached volume within cached)
  case noData =>
    intro nsid slba nlb x host io refuse volume within failed
    exact run_nvIo_failed h queue ready (by decide) (nvWriteHost_of_noData volume within failed)
  case write =>
    intro nsid slba nlb host io refuse q x volume within came port
    exact run_nvIo_counted h queue ready (nvWriteHost_of_data volume within came port)
  case zeroes =>
    intro nsid slba nlb io refuse
    exact run_nvIo_counted h queue ready rfl

end Sys2Proof.Machine
end

section
/-! PROOFS. virtio-net drawers: device status, notifications and control commands, one equation per case of each. -/

namespace Sys2Proof.Machine

section
variable {s : State} {d : Nat}

/-- A 0 in device_status resets the drawer. -/
theorem vioReset_of_virtio (virtio : s.isVirtio d = true) : s.vioReset d = s.hostReset d 4 := if_pos virtio

/-! ## Notifications (R146) -/

theorem vioNotify_of_notVirtio (other : s.isVirtio d = false) (y cnt usec : Nat) (bufs : List VBuf) :
    s.vioNotify d y cnt usec bufs = s := by
  simp only [State.vioNotify, other, Bool.not_false, if_true]

/-- A notification of a virtqueue whose buffers the device may take counts as a doorbell at the drawer's port, sets the queue's event
suppression, and the buffers are taken in turn. -/
theorem vioNotify_of_fetches {q y : Nat} (virtio : s.isVirtio d = true) (port : s.drPort d = some q)
    (portAfter : (s.bump (Reg.n_doorbells_rx q)).drPort d = some q) (fetches : (s.bump (Reg.n_doorbells_rx q)).vioFetches d y = true)
    (dataQueue : y < (s.bump (Reg.n_doorbells_rx q)).vioCtl d) (cnt usec : Nat) (bufs : List VBuf) :
    s.vioNotify d y cnt usec bufs =
      let u := s.bump (Reg.n_doorbells_rx q)
      bufs.foldl (fun (v : State) b => v.vioBuffer q d y b)
        (u.setRing (cqKey d y) { u.ring (cqKey d y) with modCount := cnt, modUsec := usec }) := by
  simp only [State.vioNotify, virtio, port, portAfter, fetches, Nat.not_le.mpr dataQueue, decide_false, Bool.not_true, Bool.or_self,
    Bool.false_eq_true, if_false]

/-! ## Control commands (R93) -/

/-- A control command whose buffer is taken does its work and is acknowledged. -/
theorem vioAck_of_taken {id : Nat} {r : Ref} {v : State} (fetches : s.vioFetches d (s.vioCtl d) = true)
    (taken : s.vioTake d (s.vioCtl d) { id := id, segs := [], data := { st := 0, data := [] } } false = some (r, v)) (addr st : Nat)
    (go : State → State) :
    s.vioAck d id addr st go = ((go v).dmaWrite d [(addr, [BitVec.ofNat 8 st])]).complete r 0 1 [] := by
  simp only [State.vioAck, fetches, taken, Bool.not_true, Bool.false_eq_true, if_false]
  rfl

/-- A number of queue pairs that the drawer has is set. -/
theorem vioSetPairs_of_had {pairs : Nat} (some : 1 ≤ pairs) (had : pairs ≤ s.vioPairs d) (id addr : Nat) :
    s.vioSetPairs d id pairs addr = s.vioAck d id addr 0 (fun u => u.setPerson d { u.person d with vqPairs := pairs }) :=
  if_pos ⟨some, had⟩

/-- One beyond what the drawer has is an error. -/
theorem vioSetPairs_of_beyond {pairs : Nat} (beyond : s.vioPairs d < pairs) (id addr : Nat) :
    s.vioSetPairs d id pairs addr = s.vioAck d id addr 1 (fun u => u) :=
  if_neg fun had => Nat.not_le.mpr beyond had.2

end

/-- Settles O29: a notification by whether the drawer is one of virtio-net, and a control command by whether it sets a number of queue
pairs that the drawer has. -/
theorem virtioNet : Obligations.VirtioNet := by
  unfold Obligations.VirtioNet
  refine ⟨?reset, ?notify, ?notVirtio, ?pairs, ?errors⟩
  case reset => exact fun d s h virtio => run_answers h (vioReset_of_virtio virtio)
  case notify =>
    intro d y cnt usec q bufs s h virtio port _ portAfter fetches dataQueue
    exact run_answers h (vioNotify_of_fetches virtio port portAfter fetches dataQueue cnt usec bufs)
  case notVirtio =>
    exact fun d y cnt usec bufs s h other => run_answers h (vioNotify_of_notVirtio other y cnt usec bufs)
  case pairs =>
    intro d id pairs addr r v s h some had fetches taken
    exact run_answers h ((vioSetPairs_of_had some had id addr).trans (vioAck_of_taken fetches taken addr 0 _))
  case errors =>
    intro d id pairs addr r v s h fetches taken
    have refused := vioAck_of_taken fetches taken addr 1 (fun u => u)
    exact ⟨fun beyond => run_answers h ((vioSetPairs_of_beyond beyond id addr).trans refused), run_answers h refused⟩

end Sys2Proof.Machine
end

section
/-! PROOFS. The device while it does not run: what work and register writes do in a halt, and the halt kept from step to step. -/

namespace Sys2Proof.Machine

/-! ## Commands of a device that does not run (R144, R414, R427, R490, R519) -/

theorem exec_work_of_still {c : Instr} {s : State} (work : cmdKind c = .work) (still : s.running = false) : exec c s = .next s := by
  obtain ⟨t, meaning⟩ := exec_work work s
  rw [meaning, run_still still]

theorem exec_store_of_halted {c : Instr} {s : State} (store : cmdKind c = .store) (path : s.regOpen = true) (halted : s.halted = true) :
    exec c s = .next { s.bump Reg.n_halt_write_drop with pending := s.pending } := by
  obtain ⟨t, meaning⟩ := exec_store store s
  rw [meaning, write_halted path halted]

theorem exec_store_of_closed {c : Instr} {s : State} (store : cmdKind c = .store) (closed : s.regOpen = false) :
    exec c s = .next s := by
  obtain ⟨t, meaning⟩ := exec_store store s
  rw [meaning, write_closed closed]

/-- Settles O3: every command of work has its effect under the guard of a running device, and every register write under that of a halt. -/
theorem workStandsStillWhileNotRunning : Obligations.WorkStandsStillWhileNotRunning :=
  ⟨fun _ _ work still => exec_work_of_still work still, fun _ _ store path halted => exec_store_of_halted store path halted⟩

theorem running_of_halted {s : State} (halted : s.halted = true) : s.running = false := by
  simp only [State.running, halted, Bool.not_true, Bool.false_and]

/-! ## What moves in a halt -/

/-- From `s` to `t` nothing has moved but the queue, device time, what leaves the device, the GLB block's ports and
halt_write_drop. -/
structure State.HeldTo (s t : State) : Prop where
  rest : t = { s with regs := t.regs, out := t.out, glb := t.glb, todFrac := t.todFrac, pending := t.pending }
  word : ∀ a, a ≠ Reg.GLB_TIME → a ≠ Reg.GLB_TIME + 4 → a ≠ Reg.n_halt_write_drop → a ≠ Reg.n_halt_write_drop + 4 →
    t.rd a = s.rd a

namespace State.HeldTo
variable {s t : State}

theorem refl (s : State) : s.HeldTo s := ⟨rfl, fun _ _ _ _ _ => rfl⟩

/-- What does not depend on the parts that may move stands. -/
theorem field {α : Type} (held : s.HeldTo t) (f : State → α)
    (stands : ∀ regs out glb frac l, f { s with regs := regs, out := out, glb := glb, todFrac := frac, pending := l } = f s := by
      exact fun _ _ _ _ _ => rfl) : f t = f s :=
  (congrArg f held.rest).trans (stands _ _ _ _ _)

/-- A halt is one of the words that stand. -/
theorem halted_eq (held : s.HeldTo t) : t.halted = s.halted := by
  have status := held.word Reg.GLB_HALT_STATUS_HALTED.addr (by decide) (by decide) (by decide) (by decide)
  simp only [State.halted, State.on, State.get, show Reg.GLB_HALT_STATUS_HALTED.hi < 32 by decide, if_true, status]

theorem withPending (held : s.HeldTo t) (l : List Instr) : s.HeldTo { t with pending := l } :=
  ⟨congrArg (fun u : State => { u with pending := l }) held.rest, held.word⟩

theorem withTodFrac (held : s.HeldTo t) (n : Nat) : s.HeldTo { t with todFrac := n } :=
  ⟨congrArg (fun u : State => { u with todFrac := n }) held.rest, held.word⟩

theorem withLine (held : s.HeldTo t) (o : List Out) (g : GlbSt) : s.HeldTo { t with out := o, glb := g } :=
  ⟨congrArg (fun u : State => { u with out := o, glb := g }) held.rest, held.word⟩

/-- Device time and the counter of dropped writes are the two pairs that may be written. -/
theorem wr64 (held : s.HeldTo t) {a : Nat} (moves : a = Reg.GLB_TIME ∨ a = Reg.n_halt_write_drop) (v : Nat) :
    s.HeldTo (t.wr64 a v) where
  rest := congrArg (fun u : State => { u with regs := (t.wr64 a v).regs }) held.rest
  word b time time4 drop drop4 := by
    have other : b ≠ a ∧ b ≠ a + 4 := by
      rcases moves with rfl | rfl
      · exact ⟨time, time4⟩
      · exact ⟨drop, drop4⟩
    rw [rd_wr64_other t v other.1 other.2, held.word b time time4 drop drop4]

theorem uartTick (held : s.HeldTo t) : s.HeldTo t.uartTick := by
  unfold State.uartTick
  split
  · exact held
  · split
    · exact held.withLine _ _
    · exact held

end State.HeldTo

/-! ## The steps of a halt -/

/-- The proof watchdog does not count in a halt. -/
theorem proofTick_of_halted {s : State} (halted : s.halted = true) : s.proofTick = s := by
  simp only [State.proofTick, running_of_halted halted, Bool.and_false, Bool.false_eq_true, if_false]

/-- A nanosecond of a halt moves device time and the UART's line. -/
theorem heldTo_tick {s : State} (halted : s.halted = true) : s.HeldTo s.tick := by
  have held : s.HeldTo s.timeTick.uartTick := (((State.HeldTo.refl s).wr64 (.inl rfl) _).withTodFrac _).uartTick
  have stillHalted := held.halted_eq.trans halted
  simp only [State.tick, proofTick_of_halted stillHalted, running_of_halted stillHalted, Bool.false_eq_true, if_false]
  split
  · exact State.HeldTo.refl s
  · exact held

/-- In a halt work does nothing, and a register write is counted at most. -/
theorem exec_of_halted {c : Instr} {s : State} (halted : s.halted = true) (kind : cmdKind c ≠ .other) :
    ∃ t, exec c s = .next t ∧ s.HeldTo t ∧ t.pending = s.pending := by
  cases of : cmdKind c with
  | work => exact ⟨s, exec_work_of_still of (running_of_halted halted), .refl s, rfl⟩
  | store =>
    cases path : s.regOpen with
    | false => exact ⟨s, exec_store_of_closed of path, .refl s, rfl⟩
    | true => exact ⟨_, exec_store_of_halted of path halted, ((State.HeldTo.refl s).wr64 (.inr rfl) _).withPending _, rfl⟩
  | other => exact absurd of kind

/-- A step of a halt holds the device and takes the command at the front of the queue. -/
theorem step_of_halted {s t : State} (halted : s.halted = true) (kinds : ∀ c ∈ s.pending, cmdKind c ≠ .other)
    (e : step s = .next t) : s.HeldTo t ∧ t.pending = s.pending.tail := by
  unfold step at e
  split at e
  · next empty =>
    obtain rfl := Host.Outcome.next.inj e
    exact ⟨(heldTo_tick halted).withPending [], by rw [empty, List.tail_nil]⟩
  · next c l queue =>
    have taken : s.HeldTo { s with pending := l } := (State.HeldTo.refl s).withPending l
    have kind : cmdKind c ≠ .other := kinds c (queue ▸ List.mem_cons_self)
    obtain ⟨u, meaning, held, pending⟩ := exec_of_halted (taken.halted_eq.trans halted) kind
    obtain rfl := Host.Outcome.next.inj (meaning.symm.trans e)
    exact ⟨⟨held.rest, held.word⟩, by rw [pending, queue, List.tail_cons]⟩

/-- Settles O4: each step of a halt holds the device, whether time passes or a command is taken, and the halt is among what it holds. -/
theorem haltedDeviceStaysHalted : Obligations.HaltedDeviceStaysHalted := by
  intro s t halted kinds e
  obtain ⟨held, pending⟩ := step_of_halted halted kinds e
  have waiting : ∀ c ∈ t.pending, cmdKind c ≠ .other := fun c waits => kinds c (List.mem_of_mem_tail (pending ▸ waits))
  exact ⟨⟨held.halted_eq.trans halted, waiting⟩, held.field State.events, held.field State.rings, held.field State.drw,
    held.field State.lane, held.field State.host, held.field State.cell, held.field State.tm, held.field State.prs,
    held.field State.tbl, held.field State.xpt, held.field State.core, held.field State.acc, held.field State.mem,
    held.field State.cas, held.field State.pwr, held.field State.jig, held.field State.boot, held.field State.err, held.word⟩

end Sys2Proof.Machine
end

section
/-! PROOFS. The commands of a drawer's admin ring: one equation per case of each command, then the obligation. -/

namespace Sys2Proof.Machine

section
variable {s : State} {r : Ref} {e : List Byte}

/-- An entry of a drawer's ring that fails a check of its body is counted, and its completion has the head index in the detail (R142). -/
theorem fail_of_drawer {st : Nat} (drawer : isCtl r.ring = false) (bad : ST_BAD_OPCODE ≤ st ∧ st ≤ ST_BAD_RING_REF) :
    s.fail r st = (s.bump (Reg.n_malformed_entries (ringDrawer r.ring))).complete r st 0 [r.index] := by
  simp only [State.fail, State.countBad, drawer, bad.1, bad.2, decide_true, Bool.not_false, Bool.and_self, and_self, if_true]

/-! ## NOP -/

theorem opNop_of_zero (zero : zeroBut e [(0, 8)] = true) : s.opNop r e = s.complete r ST_OK 0 [] := by
  simp only [State.opNop, zero, Bool.not_true, Bool.false_eq_true, if_false]

theorem opNop_of_nonzero (nonzero : zeroBut e [(0, 8)] = false) : s.opNop r e = s.fail r ST_BAD_FLAGS := by
  simp only [State.opNop, nonzero, Bool.not_false, if_true]

/-! ## RING_CREATE and CPL_CREATE -/

theorem opRingCreate_of_badLength (badLength : leAt e 12 1 < 6 ∨ 16 < leAt e 12 1) : s.opRingCreate r e = s.fail r ST_BAD_LENGTH :=
  if_pos badLength

theorem opCplCreate_of_badLength (badLength : leAt e 12 1 < 6 ∨ 16 < leAt e 12 1) : s.opCplCreate r e = s.fail r ST_BAD_LENGTH :=
  if_pos badLength

/-- The ring that a command of the admin ring names. -/
abbrev namedRing (r : Ref) (e : List Byte) : Nat := ringKey (ringDrawer r.ring) (leAt e 8 4)

/-- The completion ring that RING_CREATE names. -/
abbrev namedCpl (r : Ref) (e : List Byte) : Nat := ringKey (ringDrawer r.ring) (2 ^ 22 + leAt e 14 2)

/-- What both commands ask for: a size within the bounds, an aligned base, no flag, and a ring of the drawer's grant that is not there. -/
structure State.MayMake (s : State) (r : Ref) (e : List Byte) : Prop where
  least : 6 ≤ leAt e 12 1
  most : leAt e 12 1 ≤ 16
  aligned : leAt e 16 8 % 4096 = 0
  noFlag : leAt e 13 1 = 0
  granted : s.ringGranted (ringDrawer r.ring) (leAt e 8 4) = true
  free : (s.ring (namedRing r e)).st = .absent

/-- A ring is made, without a head mirror, where its completion ring is there. -/
theorem opRingCreate_of_good (make : s.MayMake r e) (zero : zeroBut e [(0, 32)] = true) (number : leAt e 8 4 < 2 ^ 22)
    (notAdmin : leAt e 8 4 ≠ 0) (cplActive : (s.ring (namedCpl r e)).st = .active) (cplKind : (s.ring (namedCpl r e)).kind = .cpl) :
    s.opRingCreate r e =
      ((s.setRing (namedRing r e) (Ring.fresh .sub (leAt e 12 1) (leAt e 16 8) (namedCpl r e) none (s.drGen (ringDrawer r.ring)))).connRings
        (namedRing r e)).complete r ST_OK 0 [] := by
  obtain ⟨least, most, aligned, noFlag, granted, free⟩ := make
  have goodLength : ¬(leAt e 12 1 < 6 ∨ 16 < leAt e 12 1) := by omega
  have submission : leAt e 8 4 / 2 ^ 22 ≠ 1 := by omega
  have localNumber : leAt e 8 4 / 2 ^ 24 = 0 := by omega
  have mirrorBit : bit 0 1 = false := rfl
  simp only [State.opRingCreate, goodLength, aligned, noFlag, mirrorBit, zero, localNumber, submission, granted, notAdmin, free, cplActive,
    cplKind, false_and, or_false, ne_eq, not_true_eq_false, decide_true, decide_false, reduceCtorEq, Bool.not_true, Bool.or_self,
    Bool.false_eq_true, if_false]
  rfl

/-- A completion ring is made with its vector and its moderation. -/
theorem opCplCreate_of_good (make : s.MayMake r e) (zero : zeroBut e [(0, 24), (32, 4)] = true) (vector : leAt e 14 2 < 128)
    (number : leAt e 8 4 / 2 ^ 22 = 1) :
    s.opCplCreate r e =
      (s.setRing (namedRing r e)
        { Ring.fresh .cpl (leAt e 12 1) (leAt e 16 8) 0 (some (leAt e 14 2)) (s.drGen (ringDrawer r.ring)) with
          modCount := leAt e 32 2, modUsec := leAt e 34 2 }).complete r ST_OK 0 [] := by
  obtain ⟨least, most, aligned, noFlag, granted, free⟩ := make
  have goodLength : ¬(leAt e 12 1 < 6 ∨ 16 < leAt e 12 1) := by omega
  have localNumber : leAt e 8 4 / 2 ^ 24 = 0 := by omega
  have someVector : vecOf (leAt e 14 2) = some (leAt e 14 2) := if_neg (by omega)
  have eventBit : bit 0 0 = false := rfl
  simp only [State.opCplCreate, goodLength, aligned, noFlag, eventBit, zero, localNumber, vector, number, granted, free, someVector, ne_eq,
    not_true_eq_false, Nat.zero_le, Bool.false_and, decide_true, Bool.not_true, Bool.or_self, Bool.true_or, Bool.false_eq_true, if_false]

/-! ## RING_DISABLE, RING_DESTROY and CPL_MODERATE -/

/-- The command as an item that waits for its ring's last one (R126). -/
def disableItem (r : Ref) : Item :=
  { index := r.index, opcode := 4, tag := r.tag, cplReq := r.cplReq, order := false, flags := 0, chain := 0, started := true,
    posted := false, segs := [], body := [] }

variable (localNumber : leAt e 8 4 / 2 ^ 24 = 0)
include localNumber

/-- A submission ring in service flushes, and the command waits for its last item. -/
theorem opRingDisable_of_active (zero : zeroBut e [(0, 12)] = true) (notAdmin : leAt e 8 4 ≠ 0)
    (kind : (s.ring (namedRing r e)).kind = .sub) (active : (s.ring (namedRing r e)).st = .active) :
    s.opRingDisable r e =
      ((s.setRing (namedRing r e)
        { s.ring (namedRing r e) with st := .flushing, slips := [], waitQuit := some (disableItem r) }).connStop (namedRing r e)).flushItems
          (namedRing r e) := by
  simp only [State.opRingDisable, zero, localNumber, notAdmin, kind, active, disableItem, decide_true, decide_false, Bool.not_true,
    Bool.or_self, Bool.false_eq_true, if_false]

/-- A submission ring is removed once it has stopped. -/
theorem opRingDestroy_of_stopped (zero : zeroBut e [(0, 12)] = true) (notAdmin : leAt e 8 4 ≠ 0)
    (kind : (s.ring (namedRing r e)).kind = .sub) (stopped : (s.ring (namedRing r e)).st = .stopped) :
    s.opRingDestroy r e = ((s.connGone (namedRing r e)).setRing (namedRing r e) Ring.absent).complete r ST_OK 0 [] := by
  simp only [State.opRingDestroy, zero, localNumber, notAdmin, kind, stopped, decide_true, decide_false, reduceCtorEq, Bool.not_true,
    Bool.or_self, Bool.false_eq_true, if_false, if_true]

theorem opRingDestroy_of_active (zero : zeroBut e [(0, 12)] = true) (kind : (s.ring (namedRing r e)).kind = .sub)
    (active : (s.ring (namedRing r e)).st = .active) : s.opRingDestroy r e = s.fail r ST_BAD_RING_REF := by
  simp only [State.opRingDestroy, zero, localNumber, kind, active, decide_true, decide_false, reduceCtorEq, Bool.not_true, Bool.not_false,
    Bool.or_self, Bool.or_true, Bool.false_eq_true, if_false, if_true]

/-- The moderation of a completion or event ring acts at once on what waits there. -/
theorem opCplModerate_of_present (zero : zeroBut e [(0, 12), (32, 4)] = true) (present : (s.ring (namedRing r e)).st ≠ .absent)
    (kind : (s.ring (namedRing r e)).kind ≠ .sub) :
    s.opCplModerate r e =
      ((s.setRing (namedRing r e) { s.ring (namedRing r e) with modCount := leAt e 32 2, modUsec := leAt e 34 2 }).signal
        (namedRing r e)).complete r ST_OK 0 [] := by
  simp only [State.opCplModerate, zero, localNumber, present, kind, decide_true, decide_false, Bool.not_true, Bool.or_self,
    Bool.false_eq_true, if_false]

theorem opCplModerate_of_absent (zero : zeroBut e [(0, 12), (32, 4)] = true) (absent : (s.ring (namedRing r e)).st = .absent) :
    s.opCplModerate r e = s.fail r ST_BAD_RING_REF := by
  simp only [State.opCplModerate, zero, localNumber, absent, decide_true, Bool.not_true, Bool.or_self, Bool.true_or, Bool.false_eq_true,
    if_false, if_true]

end

/-- A command of a drawer's ring whose body fails a check completes with that check's status and its head index. -/
theorem run_work_fails {s : State} {r : Ref} {f : State → State} {st : Nat} (h : s.running = true) (start : s.mayStart r = true)
    (drawer : isCtl r.ring = false) (bad : ST_BAD_OPCODE ≤ st ∧ st ≤ ST_BAD_RING_REF)
    (fails : f (s.markStarted r) = (s.markStarted r).fail r st) :
    s.run (s.work r f) = .next { ((s.markStarted r).bump (Reg.n_malformed_entries (ringDrawer r.ring))).complete r st 0 [r.index] with
      pending := s.pending } :=
  run_work_answers h start (fails.trans (fail_of_drawer drawer bad))

/-- Settles O31: each command's effect where its checks pass, and the first check that fails where one does. -/
theorem adminRingCommands : Obligations.AdminRingCommands := by
  unfold Obligations.AdminRingCommands
  intro r e s h start drawer u d k c
  refine ⟨?nop, ?nopBad, ?badLength, ?ringCreate, ?cplCreate, fun zero number => ?disableDestroy, fun zero number => ?moderate⟩
  case nop => exact fun zero => run_work_answers h start (opNop_of_zero zero)
  case nopBad => exact fun nonzero => run_work_fails h start drawer (by decide) (opNop_of_nonzero nonzero)
  case badLength =>
    exact fun badLength => ⟨run_work_fails h start drawer (by decide) (opRingCreate_of_badLength badLength),
      run_work_fails h start drawer (by decide) (opCplCreate_of_badLength badLength)⟩
  case ringCreate =>
    intro least most aligned noFlag zero number notAdmin granted free cplActive cplKind
    exact run_work_answers h start
      (opRingCreate_of_good ⟨least, most, aligned, noFlag, granted, free⟩ zero number notAdmin cplActive cplKind)
  case cplCreate =>
    intro least most aligned noFlag zero vector number granted free
    exact run_work_answers h start (opCplCreate_of_good ⟨least, most, aligned, noFlag, granted, free⟩ zero vector number)
  case disableDestroy =>
    have localNumber := Nat.div_eq_of_lt number
    refine ⟨?disable, ?destroy, ?destroyActive⟩
    case disable =>
      exact fun notAdmin kind active => run_work_answers h start (opRingDisable_of_active localNumber zero notAdmin kind active)
    case destroy =>
      exact fun stopped kind notAdmin => run_work_answers h start (opRingDestroy_of_stopped localNumber zero notAdmin kind stopped)
    case destroyActive =>
      exact fun active kind _ => run_work_fails h start drawer (by decide) (opRingDestroy_of_active localNumber zero kind active)
  case moderate =>
    have localNumber := Nat.div_eq_of_lt number
    exact ⟨fun present kind => run_work_answers h start (opCplModerate_of_present localNumber zero present kind),
      fun absent => run_work_fails h start drawer (by decide) (opCplModerate_of_absent localNumber zero absent)⟩

end Sys2Proof.Machine
end

section
/-! PROOFS. The parser's banks and tables, and the next frame of a pipeline: one equation per case of each function, then the
obligation. -/

namespace Sys2Proof.Machine

section
variable {s : State}

/-! ## Switches of banks and isolate mode (R155, R156, R170) -/

/-- A second switch is refused as BUSY while one runs. -/
theorem bankSwitch_of_busy (busy : s.on Reg.PRS_STATUS_SWITCH_BUSY = true) :
    s.bankSwitch = (s.set Reg.PRS_STATUS_FAIL_REASON 2).bankRefused := if_pos busy

/-- Otherwise the validation of the inactive bank starts. -/
theorem bankSwitch_of_idle (idle : s.on Reg.PRS_STATUS_SWITCH_BUSY = false) :
    s.bankSwitch = { (s.set Reg.PRS_STATUS_SWITCH_BUSY 1).set Reg.PRS_BANK_CTRL_SWITCH 1 with
      prs := { s.prs with phase := .validating } } := if_neg (ne_true_of_eq_false idle)

/-- FORCE_ISOLATE stands in another word than SWITCH_BUSY, so a write of it does not hide whether a switch runs. -/
theorem forceIsolate_of_idle (idle : s.on Reg.PRS_STATUS_SWITCH_BUSY = false) :
    s.forceIsolate = s.set Reg.PRS_CFG_FORCE_ISOLATE 1 := by
  have kept : (s.set Reg.PRS_CFG_FORCE_ISOLATE 1).on Reg.PRS_STATUS_SWITCH_BUSY = s.on Reg.PRS_STATUS_SWITCH_BUSY := by
    rw [State.on, get_set_other s _ _ _ (by decide) (by decide) (by decide) (by decide), State.on]
  exact if_neg (ne_true_of_eq_false (kept.trans idle))

/-- A bank that passes validation is changed to. -/
theorem validateDone_of_pass (validating : s.prs.phase = .validating) (pass : s.bankFail (1 - s.activeBank) = none) :
    s.validateDone = { s with prs := { s.prs with phase := .changing } } := by
  simp only [State.validateDone, validating, pass, if_true]

/-- A bank that fails ends the switch, and the first failure stands in PRS_STATUS before the event reads it. -/
theorem validateDone_of_fail {k i r : Nat} (validating : s.prs.phase = .validating)
    (fail : s.bankFail (1 - s.activeBank) = some (k, i, r)) :
    s.validateDone =
      ((((({ (s.set Reg.PRS_STATUS_SWITCH_BUSY 0).set Reg.PRS_BANK_CTRL_SWITCH 0 with
        prs := { s.prs with phase := .idle } } : State).set Reg.PRS_STATUS_FAIL_REASON 1).set Reg.PRS_STATUS_BAD_KIND k).set
          Reg.PRS_STATUS_BAD_INDEX i).set Reg.PRS_STATUS_BAD_RULE r).bankRefused := by
  simp only [State.validateDone, validating, fail, if_true]

/-- A parity error that is new is recorded and reported. -/
theorem parityScan_of_new {x : Nat × Nat × Nat} (new : s.prs.bad.contains x = false) :
    s.parityScan [x] =
      ({ s with prs := { s.prs with bad := s.prs.bad ++ [x] } } : State).raise EV_prs_parity 0xFFFF [x.1, x.2.1, x.2.2] :=
  if_neg (ne_true_of_eq_false new)

/-! ## Writes of bank words (R155) -/

/-- The bank in force is not written, nor the inactive one while a switch runs. -/
theorem bankWrite_of_held {a v b k i : Nat} (entry : bankEntry a = some (b, k, i))
    (held : s.on Reg.PRS_STATUS_PROGRAMMED = true ∧ b = s.activeBank ∨ s.on Reg.PRS_STATUS_SWITCH_BUSY = true ∧ b ≠ s.activeBank) :
    s.bankWrite a v = s.bump Reg.n_bank_write_refused := by
  rw [State.bankWrite, entry]
  exact if_pos (by simpa using held)

/-- With neither a bank in force nor a switch at work a bank word is stored, and its entry is no longer in error. -/
theorem bankWrite_of_open {a v b k i : Nat} (entry : bankEntry a = some (b, k, i))
    (isolated : s.on Reg.PRS_STATUS_PROGRAMMED = false) (idle : s.on Reg.PRS_STATUS_SWITCH_BUSY = false)
    (defined : (rowAt a).isSome = true) : s.bankWrite a v = (s.wr a v).prsMend k b i := by
  obtain ⟨row, defined⟩ := Option.isSome_iff_exists.mp defined
  simp only [State.bankWrite, entry, defined, isolated, idle, Bool.false_and, Bool.or_self, Bool.false_eq_true, if_false]

/-! ## Commits of staged records (R165, R166) -/

/-- The state that the commit of an action record judges: INDEX and GO of its own write are in the registers. -/
def State.actCommitting (s : State) (i : Nat) : State :=
  (s.set Reg.PRS_ACT_COMMIT_INDEX (i % 4096)).set Reg.PRS_ACT_COMMIT_GO 0

/-- The bytes of the staged action record. -/
def State.stagedAction (s : State) : List Byte := ((List.range 4).map (fun j => leBytes 4 (s.rd (Reg.PRS_ACT_STAGE j)))).flatten

/-- The four words of the staged record stored as the action record of index `i`. -/
def State.storeStaged (s : State) (i : Nat) : State :=
  (((s.wr (Reg.PRS_ACTION i 0) (s.rd (Reg.PRS_ACT_STAGE 0))).wr (Reg.PRS_ACTION i 1) (s.rd (Reg.PRS_ACT_STAGE 1))).wr
    (Reg.PRS_ACTION i 2) (s.rd (Reg.PRS_ACT_STAGE 2))).wr (Reg.PRS_ACTION i 3) (s.rd (Reg.PRS_ACT_STAGE 3))

theorem foldl_wr_staged (i : Nat) :
    (List.range 4).foldl (fun (v : State) (j : Nat) => v.wr (Reg.PRS_ACTION i j)
      (((List.range 4).map (fun j => s.rd (Reg.PRS_ACT_STAGE j))).getD j 0)) s = s.storeStaged i := by
  simp only [List.range_succ, List.range_zero, List.nil_append, List.cons_append, List.map_cons, List.map_nil, List.foldl_cons,
    List.foldl_nil, List.getD_cons_zero, List.getD_cons_succ, State.storeStaged]

theorem actCommit_of_refused {i : Nat} (bad : i % 4096 = 0 ∨ actionOk (s.actCommitting i).stagedAction = false) :
    s.actCommit i = (s.actCommitting i).set Reg.PRS_ACT_COMMIT_REFUSED 1 :=
  if_pos (by simpa [State.stagedAction, State.actCommitting, Function.comp_def] using bad)

theorem actCommit_of_good {i : Nat} (place : i % 4096 ≠ 0) (good : actionOk (s.actCommitting i).stagedAction = true) :
    s.actCommit i = ((s.actCommitting i).storeStaged (i % 4096)).prsMend 2 0 (i % 4096) := by
  rw [← foldl_wr_staged]
  exact if_neg (by simpa [State.stagedAction, State.actCommitting, Function.comp_def] using ⟨place, good⟩)

/-- The state that the commit of an edit profile judges, likewise. -/
def State.editCommitting (s : State) (i : Nat) : State :=
  (s.set Reg.PRS_EDIT_COMMIT_INDEX (i % 256)).set Reg.PRS_EDIT_COMMIT_GO 0

/-- The words of the staged edit profile. -/
def State.stagedEdit (s : State) : List Nat := (List.range 32).map (fun j => s.rd (Reg.PRS_EDIT_STAGE j))

theorem editCommit_of_refused {i : Nat} (bad : i % 256 = 0 ∨ editBad (s.editCommitting i).stagedEdit = true) :
    s.editCommit i = (s.editCommitting i).set Reg.PRS_EDIT_COMMIT_REFUSED 1 :=
  if_pos (by simpa [State.stagedEdit, State.editCommitting] using bad)

theorem editCommit_of_good {i : Nat} (place : i % 256 ≠ 0) (good : editBad (s.editCommitting i).stagedEdit = false) :
    s.editCommit i =
      let e := s.editCommitting i
      ((List.range 32).foldl (fun (v : State) (j : Nat) => v.wr (Reg.PRS_EDIT (i % 256) j) (e.stagedEdit.getD j 0)) e).prsMend 3 0
        (i % 256) :=
  if_neg (by simpa [State.stagedEdit, State.editCommitting] using ⟨place, good⟩)

/-! ## A pipeline's next frame (R150, R154, R158, R167) -/

/-- A pipeline whose domain sleeps lets its frame wait and wakes the domain. -/
theorem pipeline_of_asleep {p o : Nat} (next : s.pipeNext p = some o) (asleep : 2 ≤ s.domState (16 + p)) :
    s.pipeline p = s.domWake (16 + p) := by
  simp only [State.pipeline, next, asleep, if_true]

/-- Otherwise the frame leaves its queue and is classified. -/
theorem pipeline_of_awake {p o : Nat} {f : Frame} {t : List Frame} (next : s.pipeNext p = some o)
    (queue : mgetD s.tm.ingress o [] = f :: t) (awake : s.domState (16 + p) < 2) :
    s.pipeline p = ((s.pipeTake p o t).classify p f).retryAll := by
  simp only [State.pipeline, next, queue, Nat.not_le.mpr awake, if_false]

variable {p : Nat} {f : Frame}

theorem classify_of_reset (reset : s.inReset 5 p = true) :
    s.classify p f = (s.bump (Reg.n_pipe_reset_drop p)).dropFrame f 2 := if_pos reset

theorem classify_of_isolated (noReset : s.inReset 5 p = false) (isolated : s.on Reg.PRS_STATUS_PROGRAMMED = false) :
    s.classify p f = s.isolate p f (s.quireData f.quire) := by
  simp only [State.classify, noReset, isolated, Bool.not_false, Bool.false_eq_true, if_false, if_true]

/-- Isolate mode drops a frame that is no control message, or from the host, or while nothing is trapped. -/
theorem isolate_of_untrapped {data : List Byte}
    (drops : s.on Reg.PRS_ISOLATE_TRAP_EN = false ∨ f.kind = 1 ∨ trapped data = false) :
    s.isolate p f data = (s.bump (Reg.n_parse_isolate_drop p)).dropFrame f 2 := by
  refine if_neg (ne_true_of_eq_false ?_)
  rcases drops with disabled | host | other
  · simp only [disabled, Bool.false_and]
  · simp only [host, decide_true, Bool.not_true, Bool.and_false, Bool.false_and]
  · simp only [other, Bool.and_false]

theorem isolate_of_trapped {data : List Byte} (enabled : s.on Reg.PRS_ISOLATE_TRAP_EN = true) (notHost : f.kind ≠ 1)
    (control : trapped data = true) :
    s.isolate p f data = s.admitFrame f (s.get Reg.PRS_ISOLATE_TRAP_QUEUE) none :=
  if_pos (by simp [enabled, notHost, control])

/-- The walk of a frame over the bank in force, from the start node of its kind. -/
def State.frameWalk (s : State) (f : Frame) : Walk :=
  let data := s.quireData f.quire
  s.walk s.activeBank data (s.metadata f data.length 0) 8 (if f.kind = 0 then 0 else if f.kind = 1 then 1 else 2)

theorem classify_of_template {i : Nat} (noReset : s.inReset 5 p = false) (programmed : s.on Reg.PRS_STATUS_PROGRAMMED = true)
    (chosen : s.frameWalk f = .template i) : s.classify p f = s.classified p f s.activeBank i (s.quireData f.quire) := by
  rw [State.frameWalk] at chosen
  simp only [State.classify, noReset, programmed, chosen, Bool.not_true, Bool.false_eq_true, if_false]

/-- A frame that no arm takes is counted twice and takes the action of unmatched frames. -/
theorem classify_of_noArm (noReset : s.inReset 5 p = false) (programmed : s.on Reg.PRS_STATUS_PROGRAMMED = true)
    (lost : s.frameWalk f = .noArm) :
    s.classify p f = (((s.bump (Reg.n_parse_no_arm p)).bump (Reg.n_parse_unmatched p)).unmatchedEvent p f
      (s.quireData f.quire)).actIndex p f (s.get Reg.PRS_CFG_UNMATCHED_ACTION) none := by
  rw [State.frameWalk] at lost
  simp only [State.classify, noReset, programmed, lost, Bool.not_true, Bool.false_eq_true, if_false]

end

/-- Settles O34: a switch by its phase and the validation's first failure, a bank word by whether its bank is held, a commit by whether
the staged record is good, and a frame by the state of its pipeline and the end of its walk. -/
theorem parserAndPipelines : Obligations.ParserAndPipelines := by
  unfold Obligations.ParserAndPipelines
  refine ⟨?requests, ?reports, ?bankWord, ?commits, ?frame⟩
  case requests =>
    exact fun s h => ⟨fun busy => write_answers h (bankSwitch_of_busy busy), fun idle => write_answers h (bankSwitch_of_idle idle),
      fun idle => write_answers h (forceIsolate_of_idle idle)⟩
  case reports =>
    intro s h z b
    refine ⟨?pass, ?fail, ?switched, ?isolated, ?parity⟩
    case pass => exact fun validating pass => run_answers h (validateDone_of_pass validating pass)
    case fail => exact fun k i r validating fail => run_answers h (validateDone_of_fail validating fail)
    case switched => exact fun changing => run_answers h (if_pos changing)
    case isolated => exact fun forced => run_answers h (if_pos forced)
    case parity => exact fun x new => run_answers h (parityScan_of_new new)
  case bankWord =>
    intro a v b k i s h entry
    exact ⟨fun held => write_answers h (bankWrite_of_held entry held),
      fun isolated idle defined => write_answers h (bankWrite_of_open entry isolated idle defined)⟩
  case commits =>
    intro i s h u e w
    exact ⟨fun bad => write_answers h (actCommit_of_refused bad), fun place good => write_answers h (actCommit_of_good place good),
      fun bad => write_answers h (editCommit_of_refused bad), fun place good => write_answers h (editCommit_of_good place good)⟩
  case frame =>
    intro p o f t s h next queue u data
    have taken (awake : s.domState (16 + p) < 2) {v : State} (e : u.classify p f = v) :
        exec (.pipelineFrame p) s = .next { v.retryAll with pending := s.pending } :=
      run_answers h ((pipeline_of_awake next queue awake).trans (congrArg State.retryAll e))
    refine ⟨?asleep, ?reset, fun awake noReset isolated => ?isolate, fun awake noReset programmed => ?walk⟩
    case asleep => exact fun asleep => run_answers h (pipeline_of_asleep next asleep)
    case reset => exact fun awake reset => taken awake (classify_of_reset reset)
    case isolate =>
      have isolates := classify_of_isolated (f := f) noReset isolated
      exact ⟨fun drops => taken awake (isolates.trans (isolate_of_untrapped drops)),
        fun enabled notHost control => taken awake (isolates.trans (isolate_of_trapped enabled notHost control))⟩
    case walk =>
      exact ⟨fun i chosen => taken awake (classify_of_template noReset programmed chosen),
        fun lost => taken awake (classify_of_noArm noReset programmed lost)⟩

end Sys2Proof.Machine
end

section
/-! PROOFS. The commands of the table rings: what comes before a command takes effect, one equation per case of each effect, then the
obligation. -/

namespace Sys2Proof.Machine

/-! ## The seven commands as one (R183, R184) -/

/-- Each of the seven is the table engine's command in the form that `tblCmdOf` gives it, as work of its ring. -/
theorem exec_of_tblCmdOf {i : Instr} {c : TblCmd} (form : tblCmdOf i = some c) (s : State) :
    exec i s = s.run (s.work c.ref (·.tblCommand c)) := by
  unfold tblCmdOf at form
  split at form
  case h_8 => cases form
  all_goals
    cases form
    rfl

/-- At a running device a command whose item may start ends as `State.tblCommand` says. -/
theorem tblCmd_answers {i : Instr} {c : TblCmd} {s u : State} (form : tblCmdOf i = some c) (h : s.running = true)
    (start : s.mayStart c.ref = true) (e : (s.markStarted c.ref).tblCommand c = u) :
    exec i s = .next { u with pending := s.pending } :=
  (exec_of_tblCmdOf form s).trans (run_work_answers h start e)

section
variable {s : State} {c : TblCmd}

/-! ## Before a command takes effect (R182, R184, R186, R187) -/

theorem tblCommand_of_malformed (malformed : c.malformed = true) : s.tblCommand c = s.malformed c.ref 4 c.opcode := if_pos malformed

/-- A command that its ring or a rebalance holds back waits behind those held already. -/
theorem tblCommand_of_held (wellFormed : c.malformed = false) (noReset : s.inReset 6 (s.tShard c.table) = false)
    (held : s.tblHeld c = true) :
    s.tblCommand c =
      { s with tbl := { s.tbl with held := mput s.tbl.held c.ref.ring (mgetD s.tbl.held c.ref.ring [] ++ [c]) } } := by
  simp only [State.tblCommand, wellFormed, noReset, held, Bool.false_eq_true, if_false, if_true]

/-- One that nothing holds back runs. -/
theorem tblCommand_of_free (wellFormed : c.malformed = false) (noReset : s.inReset 6 (s.tShard c.table) = false)
    (free : s.tblHeld c = false) : s.tblCommand c = s.tblRun c := by
  simp only [State.tblCommand, wellFormed, noReset, free, Bool.false_eq_true, if_false]

theorem tblRun_of_refused (refused : s.tblStatus c ≠ 0) : s.tblRun c = s.tblDone c (s.tblStatus c) 0 [] := if_pos refused

/-! ## Which effect a command has (R184) -/

/-- The effect that the opcode of a table command selects. -/
def State.tblEffect (s : State) (c : TblCmd) : State :=
  match c.opcode with
  | 0x80 => s.emInsert c
  | 0x84 => s.lpmInsert c
  | 0x85 => s.lpmDelete c
  | 0x86 => s.sweep c.table (!bit c.flags 3) 1 [c.ref]
  | _ => s.emChange c

theorem tblRun_of_accepted (accepted : s.tblStatus c = 0) : s.tblRun c = s.tblEffect c := if_neg (not_not_intro accepted)

section
variable (takes : s.tblTakes c = true)
include takes

theorem tblCommand_of_takes : s.tblCommand c = s.tblEffect c := by
  simp only [State.tblTakes, Bool.and_eq_true, Bool.not_eq_true', decide_eq_true_eq] at takes
  obtain ⟨⟨⟨wellFormed, noReset⟩, free⟩, accepted⟩ := takes
  exact (tblCommand_of_free wellFormed noReset free).trans (tblRun_of_accepted accepted)

theorem tblCommand_of_emInsert (op : c.opcode = 0x80) : s.tblCommand c = s.emInsert c := by
  simp only [tblCommand_of_takes takes, State.tblEffect, op]

/-- EM_UPDATE, EM_DELETE and EM_QUERY share one function. -/
theorem tblCommand_of_emChange (least : 0x81 ≤ c.opcode) (most : c.opcode ≤ 0x83) : s.tblCommand c = s.emChange c := by
  have op : c.opcode = 0x81 ∨ c.opcode = 0x82 ∨ c.opcode = 0x83 := by omega
  rcases op with op | op | op <;> simp only [tblCommand_of_takes takes, State.tblEffect, op]

theorem tblCommand_of_lpmInsert (op : c.opcode = 0x84) : s.tblCommand c = s.lpmInsert c := by
  simp only [tblCommand_of_takes takes, State.tblEffect, op]

theorem tblCommand_of_lpmDelete (op : c.opcode = 0x85) : s.tblCommand c = s.lpmDelete c := by
  simp only [tblCommand_of_takes takes, State.tblEffect, op]

theorem tblCommand_of_tableFlush (op : c.opcode = 0x86) : s.tblCommand c = s.sweep c.table (!bit c.flags 3) 1 [c.ref] := by
  simp only [tblCommand_of_takes takes, State.tblEffect, op]

end

/-! ## EM_INSERT (R184, R185, R189) -/

/-- The entry that EM_INSERT makes at the LEARN_TIME `time`; a command's entry has no ingress port (log entry 69). -/
def TblCmd.newEntry (c : TblCmd) (time : Nat) : Entry :=
  { table := c.table, key := c.keyOf, action := c.action, hit := false, learned := false, static := bit c.flags 0,
    wide := decide (10 < c.keyOf.length), second := false, settled := false, idle := 0, port := 0, time := time }

/-- An entry that no learning made is not replaced. -/
theorem emInsert_of_exists {k : Nat} {e : Entry} (found : s.findKey c.table c.keyOf = some (k, e)) (ofCommand : e.learned = false) :
    s.emInsert c = s.tblDone c ST_ENTRY_EXISTS 0 [] := by
  simp only [State.emInsert, found, ofCommand, Bool.not_false, if_true]

/-- A new key whose search meets no slot in error gets the place that PLACE allows, or the status that refuses one. -/
theorem emInsert_of_new (absent : s.findKey c.table c.keyOf = none) (noneBad : s.badMet c.table c.keyOf = []) :
    s.emInsert c = match s.placeEm c.table c.keyOf (bits c.flags 2 1) with
      | .error st => s.tblDone c st 0 []
      | .ok k => (s.newEntry k (c.newEntry s.learnTime)).tblDone c ST_OK (emCount k none) [] := by
  simp only [State.emInsert, absent, noneBad, List.foldl_nil]
  rfl

theorem emInsert_of_noPlace {st : Nat} (absent : s.findKey c.table c.keyOf = none) (noneBad : s.badMet c.table c.keyOf = [])
    (noPlace : s.placeEm c.table c.keyOf (bits c.flags 2 1) = .error st) : s.emInsert c = s.tblDone c st 0 [] := by
  rw [emInsert_of_new absent noneBad, noPlace]

theorem emInsert_of_place {k : Nat} (absent : s.findKey c.table c.keyOf = none) (noneBad : s.badMet c.table c.keyOf = [])
    (place : s.placeEm c.table c.keyOf (bits c.flags 2 1) = .ok k) :
    s.emInsert c = (s.newEntry k (c.newEntry s.learnTime)).tblDone c ST_OK (emCount k none) [] := by
  rw [emInsert_of_new absent noneBad, place]

/-! ## EM_UPDATE, EM_DELETE and EM_QUERY (R184) -/

section
variable {k : Nat} {e : Entry} (found : s.findKey c.table c.keyOf = some (k, e))
include found

theorem emChange_of_update (op : c.opcode = 0x81) :
    s.emChange c = (s.putEntry k { e with action := c.action, learned := false }).tblDone c ST_OK (emCount k (some e)) e.action := by
  simp only [State.emChange, found, op]

theorem emChange_of_delete (op : c.opcode = 0x82) : s.emChange c = (s.delEntry k).tblDone c ST_OK (emCount k (some e)) e.action := by
  simp only [State.emChange, found, op]

theorem emChange_of_query (op : c.opcode = 0x83) : s.emChange c = s.tblDone c ST_OK (emCount k (some e)) e.action := by
  simp only [State.emChange, found, op]

end

/-- Only a search that met no slot in error says that a key is absent. -/
theorem emChange_of_absent (absent : s.findKey c.table c.keyOf = none) (noneBad : s.badMet c.table c.keyOf = []) :
    s.emChange c = s.tblDone c ST_ENTRY_ABSENT 0 [] := by
  simp only [State.emChange, absent, State.absent, noneBad, List.isEmpty_nil, if_true]

/-! ## LPM_INSERT and LPM_DELETE (R181, R184, R189) -/

/-- The word that a command names, cut to its length. -/
abbrev TblCmd.lpmValue (c : TblCmd) : Nat := lpmCut (lpmWord c.keyOf) c.plen

section
variable {j : Nat} {e : Tcam} (found : s.lpmFind c.table c.lpmValue c.plen = some (j, e))
include found

/-- An entry of the same word and length takes the new record in its place. -/
theorem lpmInsert_of_present :
    s.lpmInsert c = ({ s with tbl := { s.tbl with tcam := mput s.tbl.tcam j { e with action := c.action } } } : State).tblDone c ST_OK j
      e.action := by
  simp only [State.lpmInsert, found]

theorem lpmDelete_of_present : s.lpmDelete c = (s.delTcam j).tblDone c ST_OK j e.action := by
  simp only [State.lpmDelete, found]

end

/-- A new entry of a table without an owner goes to a slot that is free where its length belongs, and no entry moves. -/
theorem lpmInsert_of_room {j : Nat} {m : SMap Tcam} (absent : s.lpmFind c.table c.lpmValue c.plen = none)
    (unowned : s.tOwner c.table = none) (space : s.tbl.tcam.length + 1 + s.lpmHeld none ≤ tcamSize)
    (room : lpmRoom s.tbl.tcam c.plen = some (j, m, 0)) :
    s.lpmInsert c =
      ((({ s with tbl := { s.tbl with
            tcam := mput m j
              { table := c.table, value := c.lpmValue, len := c.plen, action := c.action, bad := false, hidden := false } } } :
          State).inc Reg.TBL_LPM_STATUS_USED).inc (Reg.TBL_TABLE_ENTRIES_ENTRIES c.table)).tblDone c ST_OK j [] := by
  simp only [State.lpmInsert, absent, unowned, Nat.not_lt.mpr space, room, Bool.not_true, Bool.false_eq_true, if_false, if_true]

/-- Only while no TCAM entry is in error is one said to be absent. -/
theorem lpmDelete_of_absent (absent : s.lpmFind c.table c.lpmValue c.plen = none)
    (noneBad : s.tbl.tcam.any (fun e => e.2.bad) = false) : s.lpmDelete c = s.tblDone c ST_ENTRY_ABSENT 0 [] := by
  simp only [State.lpmDelete, absent, noneBad, Bool.false_eq_true, if_false]

end

/-! ## The obligation -/

/-- Settles O35: the seven commands are one function of their common form, which first judges the command, then its table's state, and
then has the effect of its opcode by what the search of the table finds. -/
theorem tableCommands : Obligations.TableCommands := by
  unfold Obligations.TableCommands
  refine ⟨?before, ?exact, ?longest⟩
  case before =>
    intro i c s form h start u
    have answers {v : State} (e : u.tblCommand c = v) := tblCmd_answers form h start e
    exact ⟨fun malformed => answers (tblCommand_of_malformed malformed), fun wellFormed noReset =>
      ⟨fun held => answers (tblCommand_of_held wellFormed noReset held),
        fun free refused => answers ((tblCommand_of_free wellFormed noReset free).trans (tblRun_of_refused refused))⟩⟩
  case exact =>
    intro i c s form h start u takes
    have inserts {v : State} (op : c.opcode = 0x80) (e : u.emInsert c = v) :=
      tblCmd_answers form h start ((tblCommand_of_emInsert takes op).trans e)
    have changes {v : State} (least : 0x81 ≤ c.opcode) (most : c.opcode ≤ 0x83) (e : u.emChange c = v) :=
      tblCmd_answers form h start ((tblCommand_of_emChange takes least most).trans e)
    refine ⟨?present, ?noPlace, ?place, ?found, ?absent⟩
    case present => exact fun k e op found ofCommand => inserts op (emInsert_of_exists found ofCommand)
    case noPlace => exact fun st op absent noneBad noPlace => inserts op (emInsert_of_noPlace absent noneBad noPlace)
    case place => exact fun k op absent noneBad place => inserts op (emInsert_of_place absent noneBad place)
    case found =>
      exact fun k e found =>
        ⟨fun op => changes (by omega) (by omega) (emChange_of_update found op),
          fun op => changes (by omega) (by omega) (emChange_of_delete found op),
          fun op => changes (by omega) (by omega) (emChange_of_query found op)⟩
    case absent => exact fun absent noneBad least most => changes least most (emChange_of_absent absent noneBad)
  case longest =>
    intro i c s form h start u v takes
    have inserts {w : State} (op : c.opcode = 0x84) (e : u.lpmInsert c = w) :=
      tblCmd_answers form h start ((tblCommand_of_lpmInsert takes op).trans e)
    have deletes {w : State} (op : c.opcode = 0x85) (e : u.lpmDelete c = w) :=
      tblCmd_answers form h start ((tblCommand_of_lpmDelete takes op).trans e)
    refine ⟨?found, ?room, ?absent, ?flush⟩
    case found =>
      exact fun j e found =>
        ⟨fun op => inserts op (lpmInsert_of_present found), fun op => deletes op (lpmDelete_of_present found)⟩
    case room =>
      exact fun j m op absent unowned space room => inserts op (lpmInsert_of_room absent unowned space room)
    case absent => exact fun op absent noneBad => deletes op (lpmDelete_of_absent absent noneBad)
    case flush => exact fun op => tblCmd_answers form h start (tblCommand_of_tableFlush takes op)

end Sys2Proof.Machine
end

section
/-! PROOFS. The table engine's own work and its registers: one equation per case of each function, then the obligation. -/

namespace Sys2Proof.Machine

section
variable {s : State}

/-! ## Learning (R191) -/

/-- The arbiter's queue with its oldest request taken, `rest` left. -/
def State.learnTaken (s : State) (h : Nat) (rest : List LearnReq) : State :=
  ({ s with tbl := { s.tbl with learnQ := mputD s.tbl.learnQ h rest [] } } : State).learnSync h

theorem learnNext_of_queue {h : Nat} {x : LearnReq} {rest : List LearnReq} (queue : mgetD s.tbl.learnQ h [] = x :: rest) :
    s.learnNext h = (s.learnTaken h rest).learn h x := by
  simp only [State.learnNext, queue, State.learnTaken]

section
variable {h : Nat} {x : LearnReq}

/-- A table that is swept takes no learned entry. -/
theorem learn_of_sweeping (sweeping : s.sweeping x.table = true) : s.learn h x = s.bump (Reg.n_learn_blocked h) := if_pos sweeping

variable (still : s.sweeping x.table = false)
include still

/-- An entry that a command made is not learned over. -/
theorem learn_of_static {k : Nat} {e : Entry} (found : s.findKey x.table x.key = some (k, e)) (ofCommand : e.learned = false) :
    s.learn h x = s.bump (Reg.n_learn_static h) := by
  simp only [State.learn, still, found, ofCommand, Bool.not_false, Bool.false_eq_true, if_false, if_true]

/-- A learned entry that is at its port already is only refreshed. -/
theorem learn_of_redundant {k : Nat} {e : Entry} (found : s.findKey x.table x.key = some (k, e)) (learned : e.learned = true)
    (samePort : e.port = x.port) : s.learn h x = (s.putEntry k { e with hit := true }).bump (Reg.n_learn_redundant h) := by
  simp only [State.learn, still, found, learned, samePort, Bool.not_true, Bool.false_eq_true, if_false, if_true]

/-- A key that no slot holds becomes a learned entry; only an EM_DIE_HBM table lets LEARN_PLACE choose another tier than the die. -/
theorem learn_of_new {k : Nat} (absent : s.findKey x.table x.key = none) (noneBad : s.badMet x.table x.key = [])
    (dieOnly : s.tKind x.table ≠ 2) (place : s.placeEm x.table x.key 1 = .ok k) :
    s.learn h x =
      (s.newEntry k {
        table := x.table, key := x.key, action := s.learnRecord x.table x.port, hit := true, learned := true, static := false,
        wide := decide (10 < x.key.length), second := false, settled := false, idle := 0, port := x.port,
        time := s.learnTime }).bump (Reg.n_learn_commit h) := by
  simp only [State.learn, still, absent, noneBad, dieOnly, place, List.foldl_nil, Bool.false_eq_true, if_false]

end

/-! ## The scanner (R193, R196) -/

/-- A check that fails marks its slot once. -/
theorem visit_of_newError {k : Nat} (new : s.tbl.bad.contains k = false) (race : Bool) :
    s.visit k true race = { s with tbl := { s.tbl with bad := s.tbl.bad ++ [k] } } := by
  simp only [State.visit, new, Bool.false_eq_true, if_false, if_true]

/-- What the scanner ages: an entry at its first slot that searches see, learned, settled and not static, in a table with ageing. -/
structure State.Ages (s : State) (k : Nat) (e : Entry) : Prop where
  present : mget s.tbl.slots k = some e
  first : e.second = false
  seen : s.blind k = false
  learned : e.learned = true
  settled : e.settled = true
  notStatic : e.static = false
  enabled : s.on (Reg.TBL_TABLE_LEARN_AGE_EN e.table) = true

section
variable {k : Nat} {e : Entry} (ages : s.Ages k e)
include ages

/-- A hit since the last visit starts the count of idle passes again. -/
theorem visit_of_hit (hit : e.hit = true) (race : Bool) : s.visit k false race = s.putEntry k { e with hit := race, idle := 0 } := by
  obtain ⟨present, first, seen, learned, settled, notStatic, enabled⟩ := ages
  simp only [State.visit, present, first, seen, learned, settled, notStatic, enabled, hit, Bool.or_self, Bool.not_true, Bool.not_false,
    Bool.and_false, Bool.and_self, Bool.false_and, Bool.false_eq_true, if_false, if_true]

/-- The last idle pass deletes the entry, unless a hit arrives in the same cycle. -/
theorem visit_of_lastPass (noHit : e.hit = false) (last : max 1 (s.get (Reg.TBL_TABLE_LEARN_AGE_PASSES e.table)) ≤ e.idle + 1) :
    s.visit k false false = (s.delEntry k).bump (Reg.n_age_deleted (s.tShard e.table)) := by
  obtain ⟨present, first, seen, learned, settled, notStatic, enabled⟩ := ages
  simp only [State.visit, present, first, seen, learned, settled, notStatic, enabled, noHit, last, Bool.or_self, Bool.not_true,
    Bool.not_false, Bool.and_false, Bool.and_self, Bool.false_and, Bool.false_eq_true, if_false, if_true]

end

theorem parityInvalidate_of_slot {tier i : Nat} : s.parityInvalidate tier i false = s.invalidate (slotKey tier i) :=
  if_neg Bool.false_ne_true

/-- A TCAM entry in error is removed, counted and reported with its table. -/
theorem parityInvalidate_of_tcam {tier i : Nat} {e : Tcam} (present : mget s.tbl.tcam i = some e) :
    s.parityInvalidate tier i true =
      ((s.delTcam i).bump Reg.n_lpm_parity).tblEvent EV_table_parity 0xFFFF [0, i, e.table, 0] := by
  simp only [State.parityInvalidate, present, List.cons_append, List.nil_append, if_true]

/-! ## Sweeps and the rebalance (R182, R194) -/

/-- The end of a sweep completes the flushes that wait for it, and lets held commands go on. -/
theorem sweepEnd_of_running {t : Nat} {w : Sweep} (running : s.tbl.sweeps.find? (fun w => decide (w.table = t)) = some w) :
    s.sweepEnd t =
      (w.ref.foldl (fun (v : State) (r : Ref) =>
        (v.bump (Reg.n_write_commands (v.tShard t))).complete r ST_OK (s.sweepDone w).1 []) (s.sweepDone w).2).tblResume := by
  simp only [State.sweepEnd, running]

theorem rebalanceGo_of_idle {gap : Nat} (idle : (s.set Reg.TBL_LPM_CFG_GAP_MODE gap).on Reg.TBL_LPM_STATUS_REBALANCING = false) :
    s.rebalanceGo gap =
      ((s.set Reg.TBL_LPM_CFG_GAP_MODE gap).set Reg.TBL_LPM_CFG_REBALANCE 1).set Reg.TBL_LPM_STATUS_REBALANCING 1 :=
  if_neg (ne_true_of_eq_false idle)

/-- The TCAM as a rebalance leaves it under the present GAP_MODE. -/
abbrev State.rebalanced (s : State) : SMap Tcam :=
  lpmLayout (s.get Reg.TBL_LPM_CFG_GAP_MODE) s.tbl.tcam ((List.range 161).reverse) 0

/-- A rebalance that moves no entry counts no move. -/
theorem rebalanceEnd_of_unmoved (busy : s.on Reg.TBL_LPM_STATUS_REBALANCING = true)
    (unmoved : s.rebalanced.filter (fun e => !s.tbl.tcam.contains e) = []) :
    s.rebalanceEnd =
      (((({ s with tbl := { s.tbl with tcam := s.rebalanced } } : State).set Reg.TBL_LPM_CFG_REBALANCE 0).set
        Reg.TBL_LPM_STATUS_REBALANCING 0).tblEvent EV_table_lpm_rebalanced 0xFFFF [0]).tblResume := by
  simp only [State.rebalanceEnd, busy, unmoved, List.length_nil, if_true]

/-! ## Firmware lookups (R197) -/

section
variable {th ep h t w : Nat} {key : List Nat}

/-- May the thread look a table up: does a fence of the table engine let it reach the table's word? -/
abbrev State.fwMayLookup (s : State) (th t : Nat) : Bool := s.fenceAdmits 3 6 (thrMaster th) (Reg.TBL_TABLE_CFG t % 2 ^ 20) 4 0

/-- The answer of shard `h`'s table endpoint. -/
def State.fwReply (s : State) (th ep h st count : Nat) (action : List Byte) : State :=
  s.engineReply th (0x4100 + h) ep ([st, count % 2 ^ 32, count / 2 ^ 32] ++ actionWords action)

theorem fwLookup_of_denied (denied : s.fwMayLookup th t = false) : s.fwLookup th ep h t w key = s.fwReply th ep h ST_TABLE_DENIED 0 [] := by
  simp only [State.fwLookup, denied, Bool.not_false, if_true]
  rfl

variable (admitted : s.fwMayLookup th t = true)
include admitted

theorem fwLookup_of_noTable (noTable : s.tKind t = 0) : s.fwLookup th ep h t w key = s.fwReply th ep h ST_NO_TABLE 0 [] := by
  simp only [State.fwLookup, admitted, noTable, Bool.not_true, Bool.false_eq_true, if_false, if_true]
  rfl

variable (table : s.tKind t ≠ 0)
include table

theorem fwLookup_of_otherShard (other : s.tShard t ≠ h) :
    s.fwLookup th ep h t w key = s.fwReply th ep h ST_KEY_MISMATCH 0 [] := by
  simp only [State.fwLookup, admitted, table, other, decide_false, Bool.not_true, Bool.not_false, Bool.false_eq_true, if_false, if_true]
  rfl

theorem fwLookup_of_found {f : Found} {v : State} (shard : s.tShard t = h)
    (found : s.lookup (s.tKind t) t ((key ++ List.replicate w 0).take w) = (some f, v)) :
    s.fwLookup th ep h t w key = v.fwReply th ep h ST_OK f.count f.action := by
  simp only [State.fwLookup, admitted, table, shard, found, decide_true, Bool.not_true, Bool.false_eq_true, if_false]
  rfl

end

/-! ## Split and seed registers of a shard (R174, R176) -/

/-- SPLIT of a shard takes a value in range while its area holds neither an entry nor a sealed reservation. -/
theorem splitWrite_of_die {area v : Nat} (die : area < 4) :
    s.splitWrite area v = if 128 < bits v 7 0 ∨ s.areaEmpty area true = false then s.set (Reg.TBL_SHARD_STATUS_SPLIT_REFUSED area) 1
      else s.set (Reg.TBL_SHARD_SPLIT_SPLIT area) (bits v 7 0) := by
  simp only [State.splitWrite, Nat.not_le.mpr die, Nat.min_eq_left (Nat.le_of_lt die), decide_false, Bool.false_eq_true, if_false,
    Bool.or_eq_true, decide_eq_true_eq, Bool.not_eq_true']

/-- SEED_DIE is written while its shard holds no entry. -/
theorem seedWrite_of_die {area v : Nat} :
    s.seedWrite area false v = if s.areaEmpty area false = false then s.set (Reg.TBL_SHARD_STATUS_SEED_REFUSED area) 1
      else s.wr (Reg.TBL_SHARD_SEED_DIE area) v := by
  simp only [State.seedWrite, Bool.false_and, Bool.false_eq_true, if_false, Bool.not_eq_true']

/-! ## The flow table in HBM (R201) -/

/-- A write of HBM_EN is dropped while an EM_DIE_HBM table exists; JIG_SCAN of the same word is not. -/
theorem hbmEnWrite_of_flowTable {v : Nat}
    (flowTable : (List.range 256).any (fun t => decide ((s.set Reg.TBL_CFG_JIG_SCAN (bits v 8 8)).tKind t = 2)) = true) :
    s.hbmEnWrite v = s.set Reg.TBL_CFG_JIG_SCAN (bits v 8 8) := if_pos flowTable

/-- A change of HBM_EN takes the flow table out of use, and one to 1 starts its clearing. -/
theorem hbmEnWrite_of_change {v : Nat}
    (noTable : (List.range 256).any (fun t => decide ((s.set Reg.TBL_CFG_JIG_SCAN (bits v 8 8)).tKind t = 2)) = false)
    (change : bits v 0 0 ≠ (s.set Reg.TBL_CFG_JIG_SCAN (bits v 8 8)).get Reg.TBL_CFG_HBM_EN) :
    s.hbmEnWrite v =
      { ((s.set Reg.TBL_CFG_JIG_SCAN (bits v 8 8)).set Reg.TBL_CFG_HBM_EN (bits v 0 0)).set Reg.TBL_STATUS_HBM_READY 0 with
        tbl := { (s.set Reg.TBL_CFG_JIG_SCAN (bits v 8 8)).tbl with clearing := decide (bits v 0 0 = 1) } } := by
  simp only [State.hbmEnWrite, noTable, change, set_tbl, Bool.false_eq_true, if_false]

theorem hbmCleared_of_clearing (clearing : s.tbl.clearing = true) :
    s.hbmCleared = { s.set Reg.TBL_STATUS_HBM_READY 1 with tbl := { s.tbl with clearing := false } } := if_pos clearing

/-- A register write that also changes the table engine's record. Its registers `u` are any here, so no use of it computes them. -/
theorem write_answers_withTbl {t u : State} {x : TblSt} (h : s.writable = true) (e : t = { u with tbl := x }) :
    s.write t = .next { u with tbl := x, pending := s.pending } := write_answers h e

/-! ## The shape of a table (R201) -/

/-- Do two values of TBL_TABLE_CFG give a table the same shape: KIND, SHARD, KEY_WORDS, OWNED and OWNER? -/
abbrev SameShape (old v : Nat) : Prop :=
  bits old 29 28 = bits v 29 28 ∧ bits old 25 24 = bits v 25 24 ∧ bits old 20 15 = bits v 20 15 ∧ bits old 11 0 = bits v 11 0

/-- The shape that a value of TBL_TABLE_CFG gives a table. -/
def State.setShape (s : State) (t v : Nat) : State :=
  ((((s.set (Reg.TBL_TABLE_CFG_KIND t) (bits v 29 28)).set (Reg.TBL_TABLE_CFG_SHARD t) (bits v 25 24)).set
    (Reg.TBL_TABLE_CFG_KEY_WORDS t) (bits v 20 16)).set (Reg.TBL_TABLE_CFG_OWNED t) (bits v 15 15)).set
    (Reg.TBL_TABLE_CFG_OWNER t) (bits v 11 0)

/-- Every write sets ENABLE; another shape is refused while the table was enabled or holds an entry. -/
theorem tableCfgWrite_eq (s : State) (t v : Nat) :
    s.tableCfgWrite t v =
      let old := s.rd (Reg.TBL_TABLE_CFG t)
      let u := s.set (Reg.TBL_TABLE_CFG_ENABLE t) (bits v 31 31)
      if SameShape old v then u
      else if bit old 31 = true ∨ s.get (Reg.TBL_TABLE_ENTRIES_ENTRIES t) ≠ 0 then u.set (Reg.TBL_TABLE_STATUS_CFG_REFUSED t) 1
      else u.setShape t v := by
  simp only [State.tableCfgWrite, State.setShape, Bool.and_eq_true, Bool.or_eq_true, decide_eq_true_eq, Bool.not_eq_true',
    decide_eq_false_iff_not, and_assoc]

end

/-! ## The obligation -/

/-- Settles O36: a learn by what its key's search finds, a visit by the slot's check and the entry's age, sweeps and rebalances by what
runs, a firmware lookup by its first refusal, and a register write by whether its area or table is empty. -/
theorem tableUpkeep : Obligations.TableUpkeep := by
  unfold Obligations.TableUpkeep
  refine ⟨?learns, ?scans, ?sweeps, ?rebalances, ?scrubs, ?lookups, ?areas, ?flowTable, ?shapes⟩
  case learns =>
    intro h x t s running queue u
    have answers {v : State} (e : u.learn h x = v) : exec (.learnCommit h) s = .next { v with pending := s.pending } :=
      run_answers running ((learnNext_of_queue queue).trans e)
    refine ⟨?sweeping, ?found, ?new⟩
    case sweeping => exact fun sweeping => answers (learn_of_sweeping sweeping)
    case found =>
      exact fun k e still found => ⟨fun ofCommand => answers (learn_of_static still found ofCommand),
        fun learned samePort => answers (learn_of_redundant still found learned samePort)⟩
    case new => exact fun k still absent noneBad dieOnly place => answers (learn_of_new still absent noneBad dieOnly place)
  case scans =>
    intro tier i race s running k
    refine ⟨?error, ?ages, ?slot, ?tcam⟩
    case error => exact fun new => run_answers running (visit_of_newError new race)
    case ages =>
      intro e present first seen learned settled notStatic enabled
      have ages : s.Ages k e := ⟨present, first, seen, learned, settled, notStatic, enabled⟩
      exact ⟨fun hit => run_answers running (visit_of_hit ages hit race),
        fun noHit last => run_answers running (visit_of_lastPass ages noHit last)⟩
    case slot => exact run_answers running parityInvalidate_of_slot
    case tcam => exact fun e present => run_answers running (parityInvalidate_of_tcam present)
  case sweeps => exact fun t w s running sweep => run_answers running (sweepEnd_of_running sweep)
  case rebalances =>
    exact fun gap s => ⟨fun writable idle => write_answers writable (rebalanceGo_of_idle idle),
      fun running busy unmoved => run_answers running (rebalanceEnd_of_unmoved busy unmoved)⟩
  case scrubs => exact fun bad s running => run_answers running rfl
  case lookups =>
    intro th ep h t w key s running reply k ok
    refine ⟨?denied, ?noTable, ?otherShard, ?found⟩
    case denied => exact fun denied => run_answers running (fwLookup_of_denied denied)
    case noTable => exact fun admitted noTable => run_answers running (fwLookup_of_noTable admitted noTable)
    case otherShard => exact fun admitted table other => run_answers running (fwLookup_of_otherShard admitted table other)
    case found =>
      exact fun f v admitted table shard found => run_answers running (fwLookup_of_found admitted table shard found)
  case areas =>
    intro area v s writable die
    refine ⟨?split, ?splitRefused, ?seed, ?seedRefused⟩
    case split =>
      intro inRange empty
      have allowed : ¬(128 < bits v 7 0 ∨ s.areaEmpty area true = false) :=
        not_or_intro (Nat.not_lt.mpr inRange) (ne_false_of_eq_true empty)
      exact write_answers writable ((splitWrite_of_die die).trans (if_neg allowed))
    case splitRefused => exact fun refused => write_answers writable ((splitWrite_of_die die).trans (if_pos refused))
    case seed => exact fun empty => write_answers writable (seedWrite_of_die.trans (if_neg (ne_false_of_eq_true empty)))
    case seedRefused => exact fun used => write_answers writable (seedWrite_of_die.trans (if_pos used))
  case flowTable =>
    exact fun v s => ⟨fun writable flowTable => write_answers writable (hbmEnWrite_of_flowTable flowTable),
      fun writable noTable change => write_answers_withTbl writable (hbmEnWrite_of_change noTable change),
      fun running clearing => run_answers running (hbmCleared_of_clearing clearing)⟩
  case shapes =>
    intro t v s writable old same u
    refine ⟨?same, ?refused, ?changed⟩
    case same => exact fun same => write_answers writable ((tableCfgWrite_eq s t v).trans (if_pos same))
    case refused =>
      exact fun other busy => write_answers writable ((tableCfgWrite_eq s t v).trans ((if_neg other).trans (if_pos busy)))
    case changed =>
      intro other disabled empty
      have free : ¬(bit old 31 = true ∨ s.get (Reg.TBL_TABLE_ENTRIES_ENTRIES t) ≠ 0) :=
        not_or_intro (ne_true_of_eq_false disabled) (not_not_intro empty)
      exact write_answers writable ((tableCfgWrite_eq s t v).trans ((if_neg other).trans (if_neg free)))

end Sys2Proof.Machine
end

section
/-! PROOFS. Firmware's operations on quires, the copy of a moved quire, and the registers of inspection and headroom: one equation per
case of each function, then the obligation. -/

namespace Sys2Proof.Machine

section
variable {s : State} {t rep : Nat}

/-! ## The check of the pointer (R212) -/

/-- A thread's operation on the quire of pointer `p`: a pointer that fails a check is counted, reported and answered, and there is no
effect. -/
def State.checkedQuire (s : State) (t rep p : Nat) (effect : State) : State :=
  if s.ptrCheck (thrMaster t) p ≠ 0 then s.cellBad t rep p (s.ptrCheck (thrMaster t) p) else effect

/-- The five operations that name a quire check its pointer first. -/
theorem exec_checkedQuire {p off len : Nat} {data : List Nat} {i : Instr} (s : State)
    (operation : i ∈ [Instr.cellHold t rep p, .cellRelease t rep p, .cellRead t rep p off len, .cellWrite t rep p off len data,
      .cellStat t rep p]) :
    ∃ effect, exec i s = s.run (s.checkedQuire t rep p effect) := by
  simp only [List.mem_cons, List.not_mem_nil, or_false] at operation
  rcases operation with rfl | rfl | rfl | rfl | rfl <;> exact ⟨_, rfl⟩

/-! ## Quires made (R204, R215, R220) -/

theorem allocDie_of_refused {m arrival : Nat} {data : List Byte} (refused : s.dieGrant m (quireLeaves data.length) = false) :
    s.allocDie m arrival data = none := if_neg (ne_true_of_eq_false refused)

section
variable {len : Nat}

theorem opCellAlloc_of_dieNone (none : s.allocDie (thrMaster t) s.now (List.replicate len 0) = none) :
    s.opCellAlloc t rep 0 len = s.cellReply t rep ST_NO_LEAF 0 [] := by
  simp only [State.opCellAlloc, if_true, none]

theorem opCellAlloc_of_dieQuire {p : Nat} {v : State}
    (made : s.allocDie (thrMaster t) s.now (List.replicate len 0) = some (p, v)) :
    s.opCellAlloc t rep 0 len = v.cellReply t rep ST_OK p [] := by
  simp only [State.opCellAlloc, if_true, made]

theorem opCellAlloc_of_hbmNone (none : s.allocHbm (thrMaster t) s.now (List.replicate len 0) false = none) :
    s.opCellAlloc t rep 1 len = s.cellReply t rep ST_NO_LEAF 0 [] := by
  simp only [State.opCellAlloc, Nat.one_ne_zero, if_false, none]

theorem opCellAlloc_of_hbmQuire {p : Nat} {v : State}
    (made : s.allocHbm (thrMaster t) s.now (List.replicate len 0) false = some (p, v)) :
    s.opCellAlloc t rep 1 len = v.cellReply t rep ST_OK p [] := by
  simp only [State.opCellAlloc, Nat.one_ne_zero, if_false, made]

end

/-! ## Holders of a quire (R210, R211) -/

/-- A count of holders beyond 255 leaves the device time alone. -/
theorem now_bump_refcntSaturated (s : State) : (s.bump Reg.n_refcnt_saturated).now = s.now :=
  rd64_bump_other s _ (by decide) (by decide) (by decide)

section
variable {p : Nat} {q : Quire} (present : s.quire p = some q)
include present

theorem hold_of_room (m : Nat) (room : q.refcnt < 255) : s.hold p m = (true, s.setQuire p { q with refcnt := q.refcnt + 1 }) := by
  simp only [State.hold, present, room, if_true]

/-- Within a millisecond of the last report a further refusal is only counted. -/
theorem hold_of_recentlyFull {x : Nat} (m : Nat) (full : 255 ≤ q.refcnt) (reported : s.cell.satAt = some x)
    (recent : s.now - x < 1000000) : s.hold p m = (false, s.bump Reg.n_refcnt_saturated) := by
  simp only [State.hold, present, Nat.not_lt.mpr full, bump_cell, reported, now_bump_refcntSaturated, Nat.not_le.mpr recent,
    decide_false, Bool.false_eq_true, if_false]

theorem release_of_shared (shared : 1 < q.refcnt) : s.release p = s.setQuire p { q with refcnt := q.refcnt - 1 } := by
  simp only [State.release, present, Nat.not_le.mpr shared, if_false]

theorem release_of_last (last : q.refcnt ≤ 1) : s.release p = s.freeQuire p := by
  simp only [State.release, present, last, if_true]

/-! ## The copy of a moved quire (R218) -/

theorem opSpillWritten_of_present : s.opSpillWritten p = s.setQuire p { q with copying := false } := by
  simp only [State.opSpillWritten, present]

end

/-! ## Operations on a good pointer (R210–R213, R220) -/

/-- The quire after a write of `len` bytes at `off`: the bytes behind its LENGTH stay in the last leaf. -/
def Quire.overwritten (q : Quire) (off len : Nat) (data : List Nat) : Quire :=
  let all := overlay (slice (q.data ++ q.tail) 0 (64 * dataLeaves q.data.length)) off (slice ((data.map (leBytes 4)).flatten) 0 len)
  { q with data := all.take q.data.length, tail := all.drop q.data.length }

section
variable {p : Nat} (good : s.ptrCheck (thrMaster t) p = 0)
include good

theorem opCellHold_of_hold {ok : Bool} {v : State} (hold : s.hold p (thrMaster t) = (ok, v)) :
    s.opCellHold t rep p = v.cellReply t rep (if ok then ST_OK else ST_REFCNT_FULL) p [] := by
  simp only [State.opCellHold, good, hold, ne_eq, not_true, if_false]

theorem opCellRelease_of_good : s.opCellRelease t rep p = (s.release p).cellReply t rep ST_OK p [] :=
  if_neg (not_not_intro good)

variable {q : Quire} (present : s.quire p = some q)
include present

theorem opCellStat_of_good : s.opCellStat t rep p = s.cellReply t rep ST_OK p (wordsOf ((headLeaf q).take 16)) := by
  simp only [State.opCellStat, good, present, ne_eq, not_true, if_false]

variable {off len : Nat}

/-- A read reaches the quire's bytes up to its LENGTH. -/
theorem opCellRead_of_good :
    s.opCellRead t rep p off len =
      if spanBad off len q.data.length ≠ 0 then s.cellReply t rep (spanBad off len q.data.length) p []
      else s.cellReply t rep ST_OK p (wordsOf (slice q.data off len)) := by
  simp only [State.opCellRead, good, present, ne_eq, not_true, if_false]

/-- A write reaches the whole of the quire's data leaves, and is refused while the quire is shared. -/
theorem opCellWrite_of_good {data : List Nat} :
    s.opCellWrite t rep p off len data =
      if spanBad off len (64 * dataLeaves q.data.length) ≠ 0 then
        s.cellReply t rep (spanBad off len (64 * dataLeaves q.data.length)) p []
      else if 1 < q.refcnt then (s.bump Reg.n_shared_write_refused).cellReply t rep ST_QUIRE_SHARED p []
      else (s.setQuire p (q.overwritten off len data)).cellReply t rep ST_OK p [] := by
  simp only [State.opCellWrite, Quire.overwritten, good, present, ne_eq, not_true, if_false]

end

/-! ## Inspection and headroom (R224) -/

/-- The 16 inspection registers hold the bytes of a leaf. -/
def State.showLeaf (s : State) (l : List Byte) : State :=
  (List.range 16).foldl (fun (v : State) i => v.wr (Reg.CELL_INSPECT_DATA i) (leAt l (4 * i) 4)) s

variable {v : Nat}

theorem opInspect_of_leaf {l : List Byte} (good : (s.wr Reg.CELL_INSPECT_PTR v).ptrForm v = 0)
    (leaf : (s.wr Reg.CELL_INSPECT_PTR v).leafBytes v = some l) :
    s.opInspect v = (s.wr Reg.CELL_INSPECT_PTR v).showLeaf l := by
  simp only [State.opInspect, State.showLeaf, good, leaf, ne_eq, not_true, if_false, Option.getD_some]

theorem opInspect_of_badPointer (bad : (s.wr Reg.CELL_INSPECT_PTR v).ptrForm v ≠ 0) :
    s.opInspect v =
      ((s.wr Reg.CELL_INSPECT_PTR v).badPointer 0 v ((s.wr Reg.CELL_INSPECT_PTR v).ptrForm v)).showLeaf [] := by
  simp only [State.opInspect, State.showLeaf, bad, ne_eq, not_false_eq_true, if_true]

theorem opHeadroom_of_inRange (least : 16384 ≤ v) (most : v ≤ 524288) (room : v + s.sealedReserve ≤ 2097152) :
    s.opHeadroom v = (s.set Reg.CELL_HEADROOM_HEADROOM v).cellSync := by
  have whole : v % 2 ^ 22 = v := Nat.mod_eq_of_lt (by omega)
  simp only [State.opHeadroom, whole, Nat.not_lt.mpr least, Nat.not_lt.mpr most, Nat.not_lt.mpr room, decide_false, Bool.or_self,
    Bool.false_eq_true, if_false]

theorem opHeadroom_of_outOfRange (outside : v < 16384 ∨ 524288 < v ∧ v < 2 ^ 22) :
    s.opHeadroom v = s.set Reg.CELL_STATUS_HEADROOM_REFUSED 1 := by
  have whole : v % 2 ^ 22 = v := Nat.mod_eq_of_lt (by omega)
  refine if_pos ?_
  simp only [whole, Bool.or_eq_true, decide_eq_true_eq]
  omega

end

/-! ## The obligation -/

/-- Settles O37: an operation on a quire by the first check that its pointer, its bytes or its holders fail, a new quire by what its tier
grants, an inspection by the form of its pointer, and a headroom by its range. -/
theorem cellCommands : Obligations.CellCommands := by
  unfold Obligations.CellCommands
  refine ⟨?badPointer, ?alloc, ?goodPointer, ?copied, ?registers⟩
  case badPointer =>
    intro t rep p off len data i s running bad operation
    obtain ⟨effect, checked⟩ := exec_checkedQuire s operation
    exact checked.trans (run_answers running (if_pos bad))
  case alloc =>
    intro t rep len s running
    refine ⟨?dieNone, ?dieQuire, ?hbmQuire, ?hbmNone⟩
    case dieNone =>
      intro refused
      have none : s.allocDie (thrMaster t) s.now (List.replicate len 0) = none :=
        allocDie_of_refused (by rwa [List.length_replicate])
      exact run_answers running (opCellAlloc_of_dieNone none)
    case dieQuire => exact fun p v made => run_answers running (opCellAlloc_of_dieQuire made)
    case hbmQuire => exact fun p v made => run_answers running (opCellAlloc_of_hbmQuire made)
    case hbmNone => exact fun none => run_answers running (opCellAlloc_of_hbmNone none)
  case goodPointer =>
    intro t rep p q s running good present
    have holds {ok : Bool} {v : State} (hold : s.hold p (thrMaster t) = (ok, v)) :
        exec (.cellHold t rep p) s =
          .next { v.cellReply t rep (if ok then ST_OK else ST_REFCNT_FULL) p [] with pending := s.pending } :=
      run_answers running (opCellHold_of_hold good hold)
    have releases {v : State} (release : s.release p = v) :
        exec (.cellRelease t rep p) s = .next { v.cellReply t rep ST_OK p [] with pending := s.pending } :=
      run_answers running (release ▸ opCellRelease_of_good good)
    have reads {off len : Nat} := opCellRead_of_good (rep := rep) (off := off) (len := len) good present
    have writes {off len : Nat} {data : List Nat} :=
      opCellWrite_of_good (rep := rep) (off := off) (len := len) (data := data) good present
    refine ⟨?held, ?full, ?shared, ?last, ?stat, ?read, ?readBad, ?writeShared, ?write, ?writeBad⟩
    case held => exact fun room => holds (hold_of_room present _ room)
    case full => exact fun x full reported recent => holds (hold_of_recentlyFull present _ full reported recent)
    case shared => exact fun shared => releases (release_of_shared present shared)
    case last => exact fun last => releases (release_of_last present last)
    case stat => exact run_answers running (opCellStat_of_good good present)
    case read => exact fun off len inside => run_answers running (reads.trans (if_neg (not_not_intro inside)))
    case readBad => exact fun off len outside => run_answers running (reads.trans (if_pos outside))
    case writeShared =>
      exact fun off len data inside shared =>
        run_answers running (writes.trans ((if_neg (not_not_intro inside)).trans (if_pos shared)))
    case write =>
      exact fun off len data inside alone =>
        run_answers running (writes.trans ((if_neg (not_not_intro inside)).trans (if_neg (Nat.not_lt.mpr alone))))
    case writeBad => exact fun off len data outside => run_answers running (writes.trans (if_pos outside))
  case copied => exact fun p q s running present => run_answers running (opSpillWritten_of_present present)
  case registers =>
    intro v s writable u read
    refine ⟨?leaf, ?badPointer, ?inRange, ?outOfRange⟩
    case leaf => exact fun l good leaf => write_answers writable (opInspect_of_leaf good leaf)
    case badPointer => exact fun bad => write_answers writable (opInspect_of_badPointer bad)
    case inRange => exact fun least most room => write_answers writable (opHeadroom_of_inRange least most room)
    case outOfRange => exact fun outside => write_answers writable (opHeadroom_of_outOfRange outside)

end Sys2Proof.Machine
end

section
/-! PROOFS. The traffic manager's own work: calendar slots, samples, a port's next frame and deliveries to clusters. One equation per
case of each function, then the obligation. -/

namespace Sys2Proof.Machine

section
variable {s : State}

/-! ## Calendar slots (R238) -/

section
variable {kind index t : Nat} (waits : (s.tmNode kind index).slot = some t)
include waits

/-- A node whose next eligible time has come waits no more. -/
theorem slotReached_of_due (due : (s.tmNode kind index).nextAt / 128 ≤ t) :
    s.slotReached kind index = s.setTmNode kind index { s.tmNode kind index with slot := none } := by
  simp only [State.slotReached, waits, due, if_true]

/-- One whose time has moved within the horizon is placed at the slot of that time. -/
theorem slotReached_of_later (later : t < (s.tmNode kind index).nextAt / 128)
    (within : (s.tmNode kind index).nextAt / 128 < t + 65536) :
    s.slotReached kind index =
      s.setTmNode kind index { s.tmNode kind index with slot := some ((s.tmNode kind index).nextAt / 128) } := by
  simp only [State.slotReached, waits, Nat.not_le.mpr later, Nat.not_le.mpr within, if_false]

/-- One whose time lies beyond the horizon is placed at its last slot, and the lap is counted. -/
theorem slotReached_of_beyond (beyond : t + 65536 ≤ (s.tmNode kind index).nextAt / 128) :
    s.slotReached kind index =
      (s.setTmNode kind index { s.tmNode kind index with slot := some (t + 65535) }).bump Reg.n_cal_lap := by
  have later : ¬(s.tmNode kind index).nextAt / 128 ≤ t := by omega
  simp only [State.slotReached, waits, later, beyond, if_false, if_true]

end

/-! ## Samples of a queue (R243) -/

/-- The bound in microseconds beyond which a queue's head delay is reported; 0 reports none. -/
abbrev State.delayAlarm (s : State) (q : Nat) : Nat := bits (s.tmWord 0 q 5) 15 0

/-- A queue with its greatest depth and delay after a sample. -/
abbrev State.sampledQueue (s : State) (q : Nat) : TmQueue :=
  { s.tmQueue q with
    depthMax := max (s.tmQueue q).depthMax (s.tmQueue q).frames.length
    delayMax := max (s.tmQueue q).delayMax (s.headDelay q) }

section
variable {q : Nat}

theorem sampleQueue_of_idle (idle : s.backlogged q = false) (notPaused : s.paused q = false) : s.sampleQueue q = s :=
  if_neg (by simp only [idle, notPaused, Bool.or_self, Bool.false_eq_true, not_false_eq_true])

theorem sampleQueue_of_noAlarm (backlogged : s.backlogged q = true)
    (noAlarm : s.delayAlarm q = 0 ∨ s.headDelay q ≤ s.delayAlarm q * 1000) :
    s.sampleQueue q = s.setTmQueue q (s.sampledQueue q) := by
  have quiet : ¬(0 < s.delayAlarm q ∧ s.delayAlarm q * 1000 < s.headDelay q) := by omega
  simp only [State.sampleQueue, backlogged, Bool.true_or, if_true]
  exact if_neg fun ⟨enabled, late, _⟩ => quiet ⟨enabled, late⟩

/-- The first delay beyond the bound is reported at once. -/
theorem sampleQueue_of_firstAlarm (backlogged : s.backlogged q = true) (enabled : 0 < s.delayAlarm q)
    (late : s.delayAlarm q * 1000 < s.headDelay q) (first : (s.tmQueue q).alarm = none) :
    s.sampleQueue q =
      (s.setTmQueue q { s.sampledQueue q with alarm := some s.now }).raise EV_tm_queue_delay (q % 2 ^ 16)
        [q, s.headDelay q, (s.tmQueue q).frames.length] := by
  simp only [State.sampleQueue, backlogged, enabled, late, first, Bool.true_or, and_self, if_true]

end

/-! ## A port's next frame (R218, R234–R236) -/

section
variable {p : Nat}

theorem portNext_of_blocked (blocked : s.portTakes p = false) : s.portNext p = s :=
  if_pos (by simp only [blocked, Bool.not_false, Bool.or_true])

theorem portNext_of_noQueue (noQueue : s.selectQueue p false = none) : s.portNext p = s := by
  simp only [State.portNext, noQueue, ite_self]

/-- Is this a network port whose link is down? -/
def State.portLost (s : State) (p : Nat) : Bool := decide (p < 512) && !s.portUp p

theorem portLost_of_down (network : p < 512) (down : s.portUp p = false) : s.portLost p = true := by
  simp only [State.portLost, network, down, decide_true, Bool.not_false, Bool.and_self]

theorem portLost_of_live (live : 512 ≤ p ∨ s.portUp p = true) : s.portLost p = false := by
  rcases live with host | up
  · simp only [State.portLost, Nat.not_lt.mpr host, decide_false, Bool.false_and]
  · simp only [State.portLost, up, Bool.not_true, Bool.and_false]

/-- The port takes a frame, frame `h` without a drawer is at the head of the queue it selects, and `x` is that frame's quire. -/
structure State.PortHead (s : State) (p q : Nat) (h : Held) (x : Quire) : Prop where
  port : p < 576
  takes : s.portTakes p = true
  selected : ∃ v, s.selectQueue p false = some (q, v)
  head : (s.tmQueue q).frames.head? = some h
  present : s.quire h.frame.quire = some x
  noDrawer : h.frame.drawer = 0

section
variable {q : Nat} {h : Held} {x : Quire} (next : s.PortHead p q h x)
include next

/-- A port waits for the copy of a quire that moves to HBM. -/
theorem portNext_of_copying (copying : x.copying = true) : s.portNext p = s := by
  obtain ⟨port, takes, ⟨v, selected⟩, head, present, noDrawer⟩ := next
  simp only [State.portNext, Nat.not_le.mpr port, takes, selected, head, present, copying, decide_false, Bool.not_true, Bool.or_self,
    Bool.false_eq_true, if_false, if_true, Option.map_some, Option.getD_some]

/-- The frame that leaves is dropped and counted at a lost link, which debits no bucket (log entry 74); otherwise its quire's poison
decides. A frame without a drawer is never stale. -/
theorem portNext_of_copied {r : Nat} {u b : State} (copied : x.copying = false)
    (debited : s.selectQueue p (!s.portLost p) = some (r, u)) (leaves : u.dequeue q = some (h, b)) :
    s.portNext p =
      (if s.portLost p = true then (b.bump Reg.n_port_down_drop).unsent h.frame
        else if x.poison = true then b.unsent h.frame
        else b.depart p q h.frame).retryAll := by
  obtain ⟨port, takes, ⟨v, selected⟩, head, present, noDrawer⟩ := next
  rw [State.portLost] at debited ⊢
  simp only [State.portNext, Nat.not_le.mpr port, takes, selected, head, present, noDrawer, copied, debited, leaves, Nat.lt_irrefl,
    decide_false, Bool.not_true, Bool.or_self, Bool.false_and, Bool.not_false, Bool.true_and, Bool.false_eq_true, if_false,
    Option.map_some, Option.getD_some]

theorem portNext_of_down {u b : State} (copied : x.copying = false) (lost : s.portLost p = true)
    (selected : s.selectQueue p false = some (q, u)) (leaves : u.dequeue q = some (h, b)) :
    s.portNext p = ((b.bump Reg.n_port_down_drop).unsent h.frame).retryAll := by
  rw [portNext_of_copied next copied (by rwa [lost]) leaves, if_pos lost]

theorem portNext_of_live {r : Nat} {u b : State} (copied : x.copying = false) (live : s.portLost p = false)
    (debited : s.selectQueue p true = some (r, u)) (leaves : u.dequeue q = some (h, b)) :
    s.portNext p = (if x.poison = true then b.unsent h.frame else b.depart p q h.frame).retryAll := by
  rw [portNext_of_copied next copied (by rwa [live]) leaves, if_neg (ne_true_of_eq_false live)]

end

end

/-! ## Deliveries to clusters (R226, R326) -/

/-- The owner of a frame's quire, which stands as the sender of its message. -/
abbrev State.frameOwner (s : State) (f : Frame) : Nat := ((s.quire f.quire).map (·.owner)).getD 0

section
variable {n e : Nat} {f : Frame} {rest : List (Frame × Nat)}
  (next : s.coreHead (mgetD s.tm.coreQ n []) [] [] = some (f, e, rest)) (awake : s.domState (32 + n) < 2) (noDrawer : f.drawer = 0)
include next awake noDrawer

/-- An endpoint that is disabled or takes no frames refuses the delivery: the frame is released, counted and reported. -/
theorem opCoreDelivery_of_refused
    (refused : (s.coreLeave n rest).epOn e = false ∨ bit ((s.coreLeave n rest).epAccept e) 3 = false) :
    s.opCoreDelivery n =
      let u := s.coreLeave n rest
      ((u.release f.quire).bump (Reg.n_deliver_drop n)).coreEvent (0x20000 + e) EV_core_deliver_drop n [e, u.frameOwner f] := by
  have refuses : (!(s.coreLeave n rest).epOn e || !bit ((s.coreLeave n rest).epAccept e) 3) = true := by
    rcases refused with off | closed
    · rw [off]; rfl
    · rw [closed, Bool.not_false, Bool.or_true]
  rw [State.coreLeave] at refuses
  simp only [State.opCoreDelivery, State.coreLeave, State.frameOwner, next, Nat.not_le.mpr awake, noDrawer, refuses, ne_eq, not_true,
    false_and, if_false, if_true]

theorem opCoreDelivery_of_accepted (enabled : (s.coreLeave n rest).epOn e = true)
    (accepts : bit ((s.coreLeave n rest).epAccept e) 3 = true) :
    s.opCoreDelivery n =
      let u := s.coreLeave n rest
      u.send { id := 0, src := u.frameOwner f, dest := e, reply := 0xFFFF, words := u.coreWords f } := by
  rw [State.coreLeave] at enabled accepts
  simp only [State.opCoreDelivery, State.coreLeave, State.frameOwner, next, Nat.not_le.mpr awake, noDrawer, enabled, accepts, ne_eq,
    not_true, false_and, Bool.not_true, Bool.or_self, Bool.false_eq_true, if_false]

end

end

/-! ## The obligation -/

/-- Settles O39: a calendar slot by the node's next eligible time, a sample by the queue's backlog and head delay, a port's next frame by
its quire and the port's link, and a delivery by what its endpoint accepts. -/
theorem trafficWork : Obligations.TrafficWork := by
  unfold Obligations.TrafficWork
  refine ⟨?slots, ?samples, ?still, ?frames, ?deliveries⟩
  case slots =>
    intro kind index t s running waits nd e
    exact ⟨fun due => run_answers running (slotReached_of_due waits due),
      fun later within => run_answers running (slotReached_of_later waits later within),
      fun beyond => run_answers running (slotReached_of_beyond waits beyond)⟩
  case samples =>
    intro q s running x y alarm
    exact ⟨fun idle notPaused => run_answers running (sampleQueue_of_idle idle notPaused),
      fun backlogged noAlarm => run_answers running (sampleQueue_of_noAlarm backlogged noAlarm),
      fun backlogged enabled late first => run_answers running (sampleQueue_of_firstAlarm backlogged enabled late first)⟩
  case still =>
    intro p s running waits
    rcases waits with blocked | noQueue
    · exact run_answers running (portNext_of_blocked blocked)
    · exact run_answers running (portNext_of_noQueue noQueue)
  case frames =>
    intro p q h t x s v running port takes selected frames present noDrawer
    have next : s.PortHead p q h x := ⟨port, takes, ⟨v, selected⟩, by rw [frames, List.head?_cons], present, noDrawer⟩
    refine ⟨?copying, ?down, ?live⟩
    case copying => exact fun copying => run_answers running (portNext_of_copying next copying)
    case down =>
      intro u w copied _ network down leaves dropped
      have e := portNext_of_down next copied (portLost_of_down network down) selected leaves
      exact run_answers running (dropped ▸ e)
    case live =>
      intro r u b copied live debited leaves
      have e := portNext_of_live next copied (portLost_of_live live) debited leaves
      exact ⟨fun poisoned => run_answers running (by rw [e, if_pos poisoned]),
        fun clean => run_answers running (by rw [e, if_neg (ne_true_of_eq_false clean)])⟩
  case deliveries =>
    intro n e f rest s running next awake noDrawer u owner
    exact ⟨fun refused => run_answers running (opCoreDelivery_of_refused next awake noDrawer refused),
      fun enabled accepts => run_answers running (opCoreDelivery_of_accepted next awake noDrawer enabled accepts)⟩

end Sys2Proof.Machine
end

section
/-! PROOFS. Commits of the traffic manager's objects, reads of objects into the stage, and writes of port modes: one equation per case of
each function, then the obligation. -/

namespace Sys2Proof.Machine

section
variable {s : State} {kind index : Nat}

/-! ## Commits (R231, R232, R237, R239, R242, R246) -/

/-- The commands that commit an object without READ, each with the KIND and FLUSH that its write of TM_COMMIT names. -/
abbrev tmCommitCommands (index : Nat) (flush : Bool) : List (Instr × Nat × Bool) :=
  [(.tmCommitQueue index flush, 0, flush), (.tmCommitSubscriber index, 1, false), (.tmCommitGroup index, 2, false),
    (.tmCommitShaper index, 3, false), (.tmCommitPolicer index, 4, false), (.tmCommitReplList index, 5, false)]

/-- Each is a write whose effect is the commit of its object. -/
theorem exec_of_tmCommitCommand {i : Instr} {flush : Bool} (command : (i, kind, flush) ∈ tmCommitCommands index flush) (s : State) :
    exec i s = s.write (s.tmCommit kind index flush) := by
  simp only [List.mem_cons, List.not_mem_nil, Prod.mk.injEq, or_false] at command
  rcases command with
    ⟨rfl, rfl, -⟩ | ⟨rfl, rfl, rfl⟩ | ⟨rfl, rfl, rfl⟩ | ⟨rfl, rfl, rfl⟩ | ⟨rfl, rfl, rfl⟩ | ⟨rfl, rfl, rfl⟩ <;> rfl

/-- Only a queue's commit flushes. -/
theorem flush_eq_false_of_tmCommitCommand {i : Instr} {flush : Bool} (command : (i, kind, flush) ∈ tmCommitCommands index flush)
    (notQueue : kind ≠ 0) : flush = false := by
  simp only [List.mem_cons, List.not_mem_nil, Prod.mk.injEq, or_false] at command
  rcases command with ⟨-, queue, -⟩ | ⟨-, -, noFlush⟩ | ⟨-, -, noFlush⟩ | ⟨-, -, noFlush⟩ | ⟨-, -, noFlush⟩ | ⟨-, -, noFlush⟩
  · exact absurd queue notQueue
  all_goals exact noFlush

/-- TM_COMMIT after a commit without READ: the object is named, and REASON tells the outcome. -/
abbrev State.tmJudged (s : State) (kind index : Nat) (flush : Bool) : State :=
  (s.tmName kind index flush).set Reg.TM_COMMIT_REASON ((s.tmName kind index flush).tmReason kind index)

theorem tmCommit_of_refused {flush : Bool} (refused : (s.tmName kind index flush).tmReason kind index ≠ 0) :
    s.tmCommit kind index flush = (s.tmJudged kind index flush).set Reg.TM_COMMIT_REFUSED 1 := if_pos refused

section
variable {flush : Bool} (accepted : (s.tmName kind index flush).tmReason kind index = 0)
include accepted

theorem tmCommit_of_accepted :
    s.tmCommit kind index flush =
      if flush && decide (kind = 0) then ((s.tmJudged kind index flush).tmApply kind index).flushQueue index
      else (s.tmJudged kind index flush).tmApply kind index := if_neg (not_not_intro accepted)

theorem tmCommit_of_noFlush (noFlush : flush = false) :
    s.tmCommit kind index flush = (s.tmJudged kind index flush).tmApply kind index := by
  subst noFlush
  exact (tmCommit_of_accepted accepted).trans (if_neg Bool.false_ne_true)

theorem tmCommit_of_flush (queue : kind = 0) (flushed : flush = true) :
    s.tmCommit kind index flush = ((s.tmJudged kind index flush).tmApply 0 index).flushQueue index := by
  subst queue flushed
  exact (tmCommit_of_accepted accepted).trans (if_pos rfl)

end

/-! ## What an object takes from the stage (R231, R232, R237) -/

/-- An object with other configuration words. -/
abbrev State.setTmWords (s : State) (kind index : Nat) (ws : List Nat) : State :=
  { s with tm := { s.tm with objs := mput s.tm.objs (tmKey kind index) ws } }

/-- A register write that also gives an object its words. Its registers `u` are any here, so no use of it computes them. -/
theorem write_answers_withTmWords {t u : State} {ws : List Nat} (h : s.writable = true) (e : t = u.setTmWords kind index ws) :
    s.write t = .next { u with
      tm := { u.tm with objs := mput u.tm.objs (tmKey kind index) ws }
      pending := s.pending } := write_answers h e

/-- An object outside the scheduling tree takes its words; no ring, pace or port depends on it. -/
theorem tmApply_of_noNode (noNode : 2 < kind) :
    s.tmApply kind index =
      let w := s.setTmWords kind index ((List.range (tmConfWords kind)).map s.stage)
      if kind = 3 ∨ kind = 4 then w.setBucket kind index (w.fullBucket kind index) else w := by
  have notQueue : kind ≠ 0 := by omega
  have notGroup : kind ≠ 2 := by omega
  simp only [State.tmApply, State.unnameRing, notQueue, notGroup, Nat.not_le.mpr noNode, false_and, if_false]

/-- The buckets of a shaper or policer start full at its new sizes. -/
theorem tmApply_of_bucketed (bucketed : kind = 3 ∨ kind = 4) :
    s.tmApply kind index =
      let w := s.setTmWords kind index ((List.range 4).map s.stage ++ if kind = 4 then [s.stage 4] else [])
      w.setBucket kind index (w.fullBucket kind index) := by
  have words : (List.range (tmConfWords kind)).map s.stage = (List.range 4).map s.stage ++ if kind = 4 then [s.stage 4] else [] := by
    rcases bucketed with rfl | rfl <;> rfl
  rw [tmApply_of_noNode (by omega), words]
  exact if_pos bucketed

theorem tmApply_of_replList : s.tmApply 5 index = s.setTmWords 5 index ((List.range 17).map s.stage) :=
  (tmApply_of_noNode (by decide)).trans (if_neg (by decide))

/-! ## Commits with READ (R246) -/

/-- The stage after a READ: the object's configuration words, then its state words. A READ succeeds, so REASON is 0 (log entry 73). -/
abbrev State.tmStaged (s : State) (kind index : Nat) (clear : Bool) : State :=
  (((List.range (tmConfWords kind)).foldl (fun (v : State) (j : Nat) => v.wr (Reg.TM_STAGE j) (v.tmWord kind index j))
    (s.tmNameRead kind index clear)).stageState kind index).set Reg.TM_COMMIT_REASON 0

section
variable {clear : Bool}

theorem tmRead_of_absent (absent : tmCount kind ≤ index) :
    s.tmRead kind index clear =
      ((s.tmNameRead kind index clear).set Reg.TM_COMMIT_REASON 1).set Reg.TM_COMMIT_REFUSED 1 := if_pos absent

theorem tmRead_of_present (present : index < tmCount kind) :
    s.tmRead kind index clear =
      let v := s.tmStaged kind index clear
      if clear && decide (kind = 0) then v.setTmQueue index { v.tmQueue index with depthMax := 0, delayMax := 0 } else v :=
  if_neg (Nat.not_le.mpr present)

theorem tmRead_of_kept (present : index < tmCount kind) (kept : clear = false ∨ kind ≠ 0) :
    s.tmRead kind index clear = s.tmStaged kind index clear := by
  have noClear : ¬(clear && decide (kind = 0)) = true := by
    rcases kept with noClear | notQueue
    · simp only [noClear, Bool.false_and, Bool.false_eq_true, not_false_eq_true]
    · simp only [notQueue, decide_false, Bool.and_false, Bool.false_eq_true, not_false_eq_true]
  exact (tmRead_of_present present).trans (if_neg noClear)

/-- READ_CLEAR also starts a queue's greatest depth and delay anew. -/
theorem tmRead_of_cleared (present : index < tmCount 0) :
    s.tmRead 0 index true =
      let v := s.tmStaged 0 index true
      v.setTmQueue index { v.tmQueue index with depthMax := 0, delayMax := 0 } := (tmRead_of_present present).trans (if_pos rfl)

end

end

/-! ## The mode of a port (R239, R246) -/

section
variable {s : State} {p v : Nat}

/-- The fields of a network port's TM_PORT_CFG that every write sets. -/
abbrev State.setPortFields (s : State) (p v : Nat) : State :=
  (s.set (Reg.TM_PORT_CFG_OVERHEAD p) (bits v 7 0)).set (Reg.TM_PORT_CFG_DOWN_ACTION p) (bits v 9 9)

/-- A refused change of mode. -/
abbrev State.refuseMode (s : State) (p reason : Nat) : State :=
  (s.set (Reg.TM_PORT_STATUS_MODE_REFUSED p) 1).set (Reg.TM_PORT_STATUS_MODE_REASON p) reason

section
variable (network : p < 512)
include network

/-- A change of mode is refused to FLAT over a sealed share, then over a backlog (log entry 73). -/
theorem tmPortWrite_of_network :
    s.tmPortWrite p v =
      let u := s.setPortFields p v
      if bits v 8 8 = u.get (Reg.TM_PORT_CFG_MODE p) then u
      else if bits v 8 8 = 1 ∧ 0 < u.portSealed p then u.refuseMode p 1
      else if u.portBacklog p = true then u.refuseMode p 2
      else u.set (Reg.TM_PORT_CFG_MODE p) (bits v 8 8) := by
  simp only [State.tmPortWrite, Nat.not_le.mpr network, if_false]

theorem tmPortWrite_of_sameMode (same : bits v 8 8 = (s.setPortFields p v).get (Reg.TM_PORT_CFG_MODE p)) :
    s.tmPortWrite p v = s.setPortFields p v := (tmPortWrite_of_network network).trans (if_pos same)

section
variable (change : bits v 8 8 ≠ (s.setPortFields p v).get (Reg.TM_PORT_CFG_MODE p))
include change

theorem tmPortWrite_of_sealed (flat : bits v 8 8 = 1) (promised : 0 < (s.setPortFields p v).portSealed p) :
    s.tmPortWrite p v = (s.setPortFields p v).refuseMode p 1 :=
  (tmPortWrite_of_network network).trans ((if_neg change).trans (if_pos ⟨flat, promised⟩))

theorem tmPortWrite_of_unsealed (unsealed : (s.setPortFields p v).portSealed p = 0) :
    s.tmPortWrite p v =
      if (s.setPortFields p v).portBacklog p = true then (s.setPortFields p v).refuseMode p 2
      else (s.setPortFields p v).set (Reg.TM_PORT_CFG_MODE p) (bits v 8 8) :=
  have noSeal : ¬(bits v 8 8 = 1 ∧ 0 < (s.setPortFields p v).portSealed p) := fun ⟨_, promised⟩ => Nat.ne_of_gt promised unsealed
  (tmPortWrite_of_network network).trans ((if_neg change).trans (if_neg noSeal))

end

end

end

/-! ## The obligation -/

/-- Settles O38: a commit by its REASON and, once accepted, by the object's KIND; a READ by whether the object exists and READ_CLEAR;
a write of a port's mode by whether the mode changes, the port's sealed share and its backlog. -/
theorem trafficCommits : Obligations.TrafficCommits := by
  unfold Obligations.TrafficCommits
  refine ⟨?commits, ?reads, ?modes⟩
  case commits =>
    intro kind index flush i s writable command n u
    have answers {t : State} (e : s.tmCommit kind index flush = t) : exec i s = .next { t with pending := s.pending } :=
      (exec_of_tmCommitCommand command s).trans (write_answers writable e)
    refine ⟨fun refused => answers (tmCommit_of_refused refused), fun accepted => ⟨?node, ?flushed, ?bucketed, ?replList⟩⟩
    case node => exact fun _ noFlush => answers (tmCommit_of_noFlush accepted noFlush)
    case flushed => exact fun queue flushed => answers (tmCommit_of_flush accepted queue flushed)
    case bucketed =>
      intro bucketed w
      have noFlush : flush = false := flush_eq_false_of_tmCommitCommand command (by omega)
      exact answers ((tmCommit_of_noFlush accepted noFlush).trans (tmApply_of_bucketed bucketed))
    case replList =>
      intro replList
      have noFlush : flush = false := flush_eq_false_of_tmCommitCommand command (by omega)
      subst replList
      exact (exec_of_tmCommitCommand command s).trans
        (write_answers_withTmWords writable ((tmCommit_of_noFlush accepted noFlush).trans tmApply_of_replList))
  case reads =>
    intro kind index clear s writable n u
    refine ⟨fun absent => write_answers writable (tmRead_of_absent absent),
      fun present kept => write_answers writable (tmRead_of_kept present kept), ?cleared⟩
    case cleared =>
      intro present queue cleared
      subst queue cleared
      exact write_answers writable (tmRead_of_cleared present)
  case modes =>
    intro p v s writable network u
    refine ⟨fun same => write_answers writable (tmPortWrite_of_sameMode network same), fun change => ⟨?sealed, ?backlogged, ?free⟩⟩
    case sealed =>
      exact fun flat promised => write_answers writable (tmPortWrite_of_sealed network change flat promised)
    case backlogged =>
      exact fun unsealed backlogged =>
        write_answers writable ((tmPortWrite_of_unsealed network change unsealed).trans (if_pos backlogged))
    case free =>
      exact fun unsealed free =>
        write_answers writable ((tmPortWrite_of_unsealed network change unsealed).trans (if_neg (ne_true_of_eq_false free)))

end Sys2Proof.Machine
end

section
/-! PROOFS. The commands of a connection's rings other than its operations: what comes before a command meets its connection, one equation
per case of each command, then the obligation. -/

namespace Sys2Proof.Machine

section
variable {s : State} {r : Ref} {c : Nat} {go : Nat → State → State}

/-! ## An item and its connection (R250, R251) -/

/-- A status outside BAD_* is not counted, and its completion has no detail (R134, R142; log entry 39). -/
theorem fail_of_notBad {st : Nat} (notBad : ST_BAD_RING_REF < st) : s.fail r st = s.complete r st 0 [] := by
  have beyond : ¬st ≤ ST_BAD_RING_REF := by omega
  simp only [State.fail, State.countBad, beyond, decide_false, Bool.and_false, Bool.false_and, Bool.false_eq_true, and_false, if_false]

theorem fail_connState : s.fail r ST_CONN_STATE = s.complete r ST_CONN_STATE 0 [] := fail_of_notBad (by decide)

/-- An item of a ring without a connection completes CONN_STATE. -/
theorem onConn_of_noConn (noConn : s.ringConn r.ring = none) : s.onConn r go = s.complete r ST_CONN_STATE 0 [] := by
  simp only [State.onConn, noConn, fail_connState]

theorem context_of_cached (cached : s.xpt.cache.contains c = true) : s.context c = (true, s.connUsed c) := if_pos cached

/-- An item whose connection is at hand runs against it. -/
theorem onConn_of_atConn (atConn : s.atConn r c = true) : s.onConn r go = go c (s.connUsed c) := by
  simp only [State.atConn, Bool.and_eq_true, Bool.not_eq_true', decide_eq_true_eq, decide_eq_false_iff_not] at atConn
  obtain ⟨⟨⟨named, enabled⟩, used⟩, cached⟩ := atConn
  simp only [State.onConn, named, enabled, used, context_of_cached cached, Bool.not_true, Bool.false_eq_true, if_false]

end

/-- The state in which a command of a ring meets its connection: its item marked as started, its context used. -/
abbrev State.metConn (s : State) (r : Ref) (c : Nat) : State := (s.markStarted r).connUsed c

section
variable {s : State} {r : Ref} {c : Nat} {go : Nat → State → State} (running : s.running = true) (start : s.mayStart r = true)
include running start

/-- A command of a connection's ring that meets its connection has its effect. -/
theorem run_onConn_answers {u : State} (atConn : (s.markStarted r).atConn r c = true) (e : go c (s.metConn r c) = u) :
    s.run (s.work r (·.onConn r go)) = .next { u with pending := s.pending } :=
  run_work_answers running start ((onConn_of_atConn atConn).trans e)

/-- One whose body fails a check completes with that check's status and its head index. -/
theorem run_onConn_fails {st : Nat} (atConn : (s.markStarted r).atConn r c = true) (drawer : isCtl r.ring = false)
    (bad : ST_BAD_OPCODE ≤ st ∧ st ≤ ST_BAD_RING_REF) (fails : go c (s.metConn r c) = (s.metConn r c).fail r st) :
    s.run (s.work r (·.onConn r go)) = .next
      { ((s.metConn r c).bump (Reg.n_malformed_entries (ringDrawer r.ring))).complete r st 0 [r.index] with pending := s.pending } :=
  run_onConn_answers running start atConn (fails.trans (fail_of_drawer drawer bad))

end

section
variable {r : Ref} {e : List Byte} {cs : List (List Byte)}

/-- The commands of a connection's two rings. -/
abbrev connCommands (r : Ref) (e : List Byte) (cs : List (List Byte)) : List Instr :=
  [.send r e cs, .write r e cs, .read r e cs, .fetchAdd r e, .compSwap r e, .connConnect r e, .connClose r e, .connReset r e,
    .connQuery r e, .recv r e cs]

/-- Each is work of its ring against the ring's connection. -/
theorem exec_of_connCommand {i : Instr} (command : i ∈ connCommands r e cs) (s : State) :
    ∃ go, exec i s = s.run (s.work r (·.onConn r go)) := by
  simp only [List.mem_cons, List.not_mem_nil, or_false] at command
  rcases command with rfl | rfl | rfl | rfl | rfl | rfl | rfl | rfl | rfl | rfl
  all_goals exact ⟨_, rfl⟩

end

section
variable {s : State} {r : Ref} {e : List Byte} {c : Nat}

/-! ## CONN_CONNECT (R252) -/

theorem opConnect_of_bad (noError : (s.conn c).st ≠ 4) (bad : s.connectBad e = true) : s.opConnect r e c = s.fail r ST_BAD_FLAGS := by
  simp only [State.opConnect, noError, bad, if_false, if_true]

theorem opConnect_of_connected (connected : (s.conn c).st = 2 ∨ (s.conn c).st = 3) (good : s.connectBad e = false) :
    s.opConnect r e c = s.complete r ST_CONN_STATE 0 [] := by
  have noError : (s.conn c).st ≠ 4 := by omega
  have notReady : (s.conn c).st ≠ 1 := by omega
  simp only [State.opConnect, noError, good, notReady, fail_connState, ne_eq, not_false_eq_true, Bool.false_eq_true, if_false, if_true]

section
variable (ready : (s.conn c).st = 1) (good : s.connectBad e = false)
include ready good

theorem opConnect_of_denied (denied : s.connectDenied (s.conn c).drawer e = true) :
    s.opConnect r e c = s.complete r ST_CONN_DENIED 0 [] := by
  simp only [State.opConnect, ready, good, denied, Nat.reduceEqDiff, ne_eq, not_true_eq_false, Bool.false_eq_true, if_false, if_true]

/-- A READY connection that is granted everything connects; without encryption no security association gains a user. -/
theorem opConnect_of_granted (granted : s.connectDenied (s.conn c).drawer e = false) (plain : bit (leAt e 35 1) 1 = false) :
    s.opConnect r e c = (s.connected c e).complete r ST_OK 0 [] := by
  simp only [State.opConnect, ready, good, granted, plain, Nat.reduceEqDiff, ne_eq, not_true_eq_false, Bool.false_eq_true, if_false]

end

/-! ## CONN_CLOSE, CONN_RESET and CONN_QUERY (R248, R253) -/

theorem opQuery_of_nonzero (nonzero : zeroBut e [(0, 8)] = false) : s.opQuery r e c = s.fail r ST_BAD_FLAGS := by
  simp only [State.opQuery, nonzero, Bool.not_false, if_true]

section
variable (zero : zeroBut e [(0, 8)] = true)
include zero

/-- A CONNECTED connection drains, and the command waits for it. -/
theorem opClose_of_connected (connected : (s.conn c).st = 2) :
    s.opClose r e c = s.setConn c { s.conn c with st := 3, closeRef := some r } := by
  simp only [State.opClose, zero, connected, Nat.reduceEqDiff, ne_eq, not_true_eq_false, Bool.not_true, Bool.false_eq_true, if_false]

theorem opClose_of_other (other : (s.conn c).st = 1 ∨ (s.conn c).st = 3) : s.opClose r e c = s.complete r ST_CONN_STATE 0 [] := by
  have noError : (s.conn c).st ≠ 4 := by omega
  have notConnected : (s.conn c).st ≠ 2 := by omega
  simp only [State.opClose, zero, noError, notConnected, ne_eq, not_false_eq_true, Bool.not_true, Bool.false_eq_true, if_false, if_true]

theorem opReset_of_idle (idle : (s.conn c).st = 1 ∨ (s.conn c).st = 4) : s.opReset r e c = (s.toReady c).complete r ST_OK 0 [] := by
  have resettable : ¬((s.conn c).st ≠ 1 ∧ (s.conn c).st ≠ 4) := by omega
  simp only [State.opReset, zero, resettable, Bool.not_true, Bool.false_eq_true, if_false]

theorem opReset_of_connected (connected : (s.conn c).st = 2 ∨ (s.conn c).st = 3) :
    s.opReset r e c = s.complete r ST_CONN_STATE 0 [] := by
  have inUse : (s.conn c).st ≠ 1 ∧ (s.conn c).st ≠ 4 := by omega
  simp only [State.opReset, zero, inUse, Bool.not_true, Bool.false_eq_true, if_false, and_self, ne_eq, not_false_eq_true, if_true]

theorem opQuery_of_zero :
    s.opQuery r e c = s.complete r ST_OK (c + (s.conn c).st * 2 ^ 32)
      [(s.conn c).ltoken, (s.conn c).msn, (s.conn c).recvs.length, (s.conn c).tracks.length] := by
  simp only [State.opQuery, zero, Bool.not_true, Bool.false_eq_true, if_false]

end

/-! ## RECV (R256, R258) -/

section
variable {cs : List (List Byte)}

theorem opRecv_of_error (error : (s.conn c).st = 4) : s.opRecv r e cs c = s.complete r ST_FLUSHED 0 [] := if_pos error

/-- A receive is numbered and posted while the connection is READY or CONNECTED. -/
theorem opRecv_of_good {l : List (Nat × Nat)} (accepts : (s.conn c).st = 1 ∨ (s.conn c).st = 2) (zero : zeroBut e [(0, 24)] = true)
    (most : leAt e 20 4 ≤ 2147483648) (segs : segList (leAt e 8 8) (leAt e 16 4) (leAt e 20 4) cs = .ok l) :
    s.opRecv r e cs c =
      (s.setConn c { s.conn c with
        recvs := (s.conn c).recvs ++ [{ seq := (s.conn c).recvNext, ref := r, cap := leAt e 20 4, segs := l }]
        recvNext := (s.conn c).recvNext + 1 }).postItem r 0x40 l := by
  have noError : (s.conn c).st ≠ 4 := by omega
  have notDraining : (s.conn c).st ≠ 3 := by omega
  simp only [State.opRecv, noError, zero, notDraining, Nat.not_lt.mpr most, segs, Bool.not_true, Bool.false_eq_true, if_false]

end

/-! ## Ends of draining, and contexts read (R248, R250, R269) -/

theorem opDrainEnd_of_ended (draining : (s.conn c).st = 3) (noOps : (s.conn c).ops = []) (noTracks : (s.conn c).tracks = []) :
    s.opDrainEnd c = s.toReady c := by
  simp only [State.opDrainEnd, draining, noOps, noTracks, decide_true, List.isEmpty_nil, Bool.and_self, if_true]

theorem opCloseMs_of_draining (draining : (s.conn c).st = 3) : s.opCloseMs c = s.toReady c := if_pos draining

section
variable (fetching : s.xpt.fetching.contains c = true)
include fetching

theorem opContext_of_good : s.opContext c false = s.cacheIn c := by
  simp only [State.opContext, fetching, Bool.not_true, Bool.false_eq_true, if_false]

/-- A poisoned context is reported and ends its connection. -/
theorem opContext_of_poison {u : State} (raised : (s.cacheIn c).raise EV_xpt_context_poison 0xFFFF [c, ((s.cacheIn c).conn c).drawer] = u) :
    s.opContext c true = u.connFail c 4 ST_MEM_UNCORRECTABLE (((u.conn c).ops.head?).map (·.ref.index)) := by
  subst raised
  simp only [State.opContext, fetching, Bool.not_true, Bool.false_eq_true, if_false, if_true]

end

end

/-! ## The obligation -/

/-- Settles O40: each command's outcome by the state of its connection and the checks of its body, then the ends of a drain and of a
context's read. -/
theorem connectionCommands : Obligations.ConnectionCommands := by
  unfold Obligations.ConnectionCommands
  refine ⟨?noConn, ?commands, ?ends⟩
  case noConn =>
    intro r e cs i s running start noConn command
    obtain ⟨go, meaning⟩ := exec_of_connCommand command s
    exact meaning.trans (run_work_answers running start (onConn_of_noConn noConn))
  case commands =>
    intro r e c s running start atConn drawer
    refine ⟨?denied, ?granted, ?connectBad, ?connected, fun zero => ⟨?close, ?closeOther, ?reset, ?resetOther, ?query⟩, ?queryBad,
      ?recv, ?recvError⟩
    case denied =>
      exact fun ready good denied => run_onConn_answers running start atConn (opConnect_of_denied ready good denied)
    case granted =>
      exact fun ready good granted plain => run_onConn_answers running start atConn (opConnect_of_granted ready good granted plain)
    case connectBad =>
      exact fun noError bad => run_onConn_fails running start atConn drawer (by decide) (opConnect_of_bad noError bad)
    case connected =>
      exact fun connected good => run_onConn_answers running start atConn (opConnect_of_connected connected good)
    case close => exact fun connected => run_onConn_answers running start atConn (opClose_of_connected zero connected)
    case closeOther => exact fun other => run_onConn_answers running start atConn (opClose_of_other zero other)
    case reset => exact fun idle => run_onConn_answers running start atConn (opReset_of_idle zero idle)
    case resetOther => exact fun connected => run_onConn_answers running start atConn (opReset_of_connected zero connected)
    case query => exact run_onConn_answers running start atConn (opQuery_of_zero zero)
    case queryBad =>
      exact fun nonzero => run_onConn_fails running start atConn drawer (by decide) (opQuery_of_nonzero nonzero)
    case recv =>
      exact fun cs l accepts zero most segs => run_onConn_answers running start atConn (opRecv_of_good accepts zero most segs)
    case recvError => exact fun cs error => run_onConn_answers running start atConn (opRecv_of_error error)
  case ends =>
    intro c s running x
    exact ⟨fun draining noOps noTracks => run_answers running (opDrainEnd_of_ended draining noOps noTracks),
      fun draining => run_answers running (opCloseMs_of_draining draining),
      fun fetching => run_answers running (opContext_of_good fetching),
      fun fetching => run_answers running (opContext_of_poison fetching rfl)⟩

end Sys2Proof.Machine
end

section
/-! PROOFS. Operations of a send ring and their packets, region keys, and a connection's timers and snapshots: one equation per case of each
function, then the obligation. -/

namespace Sys2Proof.Machine

/-! ## Operations of a send ring (R254–R257) -/

section
variable {r : Ref} {e : List Byte} {cs : List (List Byte)}

/-- The operations of a send ring, each with its opcode and the continuation entries that it reads. -/
abbrev sendOperations (r : Ref) (e : List Byte) (cs : List (List Byte)) : List (Instr × Nat × List (List Byte)) :=
  [(.send r e cs, 0x30, cs), (.write r e cs, 0x31, cs), (.read r e cs, 0x32, cs), (.fetchAdd r e, 0x33, []), (.compSwap r e, 0x34, [])]

/-- Each is the same work against the ring's connection, under its opcode. -/
theorem exec_of_sendOperation {i : Instr} {op : Nat} {ks : List (List Byte)} (operation : (i, op, ks) ∈ sendOperations r e cs)
    (s : State) : exec i s = s.run (s.work r (·.onConn r (fun c s => s.opXfer r op e ks c))) := by
  simp only [List.mem_cons, List.not_mem_nil, Prod.mk.injEq, or_false] at operation
  rcases operation with ⟨rfl, rfl, rfl⟩ | ⟨rfl, rfl, rfl⟩ | ⟨rfl, rfl, rfl⟩ | ⟨rfl, rfl, rfl⟩ | ⟨rfl, rfl, rfl⟩
  all_goals rfl

end

section
variable {s : State} {r : Ref} {e : List Byte} {ks : List (List Byte)} {op c : Nat}

/-- An operation that waits behind those before it. -/
def State.opWaits (s : State) (c : Nat) (o : XOp) : State := s.setConn c { s.conn c with wait := (s.conn c).wait ++ [o] }

theorem opXfer_of_error (error : (s.conn c).st = 4) : s.opXfer r op e ks c = s.complete r ST_FLUSHED 0 [] := if_pos error

section
variable (noError : (s.conn c).st ≠ 4)
include noError

theorem opXfer_of_nonzero (nonzero : opZero op (leAt e 1 1 % 32) e = false) : s.opXfer r op e ks c = s.fail r ST_BAD_FLAGS := by
  simp only [State.opXfer, noError, nonzero, Bool.not_false, if_false, if_true]

theorem opXfer_of_notConnected (zero : opZero op (leAt e 1 1 % 32) e = true) (spline : (s.conn c).roce = false)
    (notConnected : (s.conn c).st ≠ 2) : s.opXfer r op e ks c = s.complete r ST_CONN_STATE 0 [] := by
  simp only [State.opXfer, noError, zero, spline, notConnected, ne_eq, not_false_eq_true, Bool.not_true, Bool.false_and,
    Bool.false_eq_true, if_false, if_true]

end

section
variable (connected : (s.conn c).st = 2) (zero : opZero op (leAt e 1 1 % 32) e = true) (spline : (s.conn c).roce = false)
include connected zero spline

theorem opXfer_of_badLength (badLength : 2147483648 < leAt e 8 4 ∨ 0x33 ≤ op ∧ leAt e 8 4 ≠ 8) :
    s.opXfer r op e ks c = s.fail r ST_BAD_LENGTH := by
  simp only [State.opXfer, connected, zero, spline, badLength, Nat.reduceEqDiff, ne_eq, not_true_eq_false, decide_eq_true_eq,
    Bool.not_true, Bool.false_and, Bool.false_eq_true, if_false, if_true]

/-- An operation whose length, segments, flags and offset are good joins those that wait; the first of them starts when the limits of
R257 admit it. -/
theorem opXfer_of_good {l : List (Nat × Nat)} (most : leAt e 8 4 ≤ 2147483648) (size : op < 0x33 ∨ leAt e 8 4 = 8)
    (segs : (if 0x33 ≤ op then .ok [] else segList (leAt e 32 8) (leAt e 40 4) (leAt e 8 4) ks) = .ok l)
    (fence : op ≠ 0x31 ∨ bit (leAt e 1 1 % 32) 1 = false) (aligned : op < 0x33 ∨ leAt e 24 8 % 8 = 0) :
    s.opXfer r op e ks c =
      if (s.conn c).wait.isEmpty then (s.opWaits c (xopOf r op e l)).startOp c else s.opWaits c (xopOf r op e l) := by
  have goodLength : ¬(2147483648 < leAt e 8 4 ∨ 0x33 ≤ op ∧ leAt e 8 4 ≠ 8) := by omega
  have goodFence : ¬(op = 0x31 ∧ bit (leAt e 1 1 % 32) 1 = true ∧ (!bit (leAt e 1 1 % 32) 0) = true) := by
    rintro ⟨write, fenced, -⟩
    exact fence.elim (· write) (fun unfenced => Bool.false_ne_true (unfenced.symm.trans fenced))
  have goodOffset : ¬(0x33 ≤ op ∧ leAt e 24 8 % 8 ≠ 0) := by omega
  simp only [State.opXfer, State.opWaits, connected, zero, spline, goodLength, segs, goodFence, goodOffset, Nat.reduceEqDiff, ne_eq,
    not_true_eq_false, decide_eq_true_eq, or_self, Bool.not_true, Bool.false_and, Bool.false_eq_true, if_false]

end

/-! ## Starting operations (R257, R258) -/

section
variable {o : XOp} {t : List XOp} (waiting : (s.conn c).wait = o :: t)
include waiting

theorem startOp_of_held (held : (s.conn c).mayStart o = false) : s.startOp c = s := by
  simp only [State.startOp, waiting, held, Bool.false_eq_true, and_false, if_false]

variable (connected : (s.conn c).st = 2) (admitted : (s.conn c).mayStart o = true)
include connected admitted

/-- One that consumes a posted receive takes the next MSN. -/
theorem startOp_of_message (takes : o.takesRecv = true) :
    s.startOp c = s.setConn c { s.conn c with
      wait := t
      ops := (s.conn c).ops ++ [{ o with seq := (s.conn c).msn }]
      msn := ((s.conn c).msn + 1) % 2 ^ 32 } := by
  simp only [State.startOp, waiting, connected, admitted, takes, and_self, if_true]

/-- Any other takes the next ONUM. -/
theorem startOp_of_other (takes : o.takesRecv = false) :
    s.startOp c = s.setConn c { s.conn c with
      wait := t
      ops := (s.conn c).ops ++ [{ o with seq := (s.conn c).onum }]
      onum := ((s.conn c).onum + 1) % 2 ^ 32 } := by
  simp only [State.startOp, waiting, connected, admitted, takes, and_self, Bool.false_eq_true, if_true, if_false]

end

/-! ## Packets sent (R278, R289) -/

section
variable {d : List Byte} {st : Nat} (live : liveConn (s.conn c).st = true) (noVol : (s.conn c).vol = false)
include live noVol

theorem opPacketSend_of_retransmission {u : XUnack} (next : (s.conn c).nextRtx = some u) : s.opPacketSend c d st = s.resend c u := by
  simp only [State.opPacketSend, live, noVol, next, Bool.not_true, Bool.or_self, Bool.false_eq_true, if_false]

variable (noRtx : (s.conn c).nextRtx = none)
include noRtx

theorem opPacketSend_of_fullWindow (full : 256 ≤ idxSub (s.conn c).sndNxt (s.conn c).sndUna) : s.opPacketSend c d st = s := by
  simp only [State.opPacketSend, live, noVol, noRtx, full, Bool.not_true, Bool.or_self, Bool.false_eq_true, if_false, if_true]

/-- With no answer to send, the first operation with bytes left sends its next chunk when CWND has room for it, or ends with the status
of its failed read. -/
theorem opPacketSend_of_chunk {o : XOp} (room : idxSub (s.conn c).sndNxt (s.conn c).sndUna < 256) (noCtl : (s.conn c).ctl = [])
    (next : (s.conn c).ops.find? (fun o => !o.sent && !o.stopped) = some o)
    (fits : (s.conn c).unackedBytes + (if o.opcode ≤ 0x31 then min (s.conn c).mtu (o.len - o.next) else 0) ≤ (s.conn c).cwnd) :
    s.opPacketSend c d st = if st ≠ 0 then s.opRefused c o st else s.sendChunk c o d := by
  simp only [State.opPacketSend, live, noVol, noRtx, Nat.not_le.mpr room, noCtl, next, Nat.not_lt.mpr fits, Bool.not_true, Bool.or_self,
    Bool.false_eq_true, if_false]

end

end

/-! ## Region keys (R262–R264) -/

@[simp] theorem setKey_key (s : State) (i : Nat) (k : XKey) : (s.setKey i k).key i = k := mgetD_mputD_same _ _ _ _

/-- A key's local index depends on its owner alone. -/
theorem setKey_keyLocal {s : State} {i : Nat} {k : XKey} (owner : k.drawer = (s.key i).drawer) :
    (s.setKey i k).keyLocal i = s.keyLocal i := by
  simp only [State.keyLocal, setKey_key, owner]
  rfl

/-- A key that KEY_REGISTER makes VALID without a scope for drawer `d`. -/
def XKey.registered (k : XKey) (d : Nat) (e : List Byte) : XKey :=
  { k with
    st := 1, tag := (k.tag + 1) % 1024, base := leAt e 24 8, len := leAt e 32 8, perm := leAt e 12 1, drawer := d, scopeEn := false,
    scope := 0, inflight := 0, ref := none, slow := false }

section
variable {s : State} {r : Ref} {e : List Byte} {i : Nat}

section
variable (granted : s.keyIndex (ringDrawer r.ring) (leAt e 8 4) = some i) (number : leAt e 8 4 < 2 ^ 22)
include granted number

section
variable (zero : zeroBut e [(0, 14), (16, 4), (24, 16)] = true) (perm : leAt e 12 1 < 8) (noScope : leAt e 13 1 = 0)
  (scope : leAt e 16 4 < 2 ^ 20)
include zero perm noScope scope

/-- A well formed KEY_REGISTER without a scope, for a key of the drawer's grant, turns on the key's state and the region's length. -/
theorem opKeyRegister_of_wellFormed :
    s.opKeyRegister r e =
      if (s.key i).st ≠ 0 then s.complete r ST_KEY_STATE 0 []
      else if leAt e 32 8 = 0 ∨ 2 ^ 48 < leAt e 32 8 then s.fail r ST_BAD_LENGTH
      else (s.setKey i ((s.key i).registered (ringDrawer r.ring) e)).complete r ST_OK (((s.key i).tag + 1) % 1024 * 2 ^ 22 + i) [] := by
  have scopeBit : bit 0 0 = false := rfl
  have scopeByte : (0 : Nat) < 2 := by omega
  simp only [State.opKeyRegister, XKey.registered, granted, number, zero, perm, noScope, scopeBit, scopeByte, scope, decide_true,
    Bool.not_true, Bool.or_self, Bool.false_and, Bool.false_eq_true, if_false]

theorem opKeyRegister_of_taken (taken : (s.key i).st ≠ 0) : s.opKeyRegister r e = s.complete r ST_KEY_STATE 0 [] :=
  (opKeyRegister_of_wellFormed granted number zero perm noScope scope).trans (if_pos taken)

/-- A FREE key becomes VALID under its next tag. -/
theorem opKeyRegister_of_free (free : (s.key i).st = 0) (least : leAt e 32 8 ≠ 0) (most : leAt e 32 8 ≤ 2 ^ 48) :
    s.opKeyRegister r e =
      (s.setKey i ((s.key i).registered (ringDrawer r.ring) e)).complete r ST_OK (((s.key i).tag + 1) % 1024 * 2 ^ 22 + i) [] := by
  have goodLength : ¬(leAt e 32 8 = 0 ∨ 2 ^ 48 < leAt e 32 8) := by omega
  rw [opKeyRegister_of_wellFormed granted number zero perm noScope scope, if_neg (not_not_intro free), if_neg goodLength]

end

section
variable (zero : zeroBut e [(0, 12)] = true)
include zero

/-- A VALID key is revoked, and the command waits for its accesses in flight. -/
theorem opKeyRevoke_of_valid (valid : (s.key i).st = 1) : s.opKeyRevoke r e = s.setKey i { s.key i with st := 2, ref := some r } := by
  simp only [State.opKeyRevoke, granted, number, zero, valid, ne_eq, not_true_eq_false, decide_true, Bool.not_true, Bool.or_self,
    Bool.false_eq_true, if_false]

theorem opKeyRevoke_of_invalid (invalid : (s.key i).st ≠ 1) : s.opKeyRevoke r e = s.complete r ST_KEY_STATE 0 [] := by
  simp only [State.opKeyRevoke, granted, number, zero, invalid, ne_eq, not_false_eq_true, decide_true, Bool.not_true, Bool.or_self,
    Bool.false_eq_true, if_false, if_true]

end

end

theorem revokeDone_of_inflight (inflight : (s.key i).inflight ≠ 0) : s.revokeDone i = s := if_neg fun h => inflight h.2

section
variable (revoking : (s.key i).st = 2)
include revoking

/-- A revoke with nothing in flight frees its key and completes. -/
theorem revokeDone_of_idle (idle : (s.key i).inflight = 0) (waits : (s.key i).ref = some r) :
    s.revokeDone i = (s.setKey i { s.key i with st := 0, ref := none, slow := false }).complete r ST_OK 0 [] := by
  simp only [State.revokeDone, revoking, idle, waits, and_self, if_true]

/-- A slow revoke is reported once. -/
theorem opRevokeSlow_of_first {u : State} (first : (s.key i).slow = false) (marked : s.setKey i { s.key i with slow := true } = u) :
    s.opRevokeSlow i =
      u.raiseTo (s.key i).drawer EV_xpt_revoke_slow (s.key i).drawer [u.keyLocal i, (s.key i).inflight] := by
  have sameIndex : u.keyLocal i = s.keyLocal i := marked ▸ setKey_keyLocal rfl
  have due : (decide ((s.key i).st = 2) && !(s.key i).slow) = true := by rw [revoking, first]; rfl
  rw [sameIndex, ← marked]
  exact if_pos due

end

end

/-! ## Timers (R281, R285, R292, R293) -/

section
variable {s : State} {c : Nat}

theorem rtoFire_of_nothingSent (nothing : (s.conn c).unacks = []) : s.rtoFire c = s := by
  simp only [State.rtoFire, nothing, List.isEmpty_nil, Bool.or_true, if_true]

section
variable (live : liveConn (s.conn c).st = true)
include live

theorem opAckDelay_of_owed (owed : 0 < (s.conn c).ackCnt) : s.opAckDelay c = s.sendAck c := by
  simp only [State.opAckDelay, live, owed, decide_true, Bool.and_self, if_true]

theorem opPathHold_of_live : s.opPathHold c = s.pathsUp c := if_pos live

/-- What an RTO does first: every packet waits to be sent again, the timer doubles up to its bound and the window shrinks to one packet. -/
def State.timedOut (s : State) (c : Nat) : State :=
  (s.setConn c { s.conn c with
    rtx := (s.conn c).unacks.map (fun u => u.psn), rto := min s.rtoMax (2 * (s.conn c).rto), cwnd := (s.conn c).mtu,
    retries := (s.conn c).retries + 1 }).bump Reg.n_retx_timeout

/-- The oldest packet that no ACK has covered. -/
abbrev Conn.oldest (x : Conn) : Option XUnack := x.unacks.find? (fun u => decide (u.psn = x.sndUna))

variable (sent : (s.conn c).unacks ≠ []) (spline : (s.conn c).roce = false)
include sent spline

theorem rtoFire_of_exhausted (exhausted : (s.conn c).retryLim < (s.conn c).retries + 1) :
    s.rtoFire c = (s.timedOut c).connFail c 1 ST_RETRY_EXHAUSTED ((s.conn c).oldest.bind (·.item)) := by
  have unacked : (s.conn c).unacks.isEmpty = false := List.isEmpty_eq_false_iff.mpr sent
  simp only [State.rtoFire, State.timedOut, live, unacked, spline, exhausted, Bool.not_true, Bool.or_self, Bool.false_eq_true, if_false,
    if_true]

/-- A retry blames the path of the oldest packet. -/
theorem rtoFire_of_retry {u : XUnack} (retry : (s.conn c).retries + 1 ≤ (s.conn c).retryLim) (oldest : (s.conn c).oldest = some u) :
    s.rtoFire c = (s.timedOut c).blame c u.path := by
  have unacked : (s.conn c).unacks.isEmpty = false := List.isEmpty_eq_false_iff.mpr sent
  simp only [State.rtoFire, State.timedOut, live, unacked, spline, oldest, Nat.not_lt.mpr retry, Bool.not_true, Bool.or_self,
    Bool.false_eq_true, if_false]

end

section
variable {o : XOp} {q : Nat}

/-- PSNs of an operation's packets that no ACK has covered. -/
abbrev Conn.psnsOf (x : Conn) (o : XOp) : List Nat :=
  (x.unacks.filter (fun u => decide (u.item = some o.ref.index))).map (fun u => u.psn)

/-- A stopped message goes on: its packets wait to be sent again. -/
def State.resumed (s : State) (c : Nat) (o : XOp) : State :=
  s.setConn c { s.conn c with
    rnrs := (s.conn c).rnrs + 1
    rtx := (s.conn c).rtx.filter (fun p => !((s.conn c).psnsOf o).contains p) ++ (s.conn c).psnsOf o
    ops := (s.conn c).ops.map (fun e => if e.ref.index = o.ref.index then { e with stopped := false } else e) }

variable (stopped : (s.conn c).ops.find? (fun o => o.stopped && o.takesRecv && decide (o.seq = q)) = some o)
include stopped

theorem rnrFire_of_retry (retry : (s.conn c).rnrLim = 7 ∨ (s.conn c).rnrs + 1 ≤ (s.conn c).rnrLim) : s.rnrFire c q = s.resumed c o := by
  have within : ¬((s.conn c).rnrLim ≠ 7 ∧ (s.conn c).rnrLim < (s.conn c).rnrs + 1) := by omega
  simp only [State.rnrFire, State.resumed, stopped, within, if_false]

theorem rnrFire_of_exhausted (limited : (s.conn c).rnrLim ≠ 7) (exhausted : (s.conn c).rnrLim < (s.conn c).rnrs + 1) :
    s.rnrFire c q = (s.resumed c o).connFail c 2 ST_RNR_EXHAUSTED (some o.ref.index) := by
  simp only [State.rnrFire, State.resumed, stopped, limited, exhausted, ne_eq, not_false_eq_true, and_self, if_true]

end

end

/-! ## The obligation -/

/-- Settles O41: a command at a time, each by the equation of its case. -/
theorem operationsAndKeys : Obligations.OperationsAndKeys := by
  unfold Obligations.OperationsAndKeys
  refine ⟨?operations, ?starts, ?packets, ?keys, ?revokes, ?timers, ?snapshots⟩
  case operations =>
    intro r e cs c op ks i s running start atConn drawer operation
    have meaning := exec_of_sendOperation operation s
    refine ⟨?error, ?nonzero, fun noError zero spline => ⟨?notConnected, ?badLength, ?good⟩⟩
    case error => exact fun error => meaning.trans (run_onConn_answers running start atConn (opXfer_of_error error))
    case nonzero =>
      exact fun noError nonzero =>
        meaning.trans (run_onConn_fails running start atConn drawer (by decide) (opXfer_of_nonzero noError nonzero))
    case notConnected =>
      exact fun notConnected =>
        meaning.trans (run_onConn_answers running start atConn (opXfer_of_notConnected noError zero spline notConnected))
    case badLength =>
      exact fun connected badLength =>
        meaning.trans (run_onConn_fails running start atConn drawer (by decide) (opXfer_of_badLength connected zero spline badLength))
    case good =>
      exact fun l connected most size segs fence aligned =>
        meaning.trans (run_onConn_answers running start atConn (opXfer_of_good connected zero spline most size segs fence aligned))
  case starts =>
    intro c o t s running x waiting connected
    exact ⟨fun held => run_answers running (startOp_of_held waiting held),
      fun admitted takes => run_answers running (startOp_of_message waiting connected admitted takes),
      fun admitted takes => run_answers running (startOp_of_other waiting connected admitted takes)⟩
  case packets =>
    intro c st d s running x live noVol
    refine ⟨?retransmission, ?fullWindow, ?chunk⟩
    case retransmission => exact fun u next => run_answers running (opPacketSend_of_retransmission live noVol next)
    case fullWindow => exact fun noRtx full => run_answers running (opPacketSend_of_fullWindow live noVol noRtx full)
    case chunk =>
      intro o noRtx room noCtl next fits
      have chunk := fun d st => opPacketSend_of_chunk (d := d) (st := st) live noVol noRtx room noCtl next fits
      exact ⟨fun failed => run_answers running ((chunk d st).trans (if_pos failed)),
        fun good => run_answers running ((chunk d st).trans (if_neg (not_not_intro good)))⟩
  case keys =>
    intro r e i s running start u granted number
    refine ⟨fun zero perm noScope scope => ⟨?free, ?taken⟩, fun zero => ⟨?valid, ?invalid⟩⟩
    case free =>
      exact fun free least most =>
        run_work_answers running start (opKeyRegister_of_free granted number zero perm noScope scope free least most)
    case taken =>
      exact fun taken => run_work_answers running start (opKeyRegister_of_taken granted number zero perm noScope scope taken)
    case valid => exact fun valid => run_work_answers running start (opKeyRevoke_of_valid granted number zero valid)
    case invalid => exact fun invalid => run_work_answers running start (opKeyRevoke_of_invalid granted number zero invalid)
  case revokes =>
    intro i s running revoking
    exact ⟨fun r idle waits => run_answers running (revokeDone_of_idle revoking idle waits),
      fun inflight => run_answers running (revokeDone_of_inflight inflight),
      fun first => run_answers running (opRevokeSlow_of_first revoking first rfl)⟩
  case timers =>
    intro c s running
    refine ⟨fun live => ⟨?ack, ?paths, ?quiet, fun sent spline => ⟨?exhausted, ?retry⟩⟩, fun o q stopped => ⟨?resumes, ?gives⟩⟩
    case ack => exact fun owed => run_answers running (opAckDelay_of_owed live owed)
    case paths => exact run_answers running (opPathHold_of_live live)
    case quiet => exact fun nothing => run_answers running (rtoFire_of_nothingSent nothing)
    case exhausted => exact fun exhausted => run_answers running (rtoFire_of_exhausted live sent spline exhausted)
    case retry => exact fun p retry oldest => run_answers running (rtoFire_of_retry live sent spline retry oldest)
    case resumes => exact fun retry => run_answers running (rnrFire_of_retry stopped retry)
    case gives => exact fun limited exhausted => run_answers running (rnrFire_of_exhausted stopped limited exhausted)
  case snapshots =>
    intro v s writable
    exact ⟨fun go => write_answers writable (if_pos go), fun go => write_answers writable (if_pos go),
      fun noGo => write_answers writable (if_neg (ne_true_of_eq_false noGo))⟩

end Sys2Proof.Machine
end

section
/-! PROOFS. Packets that arrive at the transport engine: the window, the handling by opcode, acknowledgements and notices, the RoCEv2
subset, then the obligation. -/

namespace Sys2Proof.Machine

section
variable {s : State} {c : Nat} {k : XIn} {auth : Bool}

/-! ## The receiver's window (R282) -/

/-- How far a packet's PSN lies ahead of the lowest one not received. -/
abbrev State.ahead (s : State) (c : Nat) (k : XIn) : Nat := idxSub k.psn (s.conn c).rcvBase

/-- A packet received before draws an ACK on its path and is dropped. -/
theorem dataIn_of_duplicate
    (duplicate : 2 ^ 31 ≤ s.ahead c k ∨ 0 < s.ahead c k ∧ bit (s.conn c).rcvMap (s.ahead c k - 1) = true) :
    s.dataIn c k auth = ((s.setConn c { s.conn c with ackPath := k.path }).sendAck c).bump Reg.n_dup_drop :=
  if_pos duplicate

theorem dataIn_of_beyond (beyond : 256 ≤ s.ahead c k) (least : s.ahead c k < 2 ^ 31)
    (new : bit (s.conn c).rcvMap (s.ahead c k - 1) = false) : s.dataIn c k auth = s.bump Reg.n_window_drop := by
  have notDuplicate : ¬(2 ^ 31 ≤ s.ahead c k ∨ 0 < s.ahead c k ∧ bit (s.conn c).rcvMap (s.ahead c k - 1) = true) := by
    rintro (behind | ⟨-, received⟩)
    · exact Nat.not_le.mpr least behind
    · exact Bool.false_ne_true (new.symm.trans received)
  exact (if_neg notDuplicate).trans (if_pos beyond)

/-- A packet within the window is counted, and so is its congestion mark. -/
def State.rxCounted (s : State) (ce : Bool) : State :=
  if ce then (s.bump Reg.n_rx_data_pkts).bump Reg.n_ce_received else s.bump Reg.n_rx_data_pkts

/-- The handling that a packet's wire opcode selects, with whether the packet is marked received (R283). -/
def State.byWire (s : State) (c : Nat) (k : XIn) : Bool × State :=
  match k.wire with
  | 0x01 => s.recvIn c k 0x30 none
  | 0x02 => s.writeIn c k
  | 0x03 | 0x05 | 0x06 => s.reqIn c k
  | 0x04 => s.readIn c k
  | 0x07 => s.atomicIn c k
  | 0x0E => s.abandonIn c k
  | _ => (true, s)

/-- A new packet within the window of a connection without encryption is counted, handled, and marked where its handling says so. -/
theorem dataIn_of_new {r : Bool × State} (within : s.ahead c k < 256)
    (new : s.ahead c k = 0 ∨ bit (s.conn c).rcvMap (s.ahead c k - 1) = false) (plain : (s.conn c).enc = false)
    (handled : (s.rxCounted k.ce).byWire c k = r) :
    s.dataIn c k auth = if r.1 then r.2.marked c k (s.ahead c k) else r.2 := by
  have notDuplicate : ¬(2 ^ 31 ≤ s.ahead c k ∨ 0 < s.ahead c k ∧ bit (s.conn c).rcvMap (s.ahead c k - 1) = true) := by
    rintro (behind | ⟨later, received⟩)
    · omega
    · exact new.elim (Nat.ne_of_gt later) fun notReceived => Bool.false_ne_true (notReceived.symm.trans received)
  have notSealed : ¬((s.conn c).enc && !auth) = true := by simp [plain]
  subst handled
  exact (if_neg notDuplicate).trans ((if_neg (Nat.not_le.mpr within)).trans (if_neg notSealed))

/-! ## Acknowledgements and notices (R269, R286, R287) -/

section
variable (plain : (s.conn c).enc = false)
include plain

theorem opAck_of_plain :
    s.opAck c k auth = s.ackIn c (beAt (s.udpOf k.ptr) 32 4) (beAt (s.udpOf k.ptr) 36 2) (beAt (s.udpOf k.ptr) 38 2)
      (beAt (s.udpOf k.ptr) 40 8) (beAt (s.udpOf k.ptr) 48 32) := by
  simp only [State.opAck, plain, Bool.false_and, Bool.false_eq_true, if_false]

theorem opNak_of_plain : s.opNak c k auth = s.nakIn c (beAt (s.udpOf k.ptr) 32 4) (beAt (s.udpOf k.ptr) 36 1) := by
  simp only [State.opNak, plain, Bool.false_and, Bool.false_eq_true, if_false]

theorem opNotice_of_plain : s.opNotice c = s.connFail c 3 ST_CONN_BROKEN (((s.conn c).ops.head?).map (·.ref.index)) := by
  simp only [State.opNotice, plain, Bool.false_eq_true, if_false]

end

end

/-! ## Packets with a PSN, by opcode (R283) -/

section
variable {p wire : Nat} {auth : Bool} {i : Instr} {go : Nat → XIn → State → Bool × State}

/-- The packets with a PSN, each with its wire opcode and its handling. -/
abbrev arrivals (p : Nat) (auth : Bool) : List (Instr × Nat × (Nat → XIn → State → Bool × State)) :=
  [(.sendData p auth, 1, fun c k z => z.recvIn c k 0x30 none), (.writeData p auth, 2, fun c k z => z.writeIn c k),
    (.readReq p auth, 3, fun c k z => z.reqIn c k), (.readResp p auth, 4, fun c k z => z.readIn c k),
    (.fetchAddReq p auth, 5, fun c k z => z.reqIn c k), (.compSwapReq p auth, 6, fun c k z => z.reqIn c k),
    (.atomicResp p auth, 7, fun c k z => z.atomicIn c k), (.abandon p auth, 0x0E, fun c k z => z.abandonIn c k),
    (.fill p auth, 0x0F, fun _ _ z => (true, z))]

/-- Each is taken from XPT[p] under its wire opcode and meets the window. -/
theorem exec_of_arrival (arrival : (i, wire, go) ∈ arrivals p auth) (s : State) :
    exec i s = s.run (s.splTake p [wire] (fun c k z => z.dataIn c k auth)) := by
  simp only [List.mem_cons, List.not_mem_nil, Prod.mk.injEq, or_false] at arrival
  rcases arrival with ⟨rfl, rfl, -⟩ | ⟨rfl, rfl, -⟩ | ⟨rfl, rfl, -⟩ | ⟨rfl, rfl, -⟩ | ⟨rfl, rfl, -⟩ | ⟨rfl, rfl, -⟩ | ⟨rfl, rfl, -⟩ |
    ⟨rfl, rfl, -⟩ | ⟨rfl, rfl, -⟩
  all_goals rfl

theorem byWire_of_arrival (arrival : (i, wire, go) ∈ arrivals p auth) {k : XIn} (named : k.wire = wire) (c : Nat) (s : State) :
    s.byWire c k = go c k s := by
  simp only [List.mem_cons, List.not_mem_nil, Prod.mk.injEq, or_false] at arrival
  rcases arrival with ⟨-, rfl, rfl⟩ | ⟨-, rfl, rfl⟩ | ⟨-, rfl, rfl⟩ | ⟨-, rfl, rfl⟩ | ⟨-, rfl, rfl⟩ | ⟨-, rfl, rfl⟩ | ⟨-, rfl, rfl⟩ |
    ⟨-, rfl, rfl⟩ | ⟨-, rfl, rfl⟩
  all_goals simp only [State.byWire, named]

end

/-! ## Accepted Spline packets (R268) -/

section
variable {s v : State} {p : Nat} {f : Frame} {rest : List (Frame × Nat)} {u : XPkt}

theorem enc_of_splAccepts {c : Nat} (accepted : v.splAccepts c u = true) : (v.conn c).enc = false := by
  simp only [State.splAccepts, Bool.and_eq_true, Bool.not_eq_true'] at accepted
  obtain ⟨⟨-, plain⟩, -⟩ := accepted
  exact plain

/-- A command that takes an accepted packet of its wire opcode has the effect of the packet's handling, and the quire is released. -/
theorem run_splTake_answers {wire : Nat} {go : Nat → XIn → State → State} {w : State} (running : s.running = true)
    (picked : State.xptPick (mgetD s.tm.xptQ p []) [] s = (some (f, 0, rest), v)) (parsed : parseUdp (v.frameBytes f) = some u)
    (accepted : v.splAccepts (beAt u.pl 4 4) u = true) (named : beAt u.pl 1 1 = wire)
    (handled : go (beAt u.pl 4 4) (splIn u f.quire (splBody u)) (v.xptLeave p rest) = w) :
    s.run (s.splTake p [wire] go) = .next { w.release f.quire with pending := s.pending } := by
  have asked : [wire].contains (beAt u.pl 1 1) = true := by rw [named, List.contains_cons, beq_self_eq_true, Bool.true_or]
  exact run_answers running ((State.splTake_accepts picked parsed accepted asked).trans (congrArg (·.release f.quire) handled))

/-! ## The RoCEv2 subset (R298) -/

section
variable (picked : State.xptPick (mgetD s.tm.xptQ p []) [] s = (some (f, 1, rest), v)) (parsed : parseUdp (v.frameBytes f) = some u)
include picked parsed

/-- A packet that is a CNP, or none, as asked for leaves XPT[p] and is checked; its quire is released. -/
theorem roceTake_of_asked {cnp crc : Bool} (asked : decide (beAt u.pl 0 1 = 0x81) = cnp) :
    s.roceTake p cnp crc = ((v.xptLeave p rest).roceOne cnp crc u).release f.quire := by
  subst asked
  simp only [State.roceTake, picked, parsed, State.xptLeave, ne_eq, not_true_eq_false, false_and, or_self, if_false]

variable (accepted : v.roceAccepts u = true)
include accepted

theorem roceTake_of_cnp (cnp : beAt u.pl 0 1 = 0x81) :
    s.roceTake p true true = ((v.xptLeave p rest).windowEnd (beAt u.pl 5 3) true).release f.quire := by
  rw [State.roceTake_accepts picked parsed accepted (decide_eq_true cnp), if_pos rfl]

variable (notCnp : beAt u.pl 0 1 ≠ 0x81)
include notCnp

theorem roceTake_of_goodIcrc :
    s.roceTake p false true = ((v.xptLeave p rest).roceIn (beAt u.pl 5 3) u).release f.quire := by
  rw [State.roceTake_accepts picked parsed accepted (decide_eq_false notCnp), if_neg Bool.false_ne_true]

/-- A packet that its connection would accept is dropped when its ICRC is bad. -/
theorem roceTake_of_badIcrc :
    s.roceTake p false false = ((v.xptLeave p rest).bump Reg.n_icrc_error).release f.quire := by
  simp only [State.roceAccepts, Bool.and_eq_true, decide_eq_true_eq] at accepted
  obtain ⟨⟨⟨⟨⟨⟨⟨⟨enabled, checksum⟩, length⟩, reserved⟩, -⟩, -⟩, -⟩, -⟩, -⟩ := accepted
  have enabled : (v.xptLeave p rest).on Reg.XPT_CFG_ENABLE = true := enabled
  rw [roceTake_of_asked picked parsed (decide_eq_false notCnp)]
  simp only [State.roceOne, enabled, checksum, reserved, Nat.not_lt.mpr length, ne_eq, not_true_eq_false, or_self, Bool.not_true,
    Bool.not_false, Bool.false_eq_true, if_false, if_true]

end

end

/-! ## The obligation -/

/-- Settles O42: packets with a PSN by where they meet the window, then acknowledgements and notices, then the RoCEv2 subset. -/
theorem transportArrivals : Obligations.TransportArrivals := by
  unfold Obligations.TransportArrivals
  refine ⟨?sequenced, ?control, ?roce⟩
  case sequenced =>
    intro p auth f rest u i wire go s v running picked parsed accepted named arrival
    have meaning := exec_of_arrival arrival s
    refine ⟨?duplicate, ?beyond, ?new⟩
    case duplicate =>
      exact fun duplicate =>
        meaning.trans (run_splTake_answers running picked parsed accepted named (dataIn_of_duplicate duplicate))
    case beyond =>
      exact fun beyond least new =>
        meaning.trans (run_splTake_answers running picked parsed accepted named (dataIn_of_beyond beyond least new))
    case new =>
      exact fun within new =>
        meaning.trans (run_splTake_answers running picked parsed accepted named
          (dataIn_of_new within new (enc_of_splAccepts accepted) (byWire_of_arrival arrival named _ _)))
  case control =>
    intro p auth f rest u s v running picked parsed accepted
    have plain := enc_of_splAccepts accepted
    exact ⟨fun named => run_splTake_answers running picked parsed accepted named (opAck_of_plain plain),
      fun named => run_splTake_answers running picked parsed accepted named (opNak_of_plain plain),
      fun named => run_splTake_answers running picked parsed accepted named (opNotice_of_plain plain)⟩
  case roce =>
    intro p f rest u s v running picked parsed accepted
    exact ⟨fun notCnp => run_answers running (roceTake_of_goodIcrc picked parsed accepted notCnp),
      fun cnp => run_answers running (roceTake_of_cnp picked parsed accepted cnp),
      fun notCnp => run_answers running (roceTake_of_badIcrc picked parsed accepted notCnp)⟩

end Sys2Proof.Machine
end

section
/-! PROOFS. What holds of every command, the queue from step to step, and the device before power-on is complete. -/

namespace Sys2Proof.Machine

/-! ## The queue -/

/-- Settles O1: `step` looks at the queue alone to find its command, and a queue with `c` in front has `c` in front. -/
theorem stepRunsFrontCommand : Obligations.StepRunsFrontCommand := fun _ _ => rfl

/-- Whatever the guard of a command, its meaning answers some effect with the queue as it stood: the case split over the commands finds
no arm that faults or refuses. -/
theorem exec_always (c : Instr) (s : State) : ∃ t, exec c s = s.always t := by
  cases c <;> exact ⟨_, rfl⟩

theorem exec_answers (c : Instr) (s : State) : ∃ t, exec c s = .next t ∧ t.pending = s.pending := by
  obtain ⟨t, meaning⟩ := exec_always c s
  exact ⟨_, meaning, rfl⟩

/-- With nothing waiting a step lets time pass. -/
theorem step_of_empty {s : State} (empty : s.pending = []) : step s = .next { s.tick with pending := [] } := by
  rw [step, empty]

/-- With a command waiting a step executes it with the rest of the queue. -/
theorem step_of_cons {s : State} {c : Instr} {l : List Instr} (queue : s.pending = c :: l) :
    step s = exec c { s with pending := l } := by
  rw [step, queue]

/-- A step answers a next state whose queue is the rest of the queue. -/
theorem step_answers (s : State) : ∃ t, step s = .next t ∧ t.pending = s.pending.tail := by
  cases queue : s.pending with
  | nil => exact ⟨_, step_of_empty queue, rfl⟩
  | cons c l =>
    rw [step_of_cons queue]
    exact exec_answers c { s with pending := l }

/-- The rest of a well-formed queue is well formed. -/
theorem queueWf_of_tail {s t : State} (wf : s.queueWf = true) (rest : t.pending = s.pending.tail) : t.queueWf = true := by
  rw [State.queueWf, List.all_eq_true] at wf ⊢
  exact fun c waits => wf c (List.mem_of_mem_tail (rest ▸ waits))

theorem safeRun_all (n : Nat) (s : State) : safeRun n s := by
  induction n generalizing s with
  | zero => exact ⟨s, rfl⟩
  | succ n ih =>
    obtain ⟨t, answer, -⟩ := step_answers s
    obtain ⟨u, run⟩ := ih t
    have answer : core.step s = .next t := answer
    have first : core.run (n + 1) s = core.run n t := by simp only [Host.Core.run, answer]
    exact ⟨u, first.trans run⟩

/-- Settles O2: every meaning answers through one wrapper, which keeps the queue; a step takes one command of it at most, and a run is
made of steps. -/
theorem everyCommandAnswersNextState : Obligations.EveryCommandAnswersNextState := by
  refine ⟨exec_answers, ?queue, safeRun_all⟩
  case queue =>
    intro s t wf e
    obtain ⟨u, answer, rest⟩ := step_answers s
    obtain rfl := Host.Outcome.next.inj (answer.symm.trans e)
    exact queueWf_of_tail wf rest

/-! ## Before power-on is complete (R427, R433) -/

section
variable {s : State} (unpowered : s.pwr.phase ≠ .up)
include unpowered

theorem running_of_unpowered : s.running = false := by
  simp only [State.running, unpowered, decide_false, Bool.and_false, Bool.false_and]

theorem regOpen_of_unpowered : s.regOpen = false := by
  simp only [State.regOpen, unpowered, decide_false, Bool.false_and]

theorem tick_of_unpowered : s.tick = s := by
  have stands : s.timeRuns = false := by simp only [State.timeRuns, unpowered, decide_false, Bool.false_and]
  simp only [State.tick, stands, Bool.not_false, if_true]

theorem exec_of_unpowered {c : Instr} (kind : cmdKind c ≠ .other) : exec c s = .next s := by
  cases of : cmdKind c with
  | work => exact exec_work_of_still of (running_of_unpowered unpowered)
  | store => exact exec_store_of_closed of (regOpen_of_unpowered unpowered)
  | other => exact absurd of kind

theorem step_of_unpowered (kinds : ∀ c ∈ s.pending, cmdKind c ≠ .other) :
    step s = .next { s with pending := s.pending.tail } := by
  cases queue : s.pending with
  | nil => rw [step_of_empty queue, tick_of_unpowered unpowered, List.tail_nil]
  | cons c l =>
    have taken : ({ s with pending := l } : State).pwr.phase ≠ .up := unpowered
    rw [step_of_cons queue, exec_of_unpowered taken (kinds c (queue ▸ List.mem_cons_self)), List.tail_cons]

end

/-- Settles O5: before power-on is complete time stands still and neither work nor a register write has an effect, so a step only shortens
the queue. -/
theorem unpoweredDeviceStandsStill : Obligations.UnpoweredDeviceStandsStill := by
  rintro s t ⟨unpowered, kinds⟩ e
  obtain rfl := Host.Outcome.next.inj ((step_of_unpowered unpowered kinds).symm.trans e)
  exact ⟨⟨unpowered, fun c waits => kinds c (List.mem_of_mem_tail waits)⟩, rfl⟩

end Sys2Proof.Machine
end

section
/-! PROOFS. Firmware threads: one instruction of the base set by the form that its fetch finds, one equation per case of each function,
then the obligation. -/

namespace Sys2Proof.Machine

/-! ## What a thread executes next (R304, R307, R309) -/

section
variable {t : Nat} {s u v : State}

theorem rvStep_of_interrupt {c : Nat} (stands : (s.thread t).irq = some c) :
    s.rvStep t = s.setThread t ((s.thread t).interrupt c) := by
  simp only [State.rvStep, stands]

variable (noIrq : (s.thread t).irq = none)
include noIrq

theorem rvStep_of_oddPc (odd : (s.thread t).pc % 2 = 1) : s.rvStep t = s.setThread t ((s.thread t).trap 0 (s.thread t).pc) := by
  simp only [State.rvStep, noIrq, odd, if_true, State.rvTrap]

variable (even : (s.thread t).pc % 2 = 0) {h : Nat} (fetched : s.rvParcel t (s.thread t).pc = (some h, u))
include even fetched

/-- A parcel whose low bits are not 11 is a compressed instruction. -/
theorem rvStep_of_compressed {c : Nat} (short : h % 4 ≠ 3) (known : expandC h = some c) : s.rvStep t = u.rvExec t ⟨c, h, 2⟩ := by
  simp [State.rvStep, noIrq, even, fetched, short, known]

theorem rvStep_of_unknownCompressed (short : h % 4 ≠ 3) (unknown : expandC h = none) :
    s.rvStep t = u.setThread t ((u.thread t).trap 2 h) := by
  simp [State.rvStep, noIrq, even, fetched, short, unknown, State.rvIllegal, State.rvTrap]

/-- Any other parcel is the low half of an instruction of 32 bits. -/
theorem rvStep_of_full {g : Nat} (long : h % 4 = 3) (second : u.rvParcel t (((s.thread t).pc + 2) % 2 ^ 64) = (some g, v)) :
    s.rvStep t = v.rvExec t ⟨h + g * 2 ^ 16, h + g * 2 ^ 16, 4⟩ := by
  simp only [State.rvStep, noIrq, even, fetched, long, second, ne_eq, not_true_eq_false, if_false, Nat.zero_ne_one]

end

/-! ## An instruction by its major opcode (R307) -/

section
variable {s : State} {t : Nat} {i : Ins}

theorem rvExec_of_opImm {r : Nat} (opcode : i.w % 128 = 0x13)
    (known : aluI i.f3 (bits i.w 31 20) ((s.thread t).getX i.rs1) = some r) : s.rvExec t i = s.rvPut t i r := by
  simp only [State.rvExec, opcode, State.rvTry, known]

theorem rvExec_of_op {r : Nat} (opcode : i.w % 128 = 0x33)
    (known : aluR i.f7 i.f3 ((s.thread t).getX i.rs1) ((s.thread t).getX i.rs2) = some r) : s.rvExec t i = s.rvPut t i r := by
  simp only [State.rvExec, opcode, State.rvTry, known]

theorem rvExec_of_unknownOp (opcode : i.w % 128 = 0x33)
    (unknown : aluR i.f7 i.f3 ((s.thread t).getX i.rs1) ((s.thread t).getX i.rs2) = none) :
    s.rvExec t i = s.setThread t ((s.thread t).trap 2 i.raw) := by
  simp only [State.rvExec, opcode, State.rvTry, unknown, State.rvIllegal, State.rvTrap]

theorem rvExec_of_lui (opcode : i.w % 128 = 0x37) : s.rvExec t i = s.rvPut t i (immU i.w) := by
  simp only [State.rvExec, opcode]

theorem rvExec_of_auipc (opcode : i.w % 128 = 0x17) : s.rvExec t i = s.rvPut t i ((s.thread t).pc + immU i.w) := by
  simp only [State.rvExec, opcode]

theorem rvExec_of_jal (opcode : i.w % 128 = 0x6F) :
    s.rvExec t i = s.rvJump t i (((s.thread t).pc + immJ i.w) % 2 ^ 64) := by
  simp only [State.rvExec, opcode]

theorem rvExec_of_jalr (opcode : i.w % 128 = 0x67) (plain : i.f3 = 0) :
    s.rvExec t i = s.rvJump t i (((s.thread t).getX i.rs1 + immI i.w) % 2 ^ 64) := by
  simp only [State.rvExec, opcode, plain, if_true]

theorem rvExec_of_branch {taken : Bool} (opcode : i.w % 128 = 0x63)
    (known : branchTaken i.f3 ((s.thread t).getX i.rs1) ((s.thread t).getX i.rs2) = some taken) :
    s.rvExec t i = s.rvEnd t (s.thread t) (if taken then (s.thread t).pc + immB i.w else (s.thread t).pc + i.len) := by
  simp only [State.rvExec, opcode, State.rvBranch, known]

/-- A load of a signed size writes the sign-extended value. -/
theorem rvExec_of_signedLoad {z : State} {l : List Byte} (opcode : i.w % 128 = 0x03) (signed : i.f3 < 4)
    (loaded : s.rvLoad t (((s.thread t).getX i.rs1 + immI i.w) % 2 ^ 64) (2 ^ i.f3) = (some l, z)) :
    s.rvExec t i = z.rvPut t i (sextW (8 * 2 ^ i.f3) (leNat l)) := by
  have size : i.f3 % 4 = i.f3 := Nat.mod_eq_of_lt signed
  have known : i.f3 ≠ 7 := by omega
  simp only [State.rvExec, opcode, State.rvLoadX, known, size, loaded, signed, if_false, if_true]

theorem rvExec_of_store (opcode : i.w % 128 = 0x23) (known : i.f3 < 4) :
    s.rvExec t i = s.rvStoreV t i (2 ^ i.f3) ((s.thread t).getX i.rs2) := by
  simp only [State.rvExec, opcode, known, if_true]

/-- ECALL traps with the privilege it comes from. -/
theorem rvExec_of_ecall (ecall : i.w = 0x73) : s.rvExec t i = s.setThread t ((s.thread t).trap (8 + (s.thread t).priv) 0) := by
  simp [State.rvExec, State.rvSystem, Ins.f3, Ins.rd, Ins.f7, Ins.rs1, ecall, bits, State.rvTrap]

/-- EBREAK traps with its own address. -/
theorem rvExec_of_ebreak (ebreak : i.w = 0x100073) : s.rvExec t i = s.setThread t ((s.thread t).trap 3 (s.thread t).pc) := by
  simp [State.rvExec, State.rvSystem, Ins.f3, Ins.rd, Ins.f7, Ins.rs1, ebreak, bits, State.rvTrap]

end

/-! ## The obligation -/

/-- A thread that may issue leaves what its step leaves. -/
theorem exec_baseInstruction {t : Nat} {s u : State} (running : s.running = true) (issues : s.rvIssues t = true)
    (next : s.rvStep t = u) : exec (.baseInstruction t) s = .next { u.stepped with pending := s.pending } :=
  run_answers running (by rw [State.opBase, if_pos issues, next])

/-- Settles O43: an interrupt comes first, then a misaligned pc, then what the fetch delivers, by its length and its major opcode. -/
theorem threadInstructions : Obligations.ThreadInstructions := by
  unfold Obligations.ThreadInstructions
  refine ⟨?interrupt, ?oddPc, ?compressed, ?full⟩
  case interrupt =>
    exact fun t c s running issues stands => exec_baseInstruction running issues (rvStep_of_interrupt stands)
  case oddPc =>
    exact fun t s running issues noIrq odd => exec_baseInstruction running issues (rvStep_of_oddPc noIrq odd)
  case compressed =>
    intro t h c s u running issues noIrq even fetched short
    exact ⟨fun known => exec_baseInstruction running issues (rvStep_of_compressed noIrq even fetched short known),
      fun unknown => exec_baseInstruction running issues (rvStep_of_unknownCompressed noIrq even fetched short unknown)⟩
  case full =>
    intro t h g s u v running issues noIrq even fetched long second w x a b puts goes traps
    have executes {z : State} (e : v.rvExec t ⟨w, w, 4⟩ = z) :
        exec (.baseInstruction t) s = .next { z.stepped with pending := s.pending } :=
      exec_baseInstruction running issues ((rvStep_of_full noIrq even fetched long second).trans e)
    refine ⟨?opImm, ?op, ?unknownOp, ?lui, ?auipc, ?jal, ?jalr, ?branch, ?load, ?store, ?ecall, ?ebreak⟩
    case opImm => exact fun r opcode known => executes (rvExec_of_opImm opcode known)
    case op => exact fun r opcode known => executes (rvExec_of_op opcode known)
    case unknownOp => exact fun opcode unknown => executes (rvExec_of_unknownOp opcode unknown)
    case lui => exact fun opcode => executes (rvExec_of_lui opcode)
    case auipc => exact fun opcode => executes (rvExec_of_auipc opcode)
    case jal => exact fun opcode => executes (rvExec_of_jal opcode)
    case jalr => exact fun opcode plain => executes (rvExec_of_jalr opcode plain)
    case branch => exact fun taken opcode known => executes (rvExec_of_branch opcode known)
    case load => exact fun z l opcode signed loaded => executes (rvExec_of_signedLoad opcode signed loaded)
    case store => exact fun opcode known => executes (rvExec_of_store opcode known)
    case ecall => exact fun e => executes (rvExec_of_ecall e)
    case ebreak => exact fun e => executes (rvExec_of_ebreak e)

end Sys2Proof.Machine
end

section
/-! PROOFS. The thread extension: messages gathered and committed, endpoints and ports read, threads started, released and grouped. One
equation per case of each operation; an obligation's case cites the equation of its case. -/

namespace Sys2Proof.Machine

/-! ## An instruction of the extension (R309, R313, R315) -/

section
variable {s : State} {t : Nat} {f : State → State}

theorem ext_of_notRunning (notRunning : s.thState t ≠ 1) : s.ext t f = s := by
  simp only [State.ext, notRunning, decide_false, Bool.not_false, if_true]

/-- A refused store's fault comes before the instruction. -/
theorem ext_of_fault {a why : Nat} {l : List (Nat × Nat)} (runs : s.thState t = 1) (fault : (s.thread t).fault = (a, why) :: l) :
    s.ext t f = (s.setThread t { s.thread t with fault := l }).accessFault t 7 a why := by
  simp only [State.ext, runs, decide_true, Bool.not_true, Bool.false_eq_true, if_false, State.deferred, fault]

variable (runs : s.thState t = 1) (noFault : (s.thread t).fault = [])
include runs noFault

theorem ext_of_noFault : s.ext t f = f s := by
  simp only [State.ext, runs, decide_true, Bool.not_true, Bool.false_eq_true, if_false, State.deferred, noFault]

theorem run_ext_answers {u : State} (running : s.running = true) (e : f s = u) :
    s.run (s.ext t f) = .next { u with pending := s.pending } :=
  run_answers running ((ext_of_noFault runs noFault).trans e)

end

/-! ## Sending (R313, R314, R321, R322) -/

section
variable {x : Thread} {d r a : Nat} {l : List Nat}

/-- A word joins the message staged when it names the same message and the slot has room, and begins one in an empty slot. -/
theorem append_of_fits (fits : x.stage = none ∧ l = [] ∨ x.stage = some (a % 2 ^ 16, bits a 31 16, l) ∧ l.length < 32) (w : Nat) :
    x.append a w = some (a % 2 ^ 16, bits a 31 16, l ++ [w % 2 ^ 32]) := by
  rcases fits with ⟨empty, rfl⟩ | ⟨staged, room⟩
  · simp only [Thread.append, empty, List.nil_append]
  · simp only [Thread.append, staged, room, and_self, if_true]

theorem append_of_mismatch (staged : x.stage = some (d, r, l)) (other : d ≠ a % 2 ^ 16 ∨ r ≠ bits a 31 16 ∨ 32 ≤ l.length) (w : Nat) :
    x.append a w = none := by
  have notFits : ¬ (d = a % 2 ^ 16 ∧ r = bits a 31 16 ∧ l.length < 32) := by omega
  simp only [Thread.append, staged, notFits, if_false]

end

section
variable {s : State} {t rs1 rs2 : Nat} (rd : Nat)

section
variable (mismatch : (s.thread t).append ((s.thread t).getX rs1) ((s.thread t).getX rs2) = none)
include mismatch

theorem opChput_of_mismatch :
    s.opChput t rd rs1 rs2 = (s.setThread t { s.thread t with stage := none }).retire t rd (failed 6) := by
  simp only [State.opChput, mismatch]

theorem opCommit_of_mismatch (blocking : Bool) :
    s.opCommit t rd rs1 rs2 blocking = (s.setThread t { s.thread t with stage := none }).retire t rd (failed 6) := by
  simp only [State.opCommit, mismatch]

end

variable {d r : Nat} {l : List Nat}
  (staged : (s.thread t).append ((s.thread t).getX rs1) ((s.thread t).getX rs2) = some (d, r, l))
include staged

theorem opChput_of_fits :
    s.opChput t rd rs1 rs2 = (s.setThread t { s.thread t with stage := some (d, r, l) }).retire t rd 0 := by
  simp only [State.opChput, staged]

/-- A commit toward a cluster in a block reset ends there. -/
theorem opCommit_of_reset (reset : s.coreReset d = true) (blocking : Bool) :
    s.opCommit t rd rs1 rs2 blocking =
      ((s.resetHit 10 (epCl d)).setThread t { s.thread t with stage := none }).retire t rd (failed 7) := by
  simp only [State.opCommit, staged, reset, if_true]

variable (noReset : s.coreReset d = false)
include noReset

theorem opCommit_of_refused {why : Nat} (refused : s.chRefusal t d r = some why) (blocking : Bool) :
    s.opCommit t rd rs1 rs2 blocking = (s.chRefuse t d why).retire t rd (failed 5) := by
  simp only [State.opCommit, staged, noReset, Bool.false_eq_true, if_false, refused]

variable (accepted : s.chRefusal t d r = none)
include accepted

theorem opCommit_of_blocking :
    s.opCommit t rd rs1 rs2 true = (s.setThread t { s.thread t with stage := none }).block t 3 0 rd 0 false
      (some { id := 0, src := thrMaster t, dest := d, reply := r, words := l }) := by
  simp only [State.opCommit, staged, noReset, Bool.false_eq_true, if_false, accepted, if_true]

theorem opCommit_of_room (room : s.commitRoom { id := 0, src := thrMaster t, dest := d, reply := r, words := l } = true) :
    s.opCommit t rd rs1 rs2 false = ((s.setThread t { s.thread t with stage := none }).send
      { id := 0, src := thrMaster t, dest := d, reply := r, words := l }).retire t rd 0 := by
  simp only [State.opCommit, staged, noReset, Bool.false_eq_true, if_false, accepted, room, if_true]

theorem opCommit_of_noRoom (full : s.commitRoom { id := 0, src := thrMaster t, dest := d, reply := r, words := l } = false) :
    s.opCommit t rd rs1 rs2 false = s.retire t rd (failed 4) := by
  simp only [State.opCommit, staged, noReset, Bool.false_eq_true, if_false, accepted, full]

end

/-- A blocked commit is delivered once it has room. -/
theorem opCommitDelivered_of_waiting {s : State} {t : Nat} {w : ThreadWait} {m : Msg} (waits : (s.thread t).wait = some w)
    (commit : w.commit = some m) (blocked : s.thState t = 2) :
    s.opCommitDelivered t = if s.commitRoom m then (s.send m).threadResult t 0 else s := by
  simp only [State.opCommitDelivered, waits, commit, blocked, decide_true, Bool.true_and]

/-- The three commands that send are instructions of the extension. -/
theorem exec_of_sendCommand {t rd rs1 rs2 : Nat} {i : Instr}
    (command : i ∈ [Instr.chput t rd rs1 rs2, .chputl t rd rs1 rs2, .chputln t rd rs1 rs2]) :
    ∃ f : State → State, (∀ s, exec i s = s.run (s.ext t f)) ∧
      ∀ s, (s.thread t).append ((s.thread t).getX rs1) ((s.thread t).getX rs2) = none →
        f s = (s.setThread t { s.thread t with stage := none }).retire t rd (failed 6) := by
  simp only [List.mem_cons, List.not_mem_nil, or_false] at command
  rcases command with rfl | rfl | rfl
  · exact ⟨(·.opChput t rd rs1 rs2), fun _ => rfl, fun _ mismatch => opChput_of_mismatch rd mismatch⟩
  · exact ⟨(·.opCommit t rd rs1 rs2 true), fun _ => rfl, fun _ mismatch => opCommit_of_mismatch rd mismatch true⟩
  · exact ⟨(·.opCommit t rd rs1 rs2 false), fun _ => rfl, fun _ mismatch => opCommit_of_mismatch rd mismatch false⟩

/-- The two commands that commit differ in what they do without room alone. -/
theorem exec_of_commitCommand {t rd rs1 rs2 : Nat} {i : Instr} (command : i ∈ [Instr.chputl t rd rs1 rs2, .chputln t rd rs1 rs2]) :
    ∃ blocking, ∀ s, exec i s = s.run (s.ext t (·.opCommit t rd rs1 rs2 blocking)) := by
  simp only [List.mem_cons, List.not_mem_nil, or_false] at command
  rcases command with rfl | rfl
  · exact ⟨true, fun _ => rfl⟩
  · exact ⟨false, fun _ => rfl⟩

/-- Settles O44: the deferred fault comes first, then whether the word fits the message staged, then what the commit meets. -/
theorem threadSends : Obligations.ThreadSends := by
  unfold Obligations.ThreadSends
  refine ⟨?before, ?gather, ?delivered⟩
  case before =>
    intro t rd rs1 rs2 i s running command x
    obtain ⟨f, meaning, mismatches⟩ := exec_of_sendCommand command
    rw [meaning]
    refine ⟨?notRunning, ?fault, ?mismatch⟩
    case notRunning => exact fun notRunning => run_answers running (ext_of_notRunning notRunning)
    case fault => exact fun a why l runs fault => run_answers running (ext_of_fault runs fault)
    case mismatch =>
      exact fun d r l runs noFault staged other =>
        run_ext_answers runs noFault running (mismatches s (append_of_mismatch staged other _))
  case gather =>
    intro t rd rs1 rs2 l s running runs noFault x d r words m fits
    have staged := append_of_fits fits (x.getX rs2)
    refine ⟨?put, ?reset, ?refused, ?accepted⟩
    case put => exact run_ext_answers runs noFault running (opChput_of_fits rd staged)
    case reset =>
      intro reset i command
      obtain ⟨blocking, meaning⟩ := exec_of_commitCommand command
      exact (meaning s).trans (run_ext_answers runs noFault running (opCommit_of_reset rd staged reset blocking))
    case refused =>
      intro why noReset refused i command
      obtain ⟨blocking, meaning⟩ := exec_of_commitCommand command
      exact (meaning s).trans (run_ext_answers runs noFault running (opCommit_of_refused rd staged noReset refused blocking))
    case accepted =>
      intro noReset accepted
      exact ⟨run_ext_answers runs noFault running (opCommit_of_blocking rd staged noReset accepted),
        fun room => run_ext_answers runs noFault running (opCommit_of_room rd staged noReset accepted room),
        fun full => run_ext_answers runs noFault running (opCommit_of_noRoom rd staged noReset accepted full)⟩
  case delivered =>
    intro t w m s running waits commit blocked
    have meaning := opCommitDelivered_of_waiting waits commit blocked
    exact ⟨fun room => run_answers running (meaning.trans (if_pos room)),
      fun full => run_answers running (meaning.trans (if_neg (ne_true_of_eq_false full)))⟩

/-! ## Reading endpoints (R314, R323) -/

section
variable {s : State} {t rs1 : Nat} (rd timeout : Nat)

section
variable (mayNot : s.mayRead t ((s.thread t).getX rs1 % 64) = false)
include mayNot

theorem opRead_of_refused (header blocking : Bool) : s.opRead t rd rs1 timeout header blocking = s.retire t rd (failed 5) := by
  simp only [State.opRead, mayNot, Bool.not_false, if_true]

theorem opSkip_of_refused : s.opSkip t rd rs1 = s.retire t rd (failed 5) := by
  simp only [State.opSkip, mayNot, Bool.not_false, if_true]

end

variable (may : s.mayRead t ((s.thread t).getX rs1 % 64) = true)
include may

section
variable (empty : (s.endp (ownEp t ((s.thread t).getX rs1 % 64))).msgs = [])
include empty

theorem opRead_of_empty (header blocking : Bool) :
    s.opRead t rd rs1 timeout header blocking =
      if blocking then s.block t 1 ((s.thread t).getX rs1 % 64) rd (timeoutOf timeout) header none else s.retire t rd (failed 3) := by
  simp only [State.opRead, may, Bool.not_true, Bool.false_eq_true, if_false, empty, List.isEmpty_nil, if_true]

theorem opSkip_of_empty : s.opSkip t rd rs1 = s.retire t rd (failed 3) := by
  simp only [State.opSkip, may, Bool.not_true, Bool.false_eq_true, if_false, empty, List.isEmpty_nil, if_true]

end

variable {m : Msg} {l : List Msg} (head : (s.endp (ownEp t ((s.thread t).getX rs1 % 64))).msgs = m :: l)
include head

theorem opRead_of_header (blocking : Bool) :
    s.opRead t rd rs1 timeout true blocking =
      s.retire t rd ((m.words.length - 1) % 32 * 2 ^ 56 + m.reply % 2 ^ 16 * 2 ^ 16 + m.src % 2 ^ 16) := by
  simp only [State.opRead, may, Bool.not_true, Bool.false_eq_true, if_false, head, List.isEmpty_cons, if_true, Endpoint.header]

theorem opSkip_of_head :
    s.opSkip t rd rs1 = (s.setEndp (ownEp t ((s.thread t).getX rs1 % 64))
      { s.endp (ownEp t ((s.thread t).getX rs1 % 64)) with msgs := l, read := 0 }).retire t rd 0 := by
  simp only [State.opSkip, may, Bool.not_true, Bool.false_eq_true, if_false, head, List.isEmpty_cons, List.tail_cons]

/-- A word of the head message is what `Endpoint.take` gives. -/
theorem opRead_of_word (blocking : Bool) :
    s.opRead t rd rs1 timeout false blocking =
      (s.setEndp (ownEp t ((s.thread t).getX rs1 % 64)) (s.endp (ownEp t ((s.thread t).getX rs1 % 64))).take.2).retire t rd
        (s.endp (ownEp t ((s.thread t).getX rs1 % 64))).take.1 := by
  simp only [State.opRead, may, Bool.not_true, Bool.false_eq_true, if_false, head, List.isEmpty_cons]

end

section
variable {x : Endpoint} {m : Msg} {l : List Msg} (head : x.msgs = m :: l)
include head

theorem take_of_more (more : x.read + 1 < m.words.length) :
    x.take = ((if x.read = 0 then 2 ^ 61 else 0) + m.words.getD x.read 0 % 2 ^ 32, { x with read := x.read + 1 }) := by
  simp only [Endpoint.take, head, Nat.not_le.mpr more, decide_false, Bool.false_eq_true, if_false, Nat.zero_add]

theorem take_of_last (last : m.words.length ≤ x.read + 1) :
    x.take = (2 ^ 62 + (if x.read = 0 then 2 ^ 61 else 0) + m.words.getD x.read 0 % 2 ^ 32, { x with msgs := l, read := 0 }) := by
  simp only [Endpoint.take, head, last, decide_true, if_true]

end

/-- The commands that return a word of a message, blocking and not. -/
theorem exec_of_wordCommand {t rd rs1 rs2 : Nat} {i : Instr} (command : i ∈ [Instr.chrecv t rd rs1 rs2, .chrecvn t rd rs1]) :
    ∃ (timeout : State → Nat) (blocking : Bool), ∀ s,
      exec i s = s.run (s.ext t (fun s => s.opRead t rd rs1 (timeout s) false blocking)) := by
  simp only [List.mem_cons, List.not_mem_nil, or_false] at command
  rcases command with rfl | rfl
  · exact ⟨fun s => (s.thread t).getX rs2, true, fun _ => rfl⟩
  · exact ⟨fun _ => 0, false, fun _ => rfl⟩

/-- The commands that return the header of a message, blocking and not. -/
theorem exec_of_headerCommand {t rd rs1 rs2 : Nat} {i : Instr} (command : i ∈ [Instr.chhdr t rd rs1 rs2, .chhdrn t rd rs1]) :
    ∃ (timeout : State → Nat) (blocking : Bool), ∀ s,
      exec i s = s.run (s.ext t (fun s => s.opRead t rd rs1 (timeout s) true blocking)) := by
  simp only [List.mem_cons, List.not_mem_nil, or_false] at command
  rcases command with rfl | rfl
  · exact ⟨fun s => (s.thread t).getX rs2, true, fun _ => rfl⟩
  · exact ⟨fun _ => 0, false, fun _ => rfl⟩

/-! ## Notify ports (R314, R327) -/

section
variable {s : State} {t rs1 : Nat} (rd : Nat)

section
variable (admitsNot : s.portAdmits t ((s.thread t).getX rs1 % 64) = false)
include admitsNot

theorem opPwait_of_refused (timeout : Nat) (blocking : Bool) : s.opPwait t rd rs1 timeout blocking = s.retire t rd (failed 5) := by
  simp only [State.opPwait, admitsNot, Bool.not_false, if_true]

theorem opPset_of_refused (rs2 : Nat) : s.opPset t rd rs1 rs2 = s.retire t rd (failed 5) := by
  simp only [State.opPset, admitsNot, Bool.not_false, if_true]

end

variable (admits : s.portAdmits t ((s.thread t).getX rs1 % 64) = true)
include admits

theorem opPwait_of_set (set : s.get (Reg.CORE_PORT_VALUE_VALUE (t / 64) ((s.thread t).getX rs1 % 64)) ≠ 0) (timeout : Nat)
    (blocking : Bool) :
    s.opPwait t rd rs1 timeout blocking =
      (s.set (Reg.CORE_PORT_VALUE_VALUE (t / 64) ((s.thread t).getX rs1 % 64)) 0).retire t rd
        (s.get (Reg.CORE_PORT_VALUE_VALUE (t / 64) ((s.thread t).getX rs1 % 64))) := by
  simp only [State.opPwait, admits, Bool.not_true, Bool.false_eq_true, if_false, set, ne_eq, not_false_eq_true, if_true]

theorem opPwait_of_clear (clear : s.get (Reg.CORE_PORT_VALUE_VALUE (t / 64) ((s.thread t).getX rs1 % 64)) = 0) (timeout : Nat)
    (blocking : Bool) :
    s.opPwait t rd rs1 timeout blocking =
      if blocking then s.block t 2 ((s.thread t).getX rs1 % 64) rd (timeoutOf timeout) false none else s.retire t rd (failed 3) := by
  simp only [State.opPwait, admits, Bool.not_true, Bool.false_eq_true, if_false, clear, ne_eq, not_true_eq_false]

theorem opPset_of_admitted (rs2 : Nat) :
    s.opPset t rd rs1 rs2 = (s.retire t rd 0).portSet (t / 64) ((s.thread t).getX rs1 % 64) ((s.thread t).getX rs2) := by
  simp only [State.opPset, admits, Bool.not_true, Bool.false_eq_true, if_false]

end

/-- The commands that take a port's value, blocking and not. -/
theorem exec_of_waitCommand {t rd rs1 rs2 : Nat} {i : Instr} (command : i ∈ [Instr.pwait t rd rs1 rs2, .pwaitn t rd rs1]) :
    ∃ (timeout : State → Nat) (blocking : Bool), ∀ s,
      exec i s = s.run (s.ext t (fun s => s.opPwait t rd rs1 (timeout s) blocking)) := by
  simp only [List.mem_cons, List.not_mem_nil, or_false] at command
  rcases command with rfl | rfl
  · exact ⟨fun s => (s.thread t).getX rs2, true, fun _ => rfl⟩
  · exact ⟨fun _ => 0, false, fun _ => rfl⟩

/-! ## Messages that arrive, and ends of waits (R323, R324, R329, R332) -/

/-- The oldest message of the sender has left the messages in flight. -/
def State.landed (s : State) (src dest : Nat) : State :=
  { s with core := { s.core with flight := s.core.flight.eraseP (msgHit src dest) } }

@[simp] theorem landed_epOn (s : State) (src dest e : Nat) : (s.landed src dest).epOn e = s.epOn e := rfl

section
variable {s : State} {src dest : Nat} {m : Msg} (inFlight : s.core.flight.find? (msgHit src dest) = some m)
  (endpoint : dest < 2 ^ 14) (cluster : epCl dest < 24)
include inFlight endpoint cluster

theorem opArrival_of_asleep (asleep : 2 ≤ s.domState (32 + epCl dest)) : s.opArrival src dest = s.domWake (32 + epCl dest) := by
  simp only [State.opArrival, inFlight, Nat.div_eq_of_lt endpoint, Nat.not_le.mpr cluster, asleep, ne_eq, not_true_eq_false, or_self,
    if_false, if_true]

variable (awake : s.domState (32 + epCl dest) < 2)
include awake

theorem opArrival_of_enabled (enabled : s.epOn dest = true) :
    s.opArrival src dest = (((s.landed src dest).setEndp dest
      { (s.landed src dest).endp dest with msgs := ((s.landed src dest).endp dest).msgs ++ [m] }).bump
        (Reg.n_ch_messages (epCl dest))).wake dest := by
  have enabled : (s.landed src dest).epOn dest = true := enabled
  simp only [State.landed] at enabled ⊢
  simp only [State.opArrival, inFlight, Nat.div_eq_of_lt endpoint, Nat.not_le.mpr cluster, Nat.not_le.mpr awake, ne_eq, not_true_eq_false,
    or_self, if_false, enabled, Bool.not_true, Bool.false_eq_true]

/-- A message that finds its endpoint disabled is lost, an engine's reply counted. -/
theorem opArrival_of_disabled (disabled : s.epOn dest = false) :
    s.opArrival src dest = if 2 ^ 16 ≤ m.src then (s.landed src dest).bump (Reg.n_reply_discard (epCl dest)) else s.landed src dest := by
  have disabled : (s.landed src dest).epOn dest = false := disabled
  simp only [State.landed] at disabled ⊢
  simp only [State.opArrival, inFlight, Nat.div_eq_of_lt endpoint, Nat.not_le.mpr cluster, Nat.not_le.mpr awake, ne_eq, not_true_eq_false,
    or_self, if_false, disabled, Bool.not_false, if_true]

end

/-- A blocked read ends at its timeout when it has one. -/
theorem opWaitTimeout_of_blocked {s : State} {t : Nat} {w : ThreadWait} (waits : (s.thread t).wait = some w) (blocked : s.thState t = 2)
    (noCommit : w.commit = none) :
    s.opWaitTimeout t = if w.timeout = 0 then s else (s.bump (Reg.n_ch_timeouts (t / 64))).threadResult t (failed 2) := by
  by_cases endless : w.timeout = 0 <;> simp [State.opWaitTimeout, waits, blocked, noCommit, endless]

section
variable {s : State} {m : Nat}

theorem opWaitAll_of_stuck (live : (s.members m).contains m = true) (stuck : (s.members m).all (fun t => s.waitsInside m t) = true) :
    s.opWaitAll m =
      let u := (s.threadResult m (failed 1)).bump (Reg.n_wait_all_count (m / 64))
      u.raise EV_core_wait_all m [(s.members m).foldl (fun a t => a + 2 ^ (t % 64)) 0, u.get (Reg.CORE_CL_STATUS_FREQ_MHZ (m / 64))] := by
  have some : (s.members m).isEmpty = false := by
    rw [List.isEmpty_eq_false_iff_exists_mem]
    exact ⟨m, List.contains_iff_mem.mp live⟩
  simp only [State.opWaitAll, some, stuck, live, Bool.not_true, Bool.or_self, Bool.false_eq_true, if_false]

theorem opWaitAll_of_progress (progress : (s.members m).all (fun t => s.waitsInside m t) = false) : s.opWaitAll m = s := by
  simp only [State.opWaitAll, progress, Bool.not_false, Bool.or_true, Bool.true_or, if_true]

end

/-- Settles O45: what is refused first, then what waits, then what the head message or the port holds. -/
theorem threadReads : Obligations.ThreadReads := by
  unfold Obligations.ThreadReads
  refine ⟨?endpoints, ?ports, ?arrival, ?timeout, ?waitAll⟩
  case endpoints =>
    intro t rd rs1 rs2 s running runs noFault x e y tmo
    refine ⟨?refused, ?empty, ?head⟩
    case refused =>
      intro mayNot i command
      simp only [List.mem_cons, List.not_mem_nil, or_false] at command
      rcases command with rfl | rfl | rfl | rfl | rfl
      · exact run_ext_answers runs noFault running (opRead_of_refused rd _ mayNot false true)
      · exact run_ext_answers runs noFault running (opRead_of_refused rd _ mayNot false false)
      · exact run_ext_answers runs noFault running (opRead_of_refused rd _ mayNot true true)
      · exact run_ext_answers runs noFault running (opRead_of_refused rd _ mayNot true false)
      · exact run_ext_answers runs noFault running (opSkip_of_refused rd mayNot)
    case empty =>
      intro may empty
      refine ⟨run_ext_answers runs noFault running ((opRead_of_empty rd _ may empty false true).trans (if_pos rfl)),
        run_ext_answers runs noFault running ((opRead_of_empty rd _ may empty true true).trans (if_pos rfl)), fun i command => ?_⟩
      simp only [List.mem_cons, List.not_mem_nil, or_false] at command
      rcases command with rfl | rfl | rfl
      · exact run_ext_answers runs noFault running ((opRead_of_empty rd _ may empty false false).trans (if_neg Bool.false_ne_true))
      · exact run_ext_answers runs noFault running ((opRead_of_empty rd _ may empty true false).trans (if_neg Bool.false_ne_true))
      · exact run_ext_answers runs noFault running (opSkip_of_empty rd may empty)
    case head =>
      intro m l may head
      refine ⟨fun i command => ?header, run_ext_answers runs noFault running (opSkip_of_head rd may head),
        fun more i command => ?more, fun last i command => ?last⟩
      case header =>
        obtain ⟨timeout, blocking, meaning⟩ := exec_of_headerCommand command
        exact (meaning s).trans (run_ext_answers runs noFault running (opRead_of_header rd _ may head blocking))
      case more =>
        obtain ⟨timeout, blocking, meaning⟩ := exec_of_wordCommand command
        have word := opRead_of_word rd (timeout s) may head blocking
        rw [take_of_more head more] at word
        exact (meaning s).trans (run_ext_answers runs noFault running word)
      case last =>
        obtain ⟨timeout, blocking, meaning⟩ := exec_of_wordCommand command
        have word := opRead_of_word rd (timeout s) may head blocking
        rw [take_of_last head last] at word
        exact (meaning s).trans (run_ext_answers runs noFault running word)
  case ports =>
    intro t rd rs1 rs2 s running runs noFault x p f
    refine ⟨fun admitsNot i command => ?refused, fun admits => ⟨fun set i command => ?set, fun clear => ?block, fun clear => ?empty, ?pset⟩⟩
    case refused =>
      simp only [List.mem_cons, List.not_mem_nil, or_false] at command
      rcases command with rfl | rfl | rfl
      · exact run_ext_answers runs noFault running (opPwait_of_refused rd admitsNot _ true)
      · exact run_ext_answers runs noFault running (opPwait_of_refused rd admitsNot _ false)
      · exact run_ext_answers runs noFault running (opPset_of_refused rd admitsNot rs2)
    case set =>
      obtain ⟨timeout, blocking, meaning⟩ := exec_of_waitCommand command
      exact (meaning s).trans (run_ext_answers runs noFault running (opPwait_of_set rd admits set _ blocking))
    case block => exact run_ext_answers runs noFault running ((opPwait_of_clear rd admits clear _ true).trans (if_pos rfl))
    case empty => exact run_ext_answers runs noFault running ((opPwait_of_clear rd admits clear _ false).trans (if_neg Bool.false_ne_true))
    case pset => exact run_ext_answers runs noFault running (opPset_of_admitted rd admits rs2)
  case arrival =>
    intro src dest m s running inFlight u
    refine ⟨fun endpoint cluster asleep => run_answers running (opArrival_of_asleep inFlight endpoint cluster asleep),
      fun endpoint cluster awake enabled => run_answers running (opArrival_of_enabled inFlight endpoint cluster awake enabled),
      fun endpoint cluster awake disabled => ?disabled⟩
    have lost := opArrival_of_disabled inFlight endpoint cluster awake disabled
    exact ⟨fun engine => run_answers running (lost.trans (if_pos engine)),
      fun thread => run_answers running (lost.trans (if_neg (Nat.not_le.mpr thread)))⟩
  case timeout =>
    intro t w s running waits blocked noCommit
    have ends := opWaitTimeout_of_blocked waits blocked noCommit
    exact ⟨fun bounded => run_answers running (ends.trans (if_neg bounded)),
      fun endless => run_answers running (ends.trans (if_pos endless))⟩
  case waitAll =>
    intro m s running live
    exact ⟨fun stuck => run_answers running (opWaitAll_of_stuck live stuck),
      fun progress => run_answers running (opWaitAll_of_progress progress)⟩

/-! ## Starts, releases and groups (R316–R318) -/

section
variable {s : State} {t rs1 : Nat} (rd rs2 : Nat)

theorem opTstart_of_notAdmitted (admitsNot : s.startAdmits t ((s.thread t).getX rs1 % 2 ^ 11) = false) :
    s.opTstart t rd rs1 rs2 = s.retire t rd (failed 5) := by
  simp only [State.opTstart, admitsNot, Bool.not_false, if_true]

section
variable (admits : s.startAdmits t ((s.thread t).getX rs1 % 2 ^ 11) = true)
include admits

theorem opTstart_of_busy
    (busy : s.live ((s.thread t).getX rs1 % 2 ^ 11) = true ∨ s.startHeld ((s.thread t).getX rs1 % 2 ^ 11) = true) :
    s.opTstart t rd rs1 rs2 = s.retire t rd (failed 8) := by
  simp only [State.opTstart, admits, Bool.not_true, Bool.false_eq_true, if_false, Bool.or_eq_true, busy, if_true]

theorem opTstart_of_stopped (stopped : s.live ((s.thread t).getX rs1 % 2 ^ 11) = false)
    (free : s.startHeld ((s.thread t).getX rs1 % 2 ^ 11) = false) :
    s.opTstart t rd rs1 rs2 =
      let u := (s.thread t).getX rs1 % 2 ^ 11
      let y := { ((Thread.reset.setX 10 (bits ((s.thread t).getX rs1) 63 32)).setX 11 t) with
        pc := (s.thread t).getX rs2, priv := (s.thread t).priv }
      (s.startThread u (if u / 64 = t / 64 then t else u) (y.setCsr 0x180 ((s.thread t).csrOf 0x180))).retire t rd 0 := by
  simp only [State.opTstart, admits, Bool.not_true, Bool.false_eq_true, if_false, stopped, free, Bool.or_self]

end

theorem opTrelease_of_member (member : s.ownMember t ((s.thread t).getX rs1 % 2 ^ 11) = true) :
    s.opTrelease t rd rs1 = ((s.stopThread ((s.thread t).getX rs1 % 2 ^ 11)).bump
      (Reg.n_thread_releases ((s.thread t).getX rs1 % 2 ^ 11 / 64))).retire t rd 0 := if_pos member

theorem opTrelease_of_stranger (stranger : s.ownMember t ((s.thread t).getX rs1 % 2 ^ 11) = false) :
    s.opTrelease t rd rs1 = s.retire t rd (failed 5) := if_neg (ne_true_of_eq_false stranger)

theorem opTexit_of_members (members : s.hasMembers t = true) : s.opTexit t rd = s.retire t rd (failed 8) := if_pos members

theorem opTexit_of_alone (alone : s.hasMembers t = false) :
    s.opTexit t rd = (s.stopThread t).bump (Reg.n_thread_releases (t / 64)) := if_neg (ne_true_of_eq_false alone)

theorem opTgroup_of_members (members : s.hasMembers t = true) : s.opTgroup t rd = s.retire t rd (failed 8) := if_pos members

theorem opTgroup_of_alone (alone : s.hasMembers t = false) :
    s.opTgroup t rd = (s.set (Reg.CORE_THREAD_STATUS_MASTER t) (t % 64)).retire t rd 0 := if_neg (ne_true_of_eq_false alone)

end

/-! ## Registers of the core array (R305, R319, R331, R336) -/

section
variable {s : State} {t v : Nat}

theorem opStartReg_of_busy (busy : (s.threadCtl t v).live t = true ∨ (s.threadCtl t v).startHeld t = true) :
    s.opStartReg t v = (s.threadCtl t v).set (Reg.CORE_THREAD_CTL_START_REFUSED t) 1 := by
  simp only [State.opStartReg, Bool.or_eq_true, busy, if_true]

theorem opStartReg_of_stopped (stopped : (s.threadCtl t v).live t = false) (free : (s.threadCtl t v).startHeld t = false) :
    s.opStartReg t v =
      let w := s.threadCtl t v
      let m := w.get (Reg.CORE_THREAD_CTL_START_MODE t)
      let x := (Thread.reset.setX 10 (w.get (Reg.CORE_THREAD_ARG_ARG t))).setX 11 (2 ^ 64 - 1)
      w.startThread t t { x with pc := w.get (Reg.CORE_THREAD_PC_PC t), priv := if m = 2 then 3 else m } := by
  simp only [State.opStartReg, stopped, free, Bool.or_self, Bool.false_eq_true, if_false]

/-- A write of CORE_STAGE_CTL with its W1C bit taken. -/
def State.stageCtl (s : State) (v : Nat) : State := if bit v 30 then s.set Reg.CORE_STAGE_CTL_DISCARD_REFUSED 0 else s

theorem opStageDiscard_of_notHalted (notHalted : (s.stageCtl v).thState ((s.stageCtl v).get Reg.CORE_STAGE_SEL_THREAD) ≠ 3) :
    s.opStageDiscard v = (s.stageCtl v).set Reg.CORE_STAGE_CTL_DISCARD_REFUSED 1 := if_neg notHalted

section
variable (halted : (s.stageCtl v).thState ((s.stageCtl v).get Reg.CORE_STAGE_SEL_THREAD) = 3)
include halted

/-- At a halted thread a DISCARD ends as the staging slot is full or empty. -/
theorem opStageDiscard_of_halted :
    s.opStageDiscard v =
      let w := s.stageCtl v
      let t := w.get Reg.CORE_STAGE_SEL_THREAD
      match (w.thread t).stage with
      | none => w
      | some (dest, _, l) => (w.setThread t { w.thread t with stage := none }).raise EV_core_stage_discard t [dest, l.length] :=
  if_pos halted

theorem opStageDiscard_of_staged {d r : Nat} {l : List Nat}
    (staged : ((s.stageCtl v).thread ((s.stageCtl v).get Reg.CORE_STAGE_SEL_THREAD)).stage = some (d, r, l)) :
    s.opStageDiscard v =
      ((s.stageCtl v).setThread ((s.stageCtl v).get Reg.CORE_STAGE_SEL_THREAD)
        { (s.stageCtl v).thread ((s.stageCtl v).get Reg.CORE_STAGE_SEL_THREAD) with stage := none }).raise EV_core_stage_discard
          ((s.stageCtl v).get Reg.CORE_STAGE_SEL_THREAD) [d, l.length] := by
  simp only [opStageDiscard_of_halted halted, staged]

theorem opStageDiscard_of_empty (empty : ((s.stageCtl v).thread ((s.stageCtl v).get Reg.CORE_STAGE_SEL_THREAD)).stage = none) :
    s.opStageDiscard v = s.stageCtl v := by
  simp only [opStageDiscard_of_halted halted, empty]

end

variable {n c e : Nat}

/-- An endpoint that holds messages is not written while the write keeps it enabled. -/
theorem opEpCfg_of_messages (enable : bit v 31 = true) (messages : (s.endp (n * 512 + c * 64 + e)).msgs ≠ []) : s.opEpCfg n c e v = s := by
  have some : (s.endp (n * 512 + c * 64 + e)).msgs.isEmpty = false := List.isEmpty_eq_false_iff.mpr messages
  simp only [State.opEpCfg, some, enable, Bool.not_false, Bool.and_self, if_true]

theorem opEpCfg_of_noMessages (enable : bit v 31 = true) (none : (s.endp (n * 512 + c * 64 + e)).msgs = []) :
    s.opEpCfg n c e v = s.wr (Reg.CORE_EP_CFG n c e) (Nat.land v 0x8F000007) := by
  simp only [State.opEpCfg, none, enable, List.isEmpty_nil, Bool.not_true, Bool.false_and, Bool.false_eq_true, if_false, if_true]

/-- Disabling an endpoint discards its messages. -/
theorem opEpCfg_of_disable (disable : bit v 31 = false) :
    s.opEpCfg n c e v = (s.wr (Reg.CORE_EP_CFG n c e) (Nat.land v 0x8F000007)).setEndp (n * 512 + c * 64 + e)
      { s.endp (n * 512 + c * 64 + e) with msgs := [], read := 0 } := by
  simp only [State.opEpCfg, disable, Bool.and_false, Bool.false_eq_true, if_false]

/-- A write of CORE_THREAD_SHARE with its W1C bit taken. -/
def State.shareCtl (s : State) (t v : Nat) : State := if bit v 31 then s.set (Reg.CORE_THREAD_SHARE_SHARE_REFUSED t) 0 else s

/-- The shares of the other threads of a core together. -/
def State.otherShares (s : State) (t : Nat) : Nat :=
  (((List.range 8).map (fun j => t / 8 * 8 + j)).filter (fun u => !decide (u = t))).foldl
    (fun a u => a + s.get (Reg.CORE_THREAD_SHARE_SHARE u)) 0

theorem opShare_of_fits (least : v % 128 ≤ 64) (most : (s.shareCtl t v).otherShares t + v % 128 ≤ 192) :
    s.opShare t v = (s.shareCtl t v).set (Reg.CORE_THREAD_SHARE_SHARE t) (v % 128) :=
  if_neg (not_or.mpr ⟨Nat.not_lt.mpr least, Nat.not_lt.mpr most⟩)

theorem opShare_of_over (exceeds : 64 < v % 128 ∨ 192 < (s.shareCtl t v).otherShares t + v % 128) :
    s.opShare t v = (s.shareCtl t v).set (Reg.CORE_THREAD_SHARE_SHARE_REFUSED t) 1 := if_pos exceeds

end

/-- Settles O46: the group's master decides over its members, and the registers of the core array refuse with their own bits. -/
theorem threadGroups : Obligations.ThreadGroups := by
  unfold Obligations.ThreadGroups
  refine ⟨?instructions, ?control, ?discard, ?endpoint, ?share⟩
  case instructions =>
    intro t rd rs1 rs2 s running runs noFault x u
    have ends {f : State → State} {w : State} (e : f s = w) : s.run (s.ext t f) = .next { w with pending := s.pending } :=
      run_ext_answers runs noFault running e
    refine ⟨fun admitsNot => ends (opTstart_of_notAdmitted rd rs2 admitsNot), fun admits busy => ends (opTstart_of_busy rd rs2 admits busy),
      fun admits stopped free => ends (opTstart_of_stopped rd rs2 admits stopped free), fun member => ends (opTrelease_of_member rd member),
      fun stranger => ends (opTrelease_of_stranger rd stranger), fun members i command => ?members,
      fun alone => ⟨ends (opTexit_of_alone rd alone), ends (opTgroup_of_alone rd alone)⟩, ends (f := (·.opTinfo t rd)) rfl⟩
    simp only [List.mem_cons, List.not_mem_nil, or_false] at command
    rcases command with rfl | rfl
    · exact ends (opTexit_of_members rd members)
    · exact ends (opTgroup_of_members rd members)
  case control =>
    intro t v s writable w
    exact ⟨fun busy => write_answers writable (opStartReg_of_busy busy),
      fun stopped free => write_answers writable (opStartReg_of_stopped stopped free), write_answers writable rfl⟩
  case discard =>
    intro v s writable w t
    exact ⟨fun notHalted => write_answers writable (opStageDiscard_of_notHalted notHalted),
      fun d r l halted staged => write_answers writable (opStageDiscard_of_staged halted staged),
      fun halted empty => write_answers writable (opStageDiscard_of_empty halted empty)⟩
  case endpoint =>
    intro n c e v s writable id
    exact ⟨fun enable messages => write_answers writable (opEpCfg_of_messages enable messages),
      fun enable none => write_answers writable (opEpCfg_of_noMessages enable none),
      fun disable => write_answers writable (opEpCfg_of_disable disable)⟩
  case share =>
    intro t v s writable w others sum
    exact ⟨fun least most => write_answers writable (opShare_of_fits least most),
      fun exceeds => write_answers writable (opShare_of_over exceeds)⟩

end Sys2Proof.Machine
end

section
/-! PROOFS. Accelerator jobs: the checks before a job, one equation per case of each data job, then the obligation. -/

namespace Sys2Proof.Machine

/-! ## What comes before a job runs (R23, R142, R143, R339) -/

section
variable {s : State} {r : Ref} {op : Nat} {e : List Byte} {cs : List (List Byte)} {hs : List HostIn}

theorem job_of_asleep (asleep : 2 ≤ s.domState 5) : s.job r op e cs hs = s.domWake 5 := if_pos asleep

variable (awake : s.domState 5 < 2)
include awake

theorem job_of_reset (reset : s.inReset 11 0 = true) : s.job r op e cs hs = (s.resetHit 11 0).jobEnd (envOf r) ST_TARGET_RESET 0 :=
  (if_neg (Nat.not_le.mpr awake)).trans (if_pos reset)

/-- A body that breaks its rule is malformed on a firmware ring and fails on a drawer's. -/
theorem job_of_bad (noReset : s.inReset 11 0 = false) (bad : jobBad op e cs ≠ 0) :
    s.job r op e cs hs = if isCtl r.ring then s.malformed r 4 op else s.jobEnd (envOf r) (jobBad op e cs) 0 := by
  obtain ⟨n, status⟩ := Nat.exists_eq_succ_of_ne_zero bad
  simp only [State.job, Nat.not_le.mpr awake, noReset, if_false, Bool.false_eq_true, status]

end

section
variable {s : State} {r : Ref} {op : Nat} {e : List Byte} {cs : List (List Byte)} {hs : List HostIn}
variable (running : s.running = true) (start : s.mayStart r = true)
include running start

theorem run_job_answers {w : State} (result : (s.markStarted r).job r op e cs hs = w) :
    s.run (s.work r (·.job r op e cs hs)) = .next { w with pending := s.pending } :=
  run_answers running ((work_starts start).trans result)

/-- A job with a good body, on a bank that is awake and not in a reset, leaves what its run leaves. -/
theorem run_goodJob_answers {q : Option (Nat × Nat) × State} (awake : (s.markStarted r).domState 5 < 2)
    (noReset : (s.markStarted r).inReset 11 0 = false) (good : jobBad op e cs = 0)
    (result : (s.markStarted r).jobRun (envOf r) op e cs hs = q) :
    s.run (s.work r (·.job r op e cs hs)) = .next { jobResEnd q (envOf r) with pending := s.pending } :=
  run_job_answers running start (result ▸ State.job_good awake noReset good)

end

section
variable {r : Ref} {e b : List Byte} {conts cs : List (List Byte)} {host hs : List HostIn} {op : Nat} {i : Instr}

/-- The commands of the accelerators' rings, each with its opcode, its body and what else it reads. -/
noncomputable abbrev jobCommands (r : Ref) (e : List Byte) (conts : List (List Byte)) (host : List HostIn) :
    List (Nat × List Byte × List (List Byte) × List HostIn × Instr) :=
  [(0x48, withBit e 1 false, [], [], .sealBind r e), (0x48, withBit e 1 true, [], [], .sealUnbind r e),
    (0x50, e, [], host, .cipher r e host), (0x51, e, [], host, .digest r e host), (0x52, e, [], host, .compress r e host),
    (0x53, e, [], host, .decompress r e host), (0x54, e, conts, host, .ecEncode r e conts host),
    (0x55, e, conts, host, .ecDecode r e conts host), (0x56, e, conts, [], .keyLoad r e conts), (0x57, e, [], [], .keyGen r e),
    (0x58, e, [], [], .keyClear r e), (0x59, e, [], host, .sign r e host), (0x5A, e, [], host, .verify r e host),
    (0x5B, withBit e 45 false, [], host, .kemEncapsulate r e host), (0x5B, withBit e 45 true, [], host, .kemDecapsulate r e host),
    (0x5C, e, [], [], .sealOpen r e), (0x5D, e, [], host, .sealAppend r e host), (0x5E, e, [], [], .sealCheckpoint r e)]

/-- Each is a job of its ring. -/
theorem exec_of_jobCommand (command : (op, b, cs, hs, i) ∈ jobCommands r e conts host) (s : State) :
    exec i s = s.run (s.work r (·.job r op b cs hs)) := by
  have each : ∀ x ∈ jobCommands r e conts host, exec x.2.2.2.2 s = s.run (s.work r (·.job r x.1 x.2.1 x.2.2.1 x.2.2.2.1)) := by
    simp only [List.forall_mem_cons]
    exact ⟨rfl, rfl, rfl, rfl, rfl, rfl, rfl, rfl, rfl, rfl, rfl, rfl, rfl, rfl, rfl, rfl, rfl, rfl, List.forall_mem_nil _⟩
  exact each _ command

end

/-! ## Data jobs (R340, R341, R346) -/

section
variable {s w : State} {v : JobEnv} {e l : List Byte} {h : HostIn} {g : Nat}

theorem jobMap_of_read (read : s.bufRead v (srcOf e) h = (0, l, w)) (f : List Byte → List Byte) :
    s.jobMap v e h f = w.jobOut v (dstOf e) (f l) := by
  simp only [State.jobMap, read]

section
variable (noKey : s.jobKey v (keyOf e) (if leAt e 44 1 = 0 then [1, 2] else [3]) = none)
include noKey

theorem jobCipher_of_noKey : s.jobCipher v e h = ended ST_KEY_ABSENT s := by
  simp only [State.jobCipher, noKey]

end

section
variable (key : s.jobKey v (keyOf e) (if leAt e 44 1 = 0 then [1, 2] else [3]) = some g)
include key

theorem jobCipher_of_readError {st : Nat} (read : s.bufRead v (srcOf e) h = (st, l, w)) (error : st ≠ 0) :
    s.jobCipher v e h = ended st w := by
  obtain ⟨n, rfl⟩ := Nat.exists_eq_succ_of_ne_zero error
  simp only [State.jobCipher, key, read]

variable (read : s.bufRead v (srcOf e) h = (0, l, w))
include read

theorem jobCipher_of_seal (encrypts : bit (leAt e 45 1) 0 = false) :
    s.jobCipher v e h = w.jobOut v (dstOf e)
      (slice (Config.aeadSeal (leAt e 44 1) ((s.ktEntry g).key (keyLen (s.ktEntry g).type)) (slice e 48 12) (l.take (leAt e 60 4))
        (l.drop (leAt e 60 4))) 0 ((l.drop (leAt e 60 4)).length + 16)) := by
  simp only [State.jobCipher, key, read, encrypts, Bool.false_eq_true, if_false]

variable (decrypts : bit (leAt e 45 1) 0 = true)
include decrypts

theorem jobCipher_of_authentic {p : List Byte}
    (authentic : Config.aeadOpen (leAt e 44 1) ((s.ktEntry g).key (keyLen (s.ktEntry g).type)) (slice e 48 12) (l.take (leAt e 60 4))
      (l.drop (leAt e 60 4)) = some p) :
    s.jobCipher v e h = w.jobOut v (dstOf e) (slice p 0 ((l.drop (leAt e 60 4)).length - 16)) := by
  simp only [State.jobCipher, key, read, decrypts, if_true, authentic]

theorem jobCipher_of_forged
    (forged : Config.aeadOpen (leAt e 44 1) ((s.ktEntry g).key (keyLen (s.ktEntry g).type)) (slice e 48 12) (l.take (leAt e 60 4))
      (l.drop (leAt e 60 4)) = none) :
    s.jobCipher v e h =
      ended ST_AUTH_FAIL (w.spoil v (dstOf e) (min (dstOf e).len ((l.drop (leAt e 60 4)).length - 16))) := by
  simp only [State.jobCipher, key, read, decrypts, if_true, forged]

end

theorem jobDigest_of_noKey (keyed : 3 ≤ leAt e 44 1) (noKey : s.jobKey v (keyOf e) [4] = none) :
    s.jobDigest v e h = ended ST_KEY_ABSENT s := by
  simp only [State.jobDigest, Nat.not_lt.mpr keyed, if_false, noKey]

theorem jobSign_of_noKey (noKey : s.jobKey v (keyOf e) [leAt e 44 1] = none) : s.jobSign v e h = ended ST_KEY_ABSENT s := by
  simp only [State.jobSign, noKey]

section
variable (read : s.bufRead v (srcOf e) h = (0, l, w))
include read

theorem jobDigest_of_sha256 (alg : leAt e 44 1 = 0) : s.jobDigest v e h = w.jobOut v (dstOf e) (sha256 l) := by
  simp only [State.jobDigest, alg, jobMap_of_read read, Nat.zero_lt_succ, if_true]

theorem jobDigest_of_sha384 (alg : leAt e 44 1 = 1) : s.jobDigest v e h = w.jobOut v (dstOf e) (sha384 l) := by
  simp only [State.jobDigest, alg, jobMap_of_read read, Nat.one_lt_ofNat, Nat.one_ne_zero, if_true, if_false]

theorem jobDigest_of_sha3 (alg : leAt e 44 1 = 2) : s.jobDigest v e h = w.jobOut v (dstOf e) (sha3 l) := by
  simp only [State.jobDigest, alg, jobMap_of_read read, Nat.lt_add_one, OfNat.ofNat_ne_zero, OfNat.ofNat_ne_one, if_true, if_false]

section
variable (key : s.jobKey v (keyOf e) [4] = some g)
include key

theorem jobDigest_of_hmac256 (alg : leAt e 44 1 = 3) :
    s.jobDigest v e h = w.jobOut v (dstOf e) (hmac sha256 64 ((s.ktEntry g).key 64) l) := by
  simp only [State.jobDigest, alg, key, jobMap_of_read read, Nat.lt_irrefl, if_true, if_false]

theorem jobDigest_of_hmac384 (alg : leAt e 44 1 = 4) :
    s.jobDigest v e h = w.jobOut v (dstOf e) (hmac sha384 128 ((s.ktEntry g).key 64) l) := by
  have keyed : ¬ 4 < 3 := by omega
  have other : ¬ 4 = 3 := by omega
  simp only [State.jobDigest, alg, key, jobMap_of_read read, keyed, other, if_false]

end

theorem jobDecompress_of_sound {p : List Byte} (sound : Config.decompress (leAt e 44 1) l = some p) :
    s.jobDecompress v e h = w.jobOut v (dstOf e) p := by
  simp only [State.jobDecompress, read, sound]

theorem jobDecompress_of_corrupt (corrupt : Config.decompress (leAt e 44 1) l = none) :
    s.jobDecompress v e h = ended ST_ACC_DATA_ERROR w := by
  simp only [State.jobDecompress, read, corrupt]

theorem jobSign_of_key (key : s.jobKey v (keyOf e) [leAt e 44 1] = some g) :
    s.jobSign v e h = (w.signWith g l).2.jobOut v (dstOf e) (w.signWith g l).1 := by
  simp only [State.jobSign, key, read]

theorem jobKem_of_open (key : s.jobKey v (keyOf e) [11] = some g) :
    s.jobKem v e h true = w.jobOut v (dstOf e) (slice (Config.kemOpen (s.ktEntry g).secret l) 0 32) := by
  simp only [State.jobKem, if_true, key, jobMap_of_read read]

end

/-- An encapsulation draws its randomness first. -/
theorem jobKem_of_seal (read : ({ s with freeCtr := s.freeCtr + 1 } : State).bufRead v (srcOf e) h = (0, l, w)) :
    s.jobKem v e h false = w.jobOut v (dstOf e) (slice (Config.kemSeal l s.freeCtr) 0 1120) := by
  simp only [State.jobKem, Bool.false_eq_true, if_false, jobMap_of_read read]

theorem jobVerify_of_read {host : List HostIn} {pub sig : List Byte} {x y : State}
    (message : s.bufRead v (srcOf e) (host.getD 0 ⟨0, []⟩) = (0, l, w))
    (publicKey : w.bufRead v (dstOf e) (host.getD 1 ⟨0, []⟩) = (0, pub, x))
    (signature : x.bufRead v (bufAt e 48) ⟨0, []⟩ = (0, sig, y)) :
    s.jobVerify v e host = ended (if Config.verifies (leAt e 44 1) pub l sig then ST_OK else ST_AUTH_FAIL) y := by
  simp only [State.jobVerify, message, publicKey, signature]

end

/-! ## Erasure codes (R342) -/

/-- The chunk buffers of an erasure-code job whose bit in a mask is set, each with its number. -/
def ecChosen (e : List Byte) (conts : List (List Byte)) (mask : Nat) : List (Nat × Buf) :=
  ((((ecSlots e conts).map (fun x => bufAt x.1 x.2)).zipIdx).map (fun x => (x.2, x.1))).filter
    (fun x => decide (x.1 < leAt e 44 1 + leAt e 45 1) && bit mask x.1)

/-- An erasure-code job over the chunks present and those wanted. -/
def State.ecRun (s : State) (v : JobEnv) (e : List Byte) (conts : List (List Byte)) (host : List HostIn) (present want : Nat) :
    Option (Nat × Nat) × State :=
  if (ecChosen e conts present).length < leAt e 44 1 then ended ST_EC_UNRECOVERABLE s
  else match s.readChunks v host (ecChosen e conts present) with
    | (0, got, s) => s.writeChunks v ((ecChosen e conts want).map (fun x => (x.2, ecChunk (leAt e 44 1) (leAt e 45 1) got x.1))) 0
    | (st, _, s) => ended st s

section
variable {r : Ref} {e : List Byte} {conts : List (List Byte)} {host : List HostIn} {op present want : Nat} {i : Instr}

/-- The two erasure-code commands, each with the chunks that it takes as present and those that it makes. -/
noncomputable abbrev ecCommands (r : Ref) (e : List Byte) (conts : List (List Byte)) (host : List HostIn) : List (Nat × Nat × Nat × Instr) :=
  [(0x54, 2 ^ leAt e 44 1 - 1, 2 ^ (leAt e 44 1 + leAt e 45 1) - 2 ^ leAt e 44 1, .ecEncode r e conts host),
    (0x55, leAt e 52 4, leAt e 56 4, .ecDecode r e conts host)]

theorem exec_of_ecCommand (command : (op, present, want, i) ∈ ecCommands r e conts host) (s : State) :
    exec i s = s.run (s.work r (·.job r op e conts host)) := by
  simp only [List.mem_cons, List.not_mem_nil, Prod.mk.injEq, or_false] at command
  rcases command with ⟨rfl, -, -, rfl⟩ | ⟨rfl, -, -, rfl⟩ <;> rfl

theorem jobRun_of_ecCommand (command : (op, present, want, i) ∈ ecCommands r e conts host) (s : State) (v : JobEnv) :
    s.jobRun v op e conts host = s.ecRun v e conts host present want := by
  simp only [List.mem_cons, List.not_mem_nil, Prod.mk.injEq, or_false] at command
  rcases command with ⟨rfl, rfl, rfl, -⟩ | ⟨rfl, rfl, rfl, -⟩ <;> rfl

variable {s w : State} {v : JobEnv}

theorem ecRun_of_few (few : (ecChosen e conts present).length < leAt e 44 1) :
    s.ecRun v e conts host present want = ended ST_EC_UNRECOVERABLE s := if_pos few

variable (enough : leAt e 44 1 ≤ (ecChosen e conts present).length) {got : List (Nat × List Byte)}
include enough

theorem ecRun_of_read (read : s.readChunks v host (ecChosen e conts present) = (0, got, w)) :
    s.ecRun v e conts host present want =
      w.writeChunks v ((ecChosen e conts want).map (fun x => (x.2, ecChunk (leAt e 44 1) (leAt e 45 1) got x.1))) 0 := by
  simp only [State.ecRun, Nat.not_lt.mpr enough, if_false, read]

theorem ecRun_of_readError {st : Nat} (read : s.readChunks v host (ecChosen e conts present) = (st, got, w)) (error : st ≠ 0) :
    s.ecRun v e conts host present want = ended st w := by
  obtain ⟨n, rfl⟩ := Nat.exists_eq_succ_of_ne_zero error
  simp only [State.ecRun, Nat.not_lt.mpr enough, if_false, read]

end

/-! ## The obligation -/

/-- Settles O47: what every job meets before it runs, then each data job by its key, its buffers and its algorithm, then erasure codes. -/
theorem acceleratorJobs : Obligations.AcceleratorJobs := by
  unfold Obligations.AcceleratorJobs
  refine ⟨?before, ?data, ?erasure⟩
  case before =>
    intro r e b conts cs host hs op i s running start command u
    rw [exec_of_jobCommand command]
    refine ⟨fun asleep => run_job_answers running start (job_of_asleep asleep),
      fun awake reset => run_job_answers running start (job_of_reset awake reset), fun st awake noReset status bad => ?bad⟩
    subst status
    have broken := job_of_bad (r := r) (hs := hs) awake noReset bad
    exact ⟨fun firmware => run_job_answers running start (broken.trans (if_pos firmware)),
      fun drawer => run_job_answers running start (broken.trans (if_neg (ne_true_of_eq_false drawer)))⟩
  case data =>
    intro r e host s running start u v alg h ends awake noReset
    refine ⟨?cipher, ?mapped, ?decapsulate, ?digestNoKey, ?signNoKey, ?encapsulate, ?verify⟩
    case cipher =>
      intro good types iv n
      refine ⟨?noKey, ?readError, ?read⟩
      case noKey => exact fun noKey => run_goodJob_answers running start awake noReset good (jobCipher_of_noKey noKey)
      case readError =>
        exact fun g st l w key read error =>
          run_goodJob_answers running start awake noReset good (jobCipher_of_readError key read error)
      case read =>
        intro g l w key read k
        refine ⟨fun encrypts => run_goodJob_answers running start awake noReset good (jobCipher_of_seal key read encrypts),
          fun decrypts => ?_⟩
        cases opened : Config.aeadOpen alg k iv (l.take n) (l.drop n) with
        | some p => exact run_goodJob_answers running start awake noReset good (jobCipher_of_authentic key read decrypts opened)
        | none => exact run_goodJob_answers running start awake noReset good (jobCipher_of_forged key read decrypts opened)
    case mapped =>
      intro l w read
      refine ⟨?sha256, ?sha384, ?sha3, ?hmac, ?compress, ?decompress, ?sign⟩
      case sha256 => exact fun good alg => run_goodJob_answers running start awake noReset good (jobDigest_of_sha256 read alg)
      case sha384 => exact fun good alg => run_goodJob_answers running start awake noReset good (jobDigest_of_sha384 read alg)
      case sha3 => exact fun good alg => run_goodJob_answers running start awake noReset good (jobDigest_of_sha3 read alg)
      case hmac =>
        exact fun g good key =>
          ⟨fun alg => run_goodJob_answers running start awake noReset good (jobDigest_of_hmac256 read key alg),
            fun alg => run_goodJob_answers running start awake noReset good (jobDigest_of_hmac384 read key alg)⟩
      case compress => exact fun good => run_goodJob_answers running start awake noReset good (jobMap_of_read read _)
      case decompress =>
        intro good
        cases inflated : Config.decompress alg l with
        | some p => exact run_goodJob_answers running start awake noReset good (jobDecompress_of_sound read inflated)
        | none => exact run_goodJob_answers running start awake noReset good (jobDecompress_of_corrupt read inflated)
      case sign => exact fun g good key => run_goodJob_answers running start awake noReset good (jobSign_of_key read key)
    case decapsulate =>
      intro g l w good long key read
      have opens : bit (leAt (withBit e 45 true) 45 1) 0 = true := withBit_bit e 45 true long
      exact run_goodJob_answers running start awake noReset good
        ((congrArg (u.jobKem v (withBit e 45 true) h) opens).trans (jobKem_of_open read key))
    case digestNoKey =>
      exact fun good keyed noKey => run_goodJob_answers running start awake noReset good (jobDigest_of_noKey keyed noKey)
    case signNoKey => exact fun good noKey => run_goodJob_answers running start awake noReset good (jobSign_of_noKey noKey)
    case encapsulate =>
      intro l w good long read
      have seals : bit (leAt (withBit e 45 false) 45 1) 0 = false := withBit_bit e 45 false long
      exact run_goodJob_answers running start awake noReset good
        ((congrArg (u.jobKem v (withBit e 45 false) h) seals).trans (jobKem_of_seal read))
    case verify =>
      exact fun msg pub sig w x y good message publicKey signature =>
        run_goodJob_answers running start awake noReset good (jobVerify_of_read message publicKey signature)
  case erasure =>
    intro r e conts host op present want i s running start command u v k m bufs src dst awake noReset good
    rw [exec_of_ecCommand command]
    have run := jobRun_of_ecCommand command u v
    exact ⟨fun few => run_goodJob_answers running start awake noReset good (run.trans (ecRun_of_few few)),
      fun got w enough read => run_goodJob_answers running start awake noReset good (run.trans (ecRun_of_read enough read)),
      fun st got w enough read error =>
        run_goodJob_answers running start awake noReset good (run.trans (ecRun_of_readError enough read error))⟩

end Sys2Proof.Machine
end

section
/-! PROOFS. The key table and the seal streams: one equation per case of each job, then the obligation. -/

namespace Sys2Proof.Machine

/-! ## Keys (R345) -/

section
variable {s : State} {v : JobEnv} {e : List Byte} {conts : List (List Byte)}

section
variable (noEntry : s.ktIndex v.owner (keyOf e) = none)
include noEntry

theorem jobKeyLoad_of_noEntry : s.jobKeyLoad v e conts = ended ST_KEY_ABSENT s := by simp only [State.jobKeyLoad, noEntry]

theorem jobKeyGen_of_noEntry : s.jobKeyGen v e = ended ST_KEY_ABSENT s := by simp only [State.jobKeyGen, noEntry]

theorem jobKeyClear_of_noEntry : s.jobKeyClear v e = ended ST_KEY_ABSENT s := by simp only [State.jobKeyClear, noEntry]

end

variable {g : Nat} (entry : s.ktIndex v.owner (keyOf e) = some g)
include entry

section
variable (taken : (s.ktEntry g).type ≠ 0)
include taken

theorem jobKeyLoad_of_taken : s.jobKeyLoad v e conts = ended ST_KEY_IN_USE s := by
  simp only [State.jobKeyLoad, entry, taken, ne_eq, not_false_eq_true, if_true]

theorem jobKeyGen_of_taken : s.jobKeyGen v e = ended ST_KEY_IN_USE s := by
  simp only [State.jobKeyGen, entry, taken, ne_eq, not_false_eq_true, if_true]

/-- A key with users, or a stream to which a connection is bound, is not cleared. -/
theorem jobKeyClear_of_inUse (inUse : 0 < (s.ktEntry g).users ∨ (s.ktEntry g).type = 12 ∧ s.streamBound g = true) :
    s.jobKeyClear v e = ended ST_KEY_IN_USE s := by
  simp only [State.jobKeyClear, entry, taken, inUse, if_false, if_true]

variable (noUsers : (s.ktEntry g).users = 0)
include noUsers

theorem jobKeyClear_of_key (key : (s.ktEntry g).type ≠ 12) :
    s.jobKeyClear v e = ended ST_OK (s.setKt g { type := 0, users := 0, secret := [] }) := by
  simp only [State.jobKeyClear, entry, taken, noUsers, key, Nat.lt_irrefl, false_and, or_self, if_false]

end

theorem jobKeyClear_of_stream (stream : (s.ktEntry g).type = 12) (noUsers : (s.ktEntry g).users = 0) (unbound : s.streamBound g = false) :
    s.jobKeyClear v e = ended ST_OK (s.closeStream g) := by
  simp only [State.jobKeyClear, entry, stream, noUsers, unbound, OfNat.ofNat_ne_zero, Nat.lt_irrefl, Bool.false_eq_true, and_false, or_self,
    if_false, if_true]

variable (free : (s.ktEntry g).type = 0)
include free

theorem jobKeyClear_of_free : s.jobKeyClear v e = ended ST_KEY_ABSENT s := by
  simp only [State.jobKeyClear, entry, free, if_true]

theorem jobKeyLoad_of_free :
    s.jobKeyLoad v e conts = ended ST_OK (s.setKt g
      { type := leAt e 44 1, users := 0, secret := slice e 48 16 ++ slice (conts.headD []) 8 48 }) := by
  simp only [State.jobKeyLoad, entry, free, ne_eq, not_true_eq_false, if_false]

theorem jobKeyGen_of_short (short : (dstOf e).len < pubLen (leAt e 44 1)) :
    s.jobKeyGen v e = (some (ST_OUTPUT_SHORT, pubLen (leAt e 44 1)), s.spoil v (dstOf e) (dstOf e).len) := by
  simp only [State.jobKeyGen, entry, free, short, ne_eq, not_true_eq_false, if_false, if_true]

/-- A secret of a type drawn from the random source into the entry. -/
def State.keyDraw (s : State) (g type : Nat) : State :=
  ({ s with freeCtr := s.freeCtr + 1 } : State).setKt g
    { type := type, users := 0, secret := slice (Config.freeBytes s.freeCtr 64) 0 64 }

theorem jobKeyGen_of_drawn (fits : pubLen (leAt e 44 1) ≤ (dstOf e).len) :
    s.jobKeyGen v e =
      keyDrawn g ((s.keyDraw g (leAt e 44 1)).jobOut v (dstOf e) ((s.keyDraw g (leAt e 44 1)).pubOf g)) := by
  simp only [State.jobKeyGen, entry, free, Nat.not_lt.mpr fits, ne_eq, not_true_eq_false, if_false, State.keyDraw]

end

/-- A drawn key stays once its public encoding is written. -/
theorem keyDrawn_of_written (g n : Nat) (s : State) : keyDrawn g (some (0, n), s) = (some (ST_OK, n), s) := rfl

/-- Otherwise its entry is free again. -/
theorem keyDrawn_of_error {st : Nat} (error : st ≠ 0) (g n : Nat) (s : State) :
    keyDrawn g (some (st, n), s) = (some (st, n), s.setKt g { type := 0, users := 0, secret := [] }) := by
  obtain ⟨m, rfl⟩ := Nat.exists_eq_succ_of_ne_zero error
  rfl

/-! ## Streams (R348, R349, R351, R353) -/

/-- A stream as SEAL_OPEN makes it. -/
def State.newStream (s : State) (e : List Byte) (g sg k : Nat) : SealStream :=
  { next := 0, last := 0, lastTime := s.now, link := s.firstLink g sg, sign := leAt e 48 4,
    hybrid := (if bit (leAt e 62 1) 0 then some (leAt e 8 4) else none), records := leAt e 52 4, millis := leAt e 56 4,
    ring := k, gap := false, overdue := false, wait := [] }

section
variable {s : State} {v : JobEnv} {e : List Byte} {g : Nat}

/-- No second signing key is missing: the stream has none, or its key is there. -/
theorem hybridKey_notMissing (hybrid : bit (leAt e 62 1) 0 = false ∨ (s.jobKey v (leAt e 8 4) [9]).isSome = true) :
    (bit (leAt e 62 1) 0 && (s.jobKey v (leAt e 8 4) [9]).isNone) = false := by
  rcases hybrid with single | there
  · rw [single, Bool.false_and]
  · rw [Option.isNone_eq_false_iff.mpr there, Bool.and_false]

section
variable {sg : Nat} (entry : s.ktIndex v.owner (keyOf e) = some g) (free : (s.ktEntry g).type = 0)
  (signs : s.jobKey v (leAt e 48 4) (if bit (leAt e 62 1) 0 then [7] else [7, 9]) = some sg)
  (hybrid : bit (leAt e 62 1) 0 = false ∨ (s.jobKey v (leAt e 8 4) [9]).isSome = true)
include entry free signs hybrid

theorem jobSealOpen_of_noRing (noRing : s.sealRing v (leAt e 60 2) = none) : s.jobSealOpen v e = ended ST_BAD_RING_REF s := by
  have second := hybridKey_notMissing hybrid
  simp only [State.jobSealOpen, entry, free, signs, second, noRing, ne_eq, not_true_eq_false, if_false, Bool.false_eq_true]

theorem jobSealOpen_of_ring {k : Nat} (ring : s.sealRing v (leAt e 60 2) = some k) :
    s.jobSealOpen v e = ended ST_OK (((s.setKt g { type := 12, users := 0, secret := [] }).setStream g (s.newStream e g sg k)).streamUsers
      (s.newStream e g sg k) true) := by
  have second := hybridKey_notMissing hybrid
  simp only [State.jobSealOpen, entry, free, signs, second, ring, ne_eq, not_true_eq_false, if_false, Bool.false_eq_true, State.newStream]

end

section
variable (noKey : s.jobKey v (keyOf e) [12] = none)
include noKey

theorem jobSealAppend_of_noKey (h : HostIn) : s.jobSealAppend v e h = ended ST_KEY_ABSENT s := by
  simp only [State.jobSealAppend, noKey]

theorem jobCheckpoint_of_noKey : s.jobCheckpoint v e = ended ST_KEY_ABSENT s := by simp only [State.jobCheckpoint, noKey]

end

variable (key : s.jobKey v (keyOf e) [12] = some g)
include key

section
variable {h : HostIn} {data : List Byte} {w : State} (read : s.bufRead v (srcOf e) h = (0, data, w))
include read

theorem jobSealAppend_of_credit {z : State} (credit : w.sealCredit g = some z) :
    s.jobSealAppend v e h = ended ST_OK (z.sealRecord g (ownerRing v.owner) 0xFFFFFFFF v.ref.tag data false) := by
  simp only [State.jobSealAppend, key, read, credit]

/-- Without a credit on the seal ring an append waits. -/
theorem jobSealAppend_of_noCredit (noCredit : w.sealCredit g = none) : s.jobSealAppend v e h = (none, w) := by
  simp only [State.jobSealAppend, key, read, noCredit]

end

section
variable {x : SealStream} (stream : s.stream g = some x)
include stream

/-- A checkpoint that asks to wait does so while its boundary is not overdue. -/
theorem jobCheckpoint_of_wait (wait : bit (leAt e 1 1) 0 = true) (early : x.overdue = false) :
    s.jobCheckpoint v e = (none, s.setStream g
      { x with wait := x.wait ++ [⟨v, (dstOf e).addr, (dstOf e).len, (dstOf e).space, bit (leAt e 1 1) 1⟩] }) := by
  simp only [State.jobCheckpoint, key, stream, wait, early, Bool.not_false, Bool.and_self, if_true]

theorem jobCheckpoint_of_now (now : bit (leAt e 1 1) 0 = false ∨ x.overdue = true) :
    s.jobCheckpoint v e = s.checkpoint v g (dstOf e) (bit (leAt e 1 1) 1) := by
  have notWait : (bit (leAt e 1 1) 0 && !x.overdue) = false := by
    rcases now with h | h <;> simp only [h, Bool.false_and, Bool.not_true, Bool.and_false]
  simp only [State.jobCheckpoint, key, stream, notWait, Bool.false_eq_true, if_false]

end

/-! ## Bindings (R354) -/

/-- Is a connection bound to a stream, or does it still have a message that makes a record? -/
def Conn.sealBound (x : Conn) : Bool := x.sealTo.isSome && (!x.unbind || x.tracks.any (·.sealed))

variable {c : Nat} (named : v.owner.bind (fun d => nthIndex (s.extents d 9 64) (leAt e 48 4)) = some c)
include named

theorem jobBind_of_unbound (exists' : (s.conn c).st ≠ 0) (unbound : (s.conn c).sealBound = false) :
    s.jobBind v e false = ended ST_OK (s.setConn c { s.conn c with sealTo := some g, unbind := false }) := by
  simp only [Conn.sealBound] at unbound
  simp only [State.jobBind, key, named, exists', unbound, Bool.false_eq_true, if_false]

theorem jobBind_of_bound (exists' : (s.conn c).st ≠ 0) (bound : (s.conn c).sealBound = true) (here : (s.conn c).sealTo = some g) :
    s.jobBind v e true = ended ST_OK (s.setConn c { s.conn c with unbind := true }) := by
  simp only [Conn.sealBound] at bound
  simp only [State.jobBind, key, named, exists', bound, decide_eq_true here, Bool.and_self, if_false, if_true]

theorem jobBind_of_state {undo : Bool} (state : (s.conn c).st = 0 ∨ undo = false ∧ (s.conn c).sealBound = true ∨
      undo = true ∧ ((s.conn c).sealBound = false ∨ (s.conn c).sealTo ≠ some g)) :
    s.jobBind v e undo = ended ST_SEAL_STATE s := by
  simp only [Conn.sealBound] at state
  simp only [State.jobBind, key, named]
  rcases state with unused | ⟨rfl, bound⟩ | ⟨rfl, unbound | other⟩
  · simp only [unused, if_true]
  · simp only [bound, Bool.false_eq_true, if_false, if_true, ite_self]
  · simp only [unbound, Bool.false_and, Bool.false_eq_true, if_false, if_true, ite_self]
  · simp only [decide_eq_false other, Bool.and_false, Bool.false_eq_true, if_false, if_true, ite_self]

end

/-! ## Boundaries (R353) -/

theorem decide_or_eq_true {p q : Prop} [Decidable p] [Decidable q] (h : p ∨ q) : (decide p || decide q) = true := by
  rwa [← Bool.decide_or, decide_eq_true_eq]

section
variable {s : State} {g : Nat} {x : SealStream} (stream : s.stream g = some x)
include stream

theorem opBoundary_of_early (few : x.next - x.last < x.records) (early : s.now - x.lastTime < x.millis * 1000000) :
    s.opBoundary g = s := by
  simp only [State.opBoundary, stream, Nat.not_le.mpr few, Nat.not_le.mpr early, decide_false, Bool.or_self, Bool.not_false, if_true]

variable (reached : x.records ≤ x.next - x.last ∨ x.millis * 1000000 ≤ s.now - x.lastTime)
include reached

/-- The checkpoint that waits signs at the boundary. -/
theorem opBoundary_of_waiting {w : SealWait} {t : List SealWait} (waits : x.wait = w :: t) :
    s.opBoundary g = jobResEnd ((s.setStream g { x with wait := t }).checkpoint w.env g ⟨w.addr, w.len, w.space⟩ w.fin) w.env := by
  have due : (decide (x.records ≤ x.next - x.last) || decide (x.millis * 1000000 ≤ s.now - x.lastTime)) = true :=
    decide_or_eq_true reached
  simp only [State.opBoundary, stream, due, Bool.not_true, Bool.false_eq_true, if_false, waits]
  rfl

/-- A boundary that no checkpoint waits for is overdue. -/
theorem opBoundary_of_overdue {d : Nat} (noneWaits : x.wait = []) (first : x.overdue = false) (owner : x.owner = some d) :
    s.opBoundary g = ((s.setStream g { x with overdue := true }).bump Reg.n_seal_overdue).raiseTo d EV_acc_seal_overdue d
      [g, x.next - x.last] := by
  have due : (decide (x.records ≤ x.next - x.last) || decide (x.millis * 1000000 ≤ s.now - x.lastTime)) = true :=
    decide_or_eq_true reached
  simp only [State.opBoundary, stream, due, Bool.not_true, Bool.false_eq_true, if_false, noneWaits, first, owner]

end

/-! ## The obligation -/

/-- Settles O48: keys by the state of their entry, streams by what their jobs find there, and boundaries by what waits for them. -/
theorem keysAndSeals : Obligations.KeysAndSeals := by
  unfold Obligations.KeysAndSeals
  refine ⟨?keys, ?opens, ?records, ?binds, ?boundary⟩
  case keys =>
    intro r e conts s running start u v ends awake noReset
    refine ⟨fun noEntry => ?noEntry, fun g entry taken => ?taken, fun g entry free => ?free⟩
    case noEntry =>
      exact ⟨fun good => run_goodJob_answers running start awake noReset good (jobKeyLoad_of_noEntry noEntry),
        fun good => run_goodJob_answers running start awake noReset good (jobKeyGen_of_noEntry noEntry),
        fun good => run_goodJob_answers running start awake noReset good (jobKeyClear_of_noEntry noEntry)⟩
    case taken =>
      exact ⟨fun good => run_goodJob_answers running start awake noReset good (jobKeyLoad_of_taken entry taken),
        fun good => run_goodJob_answers running start awake noReset good (jobKeyGen_of_taken entry taken),
        fun good users => run_goodJob_answers running start awake noReset good (jobKeyClear_of_inUse entry taken (.inl users)),
        fun good noUsers key => run_goodJob_answers running start awake noReset good (jobKeyClear_of_key entry taken noUsers key),
        fun good noUsers stream =>
          ⟨fun bound => run_goodJob_answers running start awake noReset good (jobKeyClear_of_inUse entry taken (.inr ⟨stream, bound⟩)),
            fun unbound => run_goodJob_answers running start awake noReset good (jobKeyClear_of_stream entry stream noUsers unbound)⟩⟩
    case free =>
      refine ⟨fun good => run_goodJob_answers running start awake noReset good (jobKeyClear_of_free entry free),
        fun good => run_goodJob_answers running start awake noReset good (jobKeyLoad_of_free entry free), fun good => ?_⟩
      intro n w
      refine ⟨fun short => run_goodJob_answers running start awake noReset good (jobKeyGen_of_short entry free short),
        fun m z fits out => ?written, fun st m z fits out error => ?error⟩
      case written =>
        exact run_goodJob_answers running start awake noReset good
          ((jobKeyGen_of_drawn entry free fits).trans ((congrArg (keyDrawn g) out).trans (keyDrawn_of_written g m z)))
      case error =>
        exact run_goodJob_answers running start awake noReset good
          ((jobKeyGen_of_drawn entry free fits).trans ((congrArg (keyDrawn g) out).trans (keyDrawn_of_error error g m z)))
  case opens =>
    intro r e g sg k s running start u v hyb awake noReset good entry free signs hybrid
    exact ⟨fun noRing => run_goodJob_answers running start awake noReset good (jobSealOpen_of_noRing entry free signs hybrid noRing),
      fun ring => run_goodJob_answers running start awake noReset good (jobSealOpen_of_ring entry free signs hybrid ring)⟩
  case records =>
    intro r e host s running start u v ends awake noReset
    refine ⟨fun noKey => ?noKey, fun g data w good key read => ?append, fun g x good key stream => ?checkpoint⟩
    case noKey =>
      exact ⟨fun good => run_goodJob_answers running start awake noReset good (jobSealAppend_of_noKey noKey _),
        fun good => run_goodJob_answers running start awake noReset good (jobCheckpoint_of_noKey noKey)⟩
    case append =>
      exact ⟨fun z credit => run_goodJob_answers running start awake noReset good (jobSealAppend_of_credit key read credit),
        fun noCredit => run_goodJob_answers running start awake noReset good (jobSealAppend_of_noCredit key read noCredit)⟩
    case checkpoint =>
      exact ⟨fun wait early => run_goodJob_answers running start awake noReset good (jobCheckpoint_of_wait key stream wait early),
        fun now => run_goodJob_answers running start awake noReset good (jobCheckpoint_of_now key stream now)⟩
  case binds =>
    intro r e b undo i g c s running start command long u v x bound awake noReset good key named
    have binds {q : Option (Nat × Nat) × State} (result : u.jobBind v b undo = q) :
        exec i s = .next { jobResEnd q v with pending := s.pending } := by
      simp only [List.mem_cons, List.not_mem_nil, Prod.mk.injEq, or_false] at command
      rcases command with ⟨rfl, rfl, rfl⟩ | ⟨rfl, rfl, rfl⟩
      · exact run_goodJob_answers running start awake noReset good
          ((congrArg (u.jobBind v (withBit e 1 false)) (withBit_bit e 1 false long)).trans result)
      · exact run_goodJob_answers running start awake noReset good
          ((congrArg (u.jobBind v (withBit e 1 true)) (withBit_bit e 1 true long)).trans result)
    refine ⟨fun bind exists' unbound => ?bind, fun unbind exists' bound here => ?unbind, fun state => ?state⟩
    case bind =>
      subst bind
      exact binds (jobBind_of_unbound key named exists' unbound)
    case unbind =>
      subst unbind
      exact binds (jobBind_of_bound key named exists' bound here)
    case state => exact binds (jobBind_of_state key named state)
  case boundary =>
    intro g x s running stream
    exact ⟨fun few early => run_answers running (opBoundary_of_early stream few early),
      fun w t reached waits => run_answers running (opBoundary_of_waiting stream reached waits),
      fun d reached noneWaits first owner => run_answers running (opBoundary_of_overdue stream reached noneWaits first owner)⟩

end Sys2Proof.Machine
end

section
/-! PROOFS. Job slots, the accelerator endpoint, and the block service's volumes: one equation per case of each command, then the
obligation. -/

namespace Sys2Proof.Machine

/-! ## Job slots (R338, R363) -/

section
variable {s : State} {k : Nat}

theorem opSlotFreed_of_next (next : s.slotNext = some k) :
    s.opSlotFreed = { s.slotGot k with acc := { (s.slotGot k).acc with granted := (s.slotGot k).acc.granted ++ [k] } } := by
  simp only [State.opSlotFreed, next]

theorem opSlotFreed_of_none (none : s.slotNext = none) : s.opSlotFreed = s := by simp only [State.opSlotFreed, none]

theorem opSlotStarve_of_first (waits : s.acc.waiting.contains k = true) (first : s.acc.starved.contains k = false) :
    s.opSlotStarve k = ({ s with acc := { s.acc with starved := s.acc.starved ++ [k] } } : State).raise EV_acc_slot_starved
      (if isCtl k then 0xFFFF else ringDrawer k) [ringNum k] := by
  simp only [State.opSlotStarve, waits, first, Bool.not_true, Bool.or_self, Bool.false_eq_true, if_false]

end

/-! ## Volumes made and destroyed (R355) -/

/-- The volume that a VOL_CREATE names. -/
def volNamed (e : List Byte) : Vol :=
  { k := leAt e 11 1, m := leAt e 12 1, clog := leAt e 13 1, blocks := leAt e 16 8, targets := [], cache := [], flushes := [], seq := 1 }

/-- The key of the volume that a volume command names. -/
def volKeyNamed (e : List Byte) : Nat := volKey (leAt e 8 2) (leAt e 10 1)

section
variable {s : State} {r : Ref} {e : List Byte}

/-- A VOL_CREATE with a good body ends as its drawer and its volume are. -/
theorem opVolCreate_of_good (zero : zeroBut e [(0, 14), (16, 8)] = true) (head : volHead e = true) (data : 1 ≤ (volNamed e).k)
    (mostData : (volNamed e).k ≤ 16) (mostParity : (volNamed e).m ≤ 4) (leastChunk : 14 ≤ (volNamed e).clog)
    (mostChunk : (volNamed e).clog ≤ 20) (some : (volNamed e).blocks ≠ 0) :
    s.opVolCreate r e = if !s.isNvme (leAt e 8 2) then s.complete r ST_DRAWER_STATE 0 []
      else if (s.vol (volKeyNamed e)).isSome then s.complete r ST_VOL_STATE 0 []
      else (s.setVol (volKeyNamed e) (volNamed e)).complete r ST_OK 0 [] := by
  simp only [volNamed] at data mostData mostParity leastChunk mostChunk some
  simp only [State.opVolCreate, zero, head, data, Nat.not_lt.mpr mostData, Nat.not_lt.mpr mostParity, Nat.not_lt.mpr leastChunk,
    Nat.not_lt.mpr mostChunk, some, decide_true, decide_false, Bool.not_true, Bool.or_self, Bool.false_eq_true, if_false]
  rfl

/-- A VOL_CREATE outside the bounds of a volume is malformed. -/
theorem opVolCreate_of_bad (bad : volHead e = false ∨ (volNamed e).k = 0 ∨ 16 < (volNamed e).k ∨ 4 < (volNamed e).m ∨
      (volNamed e).clog < 14 ∨ 20 < (volNamed e).clog ∨ (volNamed e).blocks = 0) :
    s.opVolCreate r e = s.malformed r 4 0xA0 := by
  simp only [volNamed] at bad
  have broken : (!zeroBut e [(0, 14), (16, 8)] || !volHead e || !decide (1 ≤ leAt e 11 1) || decide (16 < leAt e 11 1) ||
      decide (4 < leAt e 12 1) || decide (leAt e 13 1 < 14) || decide (20 < leAt e 13 1) || decide (leAt e 16 8 = 0)) = true := by
    rcases bad with h | h | h | h | h | h | h <;> simp [h]
  exact if_pos broken

section
variable (zero : zeroBut e [(0, 11)] = true) (head : volHead e = true) (nvme : s.isNvme (leAt e 8 2) = true)
include zero head nvme

theorem opVolDestroy_of_noVolume (noVolume : s.vol (volKeyNamed e) = none) :
    s.opVolDestroy r e = s.complete r ST_VOL_STATE 0 [] := by
  simp only [volKeyNamed] at noVolume
  simp only [State.opVolDestroy, zero, head, nvme, noVolume, Bool.not_true, Bool.or_self, Bool.false_eq_true, if_false]

theorem opVolDestroy_of_volume {y : Vol} (volume : s.vol (volKeyNamed e) = some y) :
    s.opVolDestroy r e =
      let w := y.flushes.foldl (fun (u : State) (f : VolFlush) => u.nvDone f.ring f.tag 0x006 0) s
      let z := y.targets.foldl (fun (u : State) (t : Nat × VolTarget) => u.volRelease t.2.conn) w
      ({ z with acc := { z.acc with vols := mdel z.acc.vols (volKeyNamed e) } } : State).complete r ST_OK 0 [] := by
  simp only [volKeyNamed] at volume ⊢
  simp only [State.opVolDestroy, zero, head, nvme, volume, Bool.not_true, Bool.or_self, Bool.false_eq_true, if_false]

end

/-! ## Targets (R355, R359) -/

/-- A VOL_TARGET with a good body for a volume that is there ends as its target and its connection are. -/
theorem opVolTarget_of_good {b : List Byte} {l : List (List Byte)} {x : Vol} (zero : zeroBut e [(0, 13), (16, 16)] = true)
    (head : volHead e = true) (flags : leAt e 12 1 ≤ 1) (inRange : leAt e 16 4 < 1048576) (goodBody : s.connectBad b = false)
    (plain : bit (leAt b 35 1) 1 = false) (nvme : s.isNvme (leAt e 8 2) = true) (volume : s.vol (volKeyNamed e) = some x) :
    s.opVolTarget r e (b :: l) =
      if x.k + x.m ≤ leAt e 11 1 then s.complete r ST_VOL_STATE 0 []
      else if s.connGranted (leAt e 16 4) || !decide ((s.conn (leAt e 16 4)).st = 0) then s.complete r ST_POOL_EXHAUSTED 0 []
      else if s.connectDenied (leAt e 8 2) b then s.complete r ST_CONN_DENIED 0 []
      else
        let w := (s.drawToken 0).2.setConn (leAt e 16 4)
          { Conn.unused with st := 1, drawer := leAt e 8 2, ltoken := (s.drawToken 0).1, vol := true }
        (((w.connected (leAt e 16 4) b).cacheIn (leAt e 16 4)).setTarget (volKeyNamed e) (leAt e 11 1) (leAt e 16 4) x e).complete
          r ST_OK 0 [] := by
  simp only [volKeyNamed] at volume ⊢
  simp only [State.opVolTarget, zero, head, Nat.not_lt.mpr flags, inRange, List.headD_cons, goodBody, plain, nvme, volume, decide_true,
    decide_false, Bool.not_true, Bool.or_self, Bool.false_eq_true, if_false]
  rfl

end

/-! ## Flushes and rebuilds (R358, R359) -/

section
variable {s : State} {v t seq : Nat} {x : Vol} (volume : s.vol v = some x)
include volume

section
variable (waits : x.flushes.any (fun f => decide (f.seq = seq) && f.waiting.contains t) = true)
include waits

theorem opCommitAnswer_of_waiting (status : Nat) :
    s.opCommitAnswer v t seq status = if status ≠ 0 then s.targetFail v t 3 else
      (s.setVol v { x with flushes := x.flushes.map (fun f => if f.seq = seq then
        { f with waiting := f.waiting.filter (fun j => !decide (j = t)), good := f.good + 1 } else f) }).flushesDone v := by
  simp only [State.opCommitAnswer, volume, waits, Bool.not_true, Bool.false_eq_true, if_false]

theorem opFlushExpire_of_waiting : s.opFlushExpire v t seq = s.targetFail v t 3 := by
  simp only [State.opFlushExpire, volume, waits, if_true]

end

section
variable (answered : x.flushes.any (fun f => decide (f.seq = seq) && f.waiting.contains t) = false)
include answered

theorem opCommitAnswer_of_answered (status : Nat) : s.opCommitAnswer v t seq status = s := by
  simp only [State.opCommitAnswer, volume, answered, Bool.not_false, if_true]

theorem opFlushExpire_of_answered : s.opFlushExpire v t seq = s := by
  simp only [State.opFlushExpire, volume, answered, Bool.false_eq_true, if_false]

end

/-- The next stripe of a target under rebuild: its chunks are asked for, and those refused make their targets FAILED. -/
theorem opRebuild_of_cursor {y : VolTarget} {c : Nat} {chunks : List (List Byte)} (target : mget x.targets t = some y)
    (cursor : y.cursor = some c) :
    s.opRebuild v t chunks =
      let refused := (x.asked c t).filter (fun j => (chunks.getD j []).isEmpty)
      let u := (x.asked c t).foldl (fun (u : State) j => u.chunkOp x 0x32 c j 0 x.chunk []) s
      let w := refused.foldl (fun (u : State) j => u.targetFail v (x.targetOf c j) 2) u
      if (x.asked c t).length < x.k ∨ !refused.isEmpty then w else w.rebuilt v t c x y chunks := by
  simp only [State.opRebuild, volume, target, cursor]

end

/-! ## The accelerator endpoint and the bank's registers (R361, R364) -/

/-- The environment of a thread's job. -/
def threadEnv (t rep : Nat) (e : List Byte) : JobEnv :=
  { owner := none, master := thrMaster t, ref := { ring := 0, index := 0, tag := leAt e 4 4, cplReq := true }, thread := some (t, rep) }

/-- The first 64 bytes of a message to the endpoint: the job's entry. -/
def wordsEntry (words : List Nat) : List Byte := slice (words.map (leBytes 4)).flatten 0 64

/-- The rest of a longer message: the job's continuation. -/
def wordsConts (words : List Nat) : List (List Byte) :=
  if 16 < words.length then [slice (words.map (leBytes 4)).flatten 64 64] else []

/-- The first check that a message's job breaks, or 0. -/
def wordsBad (words : List Nat) : Nat :=
  firstBad [msgBad (wordsEntry words) (wordsConts words), jobBad (leAt (wordsEntry words) 0 1) (wordsEntry words) (wordsConts words)]

section
variable {s : State} {t rep : Nat} {words : List Nat}

theorem opEndpointJob_of_asleep (asleep : 2 ≤ s.domState 5) : s.opEndpointJob t rep words = s.domWake 5 := if_pos asleep

variable (awake : s.domState 5 < 2)
include awake

theorem opEndpointJob_of_noSlot (noSlot : s.jobSlotFree 0 = false) : s.opEndpointJob t rep words = s := by
  simp only [State.opEndpointJob, Nat.not_le.mpr awake, noSlot, Bool.not_false, if_false, if_true]

variable (slot : s.jobSlotFree 0 = true) (noReset : s.inReset 11 0 = false)
include slot noReset

theorem opEndpointJob_of_bad (bad : wordsBad words ≠ 0) :
    s.opEndpointJob t rep words = s.jobEnd (threadEnv t rep (wordsEntry words)) (wordsBad words) 0 := by
  obtain ⟨n, status⟩ := Nat.exists_eq_succ_of_ne_zero bad
  rw [status]
  simp only [wordsBad, wordsEntry, wordsConts] at status
  simp only [State.opEndpointJob, Nat.not_le.mpr awake, slot, noReset, status, Bool.not_true, Bool.false_eq_true, if_false]
  rfl

theorem opEndpointJob_of_good (good : wordsBad words = 0) :
    s.opEndpointJob t rep words =
      jobResEnd (s.jobRun (threadEnv t rep (wordsEntry words)) (leAt (wordsEntry words) 0 1) (wordsEntry words) (wordsConts words) [])
        (threadEnv t rep (wordsEntry words)) := by
  simp only [wordsBad, wordsEntry, wordsConts] at good
  simp only [State.opEndpointJob, Nat.not_le.mpr awake, slot, noReset, good, Bool.not_true, Bool.false_eq_true, if_false]
  rfl

end

/-- The fields of a write of ACC_CFG: KT_COUNT while ENABLE is clear and within its bound, then ENABLE. -/
def State.accCfgFields (s : State) (v : Nat) : State :=
  (if s.on Reg.ACC_CFG_ENABLE = true ∨ 1024 < bits v 10 0 then s else s.set Reg.ACC_CFG_KT_COUNT (bits v 10 0)).set
    Reg.ACC_CFG_ENABLE (bits v 31 31)

/-- The first set of ENABLE clears the key table. -/
def State.accOpen (s : State) (v : Nat) : State :=
  if bit v 31 && !s.acc.opened then { s with acc := { s.acc with opened := true, keys := [] } } else s

theorem opAccCfg_eq (s : State) (v : Nat) : s.opAccCfg v = (s.accCfgFields v).accOpen v := by
  have fields : (if s.on Reg.ACC_CFG_ENABLE || decide (1024 < bits v 10 0) then s else s.set Reg.ACC_CFG_KT_COUNT (bits v 10 0)) =
      if s.on Reg.ACC_CFG_ENABLE = true ∨ 1024 < bits v 10 0 then s else s.set Reg.ACC_CFG_KT_COUNT (bits v 10 0) :=
    if_congr (by rw [Bool.or_eq_true, decide_eq_true_eq]) rfl rfl
  rw [State.accCfgFields, ← fields]
  rfl

section
variable {s : State} {v : Nat}

theorem accOpen_of_first (enable : bit v 31 = true) (first : s.acc.opened = false) :
    s.accOpen v = { s with acc := { s.acc with opened := true, keys := [] } } :=
  if_pos (by rw [enable, first, Bool.not_false, Bool.and_self])

theorem accOpen_of_other (other : bit v 31 = false ∨ s.acc.opened = true) : s.accOpen v = s :=
  if_neg (by rcases other with h | h <;> simp [h])

end

/-- Settles O49: slots by who waits, volumes by the checks of each command, flushes and rebuilds by what still waits, and a thread's job
like a ring's. -/
theorem slotsAndVolumes : Obligations.SlotsAndVolumes := by
  unfold Obligations.SlotsAndVolumes
  refine ⟨?slots, ?volumes, ?targets, ?flushes, ?rebuild, ?endpoint, ?enable, ?cleared⟩
  case slots =>
    intro k s running
    exact ⟨fun next => run_answers running (opSlotFreed_of_next next), fun none => run_answers running (opSlotFreed_of_none none),
      fun waits first => run_answers running (opSlotStarve_of_first waits first)⟩
  case volumes =>
    intro r e s running start u d key x
    refine ⟨fun zero head data mostData mostParity leastChunk mostChunk some => ?good, fun bad => ?bad,
      fun y zero head nvme volume => ?destroy, fun zero head nvme noVolume => ?gone⟩
    case good =>
      have creates := opVolCreate_of_good (s := u) (r := r) zero head data mostData mostParity leastChunk mostChunk some
      refine ⟨fun other => ?_, fun nvme taken => ?_, fun nvme free => ?_⟩
      · exact run_work_answers running start (creates.trans (if_pos (by rw [other, Bool.not_false])))
      · have nvme : ¬ (!u.isNvme d) = true := by rw [nvme]; exact Bool.false_ne_true
        exact run_work_answers running start (creates.trans ((if_neg nvme).trans (if_pos taken)))
      · have nvme : ¬ (!u.isNvme d) = true := by rw [nvme]; exact Bool.false_ne_true
        have free : ¬ (u.vol key).isSome = true := by rw [free]; exact Bool.false_ne_true
        exact run_work_answers running start (creates.trans ((if_neg nvme).trans (if_neg free)))
    case bad => exact run_work_answers running start (opVolCreate_of_bad bad)
    case destroy => exact run_work_answers running start (opVolDestroy_of_volume zero head nvme volume)
    case gone => exact run_work_answers running start (opVolDestroy_of_noVolume zero head nvme noVolume)
  case targets =>
    intro r e b l x s running start u d key t c zero head flags inRange goodBody plain nvme volume
    have sets := opVolTarget_of_good (r := r) (l := l) zero head flags inRange goodBody plain nvme volume
    refine ⟨fun beyond => run_work_answers running start (sets.trans (if_pos beyond)), fun within taken => ?_,
      fun within free unused denied => ?_, fun within free unused granted => ?_⟩
    · have taken : (u.connGranted c || !decide ((u.conn c).st = 0)) = true := by
        simpa only [Bool.or_eq_true, Bool.not_eq_true', decide_eq_false_iff_not] using taken
      exact run_work_answers running start (sets.trans ((if_neg (Nat.not_le.mpr within)).trans (if_pos taken)))
    · have free : ¬ (u.connGranted c || !decide ((u.conn c).st = 0)) = true := by simp [free, unused]
      exact run_work_answers running start (sets.trans ((if_neg (Nat.not_le.mpr within)).trans ((if_neg free).trans (if_pos denied))))
    · have free : ¬ (u.connGranted c || !decide ((u.conn c).st = 0)) = true := by simp [free, unused]
      exact run_work_answers running start (sets.trans ((if_neg (Nat.not_le.mpr within)).trans ((if_neg free).trans
        (if_neg (ne_true_of_eq_false granted)))))
  case flushes =>
    intro d nsid t seq status x s running volume
    refine ⟨fun waits => ⟨fun error => ?error, fun good => ?good, ?expire⟩, fun answered => ⟨?late, ?done⟩⟩
    case error => exact run_answers running ((opCommitAnswer_of_waiting volume waits status).trans (if_pos error))
    case good => exact run_answers running ((opCommitAnswer_of_waiting volume waits status).trans (if_neg (not_not.mpr good)))
    case expire => exact run_answers running (opFlushExpire_of_waiting volume waits)
    case late => exact run_answers running (opCommitAnswer_of_answered volume answered status)
    case done => exact run_answers running (opFlushExpire_of_answered volume answered)
  case rebuild =>
    intro d nsid t c chunks x y s running volume target cursor asked refused u
    have rebuilds := opRebuild_of_cursor (chunks := chunks) volume target cursor
    refine ⟨fun enough noneRefused => ?whole, fun broken => ?broken⟩
    case whole =>
      have whole : ¬ (asked.length < x.k ∨ (!refused.isEmpty) = true) := by
        rw [noneRefused, enough]
        simp
      have noFailure : refused.foldl (fun (u : State) j => u.targetFail (volKey d nsid) (x.targetOf c j) 2) u = u := by
        rw [noneRefused, List.foldl_nil]
      exact run_answers running ((rebuilds.trans (if_neg whole)).trans
        (congrArg (fun w : State => w.rebuilt (volKey d nsid) t c x y chunks) noFailure))
    case broken =>
      have broken : asked.length < x.k ∨ (!refused.isEmpty) = true := by
        simpa only [Bool.not_eq_true', List.isEmpty_eq_false_iff] using broken
      exact run_answers running (rebuilds.trans (if_pos broken))
  case endpoint =>
    intro t rep words s running b e conts v bad
    exact ⟨fun asleep => run_answers running (opEndpointJob_of_asleep asleep),
      fun awake noSlot => run_answers running (opEndpointJob_of_noSlot awake noSlot),
      fun awake slot noReset bad => run_answers running (opEndpointJob_of_bad awake slot noReset bad),
      fun awake slot noReset good => run_answers running (opEndpointJob_of_good awake slot noReset good)⟩
  case enable =>
    intro v s writable w
    exact ⟨fun enable first => write_answers writable ((opAccCfg_eq s v).trans (accOpen_of_first enable first)),
      fun other => write_answers writable ((opAccCfg_eq s v).trans (accOpen_of_other other))⟩
  case cleared =>
    exact fun s running opened => run_answers running (if_pos opened)

end Sys2Proof.Machine
end

section
/-! PROOFS. The memories: bring-up, scrubbing, regions, repair, spares and injection, one equation per case of each command, then the
obligation. -/

namespace Sys2Proof.Machine

/-! ## Bring-up (R378) -/

section
variable {s : State} {k : Nat}

/-- The spares that failed training, marked. -/
def State.sparesMarked (s : State) (k spares : Nat) : State :=
  (List.range 2).foldl (fun (s : State) i => if bit spares i then s.set (Reg.MEM_PC_SPARE_UNUSABLE k i) 1 else s) s

theorem opTrained_of_good {pc spares : Nat} (training : s.stackPhase k = 2) :
    s.opTrained k true pc spares = ((((s.sparesMarked k spares).setBit Reg.MEM_STATUS_TRAINED k true).setBit
      Reg.MEM_STATUS_TRAIN_FAIL k false).setPhase k 3).clearSync :=
  (if_neg (not_not.mpr training)).trans (if_pos rfl)

/-- The tries of a stack's training, one more. -/
def State.triedAgain (s : State) (k : Nat) : State :=
  { s with mem := { s.mem with tries := mputD s.mem.tries k (mgetD s.mem.tries k 0 + 1) 0 } }

/-- A training that failed is tried once more, then given up. -/
theorem opTrained_of_failed {pc spares : Nat} (training : s.stackPhase k = 2) :
    s.opTrained k false pc spares =
      if mgetD s.mem.tries k 0 + 1 < 2 then (s.triedAgain k).setPhase k 1
      else ((((s.triedAgain k).setBit Reg.MEM_STATUS_TRAIN_FAIL k true).setPhase k 5).trainSync).raise EV_mem_train_fail k [k, pc] :=
  (if_neg (not_not.mpr training)).trans (if_neg Bool.false_ne_true)

/-- The bytes of a stack cleared, with their poison and their errors. -/
def State.stackCleared (s : State) (k : Nat) : State :=
  { s with mem := { s.mem with
    bytes := s.mem.bytes.filter (fun e => !s.clears k e.1), poison := s.mem.poison.filter (fun w => !s.clears k (32 * w)),
    errs := s.mem.errs.filter (fun e => !s.clears k (32 * e.1)) } }

theorem opCleared_of_clearing (clearing : s.stackPhase k = 3) :
    s.opCleared k = (((((s.stackCleared k).setPhase k 4).setReady (12 + k) true).clearSync).trainSync).hbmStep5 :=
  if_neg (not_not.mpr clearing)

end

/-- The stacks whose training was given up. -/
def State.failedStacks (s : State) : List Nat := (List.range 4).filter (fun k => decide (s.stackPhase k = 5))

/-- A rerun of step 2 for some stacks. -/
def State.retrained (s : State) (l : List Nat) : State :=
  l.foldl (fun (s : State) k => { (s.setPhase k 1) with mem := { (s.setPhase k 1).mem with tries := mdel s.mem.tries k } })
    (s.set Reg.MEM_HBM_CTRL_TRAIN 1)

section
variable {s : State} {v : Nat}

theorem opRetrain_of_failed (train : bit v 0 = true) (failed : s.failedStacks ≠ []) : s.opRetrain v = s.retrained s.failedStacks :=
  if_neg (by
    have failed : s.failedStacks.isEmpty = false := List.isEmpty_eq_false_iff.mpr failed
    rw [State.failedStacks] at failed
    rw [train, failed]
    exact Bool.false_ne_true)

theorem opRetrain_of_none (none : bit v 0 = false ∨ s.failedStacks = []) : s.opRetrain v = s :=
  if_pos (by
    rw [State.failedStacks] at none
    rcases none with h | h <;> simp [h])

end

/-! ## Scrubbing (R380) -/

section
variable {s : State} {a : Nat} {bad : List Nat}

theorem opHbmScrub_of_ready (ready : s.hbmReady = true) :
    s.opHbmScrub a bad =
      ((s.arise (a / 32) bad).touchWord (a / 32) (0x3010 + (hbmWhere a).1)).bump (Reg.n_hbm_scrub_bytes (hbmWhere a).1) 32 :=
  if_neg (by rw [ready]; exact Bool.false_ne_true)

theorem opHbmScrub_of_notReady (notReady : s.hbmReady = false) : s.opHbmScrub a bad = s := if_pos (by rw [notReady]; rfl)

end

/-- A word of a bank after its scrubber read it. -/
def State.scrubbed (s : State) (bank off : Nat) (bad : List Nat) : State :=
  (s.arise (sramAddr bank (off / 32 * 32) / 32) bad).touchWord (sramAddr bank (off / 32 * 32) / 32) (0x3020 + bank / 4096)

section
variable {s : State} {bank off leaf : Nat} {bad : List Nat} (inBank : bank % 4096 < bankCount (bank / 4096))
include inBank

section
variable (parity : isParity bank = true)
include parity

theorem opSramScrub_of_parity :
    s.opSramScrub bank off bad leaf =
      if bad.isEmpty = true then s
      else (s.bump (Reg.n_sram_uncorrectable (bank / 4096))).uncEvent (sramAddr bank (off / 32 * 32)) (0x3020 + bank / 4096) 1 :=
  (if_neg (Nat.not_le.mpr inBank)).trans (if_pos parity)

end

section
variable (plain : isParity bank = false)
include plain

/-- A word of a bank without parity is scrubbed, and one that was poisoned by it has its consequences. -/
theorem opSramScrub_of_plain :
    s.opSramScrub bank off bad leaf =
      if (s.mem.poison.contains (sramAddr bank (off / 32 * 32) / 32) ||
          !(s.scrubbed bank off bad).mem.poison.contains (sramAddr bank (off / 32 * 32) / 32)) = true then s.scrubbed bank off bad
      else
        let u := if bank / 4096 = 1 then (s.scrubbed bank off bad).poisonLeaf leaf else s.scrubbed bank off bad
        if bank = 0x7005 then u.halt 7 [0x3000 + 6 * 2 ^ 16, 0, off, 0]
        else if bank = 0x7008 then u.set Reg.JIG_STATUS_RUNNING 0
        else u :=
  (if_neg (Nat.not_le.mpr inBank)).trans (if_neg (ne_true_of_eq_false plain))

section
variable (sound : s.mem.poison.contains (sramAddr bank (off / 32 * 32) / 32) = false)
  (poisoned : (s.scrubbed bank off bad).mem.poison.contains (sramAddr bank (off / 32 * 32) / 32) = true)
include sound poisoned

theorem opSramScrub_of_poisoned :
    s.opSramScrub bank off bad leaf =
      let u := if bank / 4096 = 1 then (s.scrubbed bank off bad).poisonLeaf leaf else s.scrubbed bank off bad
      if bank = 0x7005 then u.halt 7 [0x3000 + 6 * 2 ^ 16, 0, off, 0]
      else if bank = 0x7008 then u.set Reg.JIG_STATUS_RUNNING 0
      else u :=
  (opSramScrub_of_plain inBank plain).trans (if_neg (by rw [sound, poisoned]; exact Bool.false_ne_true))

theorem opSramScrub_of_leaf (leaves : bank / 4096 = 1) :
    s.opSramScrub bank off bad leaf = (s.scrubbed bank off bad).poisonLeaf leaf := by
  have notAllocator : bank ≠ 0x7005 := by omega
  have notJig : bank ≠ 0x7008 := by omega
  simp only [opSramScrub_of_poisoned inBank plain sound poisoned, leaves, notAllocator, notJig, if_true, if_false]

end
end
end

/-- An uncorrectable word of the allocator state halts the device (R365). -/
theorem opSramScrub_of_allocator {s : State} {off leaf : Nat} {bad : List Nat} (inBank : 0x7005 % 4096 < bankCount (0x7005 / 4096))
    (plain : isParity 0x7005 = false) (sound : s.mem.poison.contains (sramAddr 0x7005 (off / 32 * 32) / 32) = false)
    (poisoned : (s.scrubbed 0x7005 off bad).mem.poison.contains (sramAddr 0x7005 (off / 32 * 32) / 32) = true) :
    s.opSramScrub 0x7005 off bad leaf = (s.scrubbed 0x7005 off bad).halt 7 [0x3000 + 6 * 2 ^ 16, 0, off, 0] :=
  (opSramScrub_of_poisoned inBank plain sound poisoned).trans ((if_pos rfl).trans
    (congrArg (fun u : State => u.halt 7 [0x3000 + 6 * 2 ^ 16, 0, off, 0]) (if_neg (by decide))))

/-- An uncorrectable word of the jig memory stops the jig (R367). -/
theorem opSramScrub_of_jigMemory {s : State} {off leaf : Nat} {bad : List Nat} (inBank : 0x7008 % 4096 < bankCount (0x7008 / 4096))
    (plain : isParity 0x7008 = false) (sound : s.mem.poison.contains (sramAddr 0x7008 (off / 32 * 32) / 32) = false)
    (poisoned : (s.scrubbed 0x7008 off bad).mem.poison.contains (sramAddr 0x7008 (off / 32 * 32) / 32) = true) :
    s.opSramScrub 0x7008 off bad leaf = (s.scrubbed 0x7008 off bad).set Reg.JIG_STATUS_RUNNING 0 :=
  (opSramScrub_of_poisoned inBank plain sound poisoned).trans ((if_neg (by decide)).trans ((if_pos rfl).trans
    (congrArg (fun u : State => u.set Reg.JIG_STATUS_RUNNING 0) (if_neg (by decide)))))

/-! ## Field spare rows (R384) -/

/-- The fields of MEM_ROW_REPAIR written. -/
def State.rowNamed (s : State) (v : Nat) : State :=
  (s.set Reg.MEM_ROW_REPAIR_ROW (bits v 24 16)).set Reg.MEM_ROW_REPAIR_BANK (bits v 15 0)

section
variable {s : State} {v : Nat}

theorem opRowRepair_of_noGo (noGo : bit v 31 = false) : s.opRowRepair v = s.rowNamed v := if_pos (by rw [noGo]; rfl)

variable (go : bit v 31 = true)
include go

theorem opRowRepair_of_go :
    s.opRowRepair v =
      if (s.rowNamed v).rowBad (bits v 15 0) (bits v 24 16) = true then (s.rowNamed v).set Reg.MEM_ROW_STATUS_REFUSED 1
      else (s.rowNamed v).repairRow (bits v 15 0) (bits v 24 16) :=
  if_neg (by rw [go]; exact Bool.false_ne_true)

end

theorem repairRow_of_free {s : State} {bank row j : Nat} (free : s.freeRow bank = some j) :
    s.repairRow bank row =
      let w := s.copyRow bank row
      let x := { w with mem := { w.mem with subst := mput w.mem.subst bank (w.spareRows bank ++ [(j, row, false)]) } }
      (x.bump Reg.n_spares_substituted).raise EV_mem_row_repaired bank [bank, row, j] := by
  simp only [State.repairRow, free]

/-! ## Pseudo-channel spares (R385) -/

section
variable {s : State} {k i : Nat}

theorem moveSpare_of_move {st : Nat} (move : st ≠ s.get (Reg.MEM_PC_SPARE_STATE k i)) :
    s.moveSpare k i st =
      if s.spareBad k i st = true then s.set (Reg.MEM_PC_SPARE_STATE_REFUSED k i) 1
      else
        let u : State := if st = 1 ∧ (!s.mem.mirrored.contains (2 * k + i)) = true then
          { s with mem := { s.mem with mirrored := s.mem.mirrored ++ [2 * k + i] } } else s
        (if st = 2 then u.bump Reg.n_spares_substituted else u).set (Reg.MEM_PC_SPARE_STATE k i) st :=
  if_neg move

theorem moveSpare_off (move : 0 ≠ s.get (Reg.MEM_PC_SPARE_STATE k i)) (good : s.spareBad k i 0 = false) :
    s.moveSpare k i 0 = s.set (Reg.MEM_PC_SPARE_STATE k i) 0 := by
  simp [moveSpare_of_move move, good]

theorem moveSpare_mirror_first (move : 1 ≠ s.get (Reg.MEM_PC_SPARE_STATE k i)) (good : s.spareBad k i 1 = false)
    (first : s.mem.mirrored.contains (2 * k + i) = false) :
    s.moveSpare k i 1 =
      ({ s with mem := { s.mem with mirrored := s.mem.mirrored ++ [2 * k + i] } } : State).set (Reg.MEM_PC_SPARE_STATE k i) 1 := by
  rw [moveSpare_of_move move]
  simp only [good, first, Bool.not_false, and_self, Bool.false_eq_true, if_true, if_false, OfNat.one_ne_ofNat]

theorem moveSpare_mirror_again (move : 1 ≠ s.get (Reg.MEM_PC_SPARE_STATE k i)) (good : s.spareBad k i 1 = false)
    (again : s.mem.mirrored.contains (2 * k + i) = true) :
    s.moveSpare k i 1 = s.set (Reg.MEM_PC_SPARE_STATE k i) 1 := by
  rw [moveSpare_of_move move]
  simp only [good, again, Bool.not_true, and_false, Bool.false_eq_true, if_false, OfNat.one_ne_ofNat]

theorem moveSpare_inUse (move : 2 ≠ s.get (Reg.MEM_PC_SPARE_STATE k i)) (good : s.spareBad k i 2 = false) :
    s.moveSpare k i 2 = (s.bump Reg.n_spares_substituted).set (Reg.MEM_PC_SPARE_STATE k i) 2 := by
  rw [moveSpare_of_move move]
  simp only [good, false_and, Bool.false_eq_true, if_true, if_false, OfNat.ofNat_ne_one]

end

/-! ## Injection (R386) -/

section
variable {s : State} {v : Nat}

theorem opInjectHigh_of_locked (arm : bit v 31 = true) (locked : s.on Reg.DBG_STATUS_UNLOCKED = false) :
    s.opInjectHigh v = s.set Reg.MEM_INJECT_HIGH_INJECT_REFUSED 1 :=
  if_pos (by rw [arm, locked]; rfl)

theorem opInjectHigh_of_open (free : bit v 31 = false ∨ s.on Reg.DBG_STATUS_UNLOCKED = true) :
    s.opInjectHigh v =
      let u := if bit v 30 then s.set Reg.MEM_INJECT_HIGH_INJECT_REFUSED 0 else s
      let w := (((u.set Reg.MEM_INJECT_HIGH_SRAM (bits v 29 29)).set Reg.MEM_INJECT_HIGH_SYMBOLS (bits v 25 24))).set
        Reg.MEM_INJECT_HIGH_ADDR_HIGH (v % 2 ^ 16)
      if bit v 31 then w.set Reg.MEM_INJECT_HIGH_ARM 1 else w :=
  if_neg (by rcases free with h | h <;> simp [h])

end

/-- Settles O50: a stack by its phase, a word by what its scrub found, and each register write by the check that refuses it. -/
theorem memoryCommands : Obligations.MemoryCommands := by
  unfold Obligations.MemoryCommands
  refine ⟨?bringUp, ?retrain, ?hbmScrub, ?sramScrub, ?wear, ?regions, ?rows, ?spares, ?inject⟩
  case bringUp =>
    intro k pc sp s
    refine ⟨fun calibrating => ?_, fun other => ?_, fun training => ?_, fun training => ⟨fun again => ?_, fun last => ?_⟩,
      fun clearing => ?_, fun other => ?_⟩
    · exact always_answers (if_pos calibrating)
    · exact always_answers (if_neg other)
    · exact always_answers (opTrained_of_good training)
    · exact always_answers ((opTrained_of_failed training).trans (if_pos again))
    · exact always_answers ((opTrained_of_failed training).trans (if_neg (Nat.not_lt.mpr last)))
    · exact always_answers (opCleared_of_clearing clearing)
    · exact always_answers (if_pos other)
  case retrain =>
    intro v s writable l
    exact ⟨fun train failed => write_answers writable (opRetrain_of_failed train failed),
      fun none => write_answers writable (opRetrain_of_none none)⟩
  case hbmScrub =>
    intro a bad s running
    exact ⟨fun ready => run_answers running (opHbmScrub_of_ready ready),
      fun notReady => run_answers running (opHbmScrub_of_notReady notReady)⟩
  case sramScrub =>
    intro bank off leaf bad s running inBank a m u
    refine ⟨fun parity clean => ?clean, fun parity dirty => ?dirty, fun plain sound => ?sound, fun plain sound poisoned =>
      ⟨fun leaves => ?leaf, ?allocator, ?jig⟩⟩
    case clean => exact run_answers running ((opSramScrub_of_parity inBank parity).trans (if_pos (List.isEmpty_iff.mpr clean)))
    case dirty => exact run_answers running ((opSramScrub_of_parity inBank parity).trans (if_neg (mt List.isEmpty_iff.mp dirty)))
    case sound =>
      exact run_answers running ((opSramScrub_of_plain inBank plain).trans (if_pos (by
        rw [Bool.or_eq_true, Bool.not_eq_true']
        exact sound)))
    case leaf => exact run_answers running (opSramScrub_of_leaf inBank plain sound poisoned leaves)
    case allocator =>
      rintro rfl
      exact run_answers running (opSramScrub_of_allocator inBank plain sound poisoned)
    case jig =>
      rintro rfl
      exact run_answers running (opSramScrub_of_jigMemory inBank plain sound poisoned)
  case wear => exact fun s running => run_answers running rfl
  case regions =>
    intro v s writable
    exact ⟨fun bad => write_answers writable (if_pos bad), fun good => write_answers writable (if_neg (ne_true_of_eq_false good))⟩
  case rows =>
    intro v s writable u
    refine ⟨fun noGo => write_answers writable (opRowRepair_of_noGo noGo), fun go bad => ?bad, fun j go good free => ?repaired⟩
    case bad => exact write_answers writable ((opRowRepair_of_go go).trans (if_pos bad))
    case repaired =>
      exact write_answers writable ((opRowRepair_of_go go).trans ((if_neg (ne_true_of_eq_false good)).trans (repairRow_of_free free)))
  case spares =>
    intro k i v s writable st f u w
    have moves : s.opSpare k i v = w.moveSpare k i st := rfl
    refine ⟨fun same => ?_, fun move bad => ?_, fun move off good => ?_, fun move mirror good first => ?_,
      fun move mirror good again => ?_, fun move inUse good => ?_⟩
    · exact write_answers writable (moves.trans (if_pos same))
    · exact write_answers writable (moves.trans ((moveSpare_of_move move).trans (if_pos bad)))
    · exact write_answers writable (moves.trans ((congrArg (w.moveSpare k i) off).trans (moveSpare_off move good)))
    · exact write_answers writable (moves.trans ((congrArg (w.moveSpare k i) mirror).trans (moveSpare_mirror_first move good first)))
    · exact write_answers writable (moves.trans ((congrArg (w.moveSpare k i) mirror).trans (moveSpare_mirror_again move good again)))
    · exact write_answers writable (moves.trans ((congrArg (w.moveSpare k i) inUse).trans (moveSpare_inUse move good)))
  case inject =>
    intro v s writable
    exact ⟨fun arm locked => write_answers writable (opInjectHigh_of_locked arm locked),
      fun free => write_answers writable (opInjectHigh_of_open free)⟩

end Sys2Proof.Machine
end

section
/-! PROOFS. Winak links and the stack: what a flit can do as it arrives, one equation per case of each command, then the obligations. -/

namespace Sys2Proof.Machine

/-! ## Bring-up and heartbeats (R391, R394) -/

section
variable {s : State} {l : Nat}

theorem casHello_of_peer {p : CasPeer} (peer : (s.casLink l).peer = some p) (step : (s.casLink l).step = 5)
    (named : s.on Reg.CAS_DEV_ID_ID_VALID = true) (valid : p.valid = true) (other : p.dev ≠ s.devId) :
    s.casHello l =
      let u := ((s.casStep l 6).set (Reg.CAS_LINK_STATUS_PEER_ID l) p.dev).set (Reg.CAS_LINK_STATUS_PEER_LINK l) p.link
      let w := (u.set Reg.CAS_STATUS_LINKS_UP (putBits (u.get Reg.CAS_STATUS_LINKS_UP) l l 1)).setPortUp (8 * (56 + l)) true
      ((w.raise EV_cas_link_up l [p.dev, p.link]).egressEvent (8 * (56 + l)) true).elect := by
  simp only [State.casHello, peer]
  exact if_pos ⟨step, named, valid, other⟩

theorem casStepFail_of_bringUp (begun : 2 ≤ (s.casLink l).step) (notUp : (s.casLink l).step ≠ 6)
    (waits : (s.casLink l).step = 5 → (s.casLink l).peer = none) :
    s.casStepFail l = (s.set (Reg.CAS_LINK_STATUS_LAST_LOSS l) (if (s.casLink l).step = 5 then 2 else 1)).casBegin l :=
  if_neg (by
    rintro (early | up | ⟨hello, heard⟩)
    · exact absurd early (Nat.not_lt.mpr begun)
    · exact notUp up
    · rw [waits hello] at heard
      exact Bool.false_ne_true heard)

theorem beatOut_of_aligned (aligned : 5 ≤ (s.casLink l).step) : s.beatOut l = s.flitOut l 2 0 false (s.beatBody l) :=
  if_neg (Nat.not_lt.mpr aligned)

end

/-! ## A flit as it arrives (R392, R393) -/

section
variable {s v : State} {l kind : Nat} {f : List Byte} {go : State → State}

theorem flitIn_of_early (early : (s.casLink l).step < 5) : s.flitIn l kind f go = s := if_pos early

theorem flitIn_of_broken (aligned : 5 ≤ (s.casLink l).step) (broken : flitOk f = false) :
    s.flitIn l kind f go = (s.bump (Reg.n_crc_error l)).nakOut l :=
  (if_neg (Nat.not_lt.mpr aligned)).trans (if_pos (by rw [broken]; rfl))

/-- A sequenced flit that is not the next of its link asks for the ones before it again. -/
theorem flitIn_of_gap (aligned : 5 ≤ (s.casLink l).step) (whole : flitOk f = true) (type : beAt f 0 2 / 2 ^ 12 = kind)
    (sequenced : ¬ (kind = 0 ∨ kind = 2)) (acked : s.casAckIn l f = v) (still : 5 ≤ (v.casLink l).step)
    (gap : beAt f 0 2 % 2 ^ 12 ≠ (v.casLink l).rxSeq) : s.flitIn l kind f go = v.nakOut l := by
  simp only [State.flitIn, Nat.not_lt.mpr aligned, Nat.not_lt.mpr still, whole, type, sequenced, acked, gap, decide_true, Bool.not_true,
    Bool.false_eq_true, if_false]

/-- Each command of an arriving flit hands it to `flitIn` with the type that it stands for. -/
theorem exec_of_flit {k : Nat} {i : Instr}
    (command : (k, i) ∈ [(0, Instr.idleFlit l f), (1, .dataFlit l f), (2, .heartbeatFlit l f), (4, .spareReq l f), (4, .spareAck l f),
      (4, .spareNak l f), (4, .spareGo l f), (3, .remoteReadRequest l f), (3, .remoteResponse l f)]) :
    ∃ go, exec i s = s.run (s.flitIn l k f go) := by
  simp only [List.mem_cons, List.not_mem_nil, Prod.mk.injEq, or_false] at command
  rcases command with ⟨rfl, rfl⟩ | ⟨rfl, rfl⟩ | ⟨rfl, rfl⟩ | ⟨rfl, rfl⟩ | ⟨rfl, rfl⟩ | ⟨rfl, rfl⟩ | ⟨rfl, rfl⟩ | ⟨rfl, rfl⟩ | ⟨rfl, rfl⟩ <;>
    exact ⟨_, rfl⟩

end

/-! ## Pair replacement (R395) -/

/-- What a REQ does once it is accepted in order. -/
def State.spareReqGo (u : State) (l : Nat) (f : List Byte) : State :=
  if !decide (beAt f 4 1 = 1) || decide (7 < beAt f 5 1) then u
  else match u.steer (56 + l) with
    | some x =>
      if x.pair && !x.answer && !x.acked && !x.reverse then
        if u.devId < u.get (Reg.CAS_LINK_STATUS_PEER_ID l) then u else u.spareAnswer l (beAt f 5 1) true
      else u.spareAnswer l (beAt f 5 1) false
    | none => u.spareAnswer l (beAt f 5 1) (decide (u.spareState (56 + l) = 0))

/-- What a GO does once it is accepted in order. -/
def State.spareGoGo (u : State) (l : Nat) (f : List Byte) : State :=
  if beAt f 4 1 ≠ 4 then u else match u.steer (56 + l) with
    | some x => if x.pair && x.answer && decide (x.lane = beAt f 5 1) then u.setSteer (56 + l) { x with loaded := true } else u
    | none => u

section
variable {u : State} {l : Nat} {f : List Byte}

section
variable (request : beAt f 4 1 = 1) (lane : beAt f 5 1 ≤ 7)
include request lane

theorem spareReqGo_of_free (free : u.steer (56 + l) = none) :
    u.spareReqGo l f = u.spareAnswer l (beAt f 5 1) (decide (u.spareState (56 + l) = 0)) := by
  simp only [State.spareReqGo, request, Nat.not_lt.mpr lane, free, decide_true, decide_false, Bool.not_true, Bool.or_self,
    Bool.false_eq_true, if_false]

/-- Of two ends that ask at once the one of the lower device ID proceeds. -/
theorem spareReqGo_of_both {x : Steer} (steers : u.steer (56 + l) = some x) (pair : x.pair = true) (asks : x.answer = false)
    (waits : x.acked = false) (forward : x.reverse = false) :
    u.spareReqGo l f =
      if u.devId < u.get (Reg.CAS_LINK_STATUS_PEER_ID l) then u else u.spareAnswer l (beAt f 5 1) true := by
  simp only [State.spareReqGo, request, Nat.not_lt.mpr lane, steers, pair, asks, waits, forward, decide_true, decide_false, Bool.not_true,
    Bool.not_false, Bool.and_self, Bool.or_self, Bool.false_eq_true, if_false, if_true]

end

theorem spareGoGo_of_answering {x : Steer} (go : beAt f 4 1 = 4) (steers : u.steer (56 + l) = some x) (pair : x.pair = true)
    (answers : x.answer = true) (lane : x.lane = beAt f 5 1) :
    u.spareGoGo l f = u.setSteer (56 + l) { x with loaded := true } := by
  simp only [State.spareGoGo, go, steers, pair, answers, lane, ne_eq, not_true, decide_true, Bool.and_self, if_false, if_true]

end

/-- Settles O51: a link by its step, a flit by whether it is whole and the next of its link, and a SPARE flit by what waits for it. -/
theorem winakLinks : Obligations.WinakLinks := by
  unfold Obligations.WinakLinks
  refine ⟨?links, ?checks, ?flits⟩
  case links =>
    intro l s running
    refine ⟨fun i k command => ?steps, fun p peer step named valid other => ?hello, fun begun notUp waits => ?timeout, fun aligned => ?beat,
      fun up => ?lost, fun down => ?down, ?lock⟩
    case steps =>
      simp only [List.mem_cons, List.not_mem_nil, Prod.mk.injEq, or_false] at command
      rcases command with ⟨rfl, rfl⟩ | ⟨rfl, rfl⟩ | ⟨rfl, rfl⟩ <;>
        exact ⟨fun step => run_answers running (if_pos step), fun other => run_answers running (if_neg other)⟩
    case hello => exact run_answers running (casHello_of_peer peer step named valid other)
    case timeout => exact run_answers running (casStepFail_of_bringUp begun notUp waits)
    case beat => exact run_answers running (beatOut_of_aligned aligned)
    case lost => exact run_answers running (if_pos up)
    case down => exact run_answers running (if_neg (ne_true_of_eq_false down))
    case lock => exact run_answers running rfl
  case checks =>
    intro l k f i s running command
    obtain ⟨go, runs⟩ := exec_of_flit (s := s) command
    rw [runs]
    refine ⟨fun early => run_answers running (flitIn_of_early early),
      fun aligned broken => run_answers running (flitIn_of_broken aligned broken),
      fun v sequenced aligned whole type acked still gap => ?_⟩
    have sequenced : ¬ (k = 0 ∨ k = 2) := by omega
    exact run_answers running (flitIn_of_gap aligned whole type sequenced acked still gap)
  case flits =>
    intro l f s running aligned whole
    refine ⟨fun idle => ?_, fun heartbeat => ?_, fun v acked still inOrder => ?_⟩
    · exact run_answers running (State.flitIn_open aligned whole idle (Or.inl rfl))
    · exact run_answers running (State.flitIn_open aligned whole heartbeat (Or.inr rfl))
    intro u
    have takes : ∀ (kind : Nat) (go : State → State), beAt f 0 2 / 2 ^ 12 = kind → ¬ (kind = 0 ∨ kind = 2) →
        s.flitIn l kind f go = go u :=
      fun kind go type sequenced => State.flitIn_next aligned whole type sequenced acked still inOrder
    refine ⟨fun data => ⟨fun admits => ?_, fun closed => ?_⟩, fun spare => ?_⟩
    · exact run_answers running ((takes 1 _ data (by decide)).trans (if_neg (ne_true_of_eq_false admits)))
    · exact run_answers running ((takes 1 _ data (by decide)).trans (if_pos closed))
    have takes := fun go : State → State => takes 4 go spare (by decide)
    refine ⟨fun request lane free => ?free, fun x request lane steers pair asks waits forward => ⟨fun lower => ?lower, fun higher => ?higher⟩,
      fun x asked => ⟨fun ack => ?ack, fun nak => ?nak⟩, fun x go steers pair answers lane => ?go⟩
    case free => exact run_answers running ((takes (·.spareReqGo l f)).trans (spareReqGo_of_free request lane free))
    case lower =>
      exact run_answers running ((takes (·.spareReqGo l f)).trans
        ((spareReqGo_of_both request lane steers pair asks waits forward).trans (if_pos lower)))
    case higher =>
      exact run_answers running ((takes (·.spareReqGo l f)).trans
        ((spareReqGo_of_both request lane steers pair asks waits forward).trans (if_neg (Nat.not_lt.mpr higher))))
    case ack => exact run_answers running ((takes _).trans (by simp only [ack, asked, ne_eq, not_true, if_false]))
    case nak =>
      exact run_answers running ((takes _).trans (by simp only [nak, asked, ne_eq, not_true, if_false, State.spareFail]))
    case go => exact run_answers running ((takes (·.spareGoGo l f)).trans (spareGoGo_of_answering go steers pair answers lane))

/-! ## The stack (R403, R406, R407, R410) -/

/-- The link on which the target of a remote access is a neighbour. -/
def State.nearLink (u : State) (w : Nat) : Option Nat :=
  (List.range 8).find? (fun l => u.casUp l && decide (u.get (Reg.CAS_LINK_STATUS_PEER_ID l) = bits w 15 0))

section
variable {s : State} {w : Nat}

theorem remoteCtrl_of_outstanding {t : Nat} (outstanding : s.cas.remote = some t) : s.remoteCtrl w = s :=
  if_pos (by rw [outstanding]; rfl)

section
variable (none : s.cas.remote = none) (go : bit w 31 = true)
include none go

theorem remoteCtrl_of_far (far : (s.remoteFields w).nearLink w = .none) :
    s.remoteCtrl w = (s.remoteFields w).remoteEnd ST_CASC_UNREACHABLE := by
  simp only [State.nearLink] at far
  simp only [State.remoteCtrl, none, go, far, Option.isSome_none, Bool.not_true, Bool.false_eq_true, if_false]

theorem remoteCtrl_of_near {l : Nat} (near : (s.remoteFields w).nearLink w = some l) :
    s.remoteCtrl w = (s.remoteFields w).remoteSend w l := by
  simp only [State.nearLink] at near
  simp only [State.remoteCtrl, none, go, near, Option.isSome_none, Bool.not_true, Bool.false_eq_true, if_false]

end
end

/-- The answer of a tail to a request. -/
def State.remoteAnswer (w : State) (l : Nat) (f : List Byte) (d st : Nat) : State :=
  w.casSend l 3 (beBytes 1 3 ++ slice f 5 3 ++ beBytes 2 w.devId ++ slice f 8 2 ++ [0, 0, 0, 0] ++ slice f 16 8 ++ beBytes 8 d ++
    beBytes 1 st) 0

/-- What a request does once it is accepted in order. -/
def State.remoteServeGo (u : State) (l op : Nat) (f : List Byte) : State :=
  if beAt f 4 1 ≠ op then u
  else
    let (st, d, w) := if u.remoteAdmits l f then u.remoteAccess f else (ST_FENCE_DENIED, 0, u.bump Reg.n_remote_refused)
    w.remoteAnswer l f d st

theorem remoteServeGo_of_refused {u : State} {l op : Nat} {f : List Byte} (request : beAt f 4 1 = op)
    (refused : u.remoteAdmits l f = false) :
    u.remoteServeGo l op f = (u.bump Reg.n_remote_refused).remoteAnswer l f 0 ST_FENCE_DENIED := by
  simp only [State.remoteServeGo, request, refused, ne_eq, not_true, Bool.false_eq_true, if_false]

/-- The response's data, where the access was a read that ended well. -/
def State.remoteData (u : State) (f : List Byte) : State :=
  if u.on Reg.CAS_REMOTE_CTRL_WRITE ∨ beAt f 32 1 ≠ 0 then u
  else u.set Reg.CAS_REMOTE_DATA_DATA (if u.on Reg.CAS_REMOTE_CTRL_SIZE8 then beAt f 24 8 else beAt f 28 4)

/-- What a response does once it is accepted in order. -/
def State.remoteReplyGo (u : State) (f : List Byte) : State :=
  if beAt f 4 1 = 3 ∧ u.cas.remote = some (beAt f 6 2) ∧ beAt f 8 2 = u.get Reg.CAS_REMOTE_CTRL_TARGET then
    (u.remoteData f).remoteEnd (beAt f 32 1)
  else u

theorem remoteLost_of_outstanding {s : State} {t : Nat} (outstanding : s.cas.remote = some t) :
    s.remoteLost = s.remoteEnd ST_CASC_UNREACHABLE := if_pos (by rw [outstanding]; rfl)

theorem remoteLost_of_none {s : State} (none : s.cas.remote = none) : s.remoteLost = s :=
  if_neg (by rw [none]; exact Bool.false_ne_true)

/-- Settles O52: an access by whether one is outstanding and its target is near, a request by the tail's admission, a response by whether
it is the one awaited, and the device ID by the engine's ENABLE. -/
theorem stackAccesses : Obligations.StackAccesses := by
  unfold Obligations.StackAccesses
  refine ⟨?goes, ?serves, ?replies, ?ends, ?devId⟩
  case goes =>
    intro w write i s writable command g near
    have runs : exec i s = s.write (s.remoteCtrl g) := by
      simp only [List.mem_cons, List.not_mem_nil, Prod.mk.injEq, or_false] at command
      rcases command with ⟨rfl, rfl⟩ | ⟨rfl, rfl⟩ <;> rfl
    have go : bit g 31 = true := goWord_go w write
    rw [runs]
    exact ⟨fun t outstanding => write_answers writable (remoteCtrl_of_outstanding outstanding),
      fun none far => write_answers writable (remoteCtrl_of_far none go far),
      fun l none near => write_answers writable (remoteCtrl_of_near none go near)⟩
  case serves =>
    intro l op f i s v running command aligned whole type acked still inOrder request u answer done
    have runs : exec i s = s.run (done (s.remoteServe l op f)) := by
      simp only [List.mem_cons, List.not_mem_nil, Prod.mk.injEq, or_false] at command
      rcases command with ⟨rfl, rfl⟩ | ⟨rfl, rfl⟩
      · exact congrArg s.run (if_neg (by decide)).symm
      · exact congrArg s.run (if_pos rfl).symm
    have sequenced : ¬ (3 = 0 ∨ 3 = 2) := by decide
    have takes : s.remoteServe l op f = u.remoteServeGo l op f :=
      State.flitIn_next (go := fun u => u.remoteServeGo l op f) aligned whole type sequenced acked still inOrder
    rw [runs]
    refine ⟨fun refused => ?_, fun st d w admits access => ?_⟩
    · exact run_answers running (congrArg done (takes.trans (remoteServeGo_of_refused request refused)))
    · exact run_answers running (congrArg done
        (remoteServe_next aligned whole type acked still inOrder request admits access))
  case replies =>
    intro l f s v running aligned whole type acked still inOrder u
    have sequenced : ¬ (3 = 0 ∨ 3 = 2) := by decide
    have takes : s.remoteReply l f = u.remoteReplyGo f :=
      State.flitIn_next (go := fun u => u.remoteReplyGo f) aligned whole type sequenced acked still inOrder
    refine ⟨fun response tag target => ?_, fun other => ?_⟩
    · have awaited : s.remoteReply l f = (u.remoteData f).remoteEnd (beAt f 32 1) := takes.trans (if_pos ⟨response, tag, target⟩)
      refine ⟨fun noData => ?_, fun read good => ?_⟩
      · exact run_answers running (awaited.trans (congrArg (fun w : State => w.remoteEnd (beAt f 32 1)) (if_pos noData)))
      · have data : ¬ (u.on Reg.CAS_REMOTE_CTRL_WRITE = true ∨ beAt f 32 1 ≠ 0) := by simp [read, good]
        rw [good] at awaited
        exact run_answers running (awaited.trans (congrArg (fun w : State => w.remoteEnd 0) (if_neg data)))
    · have other : ¬ (beAt f 4 1 = 3 ∧ u.cas.remote = some (beAt f 6 2) ∧ beAt f 8 2 = u.get Reg.CAS_REMOTE_CTRL_TARGET) := by tauto
      exact run_answers running (takes.trans (if_neg other))
  case ends =>
    intro s running
    exact ⟨fun t outstanding => run_answers running (remoteLost_of_outstanding outstanding),
      fun none => run_answers running (remoteLost_of_none none), fun x => run_answers running rfl⟩
  case devId =>
    intro v s writable u
    refine ⟨fun off => write_answers writable (if_neg (ne_true_of_eq_false off)), fun on => ⟨fun same => ?_, fun change => ?_⟩⟩
    · exact write_answers writable ((if_pos on).trans (if_pos same))
    · have change : ¬ (bits v 31 31 = u.get Reg.CAS_DEV_ID_ID_VALID ∧ bits v 15 0 = u.devId) := by tauto
      exact write_answers writable ((if_pos on).trans (if_neg change))

end Sys2Proof.Machine
end

section
/-! PROOFS. Power states of the device and of its domains: what a request does, what each step of a transition does, then the
obligation. -/

namespace Sys2Proof.Machine

/-! ## Requests for a device state (R415, R416) -/

section
variable {s : State} {k : Nat}

/-- A request for a device state with nothing else in the word. -/
theorem stateReq_of_go {w : Nat} (target : bits w 2 0 = k) (known : k ≤ 4) (keeps : bit w 30 = false) (go : bit w 31 = true) :
    s.stateReq w = (s.set Reg.PWR_STATE_REQ_TARGET k).pwrRequest k false := by
  simp only [State.stateReq, target, Nat.not_lt.mpr known, keeps, go, Bool.not_true, Bool.false_eq_true, if_false]

theorem exec_of_stateRequest {i : Instr}
    (command : (i, k) ∈ [(Instr.pwrReqRun, 0), (.pwrReqIdle, 1), (.pwrReqSleep, 2), (.pwrReqDeep, 3), (.pwrReqOff, 4)]) :
    exec i s = s.write ((s.set Reg.PWR_STATE_REQ_TARGET k).pwrRequest k false) := by
  simp only [List.mem_cons, List.not_mem_nil, Prod.mk.injEq, or_false] at command
  rcases command with ⟨rfl, rfl⟩ | ⟨rfl, rfl⟩ | ⟨rfl, rfl⟩ | ⟨rfl, rfl⟩ | ⟨rfl, rfl⟩ <;>
    exact congrArg s.write (stateReq_of_go (by decide) (by decide) (by decide) (by decide))

theorem pwrRequest_of_refused {r : Nat} (refused : s.pwrRefusal k = some r) :
    s.pwrRequest k false =
      (((s.set Reg.PWR_STATE_REQ_GO 0).set Reg.PWR_STATE_REQ_REFUSED 1).set Reg.PWR_STATE_REQ_REASON r).raise EV_pwr_refused 0xFFFF
        [k, r, 0] := by
  simp only [State.pwrRequest, refused, State.pwrRefuse, b2n, Bool.false_eq_true, if_false]

section
variable (allowed : s.pwrRefusal k = none)
include allowed

theorem pwrRequest_of_there {jig : Bool} (there : k = s.devState) : s.pwrRequest k jig = s := by
  simp only [State.pwrRequest, allowed]
  exact if_pos there

theorem pwrRequest_of_move (move : k ≠ s.devState) :
    s.pwrRequest k false = (s.set Reg.PWR_STATE_REQ_GO 1).pwrBegin k false none := by
  simp only [State.pwrRequest, allowed, Bool.false_eq_true, if_false]
  exact if_neg move

end
end

/-! ## Requests for a domain (R415, R436) -/

/-- The fields of PWR_DOMAIN that a write sets. -/
def State.domFields (s : State) (d w : Nat) : State :=
  let v := (s.set (Reg.PWR_DOMAIN_JIG_ALLOW d) (bits w 29 29)).set (Reg.PWR_DOMAIN_REQ d) (bits w 25 24)
  if bit w 27 then v.set (Reg.PWR_DOMAIN_REFUSED d) 0 else v

/-- GO is none of these fields. -/
theorem domFields_putGo (s : State) (d w : Nat) : s.domFields d (putBits w 28 28 1) = s.domFields d w := by
  have allow : bits (putBits w 28 28 1) 29 29 = bits w 29 29 := bits_putBits_other w 1 (by decide) (by decide)
  have req : bits (putBits w 28 28 1) 25 24 = bits w 25 24 := bits_putBits_other w 1 (by decide) (by decide)
  have clears : bit (putBits w 28 28 1) 27 = bit w 27 := by
    rw [bit_eq_bits, bit_eq_bits, bits_putBits_other w 1 (by decide) (by decide)]
  simp only [State.domFields, allow, req, clears]

/-- A domain that may be asked for another state does not move. -/
theorem unmoved_of_domAllowed {s : State} {d st : Nat} (allowed : s.domAllowed d st = true) : mget s.pwr.doms d = none := by
  simp only [State.domAllowed, Bool.and_eq_true, Option.isNone_iff_eq_none] at allowed
  obtain ⟨⟨⟨⟨-, unmoved⟩, -⟩, -⟩, -⟩ := allowed
  exact unmoved

theorem domBegin_moves (s : State) (d st by' : Nat) : (mget (s.domBegin d st by').pwr.doms d).isSome = true := by
  rw [State.domBegin, withPwr_pwr, mget_mput_same]
  rfl

/-- What GO does once the fields are written. -/
def State.domGo (u : State) (d st : Nat) : State :=
  match u.domRequest d st 0 with
  | (true, t) => if (mget t.pwr.doms d).isSome then t.set (Reg.PWR_DOMAIN_GO d) 1 else t
  | (false, t) => t.set (Reg.PWR_DOMAIN_REFUSED d) 1

theorem domCtrl_of_go {s : State} {d w : Nat} (domain : isDom d = true) (idle : (s.domFields d w).on (Reg.PWR_DOMAIN_GO d) = false) :
    s.domCtrl d (putBits w 28 28 1) = (s.domFields d w).domGo d (bits w 25 24) := by
  have req : bits (putBits w 28 28 1) 25 24 = bits w 25 24 := bits_putBits_other w 1 (by decide) (by decide)
  have go : bit (putBits w 28 28 1) 28 = true := by
    rw [bit_eq_bits, bits_putBits_same w 1 (Nat.le_refl 28)]
    rfl
  have goes : s.domCtrl d (putBits w 28 28 1) =
      if !isDom d then s
      else if !bit (putBits w 28 28 1) 28 ∨ (s.domFields d (putBits w 28 28 1)).on (Reg.PWR_DOMAIN_GO d) then
        s.domFields d (putBits w 28 28 1)
      else (s.domFields d (putBits w 28 28 1)).domGo d (bits (putBits w 28 28 1) 25 24) := rfl
  rw [goes, domFields_putGo, req, go, domain, idle]
  simp only [Bool.not_true, Bool.false_eq_true, or_self, if_false]

section
variable {u : State} {d st : Nat}

theorem domGo_of_refused (refused : u.domAllowed d st = false) :
    u.domGo d st = (u.raise EV_pwr_refused 0xFFFF [d, 0, 0]).set (Reg.PWR_DOMAIN_REFUSED d) 1 := by
  simp only [State.domGo, State.domRequest, refused, Bool.false_eq_true, if_false]

section
variable (allowed : u.domAllowed d st = true)
include allowed

theorem domGo_of_there (there : st = u.domState d) : u.domGo d st = u := by
  have unmoved := unmoved_of_domAllowed allowed
  simp only [State.domGo, State.domRequest, allowed, if_true, if_pos there, unmoved, Option.isSome_none, Bool.false_eq_true, if_false]

theorem domGo_of_move (move : st ≠ u.domState d) : u.domGo d st = (u.domBegin d st 0).set (Reg.PWR_DOMAIN_GO d) 1 := by
  simp only [State.domGo, State.domRequest, allowed, if_true, if_neg move, domBegin_moves]

end
end

/-! ## RUN, IDLE and SLEEP (R418, R424) -/

theorem arrived_idle (s : State) (t : Trans) :
    s.arrived t 1 = (({ s with jig := { s.jig with idleAt := s.now } } : State).devStateTo t 1).pwrEnd := by
  simp only [State.arrived, if_true]

theorem arrived_run (s : State) (t : Trans) : s.arrived t 0 = (s.devStateTo t 0).pwrEnd := by
  simp only [State.arrived, Nat.zero_ne_one, if_false]

section
variable {s : State} {t : Trans} (trans : s.pwr.trans = some t)
include trans

theorem idleMoved_to_idle (src : t.src = 0) (dst : t.dst = 1) :
    s.idleMoved =
      (({ s.domsTo [0] 1 with jig := { (s.domsTo [0] 1).jig with idleAt := (s.domsTo [0] 1).now } } : State).devStateTo t 1).pwrEnd := by
  rw [← arrived_idle]
  simp only [State.idleMoved, trans]
  exact if_pos ⟨src, dst⟩

theorem idleMoved_to_run (src : t.src = 1) (dst : t.dst = 0) : s.idleMoved = ((s.domsTo [1] 0).devStateTo t 0).pwrEnd := by
  rw [← arrived_run]
  simp only [State.idleMoved, trans, src, dst, Nat.zero_ne_one, one_ne_zero, and_self, if_false, if_true]

theorem slept_of_entry (dst : t.dst = 2) :
    s.slept = ((((List.range 64).foldl (fun (s : State) n => s.octPark n) (s.domsTo [0, 1] 2)).devStateTo t 2).pwrEnd).pwrEntered := by
  simp only [State.slept, trans]
  exact if_pos dst

section
variable (src : t.src = 2) (dst : t.dst < 2)
include src dst

theorem woke_of_all (all : t.named = none) : s.woke = ((s.domsTo [2] t.dst).octsWake).arrived t t.dst := by
  simp only [State.woke, trans, src, Nat.not_le.mpr dst, all, ne_eq, not_true, or_self, if_false]

theorem woke_of_named {m : Nat} (named : t.named = some m) :
    s.woke =
      ((6 :: 8 :: 9 :: 10 :: 11 :: namedDomains m).foldl (fun (s : State) d => if s.domState d = 2 then s.setDom d 0 else s) s).arrived
        t 1 := by
  simp only [State.woke, trans, src, Nat.not_le.mpr dst, named, ne_eq, not_true, or_self, if_false]

end

/-! ## A drain that takes too long (R420, R425) -/

/-- The entry is abandoned: admission reopens and no wake is pending. -/
def State.drainAbandoned (s : State) : State :=
  (((s.withPwr (fun p => { p with closed := false })).bump Reg.n_deep_abandoned).set Reg.PWR_STATUS_WAKE_PENDING 0).pwrEnd

theorem drainOver_of_draining (step : t.step = 2) (deep : 3 ≤ t.dst) (running : s.halted = false) (noReset : s.err.phase = .none) :
    s.drainOver =
      (if t.src = 0 then s.drainAbandoned else ((s.drainAbandoned.domsTo [1, 2] 0).octsWake).devStateTo t 0).pwrRefuse t.dst 5 t.jig := by
  simp only [State.drainOver, trans, step, Nat.not_lt.mpr deep, State.safePoint_none running noReset, ne_eq, not_true, or_self, if_false]
  rfl

end

/-- Settles O53: a request by its refusal and by where it leads, a step of a transition by the transition that runs and its next step. -/
theorem powerTransitions : Obligations.PowerTransitions := by
  unfold Obligations.PowerTransitions
  refine ⟨?requests, ?domains, ?moves, ?steps⟩
  case requests =>
    intro i k s writable command u
    rw [exec_of_stateRequest command]
    exact ⟨fun r refused => write_answers writable (pwrRequest_of_refused refused),
      fun allowed there => write_answers writable (pwrRequest_of_there allowed there),
      fun allowed move => write_answers writable (pwrRequest_of_move allowed move)⟩
  case domains =>
    intro d w s writable domain st v u idle
    have goes : s.domCtrl d (putBits w 28 28 1) = u.domGo d st := domCtrl_of_go domain idle
    exact ⟨fun refused => write_answers writable (goes.trans (domGo_of_refused refused)),
      fun allowed there => write_answers writable (goes.trans (domGo_of_there allowed there)),
      fun allowed move => write_answers writable (goes.trans (domGo_of_move allowed move))⟩
  case moves =>
    intro t s running trans
    exact ⟨fun src dst => run_answers running (idleMoved_to_idle trans src dst),
      fun src dst => run_answers running (idleMoved_to_run trans src dst),
      fun dst => run_answers running (slept_of_entry trans dst),
      fun src dst all => run_answers running (woke_of_all trans src dst all),
      fun m src dst named => run_answers running (woke_of_named trans src dst named)⟩
  case steps =>
    intro t s noReset trans goes calm
    refine ⟨fun entry => ⟨?closed, ?drained, ?holds, ?timeout, ?parked⟩, fun deep => ⟨?saved, ?refresh, ?rails⟩, ?off,
      fun src dst => ⟨?good, ?waits, ?pll, ?hbm, ?restored⟩⟩
    case closed =>
      intro u step calm
      obtain ⟨running, noReset'⟩ := calm
      exact stepping_answers noReset (State.entryStep_goes trans step entry running noReset')
    case drained =>
      intro u trans' empty step calm
      obtain ⟨running, noReset'⟩ := calm
      exact stepping_answers noReset ((if_neg (ne_true_of_eq_false empty)).trans
        (State.entryStep_goes (act := fun s => s) trans' step entry running noReset'))
    case holds =>
      intro u holds
      exact stepping_answers noReset (if_pos holds)
    case timeout =>
      intro step calm u
      obtain ⟨running, noReset'⟩ := calm
      have deep : 3 ≤ t.dst := by omega
      exact stepping_answers noReset (drainOver_of_draining trans step deep running noReset')
    case parked =>
      intro step calm
      obtain ⟨running, noReset'⟩ := calm
      exact stepping_answers noReset (State.entryStep_goes trans step entry running noReset')
    case saved =>
      intro mib step calm
      obtain ⟨running, noReset'⟩ := calm
      exact stepping_answers noReset (State.stepDone_goes trans step deep (Or.inl (by decide)) running noReset')
    case refresh =>
      intro step calm
      obtain ⟨running, noReset'⟩ := calm
      exact stepping_answers noReset (State.stepDone_goes trans step deep (Or.inl (by decide)) running noReset')
    case rails =>
      intro u step calm
      obtain ⟨running, noReset'⟩ := calm
      exact stepping_answers noReset (State.stepDone_goes trans step deep (Or.inl (by decide)) running noReset')
    case off =>
      intro dst step calm u
      obtain ⟨running, noReset'⟩ := calm
      exact stepping_answers noReset (State.stepDone_goes (act := fun s => s) trans step dst (Or.inl (by decide)) running noReset')
    case good =>
      intro pg good step calm
      obtain ⟨running, noReset'⟩ := calm
      exact stepping_answers noReset ((if_pos good).trans
        (State.stepDone_goes trans step dst (Or.inr src) running noReset'))
    case waits =>
      intro pg waits
      exact stepping_answers noReset (if_neg (ne_true_of_eq_false waits))
    case pll =>
      intro step calm
      obtain ⟨running, noReset'⟩ := calm
      exact stepping_answers noReset (State.stepDone_goes trans step dst (Or.inr src) running noReset')
    case hbm =>
      intro badP badW step calm
      obtain ⟨running, noReset'⟩ := calm
      exact stepping_answers noReset (State.stepDone_goes trans step dst (Or.inr src) running noReset')
    case restored =>
      intro bad step u calm
      obtain ⟨running, noReset'⟩ := calm
      exact stepping_answers noReset (State.stepDone_goes trans step dst (Or.inr src) running noReset')

end Sys2Proof.Machine
end

section
/-! PROOFS. Flash operations, digests and the recovery agent: one equation per case of each command, then the obligations. -/

namespace Sys2Proof.Machine

/-! ## Flash operations begun (R477) -/

theorem exec_of_flashCommand {i : Instr} {op : Nat} {s : State}
    (command : (i, op) ∈ [(Instr.flashRead, 1), (.flashProgram, 2), (.flashErase, 3), (.flashCopy, 4)]) :
    exec i s = s.write (s.flashGo op) := by
  simp only [List.mem_cons, List.not_mem_nil, Prod.mk.injEq, or_false] at command
  rcases command with ⟨rfl, rfl⟩ | ⟨rfl, rfl⟩ | ⟨rfl, rfl⟩ | ⟨rfl, rfl⟩ <;> rfl

section
variable {s u : State} {op : Nat} (opened : s.set Reg.BOOT_FLASH_CTRL_OP op = u)
include opened

theorem flashGo_of_running (running : u.on Reg.BOOT_FLASH_CTRL_GO = true) : s.flashGo op = u := by
  subst opened
  exact if_pos running

variable (idle : u.on Reg.BOOT_FLASH_CTRL_GO = false)
include idle

theorem flashGo_of_busy (busy : u.loaderBusy = true) : s.flashGo op = u.flashEnd 12 := by
  subst opened
  exact (if_neg (ne_true_of_eq_false idle)).trans (if_pos busy)

variable (free : u.loaderBusy = false)
include free

theorem flashGo_of_badForm
    (bad : flashForm op (u.get Reg.BOOT_FLASH_ADDR_ADDR) (u.get Reg.BOOT_FLASH_LEN_LEN) (u.get Reg.BOOT_FLASH_HBM_HBM) = false) :
    s.flashGo op = u.flashEnd 11 := by
  subst opened
  exact (if_neg (ne_true_of_eq_false idle)).trans ((if_neg (ne_true_of_eq_false free)).trans (if_pos (by rw [bad]; rfl)))

/-- An operation in order starts, unless it would change what is protected. -/
theorem flashGo_of_goodForm
    (good : flashForm op (u.get Reg.BOOT_FLASH_ADDR_ADDR) (u.get Reg.BOOT_FLASH_LEN_LEN) (u.get Reg.BOOT_FLASH_HBM_HBM) = true) :
    s.flashGo op =
      if (op = 2 ∨ op = 3) ∧ u.flashProtected (u.get Reg.BOOT_FLASH_ADDR_ADDR) (u.get Reg.BOOT_FLASH_LEN_LEN) = true then u.flashEnd 13
      else ((u.withBoot (fun b => { b with op := some (op, u.get Reg.BOOT_FLASH_ADDR_ADDR, u.get Reg.BOOT_FLASH_LEN_LEN,
        u.get Reg.BOOT_FLASH_HBM_HBM) })).set Reg.BOOT_FLASH_CTRL_GO 1).set Reg.BOOT_FLASH_CTRL_BUSY 1 := by
  subst opened
  exact (if_neg (ne_true_of_eq_false idle)).trans ((if_neg (ne_true_of_eq_false free)).trans
    (if_neg (by rw [good]; exact Bool.false_ne_true)))

end

/-! ## Flash operations ended (R477) -/

section
variable {s : State} {h : HostIn} {op a n hbm : Nat} (runs : s.boot.op = some (op, a, n, hbm))
include runs

theorem flashDone_of_failed (failed : h.st ≠ 0) : s.flashDone h = s.flashEnd 11 := by
  simp only [State.flashDone, runs]
  exact if_pos failed

variable (good : h.st = 0)
include good

theorem flashDone_of_read (read : op = 1) : s.flashDone h = (s.setWindow (slice h.data 0 n)).flashEnd 0 := by
  subst read
  simp only [State.flashDone, runs, good, ne_eq, not_true, if_false]

theorem flashDone_of_program (program : op = 2) : s.flashDone h = (s.emit (.program a (s.flashWindow n))).flashEnd 0 := by
  subst program
  simp only [State.flashDone, runs, good, ne_eq, not_true, if_false]

theorem flashDone_of_erase (erase : op = 3) : s.flashDone h = (s.emit (.erase a (n / 0x10000))).flashEnd 0 := by
  subst erase
  simp only [State.flashDone, runs, good, ne_eq, not_true, if_false]

theorem flashDone_of_copy (copy : op = 4) : s.flashDone h = ((s.memWrite 0x3003 hbm (slice h.data 0 n)).2).flashEnd 0 := by
  subst copy
  simp only [State.flashDone, runs, good, ne_eq, not_true, if_false]

end

theorem flashDone_of_none {s : State} {h : HostIn} (none : s.boot.op = none) : s.flashDone h = s := by
  simp only [State.flashDone, none]

/-! ## Digests (R486) -/

theorem digestDone_of_none {s : State} (none : s.boot.digest = none) : s.digestDone = s := by
  simp only [State.digestDone, none]

theorem digestDone_of_range {s v : State} {a n : Nat} {bad : Bool} {l : List Byte} (range : s.boot.digest = some (a, n))
    (read : s.memRead 0x3003 a (min n (2 ^ 28)) = (bad, l, v)) :
    s.digestDone =
      let u := (List.range 12).foldl (fun (s : State) w => s.wr (Reg.BOOT_DIGEST_DATA w) (leAt (sha384 l) (4 * w) 4)) v
      ((u.withBoot (fun b => { b with digest := none })).set Reg.BOOT_DIGEST_CTRL_GO 0).set Reg.BOOT_DIGEST_CTRL_DONE 1 := by
  simp only [State.digestDone, range, read]

/-! ## The recovery agent (R482, R483) -/

section
variable {s : State} {path : Nat} {f : List Byte} {h : HostIn} {hs : List HostIn} {c : RecCmd}

/-- Without its command the agent does nothing. -/
theorem exec_of_noCommand {i : Instr} {op : Nat} {ok : Bool}
    (command : (i, op) ∈ [(Instr.recoveryIdent path f, 1), (.recoveryErase path f ok, 2), (.recoveryWrite path f ok, 3),
      (.recoveryRead path f h, 4), (.recoveryStage path f h hs, 5), (.recoveryReset path f, 6)])
    (none : s.recCmd op path f = none) : exec i s = s.run s := by
  simp only [List.mem_cons, List.not_mem_nil, Prod.mk.injEq, or_false] at command
  rcases command with ⟨rfl, rfl⟩ | ⟨rfl, rfl⟩ | ⟨rfl, rfl⟩ | ⟨rfl, rfl⟩ | ⟨rfl, rfl⟩ | ⟨rfl, rfl⟩
  · exact congrArg s.run (by simp only [State.recIdent, none])
  · exact congrArg s.run (by simp only [State.recErase, none])
  · exact congrArg s.run (by simp only [State.recWrite, none])
  · exact congrArg s.run (by simp only [State.recRead, none])
  · exact congrArg s.run (by simp only [State.recStage, none])
  · exact congrArg s.run (by simp only [State.recReset, none])

theorem recIdent_of_command (command : s.recCmd 1 path f = some c) : s.recIdent path f = s.recReply c 0 s.recInfo [] := by
  simp only [State.recIdent, command]

theorem recErase_of_command {ok : Bool} (command : s.recCmd 2 path f = some c) :
    s.recErase path f ok =
      if (decide (c.arg0 % 0x10000 ≠ 0) || s.flashProtected c.arg0 (c.arg1 * 0x10000)) = true then s.recReply c 13 [] []
      else if ok = false then s.recReply c 11 [] []
      else (s.emit (.erase c.arg0 c.arg1)).recReply c 0 [] [] := by
  simp only [State.recErase, command]
  simp only [Bool.or_eq_true, decide_eq_true_eq, Bool.not_eq_true']

theorem recWrite_of_command {ok : Bool} (command : s.recCmd 3 path f = some c) :
    s.recWrite path f ok =
      if (decide (c.arg0 % 256 ≠ 0) || decide (c.arg1 % 256 ≠ 0) || decide (c.most < c.arg1) || s.flashProtected c.arg0 c.arg1) = true then
        s.recReply c 13 [] []
      else if ok = false then s.recReply c 11 [] []
      else (s.emit (.program c.arg0 (slice c.data 0 c.arg1))).recReply c 0 [] [] := by
  simp only [State.recWrite, command]
  simp only [Bool.or_eq_true, decide_eq_true_eq, Bool.not_eq_true', or_assoc]

theorem recRead_of_command (command : s.recCmd 4 path f = some c) :
    s.recRead path f h =
      if (decide (c.arg0 % 256 ≠ 0) || decide (c.arg1 % 256 ≠ 0) || decide (c.most < c.arg1)) = true then s.recReply c 13 [] []
      else if h.st ≠ 0 then s.recReply c 11 [] []
      else s.recReply c 0 [] (slice h.data 0 c.arg1) := by
  simp only [State.recRead, command]
  simp only [Bool.or_eq_true, decide_eq_true_eq, or_assoc]

/-- The slot that a RECOVERY_STAGE names, with the bounds it gives. -/
def Dir.staged (d : Dir) (c : RecCmd) : DirSlot :=
  if c.arg1 = 0 then d.slot (c.arg0 % 2) else { d.slot (c.arg0 % 2) with base := c.arg1 % 2 ^ 32, size := c.arg1 / 2 ^ 32 }

section
variable {d : Dir} (command : s.recCmd 5 path f = some c) (dir : s.boot.dir = some d)
include command dir

theorem recStage_of_badBounds (bad : (decide (1 < c.arg0) || !boundsOk (d.staged c) (d.slot (1 - c.arg0 % 2))) = true) :
    s.recStage path f h hs = s.recReply c 13 [] [] := by
  simp only [State.recStage, command, dir, Option.getD_some]
  simp only [Bool.or_eq_true, decide_eq_true_eq] at bad
  exact if_pos bad

variable (inBounds : (decide (1 < c.arg0) || !boundsOk (d.staged c) (d.slot (1 - c.arg0 % 2))) = false)
include inBounds

theorem recStage_of_badImage {r : Nat} (bad : s.imageCheck h hs (d.staged c).size = some r) :
    s.recStage path f h hs = (s.rejected (c.arg0 % 2) r).recReply c r [] [] := by
  have inBounds : ¬ (1 < c.arg0 ∨ (!boundsOk (d.staged c) (d.slot (1 - c.arg0 % 2))) = true) := by
    simpa only [Bool.or_eq_true, decide_eq_true_eq] using ne_true_of_eq_false inBounds
  simp only [Dir.staged] at inBounds bad
  simp only [State.recStage, command, dir, Option.getD_some]
  rw [if_neg inBounds, bad]

theorem recStage_of_goodImage (good : s.imageCheck h hs (d.staged c).size = none) :
    s.recStage path f h hs =
      (s.dirWritten (d.setSlot (c.arg0 % 2) { d.staged c with st := 1 }).next).recReply c 0 [] [] := by
  have inBounds : ¬ (1 < c.arg0 ∨ (!boundsOk (d.staged c) (d.slot (1 - c.arg0 % 2))) = true) := by
    simpa only [Bool.or_eq_true, decide_eq_true_eq] using ne_true_of_eq_false inBounds
  simp only [Dir.staged] at inBounds good ⊢
  simp only [State.recStage, command, dir, Option.getD_some]
  rw [if_neg inBounds, good]

end

theorem recReset_of_command (command : s.recCmd 6 path f = some c) : s.recReset path f = (s.recReply c 0 [] []).warmTrigger 2 := by
  simp only [State.recReset, command]

end

/-- Settles O57: an operation by whether one may start and its form, its end by what it was, a digest by its range, and the agent's
commands by what they ask of the flash. -/
theorem flashAndRecovery : Obligations.FlashAndRecovery := by
  unfold Obligations.FlashAndRecovery
  refine ⟨?begins, ?ends, ?digests, ?digest, ?silent, ?agent⟩
  case begins =>
    intro i op s writable command u a n hbm guarded
    have opened : s.set Reg.BOOT_FLASH_CTRL_OP op = u := rfl
    have guards : guarded = true ↔ (op = 2 ∨ op = 3) ∧ u.flashProtected a n = true := by
      simp only [guarded, Bool.and_eq_true, Bool.or_eq_true, decide_eq_true_eq]
    rw [exec_of_flashCommand command]
    refine ⟨fun running => ?_, fun idle busy => ?_, fun idle free bad => ?_, fun idle free good prot => ?_,
      fun idle free good plain => ?_⟩
    · exact write_answers writable (flashGo_of_running opened running)
    · exact write_answers writable (flashGo_of_busy opened idle busy)
    · exact write_answers writable (flashGo_of_badForm opened idle free bad)
    · exact write_answers writable ((flashGo_of_goodForm opened idle free good).trans (if_pos (guards.mp prot)))
    · exact write_answers writable ((flashGo_of_goodForm opened idle free good).trans
        (if_neg (mt guards.mpr (ne_true_of_eq_false plain))))
  case ends =>
    intro h op a n hbm s running runs goes
    refine ⟨fun failed => run_answers running (flashDone_of_failed runs failed), fun good => ⟨fun read => ?_, fun program => ?_,
      fun erase => ?_, fun copy => ?_⟩⟩
    · exact run_answers running (flashDone_of_read runs good read)
    · exact run_answers running (flashDone_of_program runs good program)
    · exact run_answers running (flashDone_of_erase runs good erase)
    · exact run_answers running (flashDone_of_copy runs good copy)
  case digests =>
    intro s
    exact ⟨fun running none h => run_answers running (flashDone_of_none none),
      fun running none => run_answers running (digestDone_of_none none), fun writable busy => write_answers writable (if_pos busy),
      fun writable idle => write_answers writable (if_neg (ne_true_of_eq_false idle))⟩
  case digest =>
    intro a n bad l v s running range read u
    exact run_answers running (digestDone_of_range range read)
  case silent =>
    intro i op path f ok h hs s running command none
    rw [exec_of_noCommand command none]
    exact run_answers running rfl
  case agent =>
    intro path f h hs c s running ans
    refine ⟨fun command => ?ident, fun command => ?erase, fun command => ?write, fun command => ?read, fun d command dir => ?stage,
      fun command => ?reset⟩
    case ident => exact run_answers running (recIdent_of_command command)
    case erase =>
      intro no
      refine ⟨fun bad ok => ?_, fun good => ?_, fun good => ?_⟩
      · exact run_answers running ((recErase_of_command command).trans (if_pos bad))
      · exact run_answers running ((recErase_of_command command).trans ((if_neg (ne_true_of_eq_false good)).trans (if_pos rfl)))
      · exact run_answers running ((recErase_of_command command).trans ((if_neg (ne_true_of_eq_false good)).trans (if_neg (by decide))))
    case write =>
      intro no
      refine ⟨fun bad ok => ?_, fun good => ?_, fun good => ?_⟩
      · exact run_answers running ((recWrite_of_command command).trans (if_pos bad))
      · exact run_answers running ((recWrite_of_command command).trans ((if_neg (ne_true_of_eq_false good)).trans (if_pos rfl)))
      · exact run_answers running ((recWrite_of_command command).trans ((if_neg (ne_true_of_eq_false good)).trans (if_neg (by decide))))
    case read =>
      intro no
      refine ⟨fun bad => ?_, fun good failed => ?_, fun good read => ?_⟩
      · exact run_answers running ((recRead_of_command command).trans (if_pos bad))
      · exact run_answers running ((recRead_of_command command).trans ((if_neg (ne_true_of_eq_false good)).trans (if_pos failed)))
      · exact run_answers running ((recRead_of_command command).trans
          ((if_neg (ne_true_of_eq_false good)).trans (if_neg (not_not.mpr read))))
    case stage =>
      intro k x no
      refine ⟨fun bad => run_answers running (recStage_of_badBounds command dir bad), fun inBounds => ?_⟩
      cases check : s.imageCheck h hs x.size with
      | none => exact run_answers running (recStage_of_goodImage command dir inBounds check)
      | some r => exact run_answers running (recStage_of_badImage command dir inBounds check)
    case reset => exact run_answers running (recReset_of_command command)

/-! ## What flash keeps from being changed (R477) -/

theorem loaderBusy_iff (u : State) : u.loaderBusy = true ↔ u.boot.step ≠ 0 ∨ u.boot.stage ≠ none ∨ u.boot.update ≠ none := by
  simp only [State.loaderBusy, Bool.or_eq_true, Bool.not_eq_true', decide_eq_false_iff_not, Option.isSome_iff_ne_none, or_assoc]

/-- A register write that acts leaves what its effect leaves. -/
theorem write_leaves {s t : State} (writable : s.writable = true) :
    ∃ w, s.write t = .next w ∧ w.out = t.out ∧ w.boot = t.boot ∧ ∀ f, w.get f = t.get f :=
  ⟨_, write_answers writable rfl, rfl, rfl, fun f => get_congr rfl f⟩

/-- An operation that ends reaches no flash, leaves none running, and shows its RESULT. -/
theorem flashEnd_shows (u : State) {r : Nat} (fits : r < 16) :
    (u.flashEnd r).out = u.out ∧ (u.flashEnd r).boot.op = none ∧ (u.flashEnd r).get Reg.BOOT_FLASH_CTRL_RESULT = r := by
  refine ⟨?_, ?_, ?_⟩
  · simp only [State.flashEnd, set_out]
    rfl
  · simp only [State.flashEnd, set_boot]
    rfl
  · exact (get_set_same _ Reg.BOOT_FLASH_CTRL_RESULT r (by decide) (by decide)).trans (Nat.mod_eq_of_lt fits)

/-- A change of the directory, of the slot that runs, of the BOUND slot during a proof, or outside both slots is protected. -/
theorem flashProtected_of_guarded {u : State} {d : Dir} {a n : Nat} (dir : u.boot.dir = some d)
    (guarded : a < 0x20000 ∨
      (u.get Reg.BOOT_STATUS_MODE ≠ 2 ∧ (d.slot (u.get Reg.BOOT_STATUS_SLOT)).touches a n = true) ∨
      (u.get Reg.BOOT_STATUS_MODE ≠ 2 ∧ u.on Reg.BOOT_STATUS_PROOF = true ∧ (d.slot (1 - u.get Reg.BOOT_STATUS_SLOT)).st = 2 ∧
        (d.slot (1 - u.get Reg.BOOT_STATUS_SLOT)).touches a n = true) ∨ (d.a.holds a n = false ∧ d.b.holds a n = false)) :
    u.flashProtected a n = true := by
  simp only [State.flashProtected, dir]
  rcases guarded with low | ⟨mode, runs⟩ | ⟨mode, proof, bound, other⟩ | ⟨notA, notB⟩
  · simp only [low, decide_true, Bool.true_or]
  · simp only [mode, runs, decide_false, Bool.not_false, Bool.true_or, Bool.and_self, Bool.or_true]
  · simp only [mode, proof, bound, other, decide_true, decide_false, Bool.not_false, Bool.and_self, Bool.or_true]
  · simp only [notA, notB, Bool.or_self, Bool.not_false, Bool.or_true, Bool.true_or]

/-- Settles O58: a busy loader and a protected range both end the operation at once, with nothing sent to the flash. -/
theorem flashIsProtected : Obligations.FlashIsProtected := by
  unfold Obligations.FlashIsProtected
  intro i op s writable command u a n meets within busy idle noOp
  have opened : s.set Reg.BOOT_FLASH_CTRL_OP op = u := rfl
  have ends : ∀ {r : Nat}, r < 16 → s.flashGo op = u.flashEnd r →
      ∃ t, exec i s = .next t ∧ t.out = s.out ∧ t.boot.op = none ∧ t.get Reg.BOOT_FLASH_CTRL_RESULT = r := by
    intro r fits ended
    obtain ⟨out, stopped, result⟩ := flashEnd_shows u fits
    have kept : u.out = s.out := set_out s Reg.BOOT_FLASH_CTRL_OP op
    obtain ⟨w, writes, wOut, wBoot, wGet⟩ := write_leaves (t := u.flashEnd r) writable
    rw [exec_of_flashCommand command, ended]
    exact ⟨w, writes, wOut.trans (out.trans kept), (congrArg BootSt.op wBoot).trans stopped, (wGet _).trans result⟩
  refine ⟨fun isBusy => ?busy, fun d change notBusy good dir => ?guarded⟩
  case busy => exact ends (by decide) (flashGo_of_busy opened idle ((loaderBusy_iff u).mpr isBusy))
  case guarded =>
    intro run other guarded
    have free : u.loaderBusy = false := Bool.eq_false_iff.mpr (mt (loaderBusy_iff u).mp notBusy)
    have prot : u.flashProtected a n = true := by
      refine flashProtected_of_guarded dir ?_
      simp only [DirSlot.touches, DirSlot.holds, Bool.and_eq_true, Bool.and_eq_false_iff, decide_eq_true_eq, decide_eq_false_iff_not,
        ← not_and_or]
      exact guarded
    exact ends (by decide) ((flashGo_of_goodForm opened idle free good).trans (if_pos ⟨change, prot⟩))

end Sys2Proof.Machine
end

section
/-! PROOFS. Readiness, resets, the halt, its dump and the watchdog: one equation per case of each command, then the obligation. -/

namespace Sys2Proof.Machine

/-! ## What a device that runs is not -/

theorem halted_of_running {s : State} (running : s.running = true) : s.halted = false := by
  simp only [State.running, Bool.and_eq_true, Bool.not_eq_true'] at running
  obtain ⟨⟨⟨notHalted, -⟩, -⟩, -⟩ := running
  exact notHalted

theorem regOpen_of_running {s : State} (running : s.running = true) : s.regOpen = true := by
  simp only [State.running, Bool.and_eq_true, decide_eq_true_eq] at running
  obtain ⟨⟨⟨-, noReset⟩, up⟩, awake⟩ := running
  simp only [State.regOpen, noReset, up, awake, decide_true, Bool.and_self]

/-! ## Answers whose error record is written out -/

theorem always_answers_withErr {s t v : State} {x : ErrSt} (e : t = { v with err := x }) :
    s.always t = .next { v with err := x, pending := s.pending } := always_answers e

theorem path_answers_withErr {s t v : State} {x : ErrSt} (h : s.regOpen = true) (e : t = { v with err := x }) :
    s.path t = .next { v with err := x, pending := s.pending } := path_answers h e

/-! ## Readiness (R487–R489) -/

section
variable {s : State} {b : Nat}

theorem boundCheck_of_unbound (unbound : readyBound b (decide (s.get Reg.ERR_STATUS_RESET_CAUSE ≠ 0)) = none) : s.boundCheck b = s := by
  simp only [State.boundCheck, unbound]

theorem boundCheck_of_bound {ms : Nat} (bound : readyBound b (decide (s.get Reg.ERR_STATUS_RESET_CAUSE ≠ 0)) = some ms) :
    s.boundCheck b =
      if (s.readyBit b || !s.instPresent b || s.err.lateSeen.contains b) = true then s
      else ({ s with err := { s.err with lateSeen := s.err.lateSeen ++ [b] } } : State).raise EV_err_ready_late 0xFFFF [b, ms] := by
  simp only [State.boundCheck, bound]

theorem instReady_of_not (notReady : s.mayReady b = false) : s.instReady b = s := if_pos (by rw [notReady]; rfl)

section
variable (ready : s.mayReady b = true)
include ready

theorem instReady_of_ready :
    s.instReady b =
      if b = 4 then (s.setReady b true).set Reg.JIG_STATUS_RUNNING 1
      else if 128 ≤ b ∧ (s.setReady b true).octRole (b - 128) ≠ 0 then
        ((s.setReady b true).set (Reg.LANE_OCT_STATUS_PLL_LOCK (b - 128)) (b2n (!decide ((s.setReady b true).octRole (b - 128) ≠ 2 ∧
          (s.setReady b true).lane.refLost.contains ((b - 128) / 4) = true)))).octWake (b - 128)
      else s.setReady b true :=
  if_neg (by rw [ready]; exact Bool.false_ne_true)

theorem instReady_of_jig (jig : b = 4) : s.instReady b = (s.setReady b true).set Reg.JIG_STATUS_RUNNING 1 :=
  (instReady_of_ready ready).trans (if_pos jig)

theorem instReady_of_plain (notJig : b ≠ 4) (noOctet : b < 128) : s.instReady b = s.setReady b true :=
  (instReady_of_ready ready).trans ((if_neg notJig).trans (if_neg fun h => absurd h.1 (Nat.not_le.mpr noOctet)))

theorem instReady_of_octet (octet : 128 ≤ b) (role : (s.setReady b true).octRole (b - 128) ≠ 0) :
    s.instReady b =
      ((s.setReady b true).set (Reg.LANE_OCT_STATUS_PLL_LOCK (b - 128)) (b2n (!(decide ((s.setReady b true).octRole (b - 128) ≠ 2) &&
        (s.setReady b true).lane.refLost.contains ((b - 128) / 4))))).octWake (b - 128) := by
  have notJig : b ≠ 4 := by omega
  rw [instReady_of_ready ready, if_neg notJig, if_pos ⟨octet, role⟩, Bool.decide_and, Bool.decide_eq_true]

end
end

/-! ## The warm reset's trigger (R490) -/

/-- The cause of a warm reset shown; the pin wakes the device. -/
def State.warmCaused (s : State) (cause : Nat) : State :=
  if cause = 1 ∧ ((s.set Reg.ERR_STATUS_RESET_CAUSE cause).devState = 2 ∨ (s.set Reg.ERR_STATUS_RESET_CAUSE cause).devState = 3) then
    (s.set Reg.ERR_STATUS_RESET_CAUSE cause).wakeSeen 7 true
  else s.set Reg.ERR_STATUS_RESET_CAUSE cause

/-- A warm reset that waits in a phase. -/
def State.atPhase (v : State) (p : ResetPhase) : State := { v with err := { v.err with phase := p } }

theorem warmTrigger_of_free {s : State} {cause : Nat} (free : s.err.phase = .none) (up : s.pwr.phase = .up) :
    s.warmTrigger cause =
      if ((s.warmCaused cause).halted && (s.warmCaused cause).on Reg.ERR_COLO_STATUS_WRITING) = true then
        (s.warmCaused cause).atPhase (.waitHalt cause)
      else if (s.warmCaused cause).deepMoves = true then
        if ((s.warmCaused cause).atPhase (.waitStep cause)).pwr.trans.isNone = true then
          ((s.warmCaused cause).atPhase (.waitStep cause)).pwrBegin 0 false none
        else (s.warmCaused cause).atPhase (.waitStep cause)
      else (s.warmCaused cause).warmBegin cause :=
  if_neg (by rw [free, up]; simp only [ne_eq, not_true, or_self, not_false_eq_true])

theorem warmTrigger_of_other {s : State} {cause : Nat} (other : s.err.phase ≠ .none ∨ s.pwr.phase ≠ .up) :
    s.warmTrigger cause = s := if_pos other

/-- The level of WARM_RST_N kept. -/
def State.warmPin (s : State) (low : Bool) : State := { s with err := { s.err with pinLow := low } }

theorem warmCaused_pin (s : State) :
    s.warmCaused 1 =
      if (s.set Reg.ERR_STATUS_RESET_CAUSE 1).devState = 2 ∨ (s.set Reg.ERR_STATUS_RESET_CAUSE 1).devState = 3 then
        (s.set Reg.ERR_STATUS_RESET_CAUSE 1).wakeSeen 7 true
      else s.set Reg.ERR_STATUS_RESET_CAUSE 1 :=
  if_congr (and_iff_right rfl) rfl rfl

section
variable {s v : State} (free : s.err.phase = .none) (up : s.pwr.phase = .up) (caused : (s.warmPin true).warmCaused 1 = v)
include free up caused

theorem warmPinLow_of_free :
    s.warmPinLow =
      if (v.halted && v.on Reg.ERR_COLO_STATUS_WRITING) = true then v.atPhase (.waitHalt 1)
      else if v.deepMoves = true then
        if (v.atPhase (.waitStep 1)).pwr.trans.isNone = true then (v.atPhase (.waitStep 1)).pwrBegin 0 false none
        else v.atPhase (.waitStep 1)
      else v.warmBegin 1 := by
  subst caused
  exact warmTrigger_of_free (s := s.warmPin true) free up

end

section
variable {s : State}

theorem warmPinHigh_of_waiting (waits : s.err.phase = .waitPin) :
    s.warmPinHigh =
      ((s.warmPin false).atPhase .none).loaderStart (if 3 ≤ s.get Reg.ERR_STATUS_RESET_CAUSE then 3 else 1) := by
  have cause : (s.warmPin false).get Reg.ERR_STATUS_RESET_CAUSE = s.get Reg.ERR_STATUS_RESET_CAUSE := get_congr rfl _
  rw [← cause]
  simp only [State.warmPinHigh, waits]
  rfl

theorem warmPinHigh_of_other (other : s.err.phase ≠ .waitPin) : s.warmPinHigh = s.warmPin false := by
  unfold State.warmPinHigh
  dsimp only
  split
  · next waits => exact absurd waits other
  · rfl

theorem warmWrite_of_other {w : Nat} (other : bits w 31 24 ≠ 0xA5 ∨ bit w 0 = false) : s.warmWrite w = s :=
  if_neg (by rintro ⟨magic, go⟩; rcases other with h | h <;> simp_all)

theorem haltWrite_of_other {w : Nat} (other : bits w 31 24 ≠ 0x5A ∨ bit w 0 = false) : s.haltWrite w = s :=
  if_neg (by rintro ⟨magic, go⟩; rcases other with h | h <;> simp_all)

/-- Step 3 of a warm reset has ended: a new challenge, and the end of the unlock. -/
def State.warmNew (s : State) (pg : Nat) : State :=
  if s.on Reg.DBG_STATUS_UNLOCKED then (((s.warmClear pg).warmMgr).newChallenge).raise EV_drw_debug_unlock 0xFFFF [1]
  else ((s.warmClear pg).warmMgr).newChallenge

theorem warmCleared_of_clearing {c pg : Nat} (clearing : s.err.phase = .clearing c) :
    s.warmCleared pg =
      if (s.warmNew pg).err.pinLow = true then (s.warmNew pg).atPhase .waitPin
      else (s.warmNew pg).loaderStart (if 3 ≤ c then 3 else 1) := by
  simp only [State.warmCleared, clearing]
  rfl

end

/-! ## The dump of a halt (R499, R500) -/

section
variable {s : State} {failed : Nat}

theorem coloComplete_of_idle (idle : (s.halted && s.on Reg.ERR_COLO_STATUS_WRITING) = false) : s.coloComplete failed = s :=
  if_pos (by rw [← Bool.not_and, idle]; rfl)

section
variable {d : Dump} (halted : s.halted = true) (writing : s.on Reg.ERR_COLO_STATUS_WRITING = true) (short : s.err.short = some d)
include halted writing short

theorem coloComplete_of_shortOnly (lost : s.hbmReady = false ∨ 2 ≤ failed) :
    s.coloComplete failed = (s.set Reg.ERR_COLO_STATUS_SHORT_ONLY 1).coloDone := by
  have lost : (!s.hbmReady || decide (2 ≤ failed)) = true := by
    simpa only [Bool.or_eq_true, Bool.not_eq_true', decide_eq_true_eq] using lost
  simp only [State.coloComplete, halted, writing, short, lost, Bool.not_true, Bool.or_self, Bool.false_eq_true, if_false, if_true]

theorem coloComplete_of_full {crcs : List Nat} {u : State} (ready : s.hbmReady = true) (good : failed < 2)
    (written : writeSections dumpSections s = (crcs, u)) :
    s.coloComplete failed =
      let h := u.dumpEnd d true (decide (failed = 1))
      let v := u.headerWrite h crcs
      let v := (v.set Reg.ERR_COLO_STATUS_SHORT_ONLY 0).set Reg.ERR_COLO_STATUS_NEWEST_HALF v.err.half
      (v.set Reg.ERR_COLO_STATUS_NEWEST_SEQ (h.seq % 2 ^ 16)).coloDone := by
  simp only [State.coloComplete, halted, writing, short, ready, Nat.not_le.mpr good, written, decide_false, Bool.not_true, Bool.or_self,
    Bool.false_eq_true, if_false]

end

section
variable {c : Nat} {d : Dump} (waits : s.err.phase = .waitHalt c) (short : s.err.short = some d)
  (writing : s.on Reg.ERR_COLO_STATUS_WRITING = true)
include waits short writing

theorem coloTruncated_of_waiting :
    s.coloTruncated =
      if s.hbmReady = true then (s.headerWrite (s.dumpEnd d false false) []).coloDone
      else (s.set Reg.ERR_COLO_STATUS_SHORT_ONLY 1).coloDone := by
  simp only [State.coloTruncated, waits, short, writing, Bool.not_true, Bool.false_eq_true, if_false]

end

theorem coloTruncated_of_free (free : s.err.phase = .none) : s.coloTruncated = s := by
  simp only [State.coloTruncated, free]

end

/-! ## The device watchdog (R495) -/

section
variable {s : State}

theorem wdtKick_of_kick {v : Nat} (kick : v = 0x4B43) (enabled : s.on Reg.ERR_WDT_CFG_ENABLE = true) :
    s.wdtKick v = { s with err := { s.err with kickAt := s.now, warned := false } } :=
  if_pos (by rw [kick, enabled]; rfl)

theorem wdtKick_of_other {v : Nat} (other : v ≠ 0x4B43 ∨ s.on Reg.ERR_WDT_CFG_ENABLE = false) : s.wdtKick v = s :=
  if_neg (by rcases other with h | h <;> simp [h])

theorem wdtHalf_of_first (counts : s.wdtCounts = true) (first : s.err.warned = false) :
    s.wdtHalf =
      ({ s with err := { s.err with warned := true } } : State).raise EV_err_wdt_warning 0xFFFF [s.now - s.err.kickAt] :=
  if_pos (by rw [counts, first]; rfl)

theorem wdtHalf_of_warned (warned : s.err.warned = true) : s.wdtHalf = s :=
  if_neg (by rw [warned, Bool.not_true, Bool.and_false]; exact Bool.false_ne_true)

theorem wdtHalf_of_still (still : s.wdtCounts = false) : s.wdtHalf = s :=
  if_neg (by rw [still, Bool.false_and]; exact Bool.false_ne_true)

/-- The halt of an expired watchdog. -/
def State.wdtHalted (s : State) : State := s.halt 4 [s.err.kickAt % 2 ^ 32, s.err.kickAt / 2 ^ 32, 0, 0]

theorem wdtExpire_of_running (counts : s.wdtCounts = true) (notHalted : s.halted = false) :
    s.wdtExpire = { s.wdtHalted with err := { s.wdtHalted.err with wdtHalt := true } } :=
  (if_pos counts).trans (if_neg (ne_true_of_eq_false notHalted))

theorem wdtExpire_of_halted (counts : s.wdtCounts = true) (halted : s.halted = true) : s.wdtExpire = s.wdtHalted :=
  (if_pos counts).trans (if_pos halted)

theorem wdtExpire_of_still (still : s.wdtCounts = false) : s.wdtExpire = s := if_neg (ne_true_of_eq_false still)

end

/-! ## Block resets (R492) -/

/-- The fields of ERR_BLOCK_RESET that a write sets. -/
def State.blkFields (s : State) (w : Nat) : State :=
  let u := if bit w 30 then s.set Reg.ERR_BLOCK_RESET_REFUSED 0 else s
  (u.set Reg.ERR_BLOCK_RESET_BLOCK (bits w 20 16)).set Reg.ERR_BLOCK_RESET_INSTANCE (bits w 11 0)

section
variable {s : State} {w : Nat}

theorem blkWrite_of_noGo (noGo : bit w 31 = false) : s.blkWrite w = s.blkFields w := if_pos (by rw [noGo]; rfl)

section
variable (go : bit w 31 = true)
include go

theorem blkWrite_of_go :
    s.blkWrite w =
      if blkCount (bits w 20 16) ≤ bits w 11 0 ∨ (s.blkFields w).err.phase ≠ .none then
        (s.blkFields w).set Reg.ERR_BLOCK_RESET_REFUSED 1
      else if (s.blkFields w).inReset (bits w 20 16) (bits w 11 0) = true then s.blkFields w
      else (s.blkFields w).blkStart (bits w 20 16) (bits w 11 0) :=
  if_neg (by rw [go]; exact Bool.false_ne_true)

theorem blkWrite_of_present (present : bits w 11 0 < blkCount (bits w 20 16)) (free : (s.blkFields w).err.phase = .none) :
    s.blkWrite w =
      if (s.blkFields w).inReset (bits w 20 16) (bits w 11 0) = true then s.blkFields w
      else (s.blkFields w).blkStart (bits w 20 16) (bits w 11 0) :=
  (blkWrite_of_go go).trans (if_neg (by
    rintro (beyond | busy)
    · exact absurd beyond (Nat.not_le.mpr present)
    · exact busy free))

end
end

/-- Settles O59: readiness by the bit and its bound, a warm reset by what it waits for, a dump by what of HBM is left, the watchdog by
whether it counts, and a block reset by the block's number. -/
theorem resetsAndHalts : Obligations.ResetsAndHalts := by
  unfold Obligations.ResetsAndHalts
  refine ⟨?readiness, ?pin, ?triggers, ?cleared, ?dumps, ?watchdog, ?blocks, ?blocksDone⟩
  case readiness =>
    intro b s running
    refine ⟨fun unbound => ?unbound, fun ms bound => ?bound, fun notReady => ?not, fun ready => ?ready⟩
    case unbound => exact run_answers running (boundCheck_of_unbound unbound)
    case bound =>
      intro fine
      exact ⟨fun isFine => run_answers running ((boundCheck_of_bound bound).trans (if_pos isFine)),
        fun late => run_answers running ((boundCheck_of_bound bound).trans (if_neg (ne_true_of_eq_false late)))⟩
    case not => exact run_answers running (instReady_of_not notReady)
    case ready =>
      intro u
      refine ⟨fun jig => run_answers running (instReady_of_jig ready jig),
        fun notJig noOctet => run_answers running (instReady_of_plain ready notJig noOctet), fun octet role => ?_⟩
      exact run_answers running (instReady_of_octet ready octet role)
  case pin =>
    intro s free up u v into waits
    have low := warmPinLow_of_free free up (warmCaused_pin (s.warmPin true))
    refine ⟨fun wait => ?_, fun noWait moves => ⟨fun asleep => ?_, fun awake => ?_⟩, fun noWait still => ?_⟩
    · exact always_answers (low.trans (if_pos wait))
    · exact always_answers (low.trans ((if_neg (ne_true_of_eq_false noWait)).trans ((if_pos moves).trans (if_pos asleep))))
    · exact always_answers (low.trans ((if_neg (ne_true_of_eq_false noWait)).trans ((if_pos moves).trans
        (if_neg (ne_true_of_eq_false awake)))))
    · exact always_answers (low.trans ((if_neg (ne_true_of_eq_false noWait)).trans (if_neg (ne_true_of_eq_false still))))
  case triggers =>
    intro w s
    refine ⟨fun other => ?other, fun opened => ⟨fun magic go => ?write, fun plain => ?plain⟩, ?release, fun writable =>
      ⟨fun magic go => ?halt, fun plain => ?noHalt⟩⟩
    case other => exact always_answers (warmTrigger_of_other (s := s.warmPin true) other)
    case write => exact path_answers opened (if_pos ⟨magic, go⟩)
    case plain => exact path_answers opened (warmWrite_of_other plain)
    case release =>
      intro u
      exact ⟨fun waits => always_answers (warmPinHigh_of_waiting waits), fun other => always_answers (warmPinHigh_of_other other)⟩
    case halt => exact write_answers writable (if_pos ⟨magic, go⟩)
    case noHalt => exact write_answers writable (haltWrite_of_other plain)
  case cleared =>
    intro c pg s clearing u v
    exact ⟨fun low => always_answers_withErr ((warmCleared_of_clearing clearing).trans (if_pos low)),
      fun high => always_answers ((warmCleared_of_clearing clearing).trans (if_neg (ne_true_of_eq_false high)))⟩
  case dumps =>
    intro failed s done
    have ends : ∀ w, State.coloDone w = done w := fun w => rfl
    refine ⟨fun idle => ?idle, fun d halted writing short => ⟨fun lost => ?short, fun ready good => ?full⟩,
      fun c d waits short writing => ⟨fun ready => ?cut, fun lost => ?lost⟩, fun free => ?free⟩
    case idle => exact always_answers (coloComplete_of_idle idle)
    case short => exact always_answers ((coloComplete_of_shortOnly halted writing short lost).trans (ends _))
    case full =>
      intro u h v v'
      exact always_answers ((coloComplete_of_full halted writing short ready good Prod.mk.eta.symm).trans (ends _))
    case cut => exact always_answers ((coloTruncated_of_waiting waits short writing).trans ((if_pos ready).trans (ends _)))
    case lost =>
      exact always_answers ((coloTruncated_of_waiting waits short writing).trans ((if_neg (ne_true_of_eq_false lost)).trans (ends _)))
    case free => exact always_answers (coloTruncated_of_free free)
  case watchdog =>
    intro v s
    refine ⟨fun writable => ⟨fun kick enabled => ?kick, fun other => ?noKick⟩, fun running => ⟨fun counts first => ?half,
      fun warned => ?warned, fun counts => ?expire, fun still => ?still⟩, fun halted opened counts => ?again⟩
    case kick => exact write_answers writable (wdtKick_of_kick kick enabled)
    case noKick => exact write_answers writable (wdtKick_of_other other)
    case half => exact run_answers running (wdtHalf_of_first counts first)
    case warned => exact run_answers running (wdtHalf_of_warned warned)
    case expire =>
      intro u
      exact path_answers_withErr (regOpen_of_running running) (wdtExpire_of_running counts (halted_of_running running))
    case still =>
      exact ⟨path_answers (regOpen_of_running running) (wdtExpire_of_still still), run_answers running (wdtHalf_of_still still)⟩
    case again => exact path_answers opened (wdtExpire_of_halted counts halted)
  case blocks =>
    intro w s writable b i u u'
    refine ⟨fun noGo => ?_, fun go beyond => ?_, fun go inst free => ⟨fun runs => ?_, fun starts => ?_⟩⟩
    · exact write_answers writable (blkWrite_of_noGo noGo)
    · exact write_answers writable ((blkWrite_of_go go).trans (if_pos (Or.inl beyond)))
    · exact write_answers writable ((blkWrite_of_present go inst free).trans (if_pos runs))
    · exact write_answers writable ((blkWrite_of_present go inst free).trans (if_neg (ne_true_of_eq_false starts)))
  case blocksDone =>
    intro s running u
    exact ⟨fun last => run_answers running (if_pos (List.isEmpty_iff.mpr last)),
      fun more => run_answers running (if_neg (mt List.isEmpty_iff.mp more))⟩

end Sys2Proof.Machine
end

section
/-! PROOFS. Debug, the UART, PPS, the management target and port, and accesses from outside: one equation per case of each command, then
the obligation. -/

namespace Sys2Proof.Machine

/-! ## Lamisk requests (R502) -/

/-- A command's work after its access: a register write carries out a debugger's step that it asked for. -/
def afterAccess (k : Nat) (s : State) : State := if k = 2 then s.stepped else s

/-- Without a debugger's step asked for nothing more happens. -/
theorem afterAccess_of_noStep {s : State} (noStep : s.err.stepReq = none) (k : Nat) : afterAccess k s = s := by
  rw [afterAccess, stepped_none noStep, ite_self]

/-- An answer asks for no debugger's step. -/
theorem afterAccess_emit {s : State} (noStep : s.err.stepReq = none) (k : Nat) (o : Out) : afterAccess k (s.emit o) = s.emit o :=
  afterAccess_of_noStep (s := s.emit o) noStep k

theorem exec_of_lamisk {i : Instr} {k : Nat} {req : List Byte}
    (command : (i, k) ∈ [(Instr.lamiskRegisterRead 0 req, 1), (.lamiskRegisterWrite 0 req, 2), (.lamiskMemoryRead 0 req, 3),
      (.lamiskMemoryWrite 0 req, 4)]) (s : State) :
    exec i s = s.path (afterAccess k (s.lamisk 0 k req)) := by
  simp only [List.mem_cons, List.not_mem_nil, Prod.mk.injEq, or_false] at command
  rcases command with ⟨rfl, rfl⟩ | ⟨rfl, rfl⟩ | ⟨rfl, rfl⟩ | ⟨rfl, rfl⟩
  · exact congrArg s.path (if_neg (by decide)).symm
  · exact congrArg s.path (if_pos rfl).symm
  · exact congrArg s.path (if_neg (by decide)).symm
  · exact congrArg s.path (if_neg (by decide)).symm

/-- A JTAG request of an open JTAG session that may not reach its target is answered with a denial. -/
theorem lamisk_jtag_of_denied {s : State} {k : Nat} {req : List Byte} (operation : beAt req 4 1 = k)
    (session : s.on Reg.DBG_STATUS_SESSION = true) (jtag : s.get Reg.DBG_STATUS_TRANSPORT = 0)
    (denied : s.lamiskReaches k (beAt req 8 8) (beAt req 16 2) = false) :
    s.lamisk 0 k req =
      s.emit (.reply 3 0 0 (slice req 0 4 ++ beBytes 1 (k + 0x80) ++ beBytes 1 ST_FENCE_DENIED ++ slice req 6 12 ++ [])) := by
  subst operation
  simp only [State.lamisk, State.lamiskAnswer, State.lamiskSession, session, jtag, denied, ne_eq, not_true, decide_true, Bool.not_false,
    if_true, if_false]

/-! ## The unlock (R503) -/

section
variable {s : State}

theorem dbgLock_of_unlocked (unlocked : s.on Reg.DBG_STATUS_UNLOCKED = true) : s.dbgLock = s.unlockOver.sessionClose :=
  congrArg State.sessionClose (if_pos unlocked)

theorem dbgLock_of_locked (locked : s.on Reg.DBG_STATUS_UNLOCKED = false) : s.dbgLock = s.sessionClose :=
  congrArg State.sessionClose (if_neg (ne_true_of_eq_false locked))

end

/-! ## Thread controls (R504) -/

section
variable {s : State} {t : Nat}

theorem dbgThread_of_locked (locked : s.on Reg.DBG_STATUS_UNLOCKED = false) (act : Nat → State → State) :
    s.dbgThread act = s.set Reg.DBG_THREAD_CTL_THREAD_REFUSED 1 := if_pos (by rw [locked]; rfl)

theorem dbgThread_of_unlocked (unlocked : s.on Reg.DBG_STATUS_UNLOCKED = true) (selected : s.get Reg.DBG_THREAD_SEL_THREAD < 1536)
    (act : Nat → State → State) : s.dbgThread act = act (s.get Reg.DBG_THREAD_SEL_THREAD) s :=
  (if_neg (by rw [unlocked]; exact Bool.false_ne_true)).trans (if_pos selected)

theorem dbgHalt_of_live (live : s.thState t = 1 ∨ s.thState t = 2) :
    dbgHalt t s =
      ((s.setThread t { s.thread t with was := s.thState t }).setThState t 3).raise EV_dbg_thread_halt 0xFFFF [t, 0] :=
  if_pos live

theorem dbgResume_of_running (halted : s.thState t = 3) (was : (s.thread t).was = 1)
    (unblocked : (s.setThState t 1).get (Reg.CORE_THREAD_STATUS_BLOCK_KIND t) = 0) :
    dbgResume t s = (s.setThState t 1).raise EV_dbg_thread_halt 0xFFFF [t, 1] := by
  simp only [dbgResume, halted, was, unblocked, OfNat.one_ne_ofNat, OfNat.zero_ne_ofNat, Nat.zero_ne_one, decide_false, Bool.and_false,
    Bool.false_eq_true, if_true, if_false]

end

/-! ## Reads and writes of one register (R511–R513) -/

theorem readReply_eq (s : State) (m a : Nat) :
    s.readReply m a = (s.readWord m a).2.emit (.reply 0 m 0 (leBytes 4 (s.readWord m a).1)) := by
  simp only [State.readReply]

section
variable {s : State} {m a : Nat} {l : List Byte}

theorem regStore_of_admitted (admitted : s.regAdmits m a l.length 1 = true) : s.regStore m a l = (s.regWrite m a l).2 := if_pos admitted

theorem regStore_of_refused (refused : s.regAdmits m a l.length 1 = false) :
    s.regStore m a l = s.denied (3 * 4096 + a / 0x100000) m (a % 0x100000) 1 := if_neg (ne_true_of_eq_false refused)

end

/-! ## The management target (R527) -/

section
variable {s : State} {p v : Nat}

theorem i3cWrite_of_scratch (low : 0x80 ≤ p) (high : p < 0xA0) (aligned : p % 4 = 0) :
    s.i3cWrite p v = (s.i3cPoint p).regPut 0x3006 p v :=
  if_pos (by simp only [aligned, low, high, decide_true, Bool.and_self, Bool.true_or])

theorem i3cWrite_of_unaligned (unaligned : p % 4 ≠ 0) : s.i3cWrite p v = (s.i3cPoint p).bump Reg.n_reg_cond_drop :=
  if_neg (by simp only [unaligned, decide_false, Bool.false_and, Bool.false_eq_true, not_false_eq_true])

end

/-! ## The management port (R528, R529) -/

theorem exec_of_mgmt {i : Instr} {k : Nat} {f : List Byte}
    (command : (i, k) ∈ [(Instr.mgmtRegisterRead f, 1), (.mgmtRegisterWrite f, 2), (.mgmtMemoryRead f, 3), (.mgmtMemoryWrite f, 4)])
    (s : State) : exec i s = s.path (afterAccess k (s.mgrAccess k f)) := by
  simp only [List.mem_cons, List.not_mem_nil, Prod.mk.injEq, or_false] at command
  rcases command with ⟨rfl, rfl⟩ | ⟨rfl, rfl⟩ | ⟨rfl, rfl⟩ | ⟨rfl, rfl⟩
  · exact congrArg s.path (if_neg (by decide)).symm
  · exact congrArg s.path (if_pos rfl).symm
  · exact congrArg s.path (if_neg (by decide)).symm
  · exact congrArg s.path (if_neg (by decide)).symm

/-- Without MGR_EN a manager frame is refused. -/
theorem mgrAccess_of_disabled {s : State} {k : Nat} {f b : List Byte} (up : s.glb.mgmtUp = true) (body : s.mgmtBody f = some b)
    (magic : beAt b 0 4 = 0x534B4D47) (operation : beAt b 4 1 = k) (mode : s.get Reg.BOOT_STATUS_MODE ≠ 2)
    (disabled : s.on Reg.GLB_MGMT_CFG_MGR_EN = false) : s.mgrAccess k f = s.bump Reg.n_mgmt_frame_refused := by
  simp only [State.mgrAccess, State.mgrFrame, up, body, magic, operation, mode, disabled, ne_eq, not_true, or_self, Bool.not_false,
    Bool.true_or, if_true, if_false]

/-- Settles O60: an access by its session, its target and its master, a thread control by the unlock, and what the spine does by its own
enables. -/
theorem debugAndPaths : Obligations.DebugAndPaths := by
  unfold Obligations.DebugAndPaths
  refine ⟨?lamisk, ?unlock, ?threads, ?registers, ?spine, ?mgmt, ?links⟩
  case lamisk =>
    intro i k req s u st data opened command session jtag operation
    rw [exec_of_lamisk command]
    refine ⟨fun denied noStep => ?_, fun reaches access noStep => ?_⟩
    · exact path_answers opened ((congrArg (afterAccess k) (lamisk_jtag_of_denied operation session jtag denied)).trans
        (afterAccess_emit noStep k _))
    · exact path_answers opened ((congrArg (afterAccess k) (lamisk_jtag operation session jtag reaches access)).trans
        (afterAccess_emit noStep k _))
  case unlock =>
    intro lam s
    refine ⟨fun unlocked => ?ends, fun locked => ?locked, fun writable => ?writes⟩
    case ends =>
      intro u
      exact always_answers (dbgLock_of_unlocked unlocked)
    case locked => exact always_answers (dbgLock_of_locked locked)
    case writes =>
      intro u v w
      exact ⟨dbgWrite_answers writable rfl, fun unlocked => dbgWrite_answers writable (dbgLock_of_unlocked unlocked),
        fun allowed => dbgWrite_answers writable (if_pos allowed),
        fun refused => dbgWrite_answers writable (if_neg (ne_true_of_eq_false refused))⟩
  case threads =>
    intro lam s writable t
    refine ⟨fun locked => ⟨?_, ?_⟩, fun unlocked selected => ⟨fun live => ?_, fun halted was unblocked => ?_,
      fun halted was running => ?_⟩⟩
    · exact dbgWrite_answers writable (dbgThread_of_locked locked dbgHalt)
    · exact dbgWrite_answers writable (dbgThread_of_locked locked dbgResume)
    · exact dbgWrite_answers writable ((dbgThread_of_unlocked unlocked selected dbgHalt).trans (dbgHalt_of_live live))
    · exact dbgWrite_answers writable ((dbgThread_of_unlocked unlocked selected dbgResume).trans
        (dbgResume_of_running halted was unblocked))
    · intro u runs
      exact dbgWrite_answers writable (dbgStep_runs running unlocked selected halted was runs)
  case registers =>
    intro m a l s opened reply
    refine ⟨?_, ?_, ?_, fun admitted noStep => ?_, fun refused noStep => ?_⟩
    · exact path_answers opened (readReply_eq s m (a - a % 8))
    · exact path_answers opened (readReply_eq s m Reg.GLB_SYNC)
    · exact path_answers opened (readReply_eq s m Reg.GLB_UART_RX)
    · exact path_answers opened ((congrArg State.stepped (regStore_of_admitted admitted)).trans (stepped_none noStep))
    · exact path_answers opened ((congrArg State.stepped (regStore_of_refused refused)).trans (stepped_none noStep))
  case spine =>
    intro v p n s
    refine ⟨fun writable => ⟨fun room => ?_, fun full => ?_⟩, fun up => ⟨fun room => ?_, fun full => ?_, fun stamps => ?_, fun ignores => ?_,
      fun ticks => ?_, fun silent => ?_, ?_, ?_, fun low high aligned => ?_, fun unaligned => ?_, ?_⟩⟩
    · exact write_answers writable (if_pos room)
    · exact write_answers writable (if_neg (Nat.not_lt.mpr full))
    · exact spine_answers up (if_pos room)
    · exact spine_answers up (if_neg (Nat.not_lt.mpr full))
    · exact spine_answers up (if_pos stamps)
    · exact spine_answers up (if_neg (ne_true_of_eq_false ignores))
    · exact spine_answers up (if_pos ticks)
    · exact spine_answers up (if_neg (ne_true_of_eq_false silent))
    · exact spine_answers up rfl
    · exact spine_answers up rfl
    · exact spine_answers up (congrArg State.i3cWake (i3cWrite_of_scratch low high aligned))
    · exact spine_answers up (congrArg State.i3cWake (i3cWrite_of_unaligned unaligned))
    · exact spine_answers up rfl
  case mgmt =>
    intro i k f b s opened command noStep up body magic operation mode
    rw [exec_of_mgmt command]
    refine ⟨fun disabled => ?refused, fun enabled anyPeer notKept st data u access noStep' => ?new⟩
    case refused =>
      have noStep : (s.bump Reg.n_mgmt_frame_refused).err.stepReq = none := by rw [bump_err, noStep]
      exact path_answers opened ((congrArg (afterAccess k) (mgrAccess_of_disabled up body magic operation mode disabled)).trans
        (afterAccess_of_noStep noStep k))
    case new =>
      intro r v
      have kept : v.err.stepReq = none := noStep'
      exact path_answers opened ((congrArg (afterAccess k)
        (mgrFrame_new up body magic operation mode enabled anyPeer notKept access)).trans (afterAccess_emit kept k _))
  case links =>
    intro q m v s
    refine ⟨fun opened => path_answers opened rfl, fun running => ⟨fun within => ?_, fun beyond => ?_, ?_⟩⟩
    · exact run_answers running (if_pos within)
    · exact run_answers running (if_neg (Nat.not_le.mpr beyond))
    · exact run_answers running rfl

end Sys2Proof.Machine
end

section
/-! PROOFS. The loader, the proof, staging, the directory and the burns: one equation per case of each command, then the obligation. -/

namespace Sys2Proof.Machine

/-! ## Step 1: the directory (R461, R469) -/

/-- The directory as it was read, shown and reported. -/
def State.dirShown (s : State) (d0 d1 : HostIn) : State :=
  ((s.withBoot (fun b => { b with dir := dirInForce (dirOf 0 d0) (dirOf 1 d1) })).showDir).uartLine

/-- The slots that hold no candidate, marked. -/
def State.emptyMarked (u : State) (d : Dir) : State :=
  let bad := fun (k : Nat) => decide ((d.slot k).st = 0) || decide ((d.slot k).st = 3)
  let v := if bad 0 then u.set Reg.BOOT_STATUS_REASON_A 1 else u
  if bad 1 then v.set Reg.BOOT_STATUS_REASON_B 1 else v

/-- The candidates in order. -/
def State.candidatesSet (v : State) (l : List Nat) : State := v.withBoot (fun b => { b with todo := l })

theorem emptyMarked_eq (u : State) (d : Dir) :
    [0, 1].foldl (fun (s : State) k => if (d.slot k).st = 0 ∨ (d.slot k).st = 3 then
      (if k = 0 then s.set Reg.BOOT_STATUS_REASON_A 1 else s.set Reg.BOOT_STATUS_REASON_B 1) else s) u = u.emptyMarked d := by
  simp only [List.foldl_cons, List.foldl_nil, State.emptyMarked, Bool.or_eq_true, decide_eq_true_eq, if_true, one_ne_zero, if_false]

section
variable {s u : State} {d0 d1 : HostIn} (shown : s.dirShown d0 d1 = u)
include shown

theorem dirRead_of_recover (recover : u.on Reg.BOOT_CTRL_RECOVER = true) :
    s.dirRead d0 d1 = (u.set Reg.BOOT_CTRL_RECOVER 0).recovery 3 := by
  subst shown
  exact if_pos recover

variable (noRecover : u.on Reg.BOOT_CTRL_RECOVER = false)
include noRecover

theorem dirRead_of_none (none : u.boot.dir = none) : s.dirRead d0 d1 = u.recovery 2 := by
  subst shown
  simp only [State.dirShown] at noRecover none ⊢
  simp only [State.dirRead, noRecover, none, Bool.false_eq_true, if_false]

theorem dirRead_of_dir {d : Dir} (dir : u.boot.dir = some d) :
    s.dirRead d0 d1 = ((u.emptyMarked d).candidatesSet ((u.emptyMarked d).bootOrder d)).nextCandidate := by
  subst shown
  rw [← emptyMarked_eq]
  simp only [State.dirShown] at noRecover dir ⊢
  simp only [State.dirRead, noRecover, dir, Bool.false_eq_true, if_false]
  rfl

end

theorem nextCandidate_of_nil (v : State) : (v.candidatesSet []).nextCandidate = (v.candidatesSet []).recovery 1 := rfl

theorem nextCandidate_of_cons (v : State) (k : Nat) (l : List Nat) :
    (v.candidatesSet (k :: l)).nextCandidate =
      v.withBoot (fun b => { b with step := 2, cur := k, todo := l, front := [], jigMem := [] }) := rfl

/-! ## Steps 2 to 4: a candidate (R464, R467, R469, R470) -/

section
variable {s : State} {front : HostIn}

theorem frontRead_of_failed (failed : front.st ≠ 0) : s.frontRead front = (s.rejected s.boot.cur 11).nextCandidate := if_pos failed

section
variable (read : front.st = 0)
include read

theorem frontRead_of_bad {r : Nat} (bad : s.frontCheck (slice front.data 0 (48 * 1024)) s.curSize = some r) :
    s.frontRead front = (s.rejected s.boot.cur r).nextCandidate := by
  simp only [State.frontRead, read, bad, ne_eq, not_true, if_false]
  rfl

theorem frontRead_of_good (good : s.frontCheck (slice front.data 0 (48 * 1024)) s.curSize = none) :
    s.frontRead front =
      ((s.withBoot (fun b => { b with step := 3, front := slice front.data 0 (48 * 1024) })).memPut (bootBase + 0xC4000)
        (slice front.data 0 (48 * 1024))).uartLine := by
  simp only [State.frontRead, read, good, ne_eq, not_true, if_false]

end

/-- Bytes of a section of the candidate. -/
def State.sectionLen (s : State) (k : Nat) : Nat := ((sectionOf s.boot.front k).map (·.len)).getD 0

section
variable {x y z : HostIn}

theorem sectionsCopied_of_failed (failed : x.st ≠ 0 ∨ y.st ≠ 0 ∨ z.st ≠ 0) :
    s.sectionsCopied x y z = (s.rejected s.boot.cur 11).nextCandidate := if_pos failed

theorem sectionsCopied_of_good (first : x.st = 0) (second : y.st = 0) (third : z.st = 0) :
    s.sectionsCopied x y z =
      (((s.memPut bootBase (slice x.data 0 (s.sectionLen 1))).memPut (bootBase + 0xC0000) (slice y.data 0 (s.sectionLen 3))).withBoot
        (fun b => { b with step := 4, jigMem := slice z.data 0 (s.sectionLen 2) })).uartLine :=
  if_neg (by simp only [first, second, third, ne_eq, not_true, or_self, not_false_eq_true])

end

/-- The plan as it stands in boot SRAM. -/
def State.planCopy (s : State) : List Byte := s.memGet (bootBase + 0xC0000) (s.sectionLen 3)

/-- The sections as they stand in their memories. -/
def State.copies (s : State) : List (Section × List Byte) :=
  (sectionsOf s.boot.front).filterMap (fun x =>
    if x.kind = 1 then some (x, s.memGet bootBase x.len) else if x.kind = 3 then some (x, s.planCopy)
    else if x.kind = 2 then some (x, s.boot.jigMem) else none)

/-- What the check of the copies leads to. -/
def State.readBackEnds (s : State) : Option Nat → State
  | some r => (s.rejected s.boot.cur r).nextCandidate
  | none => (((s.setRegions (leAt s.planCopy 4 1) (leAt s.planCopy 5 1)).withBoot (fun b => { b with step := 5 })).uartLine).hbmStep5

theorem readBack_eq (s : State) : s.readBack = s.readBackEnds (bodyCheck s.boot.front s.planCopy s.copies) := rfl

end

/-! ## Step 5: stage 1 starts (R471, R473, R478) -/

/-- Thread 0 starts from boot SRAM. -/
def State.threadStarted (u : State) : State :=
  ((u.startThread 0 0 { (Thread.reset.setX 10 (bootBase + 0xC4000)).setX 11 (u.rd Reg.BOOT_STATUS) with
    pc := bootBase, priv := 3 }).setReady 1 true).uartLine

/-- The loader has ended. -/
def State.loaderEnded (s : State) : State := (s.withBoot (fun b => { b with step := 0 })).set Reg.BOOT_STATUS_MODE 1

/-- The status shows the image that starts, and the device is protected. -/
def State.imageShown (u : State) (proof : Nat) : State :=
  (((u.set Reg.BOOT_STATUS_SLOT u.boot.cur).set Reg.BOOT_STATUS_PROOF proof).set Reg.BOOT_STATUS_SVN (leAt u.boot.front 12 4)).loaderProtect

/-- A proof's watchdog runs. -/
def State.proofBegun (u : State) : State :=
  let w := leAt u.boot.front 32 4
  let x := (u.withBoot (fun b => { b with wdtLeft := w * 1000000000 })).set Reg.BOOT_WDT_RUNNING 1
  (x.set Reg.BOOT_WDT_REMAINING_S w).raise EV_boot_proof_started 0xFFFF [x.boot.cur, leAt x.boot.front 12 4, w]

section
variable {s : State}

/-- After DEEP stage 1 starts again from its kept copy. -/
theorem stage1_of_exit (exit : s.get Reg.BOOT_STATUS_CAUSE = 2) : s.stage1 = s.loaderEnded.threadStarted := by
  simp only [State.stage1, exit, decide_true, if_true]
  rfl

theorem loaderEnded_cur : s.loaderEnded.boot.cur = s.boot.cur := by
  rw [State.loaderEnded, set_boot]
  rfl

theorem loaderEnded_front : s.loaderEnded.boot.front = s.boot.front := by
  rw [State.loaderEnded, set_boot]
  rfl

/-- The status names the candidate that was tried. -/
theorem imageShown_of_loaderEnded (proof : Nat) :
    s.loaderEnded.imageShown proof =
      (((s.loaderEnded.set Reg.BOOT_STATUS_SLOT s.boot.cur).set Reg.BOOT_STATUS_PROOF proof).set Reg.BOOT_STATUS_SVN
        (leAt s.boot.front 12 4)).loaderProtect := by
  rw [State.imageShown, loaderEnded_cur, loaderEnded_front]

section
variable {d : Dir} (boot : s.get Reg.BOOT_STATUS_CAUSE ≠ 2) (dir : s.boot.dir = some d)
include boot dir

theorem stage1_of_bound (bound : (d.slot s.boot.cur).st ≠ 1)
    (kept : (s.loaderEnded.imageShown 0).threadStarted.burnFuses.boot.dir = some d) :
    s.stage1 = ((s.loaderEnded.imageShown 0).threadStarted.burnFuses).markRejected d :=
  stage1_bound boot dir bound (imageShown_of_loaderEnded 0).symm rfl kept

theorem stage1_of_proof {u v : State} (proof : (d.slot s.boot.cur).st = 1) (shown : s.loaderEnded.imageShown 1 = u)
    (begun : u.threadStarted.proofBegun = v) (kept : v.boot.dir = some d) : s.stage1 = v.markRejected d := by
  rw [imageShown_of_loaderEnded] at shown
  subst shown
  have cur := loaderEnded_cur (s := s)
  have front := loaderEnded_front (s := s)
  simp only [State.loaderEnded, State.threadStarted, State.proofBegun] at cur front begun
  simp only [State.stage1, boot, dir, proof, decide_false, decide_true, Option.map_some, Option.getD_some, b2n, Bool.false_eq_true, if_false,
    if_true, cur, front, begun, kept]

end
end

/-! ## Confirming and staging (R475, R476, R479) -/

section
variable {s : State}

theorem confirm_of_none (none : s.boot.dir = none ∨ s.proving = false) : s.confirm = s.ctrlRefuse 14 := by
  cases dir : s.boot.dir with
  | none => simp only [State.confirm, dir]
  | some d =>
    have idle : s.proving = false := none.resolve_left (by rw [dir]; exact Option.some_ne_none d)
    simp only [State.confirm, dir, idle, Bool.not_false, if_true]

section
variable {d : Dir} (dir : s.boot.dir = some d) (proving : s.proving = true)
include dir proving

theorem confirm_of_proving :
    s.confirm =
      if s.boot.update.isSome = true then s.ctrlRefuse 12
      else ((s.set Reg.BOOT_WDT_RUNNING 0).set Reg.BOOT_CTRL_CONFIRM 1).dirUpdate
        (d.setSlot s.boot.cur { d.slot s.boot.cur with st := 2, gen := (d.topGen + 1) % 2 ^ 32 }) .confirmed := by
  simp only [State.confirm, dir, proving, Bool.not_true, Bool.false_eq_true, if_false]

end

theorem handoff_of_first (mode : s.get Reg.BOOT_STATUS_MODE = 1) (first : s.on Reg.BOOT_STATUS_HANDOFF = false) : s.handoff = s.handover :=
  if_pos (by rw [mode, first]; rfl)

theorem handoff_of_done (done : s.on Reg.BOOT_STATUS_HANDOFF = true) : s.handoff = s :=
  if_neg (by rw [done, Bool.not_true, Bool.and_false]; exact Bool.false_ne_true)

section
variable {u : State} {k : Nat} (named : s.set Reg.BOOT_CTRL_STAGE_SLOT k = u) (idle : u.on Reg.BOOT_CTRL_STAGE = false)
include named idle

theorem stageGo_of_refused {r : Nat} (refused : u.stageRefusal k = some r) : s.stageGo k = u.ctrlRefuse r := by
  simp only [State.stageGo, named, idle, refused, Bool.false_eq_true, if_false]

theorem stageGo_of_allowed (allowed : u.stageRefusal k = none) :
    s.stageGo k = ((u.withBoot (fun b => { b with stage := some k })).set Reg.BOOT_CTRL_STAGE 1).set Reg.BOOT_STAGE_STATUS_BUSY 1 := by
  simp only [State.stageGo, named, idle, allowed, Bool.false_eq_true, if_false]

end

section
variable {front : HostIn} {secs : List HostIn} {k : Nat} {d : Dir} (stage : s.boot.stage = some k) (dir : s.boot.dir = some d)
  (free : s.boot.update = none)
include stage dir free

theorem stageChecked_of_bad {r : Nat} (bad : s.imageCheck front secs (d.slot k).size = some r) :
    s.stageChecked front secs =
      ((s.withBoot (fun b => if k = 0 then { b with lastA := r } else { b with lastB := r })).stageEnd r).raise
        EV_boot_image_rejected 0xFFFF [k, r] := by
  simp only [State.stageChecked, stage, dir, free, bad, Option.isSome_none, Bool.false_eq_true, if_false]

theorem stageChecked_of_good (good : s.imageCheck front secs (d.slot k).size = none) :
    s.stageChecked front secs = s.dirUpdate (d.setSlot k { d.slot k with st := 1 }) .staged := by
  simp only [State.stageChecked, stage, dir, free, good, Option.isSome_none, Bool.false_eq_true, if_false]

end

/-! ## The proof's watchdog, the directory and the burns (R460, R468, R478) -/

theorem proofExpire_of_proving (proving : s.proving = true) (awake : s.devState ≤ 1) : s.proofExpire = s.proofFail 0 :=
  if_pos (by rw [proving, decide_eq_true awake]; rfl)

theorem proofExpire_of_other (other : s.proving = false ∨ 1 < s.devState) : s.proofExpire = s :=
  if_neg (by
    rcases other with h | h
    · simp only [h, Bool.false_and, Bool.false_eq_true, not_false_eq_true]
    · simp only [Nat.not_le.mpr h, decide_false, Bool.and_false, Bool.false_eq_true, not_false_eq_true])

theorem dirUpdated_of_none (none : s.boot.update = none) : s.dirUpdated = s := by simp only [State.dirUpdated, none]

/-- The directory that was updated is in force. -/
def State.dirInForceNow (s : State) (d : Dir) : State :=
  let u := (s.withBoot (fun b => { b with update := none })).dirWritten d
  u.set Reg.BOOT_FLASH_CTRL_BUSY (b2n u.boot.op.isSome)

section
variable {d : Dir} {why : DirWhy} (update : s.boot.update = some (d, why))
include update

theorem dirUpdated_of_staged (staged : why = .staged) : s.dirUpdated = (s.dirInForceNow d).stageEnd 0 := by
  subst staged
  simp only [State.dirUpdated, update]
  rfl

theorem dirUpdated_of_confirmed (confirmed : why = .confirmed) :
    s.dirUpdated =
      if (((s.dirInForceNow d).set Reg.BOOT_STATUS_PROOF 0).burnFuses).boot.burning.isSome = true then
        ((s.dirInForceNow d).set Reg.BOOT_STATUS_PROOF 0).burnFuses
      else (((s.dirInForceNow d).set Reg.BOOT_STATUS_PROOF 0).burnFuses).confirmed := by
  subst confirmed
  simp only [State.dirUpdated, update]
  rfl

theorem dirUpdated_of_other (other : why = .rejected ∨ why = .recovery) : s.dirUpdated = s.dirInForceNow d := by
  rcases other with rfl | rfl
  · simp only [State.dirUpdated, update]
    rfl
  · simp only [State.dirUpdated, update]
    rfl

end

theorem fusesBurned_of_none (none : s.boot.burning = none) : s.fusesBurned = s := by simp only [State.fusesBurned, none]

/-- The burned values in force, and their event. -/
def State.burned (s : State) (floor roots keys : Nat) : State :=
  let u := ((s.set Reg.BOOT_FUSE_ERRATA_SVN_FLOOR floor).set Reg.BOOT_FUSE_ERRATA_ROOT_REVOKED roots).set Reg.BOOT_FUSE_KEYREV_KEY_REVOKED keys
  (u.withBoot (fun b => { b with burning := none })).raise EV_boot_fuse_burned 0xFFFF [floor, roots, keys]

theorem fusesBurned_of_burn {floor roots keys : Nat} (burn : s.boot.burning = some (floor, roots, keys)) :
    s.fusesBurned =
      if (s.burned floor roots keys).on Reg.BOOT_CTRL_CONFIRM = true then (s.burned floor roots keys).confirmed
      else s.burned floor roots keys := by
  simp only [State.fusesBurned, burn]
  rfl

end

/-- A step of the loader out of its turn does nothing. -/
theorem exec_of_otherStep {i : Instr} {k : Nat} {d0 d1 x y z : HostIn} {s : State}
    (command : (i, k) ∈ [(Instr.loaderDirectoryRead d0 d1, 1), (.loaderFrontChecked x, 2), (.loaderSectionsCopied x y z, 3),
      (.loaderReadbackChecked, 4), (.stage1Start, 5)]) (other : s.boot.step ≠ k) : exec i s = s.run s := by
  simp only [List.mem_cons, List.not_mem_nil, Prod.mk.injEq, or_false] at command
  rcases command with ⟨rfl, rfl⟩ | ⟨rfl, rfl⟩ | ⟨rfl, rfl⟩ | ⟨rfl, rfl⟩ | ⟨rfl, rfl⟩ <;> exact congrArg s.run (if_neg other)

/-- Settles O56: a loader step by its turn and by its checks, a request by what the proof and the directory allow, an end by what ran. -/
theorem bootSteps : Obligations.BootSteps := by
  unfold Obligations.BootSteps
  refine ⟨?turns, ?directory, ?candidate, ?start, ?requests, ?staged, ?ends⟩
  case turns =>
    intro i k d0 d1 x y z s running command other
    rw [exec_of_otherStep command other]
    exact run_answers running rfl
  case directory =>
    intro d0 d1 s running step u goes
    have shown : s.dirShown d0 d1 = u := rfl
    refine ⟨fun recover => ?_, fun noRecover => ⟨fun none => ?_, fun d dir => ?_⟩⟩
    · exact run_answers running ((if_pos step).trans (dirRead_of_recover shown recover))
    · exact run_answers running ((if_pos step).trans (dirRead_of_none shown noRecover none))
    intro bad v v'
    have reads : s.bootAt 1 (s.dirRead d0 d1) = (v'.candidatesSet (v'.bootOrder d)).nextCandidate :=
      (if_pos step).trans (dirRead_of_dir shown noRecover dir)
    refine ⟨fun empty => ?_, fun k l more => ?_⟩
    · rw [empty] at reads
      exact run_answers running (reads.trans (nextCandidate_of_nil v'))
    · rw [more] at reads
      exact run_answers running (reads.trans (nextCandidate_of_cons v' k l))
  case candidate =>
    intro front x y z s running f len
    refine ⟨fun step => ⟨fun failed => ?noFront, fun read => ?front⟩, fun step => ⟨fun first second third => ?copied,
      fun failed => ?notCopied⟩, fun step => ?readBack⟩
    case noFront => exact run_answers running ((if_pos step).trans (frontRead_of_failed failed))
    case copied => exact run_answers running ((if_pos step).trans (sectionsCopied_of_good first second third))
    case notCopied => exact run_answers running ((if_pos step).trans (sectionsCopied_of_failed failed))
    case front =>
      cases check : s.frontCheck f s.curSize with
      | none => exact run_answers running ((if_pos step).trans (frontRead_of_good read check))
      | some r => exact run_answers running ((if_pos step).trans (frontRead_of_bad read check))
    case readBack =>
      intro plan parts
      have reads : s.bootAt 4 s.readBack = s.readBackEnds (bodyCheck s.boot.front plan parts) := (if_pos step).trans (readBack_eq s)
      cases check : bodyCheck s.boot.front plan parts with
      | none =>
        rw [check] at reads
        exact run_answers running reads
      | some r =>
        rw [check] at reads
        exact run_answers running reads
  case start =>
    intro s running step start begun shown
    refine ⟨fun exit => ?exit, fun d boot dir => ⟨?bound, ?proof⟩⟩
    case exit => exact run_answers running ((if_pos step).trans (stage1_of_exit exit))
    case bound =>
      intro u bound kept
      exact run_answers running ((if_pos step).trans (stage1_of_bound boot dir bound kept))
    case proof =>
      intro u w x v proof kept
      exact run_answers running ((if_pos step).trans (stage1_of_proof boot dir proof rfl rfl kept))
  case requests =>
    intro k s writable refuse
    refine ⟨?_, fun none => ?_, fun d dir proving => ⟨fun busy => ?_, fun free => ?_⟩, fun proving => ?_, fun idle => ?_, fun mode first => ?_,
      fun done => ?_, ?stage⟩
    · exact write_answers writable rfl
    · exact write_answers writable (confirm_of_none none)
    · exact write_answers writable ((confirm_of_proving dir proving).trans (if_pos (Option.isSome_iff_ne_none.mpr busy)))
    · exact write_answers writable ((confirm_of_proving dir proving).trans (if_neg (by rw [free]; exact Bool.false_ne_true)))
    · exact write_answers writable (if_pos proving)
    · exact write_answers writable (if_neg (ne_true_of_eq_false idle))
    · exact write_answers writable (handoff_of_first mode first)
    · exact write_answers writable (handoff_of_done done)
    case stage =>
      intro u idle
      exact ⟨fun r refused => write_answers writable (stageGo_of_refused rfl idle refused),
        fun allowed => write_answers writable (stageGo_of_allowed rfl idle allowed)⟩
  case staged =>
    intro front secs k d s running stage dir free
    cases check : s.imageCheck front secs (d.slot k).size with
    | none => exact run_answers running (stageChecked_of_good stage dir free check)
    | some r => exact run_answers running (stageChecked_of_bad stage dir free check)
  case ends =>
    intro s running
    refine ⟨fun proving awake => ?expires, fun other => ?runs, fun none => ?noUpdate, fun d why update => ?update, fun none => ?noBurn,
      fun floor roots keys burn => ?burn⟩
    case expires => exact run_answers running (proofExpire_of_proving proving awake)
    case runs => exact run_answers running (proofExpire_of_other other)
    case noUpdate => exact run_answers running (dirUpdated_of_none none)
    case noBurn => exact run_answers running (fusesBurned_of_none none)
    case update =>
      intro u u' v
      refine ⟨fun staged => ?_, fun confirmed burning => ?_, fun confirmed noBurn => ?_, fun other => ?_⟩
      · exact run_answers running (dirUpdated_of_staged update staged)
      · exact run_answers running ((dirUpdated_of_confirmed update confirmed).trans (if_pos (Option.isSome_iff_ne_none.mpr burning)))
      · have noBurn : ¬ v.boot.burning.isSome = true := by
          rw [noBurn]
          exact Bool.false_ne_true
        exact run_answers running ((dirUpdated_of_confirmed update confirmed).trans (if_neg noBurn))
      · exact run_answers running (dirUpdated_of_other update other)
    case burn =>
      intro u u'
      exact ⟨fun alone => run_answers running ((fusesBurned_of_burn burn).trans (if_neg (ne_true_of_eq_false alone))),
        fun confirms => run_answers running ((fusesBurned_of_burn burn).trans (if_pos confirms))⟩

end Sys2Proof.Machine
end

section
/-! PROOFS. The jig: a decision from its checks to its record, the spares, the fuses and the heat, one equation per case; then the
obligation. -/

namespace Sys2Proof.Machine

/-! ## A tick (R437, R446) -/

/-- The health registers as the spine read them. -/
def State.healthRead (s : State) (h : List (Nat × Nat)) : State :=
  (h.filter (fun e => isHealth e.1)).foldl (fun (s : State) (e : Nat × Nat) => s.wr e.1 e.2) s

section
variable {s : State} {h : List (Nat × Nat)}

theorem jigTick_of_stopped {ds : List JigDecision} (stopped : (s.healthRead h).on Reg.JIG_STATUS_RUNNING = false) :
    s.jigTick h ds = s.healthRead h := if_pos (by rw [← State.healthRead, stopped]; rfl)

section
variable (runs : (s.healthRead h).on Reg.JIG_STATUS_RUNNING = true)
include runs

theorem jigTick_of_running {ds : List JigDecision} :
    s.jigTick h ds = ds.foldl (fun (s : State) (d : JigDecision) => s.jigDecide d) (s.healthRead h).subsSync.remapCheck :=
  if_neg (by rw [← State.healthRead, runs]; exact Bool.false_ne_true)

theorem jigTick_decides {d : JigDecision} : s.jigTick h [d] = (s.healthRead h).subsSync.remapCheck.jigDecide d := by
  rw [jigTick_of_running runs, List.foldl_cons, List.foldl_nil]

end
end

/-! ## The log's slots (R445) -/

section
variable {s : State} {go : State → State}

theorem jigSlot_of_room (room : 0 < s.jigFree) : s.jigSlot go = go s := if_pos room

/-- Without a free slot a decision is forgone, and the first one is reported. -/
theorem jigSlot_of_full (full : s.jigFree = 0) :
    s.jigSlot go =
      if s.jig.fullUp = true then s.bump Reg.n_jig_deferred
      else ((s.bump Reg.n_jig_deferred).raise EV_jig_log_full 0xFFFF [(s.bump Reg.n_jig_deferred).rd64 Reg.n_jig_deferred]).withJig
        (fun j => { j with fullUp := true }) := by
  rw [State.jigSlot, if_neg (by rw [full]; exact Nat.lt_irrefl 0)]
  dsimp only
  rw [bump_jig]

end

/-! ## A decision's checks (R438–R441) -/

/-- What a decision does once it is allowed, within its stop and on a value that still stands. -/
def State.jigAct (s : State) (d : JigDecision) : State :=
  match d.kind with
  | 8 => s.coreBegin d.target d.new d.cause
  | 9 => s.rowDecide d
  | 10 => if s.remapOn then s.withJig (fun j => { j with pcWait := j.pcWait ++ [(d.target, d.cause)] }) else s.remapBegin d.target d.cause
  | 11 => s.fuseDecide d
  | _ =>
    let (ok, w) := s.jigWrite d
    let w := if ok then w.withJig (fun j => { j with lastAt := mput j.lastAt (d.kind * 2 ^ 16 + d.target) w.now }) else w
    w.jigLog d.kind (if ok then 0 else 2) (decisionTarget d) d.old d.new d.cause

section
variable {s : State} {d : JigDecision}

theorem jigDecide_of_unmade (unmade : s.jigMakes d = false) : s.jigDecide d = s := if_pos (by rw [unmade]; rfl)

section
variable (makes : s.jigMakes d = true)
include makes

theorem jigDecide_of_full (full : s.jigFree = 0) :
    s.jigDecide d =
      if s.jig.fullUp = true then s.bump Reg.n_jig_deferred
      else ((s.bump Reg.n_jig_deferred).raise EV_jig_log_full 0xFFFF [(s.bump Reg.n_jig_deferred).rd64 Reg.n_jig_deferred]).withJig
        (fun j => { j with fullUp := true }) :=
  (if_neg (by rw [makes]; exact Bool.false_ne_true)).trans (jigSlot_of_full full)

variable (room : 0 < s.jigFree)
include room

theorem jigDecide_of_room :
    s.jigDecide d =
      if (!s.jigAllowed d.kind d.target || !s.inStop d) = true then
        s.jigLog d.kind 1 (decisionTarget d) d.old d.new d.cause
      else if s.jigField d ≠ d.old then s.jigLog d.kind 2 (decisionTarget d) d.old d.new d.cause
      else s.jigAct d :=
  (if_neg (by rw [makes]; exact Bool.false_ne_true)).trans (jigSlot_of_room room)

theorem jigDecide_of_outside (outside : (s.jigAllowed d.kind d.target && s.inStop d) = false) :
    s.jigDecide d = s.jigLog d.kind 1 (decisionTarget d) d.old d.new d.cause :=
  (jigDecide_of_room makes room).trans (if_pos (by rw [← Bool.not_and, outside]; rfl))

variable (inside : (s.jigAllowed d.kind d.target && s.inStop d) = true)
include inside

theorem jigDecide_of_stale (stale : s.jigField d ≠ d.old) :
    s.jigDecide d = s.jigLog d.kind 2 (decisionTarget d) d.old d.new d.cause :=
  (jigDecide_of_room makes room).trans ((if_neg (by rw [← Bool.not_and, inside]; exact Bool.false_ne_true)).trans (if_pos stale))

theorem jigDecide_of_fresh (fresh : s.jigField d = d.old) : s.jigDecide d = s.jigAct d :=
  (jigDecide_of_room makes room).trans ((if_neg (by rw [← Bool.not_and, inside]; exact Bool.false_ne_true)).trans
    (if_neg (not_not.mpr fresh)))

end

/-! ## What each kind of decision does (R440, R449, R451–R453) -/

/-- A write that its target does not take is recorded as refused by the target. -/
theorem jigAct_of_refusedWrite {w : State} (kind : d.kind < 8) (refused : s.jigWrite d = (false, w)) :
    s.jigAct d = w.jigLog d.kind 2 (decisionTarget d) d.old d.new d.cause := by
  unfold State.jigAct
  split
  case h_5 => simp only [refused, Bool.false_eq_true, if_false]
  all_goals omega

theorem jigAct_of_core (kind : d.kind = 8) : s.jigAct d = s.coreBegin d.target d.new d.cause := by simp only [State.jigAct, kind]

theorem jigAct_of_row (kind : d.kind = 9) : s.jigAct d = s.rowDecide d := by simp only [State.jigAct, kind]

theorem jigAct_of_remap (kind : d.kind = 10) :
    s.jigAct d =
      if s.remapOn = true then s.withJig (fun j => { j with pcWait := j.pcWait ++ [(d.target, d.cause)] })
      else s.remapBegin d.target d.cause := by
  simp only [State.jigAct, kind]

theorem jigAct_of_fuse (kind : d.kind = 11) : s.jigAct d = s.fuseDecide d := by simp only [State.jigAct, kind]

theorem rowDecide_of_exhausted (none : s.freeRow d.target = none) :
    s.rowDecide d = (s.jigLog 9 2 d.target d.old d.new d.cause).exhausted 9 d.target := if_pos (by rw [none]; rfl)

theorem rowDecide_of_free (free : s.freeRow d.target ≠ none) :
    s.rowDecide d =
      if s.rowBad d.target d.new = true then s.jigLog 9 2 d.target d.old d.new d.cause
      else (s.repairRow d.target d.new).jigLog 9 0 d.target d.old d.new d.cause :=
  if_neg (mt Option.isNone_iff_eq_none.mp free)

theorem fuseDecide_of_some {x : Subst} (stands : s.jig.subs[d.target]? = some x) :
    s.fuseDecide d =
      if (s.jig.burn.isSome || decide (s.now - x.since < s.get Reg.JIG_STOP6_FUSE_HOLD_H * 3600000000000)) = true then
        s.jigLog 11 1 x.logTarget d.old d.new d.cause
      else if 512 ≤ s.jig.fuses.length then
        (s.jigLog 11 3 x.logTarget d.old d.new d.cause).raise EV_jig_fuse_full 0xFFFF [s.jig.subs.length]
      else s.burnBegin x false := by
  simp only [State.fuseDecide, stands, Bool.or_eq_true, decide_eq_true_eq]

end

/-! ## The remap of a pseudo-channel (R453, R454) -/

/-- The spare in MIRROR, and the copy that is asked for. -/
def State.mirrorSet (s : State) (target k : Nat) : State :=
  let w := (s.set (Reg.MEM_PC_SPARE_TARGET (target / 256) k) (target % 256)).moveSpare (target / 256) k 1
  ((w.set Reg.JIG_COPY_STATUS_STACK (target / 256)).set Reg.JIG_COPY_STATUS_SPARE k).set Reg.JIG_COPY_STATUS_TARGET (target % 256)

/-- The spare is in use, and the remap has its record. -/
def State.remapEnded (s : State) : State :=
  let u := ((s.moveSpare (s.get Reg.JIG_COPY_STATUS_STACK) (s.get Reg.JIG_COPY_STATUS_SPARE) 2).cursor 3 0).withJig
    (fun j => { j with remap := false })
  u.jigEnd 10 0 u.remapTarget 1 2 0

/-- The spare is put back, and its pseudo-channel is marked as failed. -/
def State.spareFailed (s : State) : State :=
  let st := s.get Reg.JIG_COPY_STATUS_STACK
  let k := s.get Reg.JIG_COPY_STATUS_SPARE
  (s.moveSpare st k 0).set Reg.JIG_COPY_STATUS_PC_FAILED (putBits (s.get Reg.JIG_COPY_STATUS_PC_FAILED) (2 * st + k) (2 * st + k) 1)

section
variable {s : State} {target cause : Nat}

theorem remapBegin_of_none (none : s.remapSpare (target / 256) = none) :
    s.remapBegin target cause = (s.jigLog 10 3 target 0 0 cause).exhausted 10 target := by
  simp only [State.remapBegin, none]

theorem remapBegin_of_spare {k : Nat} (spare : s.remapSpare (target / 256) = some k) :
    s.remapBegin target cause =
      ((((s.mirrorSet target k).cursor 1 0).withJig (fun j => { j with remap := true })).jigLog 10 4 target 0 1 cause).jigReserve := by
  simp only [State.remapBegin, spare, State.mirrorSet]

theorem remapNext_of_nil (none : s.jig.pcWait = []) : s.remapNext = s := by simp only [State.remapNext, none]

theorem remapNext_of_cons {e : Nat × Nat} {l : List (Nat × Nat)} (waits : s.jig.pcWait = e :: l) :
    s.remapNext = (s.withJig (fun j => { j with pcWait := l })).jigSlot (·.remapBegin e.1 e.2) := by
  simp only [State.remapNext, waits]

theorem remapSave_of_running (runs : (s.remapRuns 1 || s.remapRuns 2) = true) (more : s.jig.line + 16384 < 12582912) :
    s.remapSave = s.cursor (s.get Reg.JIG_COPY_STATUS_PHASE) (s.jig.line + 16384) :=
  if_pos (by rw [runs, decide_eq_true more]; rfl)

theorem remapVerified_of_other {ok : Bool} (other : s.remapRuns 2 = false) : s.remapVerified ok = s := if_pos (by rw [other]; rfl)

section
variable (runs : s.remapRuns 2 = true)
include runs

theorem remapVerified_of_good : s.remapVerified true = s.remapEnded.remapNext :=
  (if_neg (by rw [runs]; exact Bool.false_ne_true)).trans (if_pos rfl)

theorem remapVerified_of_bad :
    s.remapVerified false = (s.spareFailed.remapStop 3).jigSlot (·.remapBegin s.remapTarget 0) :=
  (if_neg (by rw [runs]; exact Bool.false_ne_true)).trans (if_neg Bool.false_ne_true)

end
end

/-! ## A spare core (R451) -/

/-- The self-test of a spare core has ended. -/
def State.testEnded (s : State) (n : Nat) : State :=
  (s.withJig (fun j => { j with testing := j.testing.filter (fun x => !decide (x = n)) })).set (Reg.JIG_CORE_SPARE_PENDING n) 0

section
variable {s : State} {n : Nat}

theorem coreTested_of_none {ok : Bool} (none : s.jig.testing.contains n = false) : s.coreTested n ok = s := if_pos (by rw [none]; rfl)

section
variable (tests : s.jig.testing.contains n = true)
include tests

theorem coreTested_of_good :
    s.coreTested n true =
      (((s.testEnded n).set (Reg.JIG_CORE_SPARE_IN_USE n) 1).bump Reg.n_spares_substituted).jigEnd 8 0 n
        ((s.testEnded n).get (Reg.JIG_CORE_SPARE_FOR_CORE n)) 1 0 :=
  (if_neg (by rw [tests]; exact Bool.false_ne_true)).trans (if_pos rfl)

theorem coreTested_of_bad :
    s.coreTested n false =
      (((s.testEnded n).set (Reg.JIG_CORE_SPARE_SPARE_FAILED n) 1).jigEnd 8 3 n
        ((s.testEnded n).get (Reg.JIG_CORE_SPARE_FOR_CORE n)) 0 0).exhausted 8 n :=
  (if_neg (by rw [tests]; exact Bool.false_ne_true)).trans (if_neg Bool.false_ne_true)

end
end

/-! ## Fuses (R449) -/

section
variable {s : State}

theorem burnDone_of_none {ok : Bool} (none : s.jig.burn = none) : s.burnDone ok = s := by simp only [State.burnDone, none]

/-- The record of a burn that has ended. -/
def burnRecord (b : FuseBurn) (ok : Bool) : FuseRec := { kind := b.sub.kind, target := b.sub.target, info := b.sub.info, valid := ok }

/-- The array with a burn's record. -/
def State.burnRecorded (s : State) (b : FuseBurn) (ok : Bool) : State :=
  (s.withJig (fun j => { j with burn := none, fuses := j.fuses ++ [burnRecord b ok] })).fuseSync

/-- A burn that failed is recorded and reported, and its substitution's hold begins again. -/
def State.burnFailed (s : State) (b : FuseBurn) : State :=
  let f := ((s.burnRecorded b false).jigEnd 11 3 b.sub.logTarget 0 1 b.sub.kind).raise EV_jig_fuse_fail 0xFFFF [b.pos, b.sub.kind]
  f.withJig (fun j => { j with subs := j.subs.map (fun (x : Subst) => if x = b.sub then { x with since := f.now } else x) })

section
variable {b : FuseBurn} (burns : s.jig.burn = some b)
include burns

theorem burnDone_of_good :
    s.burnDone true =
      ((((s.burnRecorded b true).applyFuse (burnRecord b true)).bump Reg.n_fuses_burned).jigEnd 11 0 b.sub.logTarget 0 1
        b.sub.kind).subsSync := by
  simp only [State.burnDone, burns, if_true, State.burnRecorded, burnRecord]

theorem burnDone_of_bad :
    s.burnDone false =
      if b.again = true then s.burnFailed b
      else if 512 ≤ (s.burnFailed b).jig.fuses.length then (s.burnFailed b).raise EV_jig_fuse_full 0xFFFF [(s.burnFailed b).jig.subs.length]
      else (s.burnFailed b).jigSlot (·.burnBegin b.sub true) := by
  rw [State.burnDone, burns]
  exact if_neg Bool.false_ne_true

end

/-! ## The log's signal, heat and power (R443, R447) -/

theorem jigTimer_of_quiet (quiet : s.jig.unsig = 0 ∨ s.on Reg.JIG_CFG_VEC_EN = false) : s.jigTimer = s :=
  if_neg (by rcases quiet with h | h <;> simp [h])

/-- The records are signalled to the manager's function. -/
theorem jigTimer_of_records {q : Nat} (records : 0 < s.jig.unsig) (enabled : s.on Reg.JIG_CFG_VEC_EN = true) (manager : s.mgrPort = some q) :
    s.jigTimer = ({ s with jig := { s.jig with unsig := 0 } } : State).sendVec (2 ^ 41) q 3 (s.get Reg.JIG_CFG_VECTOR) := by
  have signals : s.jigTimer = s.jigVector := if_pos (by rw [decide_eq_true records, enabled]; rfl)
  have port : (s.withJig (fun j => { j with unsig := 0 })).mgrPort = some q := manager
  have vector : (s.withJig (fun j => { j with unsig := 0 })).get Reg.JIG_CFG_VECTOR = s.get Reg.JIG_CFG_VECTOR := get_congr rfl _
  rw [signals]
  simp only [State.jigVector, port, vector]
  rfl

/-- The cluster clocks halved, and kept. -/
def State.clocksHalved (s : State) : State :=
  (List.range 24).foldl (fun (s : State) n => s.set (Reg.CORE_CL_STATUS_FREQ_MHZ n) (s.get (Reg.CORE_CL_STATUS_FREQ_MHZ n) / 2))
    (s.withJig (fun j => { j with clock := (List.range 24).map (fun n => (n, s.get (Reg.CORE_CL_STATUS_FREQ_MHZ n))) }))

/-- The cluster clocks as they were. -/
def State.clocksBack (s : State) : State :=
  ((s.jig.clock.foldl (fun (s : State) (e : Nat × Nat) => s.set (Reg.CORE_CL_STATUS_FREQ_MHZ e.1) e.2) s).withJig
    (fun j => { j with clock := [] })).set Reg.JIG_STATUS_THROTTLED 0

section
variable {i temp : Nat}

section
variable (cool : s.on Reg.JIG_STATUS_THROTTLED = false)
include cool

theorem throttle_of_cool :
    s.throttle i temp =
      (((s.clocksHalved.set Reg.JIG_STATUS_THROTTLED 1).emit (.pin "ALERT_N" false)).bump Reg.n_throttle_count).raise EV_jig_throttle
        0xFFFF [i, temp] := by
  simp only [State.throttle, cool, Bool.false_eq_true, if_false, State.alertPin, Bool.not_true, State.clocksHalved]

theorem throttleEnd_of_cool : s.throttleEnd i temp = s := if_pos (by rw [cool]; rfl)

end

section
variable (hot : s.on Reg.JIG_STATUS_THROTTLED = true)
include hot

theorem throttle_of_hot : s.throttle i temp = s := if_pos hot

theorem throttleEnd_of_hot :
    s.throttleEnd i temp = (s.clocksBack.emit (.pin "ALERT_N" true)).raise EV_jig_throttle 0xFFFF [i, temp] := by
  simp only [State.throttleEnd, hot, Bool.not_true, Bool.false_eq_true, if_false, State.alertPin, Bool.not_false, State.clocksBack]

end

theorem thermtrip_eq : s.thermtrip i temp = (s.emit (.pin "THERMTRIP_N" false)).halt 8 [i + temp * 256, 0, 0, 0] := by
  simp only [State.thermtrip, State.alertPin, Bool.not_true]

end
end

/-- Settles O55: a decision by its checks and its kind, a spare by the step that ended, a burn by its outcome, heat by the throttle. -/
theorem jigWork : Obligations.JigWork := by
  unfold Obligations.JigWork
  refine ⟨?decisions, ?consumed, ?signals, ?heat, ?cores, ?remap, ?burns⟩
  case decisions =>
    intro h d s running u v goes
    refine ⟨fun stopped => run_answers running (jigTick_of_stopped stopped), fun runs => ?_⟩
    have decides : s.jigTick h [d] = v.jigDecide d := jigTick_decides runs
    refine ⟨run_answers running (jigTick_of_running runs), fun unmade => ?unmade, fun makes full => ?full, fun makes room => ?room⟩
    case unmade => exact run_answers running (decides.trans (jigDecide_of_unmade unmade))
    case full =>
      intro w
      exact ⟨fun reported => run_answers running (decides.trans ((jigDecide_of_full makes full).trans (if_pos reported))),
        fun first => run_answers running (decides.trans ((jigDecide_of_full makes full).trans (if_neg (ne_true_of_eq_false first))))⟩
    case room =>
      intro t
      refine ⟨fun outside => ?outside, fun inside => ⟨fun stale => ?stale, fun fresh => ?fresh⟩⟩
      case outside => exact run_answers running (decides.trans (jigDecide_of_outside makes room outside))
      case stale => exact run_answers running (decides.trans (jigDecide_of_stale makes room inside stale))
      case fresh =>
        have acts : ∀ w, v.jigAct d = w → goes w := fun w act =>
          run_answers running (decides.trans ((jigDecide_of_fresh makes room inside fresh).trans act))
        obtain ⟨allowed, inStop⟩ := (Bool.and_eq_true _ _).mp inside
        refine ⟨fun w kind taken => ?taken, fun w kind refused => acts _ (jigAct_of_refusedWrite kind refused), fun core => ?core,
          fun row => ⟨fun none => ?rowNone, fun free bad => ?rowBad, fun free good => ?rowGood⟩,
          fun remap => ⟨fun on => ?waits, fun off => ⟨fun none => ?noSpare, fun k spare => ?begins⟩⟩, fun x fuse stands => ?fuse⟩
        case taken => exact run_answers running (decides.trans (jigDecide_writes makes room allowed inStop fresh kind taken))
        case core =>
          intro no
          exact ⟨fun bad => acts _ ((jigAct_of_core core).trans (if_pos bad)),
            fun good => acts _ ((jigAct_of_core core).trans (if_neg (ne_true_of_eq_false good)))⟩
        case rowNone => exact acts _ ((jigAct_of_row row).trans (rowDecide_of_exhausted none))
        case rowBad => exact acts _ ((jigAct_of_row row).trans ((rowDecide_of_free free).trans (if_pos bad)))
        case rowGood => exact acts _ ((jigAct_of_row row).trans ((rowDecide_of_free free).trans (if_neg (ne_true_of_eq_false good))))
        case waits => exact acts _ ((jigAct_of_remap remap).trans (if_pos on))
        case noSpare =>
          exact acts _ ((jigAct_of_remap remap).trans ((if_neg (ne_true_of_eq_false off)).trans (remapBegin_of_none none)))
        case begins =>
          exact acts _ ((jigAct_of_remap remap).trans ((if_neg (ne_true_of_eq_false off)).trans (remapBegin_of_spare spare)))
        case fuse =>
          intro early
          have decided := (jigAct_of_fuse fuse).trans (fuseDecide_of_some stands)
          exact ⟨fun isEarly => acts _ (decided.trans (if_pos isEarly)),
            fun late full => acts _ (decided.trans ((if_neg (ne_true_of_eq_false late)).trans (if_pos full))),
            fun late room => acts _ (decided.trans ((if_neg (ne_true_of_eq_false late)).trans (if_neg (Nat.not_le.mpr room))))⟩
  case consumed =>
    intro c s writable
    exact ⟨fun within => write_answers writable (if_pos within), fun beyond => write_answers writable (if_neg (Nat.not_le.mpr beyond))⟩
  case signals =>
    intro p s running
    exact ⟨run_answers running rfl, fun quiet => run_answers running (jigTimer_of_quiet quiet),
      fun records enabled q manager => run_answers running (jigTimer_of_records records enabled manager)⟩
  case heat =>
    intro i temp s clocks
    exact ⟨fun cool => ⟨always_answers (throttle_of_cool cool), always_answers (throttleEnd_of_cool cool)⟩,
      fun hot => ⟨always_answers (throttleEnd_of_hot hot), always_answers (throttle_of_hot hot)⟩, always_answers thermtrip_eq⟩
  case cores =>
    intro n s running c still
    refine ⟨fun idle => run_answers running (if_pos idle), fun busy => run_answers running (if_neg (ne_true_of_eq_false busy)),
      fun none ok => run_answers running (coreTested_of_none none), fun tests => ?_⟩
    exact ⟨run_answers running (coreTested_of_good tests), run_answers running (coreTested_of_bad tests)⟩
  case remap =>
    intro s running n st k
    refine ⟨fun runs more => ?save, fun runs => ?copied, fun other => ?notCopied, fun other ok => ?notVerified, fun runs => ⟨?good, ?bad⟩⟩
    case save => exact run_answers running (remapSave_of_running runs more)
    case copied => exact run_answers running (if_pos runs)
    case notCopied => exact run_answers running (if_neg (ne_true_of_eq_false other))
    case notVerified => exact run_answers running (remapVerified_of_other other)
    case good =>
      intro u v
      exact ⟨fun none => run_answers running ((remapVerified_of_good runs).trans (remapNext_of_nil none)),
        fun e l waits => run_answers running ((remapVerified_of_good runs).trans (remapNext_of_cons waits))⟩
    case bad => exact run_answers running (remapVerified_of_bad runs)
  case burns =>
    intro ok s running
    refine ⟨fun none => run_answers running (burnDone_of_none none), fun b burns => ?_⟩
    intro r u f
    refine ⟨?good, ?again, ?retry⟩
    case good =>
      rintro rfl
      exact run_answers running (burnDone_of_good burns)
    case again =>
      rintro rfl again
      exact run_answers running ((burnDone_of_bad burns).trans (if_pos again))
    case retry =>
      rintro rfl first
      have retries := (burnDone_of_bad burns).trans (if_neg (ne_true_of_eq_false first))
      exact ⟨fun full => run_answers running (retries.trans (if_pos full)),
        fun room => run_answers running (retries.trans (if_neg (Nat.not_le.mpr room)))⟩

end Sys2Proof.Machine
end
